-- ==== Sys2Proof/Word.lean ====
section
/-! DEFINITION. The word type of the model: 64-bit registers and instruction words, bytes, and the 256-bit tile
descriptor. -/

namespace Sys2Proof

/-- A register, an instruction word, a device physical address while it is computed. -/
abbrev Word := BitVec 64

/-- One byte of memory. -/
abbrev Byte := BitVec 8

/-- A tile descriptor, w0 in the lowest bits (R57). -/
abbrev Desc := BitVec 256

end Sys2Proof
end

