-- ==== Sys2Proof/Config.lean ====
section
/-! DEFINITION. What the spec leaves open: free values. Each is a constant without a body, so that nothing can evaluate
it or prove a value of it. -/

namespace Sys2Proof

/-- The n-th free value taken (State.freeCtr counts them): a value the spec states nothing about. -/
opaque Config.freeValue : Nat → BitVec 64

/-- Byte `i` of the ciphertext (or of the tag) of a frame sealed under key identifier `key` with nonce `nonce`, whose
plaintext byte is `plain`: AES-256-GCM, whose values the spec does not give (R261). -/
opaque Config.cipherByte (key : BitVec 64) (nonce i : Nat) (plain : BitVec 8) : BitVec 8

/-- Byte `i` of the `n`-th free byte string taken: data whose value the spec does not state (the bytes of a read that
failed). -/
opaque Config.freeByte (n i : Nat) : BitVec 8

/-- The FP32 value that elementwise function `fn` gives on an FP32 operand, before the bound of R120 is laid on it: 0 to 4 are
TFN's functions in a bay, 8 is EXP in a near-bank unit. -/
opaque Config.tfn (fn : Nat) (x : BitVec 32) : BitVec 32

/-- The FP32 sum of the exact products of a BF16 query row and a key row widened to BF16, in a near-bank unit: the spec does not
give the order of its roundings (spec/05, Formats by unit). -/
opaque Config.qkSum (q k : List (BitVec 16)) : BitVec 32

/-- The timebase's lock-change doorbell source (R47): no register of the spec names it. -/
opaque Config.lockSource : Nat

/-- Byte `i` of the SHA-384 digest of a byte string: FIPS 180-4, whose values the spec does not give (R411). -/
opaque Config.sha384 (m : List (BitVec 8)) (i : Nat) : BitVec 8

/-- Byte `i` of the measurement log's 64-byte entry for an extend of `slot` with `value`: the spec gives no layout (R411). -/
opaque Config.logEntry (slot : Nat) (value : List (BitVec 8)) (i : Nat) : BitVec 8

/-- Word `i` of management item `item`: identifiers, versions and descriptor records whose values the spec does not give
(R464 to R466). -/
opaque Config.mgmt (item i : Nat) : BitVec 64

end Sys2Proof
end

