-- ==== Sys2Proof/Machine/Bits.lean ====
section
/-! DEFINITION. Bit fields of a 64-bit word, sign extension, and little-endian byte strings. -/

namespace Sys2Proof.Machine

/-- A word whose low `len` bits are 1. -/
def lowMask (len : Nat) : Word := BitVec.ofNat 64 (2 ^ len - 1)

/-- The field of `len` bits whose lowest bit is `lo`, as a number. -/
def getBits (w : Word) (lo len : Nat) : Nat := ((w >>> lo) &&& lowMask len).toNat

/-- `w` with its field of `len` bits at `lo` replaced by the low bits of `v`. -/
def setBits (w : Word) (lo len v : Nat) : Word :=
  (w &&& ~~~(lowMask len <<< lo)) ||| ((BitVec.ofNat 64 v &&& lowMask len) <<< lo)

/-- One bit of a word. -/
def getBit (w : Word) (i : Nat) : Bool := getBits w i 1 == 1

/-- The field of `len` bits at `lo` read as two's complement. -/
def getSigned (w : Word) (lo len : Nat) : Int :=
  let v := getBits w lo len
  if v < 2 ^ (len - 1) then (v : Int) else (v : Int) - (2 ^ len : Nat)

/-- A signed number as a 64-bit word. -/
def wordOfInt (i : Int) : Word := BitVec.ofInt 64 i

/-- The bytes of a number, least significant first (little-endian storage). -/
def leBytes : Nat → Nat → List Byte
  | 0, _ => []
  | n + 1, v => BitVec.ofNat 8 v :: leBytes n (v / 256)

/-- The number whose little-endian bytes these are. -/
def leNat : List Byte → Nat
  | [] => 0
  | b :: bs => b.toNat + 256 * leNat bs

/-- The number whose big-endian bytes these are. -/
def beNat (bs : List Byte) : Nat := leNat bs.reverse

/-- The number of 1 bits among the low `n` bits of `v`. -/
def popCount : Nat → Nat → Nat
  | 0, _ => 0
  | n + 1, v => v % 2 + popCount n (v / 2)

/-- Whether bit `i` of a mask held as a number is 1. -/
def bitOf (v i : Nat) : Bool := v / 2 ^ i % 2 == 1

/-- A mask with bit `i` set. -/
def withBit (v i : Nat) : Nat := if bitOf v i then v else v + 2 ^ i

/-- A mask with bit `i` clear. -/
def withoutBit (v i : Nat) : Nat := if bitOf v i then v - 2 ^ i else v

/-- The lowest index below `n`, counted up from `i`, at which `p` holds. -/
def firstFrom (p : Nat → Bool) : Nat → Nat → Option Nat
  | 0, _ => none
  | n + 1, i => if p i then some i else firstFrom p n (i + 1)

/-- The lowest index below `n` at which `p` holds. -/
def firstBelow (n : Nat) (p : Nat → Bool) : Option Nat := firstFrom p n 0

/-- Every index below `n` satisfies `p`. -/
def allBelow (n : Nat) (p : Nat → Bool) : Bool := (firstBelow n (fun i => !p i)).isNone

/-- How many indices below `n` satisfy `p`. -/
def countBelow : Nat → (Nat → Bool) → Nat
  | 0, _ => 0
  | n + 1, p => countBelow n p + (if p n then 1 else 0)

/-- The smallest power of two exponent `e` below `n` with `2 ^ e = v`. -/
def isPowerOfTwo (v : Nat) : Bool := (firstBelow 64 (fun e => 2 ^ e == v)).isSome

/-- The largest value of a saturating 64-bit counter (R6). -/
def allOnes64 : Nat := 2 ^ 64 - 1

/-- `b` as 0 or 1. -/
def b01 (b : Bool) : Nat := if b then 1 else 0

end Sys2Proof.Machine
end

