-- ==== Sys2Proof/Machine/RegTypes.lean ====
section
/-! DEFINITION. What a row of a register table says: the access types of R6, the reset values, the checks of R28 and
R485, and a field's place in BAR0. -/

namespace Sys2Proof.Machine

/-- The register blocks of Table 1-8, in the order of their CMT codes (Table 3-17). -/
inductive Blk where
  | ATR | MER | VES | HIF | DBH | CAT | HEL | STW | FAB | ORR | GAL | NBU | PRT | PHO | NWL | FLT | ALM
  deriving DecidableEq, Repr

/-- Access types (R6, Table 0-4). -/
inductive Access where
  | rw | ro | w1c | wo | sh | sat
  deriving DecidableEq, Repr

/-- A field's reset value: a number, or one that depends on the instance or the table index. -/
inductive ResetVal where
  | const (v : Nat)
  /-- The block instance's own number. -/
  | instanceNo
  /-- The wing of a gallery: 0 for G0 to G7, 1 for G8 to G15. -/
  | wing
  /-- The table index. -/
  | index
  /-- 1 for the six active newel cores, 0 for the two spares (DEDUCED, log 3). -/
  | inService
  /-- 0x1621 + n, the seed of bay n (Table 6-8). -/
  | seed
  deriving DecidableEq, Repr

/-- The check a write of a field must pass before it enters the register (R28, R485 and the block's chapter). -/
inductive Check where
  | any
  | nonzero
  | range (lo hi : Nat)
  | multiple (m : Nat)
  /-- A multiple of m from lo to hi. -/
  | multipleIn (m lo hi : Nat)
  /-- 0, or a power of two from lo to hi. -/
  | powerOfTwoOrZero (lo hi : Nat)
  /-- A 4-bit two's-complement value that is not above 0. -/
  | notPositive4
  | oneOf (vs : List Nat)
  /-- Above the value that the same write gives the field of len bits at lo. -/
  | above (lo len : Nat)
  /-- Not below the value that the same write gives the field of len bits at lo. -/
  | atLeast (lo len : Nat)
  /-- A multiple of m in a host window. -/
  | hostWindow (m : Nat)
  deriving DecidableEq, Repr

structure FieldRow where
  lo : Nat
  len : Nat
  access : Access
  reset : ResetVal
  check : Check
  deriving DecidableEq, Repr

/-- One row of a block's register map: its offset in the instance, and up to two table dimensions (n1 entries s1 bytes
apart within each of n2 groups s2 bytes apart). -/
structure RegRow where
  name : String
  off : Nat
  n1 : Nat
  s1 : Nat
  n2 : Nat
  s2 : Nat
  fields : List FieldRow
  deriving DecidableEq, Repr

structure BlockRow where
  blk : Blk
  base : Nat
  insts : Nat
  stride : Nat
  rows : List RegRow
  deriving DecidableEq, Repr

/-- A register field's place in BAR0. A shadowed field is read through its live copy: a block never acts on a shadow
copy (R39). -/
structure FieldRef where
  off : Nat
  lo : Nat
  len : Nat
  sh : Bool
  deriving DecidableEq, Repr

end Sys2Proof.Machine
end

