-- ==== Sys2Proof/Machine/RegMap.lean ====
section
/-! DEFINITION. The register map of BAR0: every register of every block, with its offset, its table strides, and for
each field its place, its access type, its reset value and the check a write of it must pass (R21 to R23 and each
block's register tables). The rows follow the spec's tables block by block. -/

namespace Sys2Proof.Machine

/-- Registers of the ATR block, part 0 (R438). -/
def rowsATR0 : List RegRow := [
  ⟨"ATR_ID", 0x0, 1, 0x8, 1, 0x8, [⟨0, 16, .ro, .const 5664, .any⟩, ⟨16, 8, .ro, .const 0, .any⟩]⟩,
  ⟨"ATR_SERIAL", 0x8, 1, 0x8, 1, 0x8, [⟨0, 64, .ro, .const 0, .any⟩]⟩,
  ⟨"ATR_START", 0x10, 1, 0x8, 1, 0x8, [⟨0, 2, .ro, .const 0, .any⟩, ⟨8, 4, .ro, .const 0, .any⟩, ⟨16, 1, .ro, .const 0, .any⟩]⟩,
  ⟨"ATR_RESET", 0x18, 1, 0x8, 1, 0x8, [⟨0, 3, .wo, .const 0, .any⟩, ⟨8, 8, .wo, .const 0, .any⟩, ⟨16, 3, .wo, .const 0, .any⟩, ⟨24, 6, .wo, .const 0, .any⟩, ⟨32, 1, .wo, .const 0, .any⟩, ⟨48, 16, .wo, .const 0, .any⟩]⟩,
  ⟨"ATR_RESET_STATUS", 0x20, 1, 0x8, 1, 0x8, [⟨0, 1, .ro, .const 0, .any⟩, ⟨1, 3, .ro, .const 0, .any⟩, ⟨8, 8, .ro, .const 0, .any⟩, ⟨32, 32, .ro, .const 0, .any⟩]⟩,
  ⟨"ATR_READY", 0x28, 1, 0x8, 1, 0x8, [⟨0, 19, .ro, .const 0, .any⟩, ⟨32, 16, .ro, .const 0, .any⟩, ⟨48, 8, .ro, .const 0, .any⟩, ⟨63, 1, .ro, .const 0, .any⟩]⟩,
  ⟨"ATR_HELD", 0x30, 1, 0x8, 1, 0x8, [⟨0, 19, .ro, .const 0, .any⟩, ⟨32, 16, .ro, .const 0, .any⟩, ⟨48, 8, .ro, .const 0, .any⟩]⟩,
  ⟨"ATR_NOTIFY", 0x38, 1, 0x8, 1, 0x8, [⟨0, 12, .sh, .const 0, .any⟩, ⟨16, 6, .sh, .const 0, .any⟩, ⟨24, 1, .sh, .const 0, .any⟩, ⟨25, 1, .sh, .const 0, .any⟩]⟩,
  ⟨"ATR_PWR_NOW", 0x40, 1, 0x8, 1, 0x8, [⟨0, 16, .ro, .const 0, .any⟩, ⟨16, 16, .ro, .const 0, .any⟩, ⟨32, 11, .ro, .const 0, .any⟩]⟩,
  ⟨"ATR_PWR_CFG", 0x48, 1, 0x8, 1, 0x8, [⟨0, 11, .sh, .const 1350, .range 600 1400⟩]⟩,
  ⟨"ATR_PWR_FAULT", 0x50, 1, 0x8, 1, 0x8, [⟨0, 1, .w1c, .const 0, .any⟩, ⟨1, 1, .w1c, .const 0, .any⟩, ⟨2, 1, .w1c, .const 0, .any⟩, ⟨3, 1, .w1c, .const 0, .any⟩, ⟨8, 4, .ro, .const 0, .any⟩]⟩,
  ⟨"ATR_CTX_RESETS", 0x58, 1, 0x8, 1, 0x8, [⟨0, 64, .sat, .const 0, .any⟩]⟩,
  ⟨"ATR_PART_RESETS", 0x60, 1, 0x8, 1, 0x8, [⟨0, 64, .sat, .const 0, .any⟩]⟩,
  ⟨"ATR_PWR_EVENTS", 0x68, 1, 0x8, 1, 0x8, [⟨0, 64, .sat, .const 0, .any⟩]⟩]

/-- Registers of the MER block, part 0 (R50). -/
def rowsMER0 : List RegRow := [
  ⟨"MER_COUNT", 0x0, 1, 0x8, 1, 0x8, [⟨0, 64, .ro, .const 0, .any⟩]⟩,
  ⟨"MER_PHASE", 0x8, 1, 0x8, 1, 0x8, [⟨0, 16, .ro, .const 0, .any⟩, ⟨16, 1, .ro, .const 0, .any⟩, ⟨24, 8, .ro, .const 0, .any⟩, ⟨32, 32, .ro, .const 0, .any⟩]⟩,
  ⟨"MER_LENGTH", 0x10, 1, 0x8, 1, 0x8, [⟨0, 2, .sh, .const 1, .range 0 2⟩]⟩,
  ⟨"MER_SWITCH_AT", 0x18, 1, 0x8, 1, 0x8, [⟨0, 64, .sh, .const 0, .any⟩]⟩,
  ⟨"MER_ORIGIN_SEC", 0x20, 1, 0x8, 1, 0x8, [⟨0, 48, .sh, .const 0, .any⟩]⟩,
  ⟨"MER_ORIGIN_NS", 0x28, 1, 0x8, 1, 0x8, [⟨0, 30, .sh, .const 0, .range 0 999999999⟩]⟩,
  ⟨"MER_ORIGIN_COUNT", 0x30, 1, 0x8, 1, 0x8, [⟨0, 64, .sh, .const 0, .any⟩]⟩,
  ⟨"MER_PTP", 0x38, 1, 0x8, 1, 0x8, [⟨0, 8, .sh, .const 0, .any⟩, ⟨8, 4, .sh, .const 9, .notPositive4⟩, ⟨12, 1, .sh, .const 0, .any⟩, ⟨16, 4, .sh, .const 0, .any⟩, ⟨20, 1, .sh, .const 0, .any⟩, ⟨24, 8, .sh, .const 128, .any⟩, ⟨32, 8, .sh, .const 128, .any⟩]⟩,
  ⟨"MER_HOLDOVER", 0x40, 1, 0x8, 1, 0x8, [⟨0, 16, .sh, .const 1000, .nonzero⟩, ⟨16, 16, .sh, .const 4000, .nonzero⟩]⟩,
  ⟨"MER_LOCK", 0x48, 1, 0x8, 1, 0x8, [⟨0, 2, .ro, .const 0, .any⟩, ⟨4, 2, .ro, .const 0, .any⟩, ⟨8, 1, .ro, .const 0, .any⟩]⟩,
  ⟨"MER_OFFSET", 0x50, 1, 0x8, 1, 0x8, [⟨0, 32, .ro, .const 0, .any⟩, ⟨32, 32, .ro, .const 0, .any⟩]⟩,
  ⟨"MER_SLIP", 0x58, 1, 0x8, 1, 0x8, [⟨0, 64, .sat, .const 0, .any⟩]⟩,
  ⟨"MER_SLIP_LAST", 0x60, 1, 0x8, 1, 0x8, [⟨0, 8, .ro, .const 0, .any⟩, ⟨8, 3, .ro, .const 0, .any⟩, ⟨32, 32, .ro, .const 0, .any⟩]⟩,
  ⟨"MER_LOCK_EVENTS", 0x68, 1, 0x8, 1, 0x8, [⟨0, 64, .sat, .const 0, .any⟩]⟩,
  ⟨"MER_STEPS", 0x70, 1, 0x8, 1, 0x8, [⟨0, 64, .sat, .const 0, .any⟩]⟩,
  ⟨"MER_LENGTH_REFUSED", 0x78, 1, 0x8, 1, 0x8, [⟨0, 64, .sat, .const 0, .any⟩]⟩,
  ⟨"MER_ADJ", 0x2000, 1, 0x8, 1, 0x8, [⟨0, 4, .rw, .const 8, .nonzero⟩]⟩]

/-- Registers of the VES block, part 0 (R422). -/
def rowsVES0 : List RegRow := [
  ⟨"VES_STATE", 0x0, 1, 0x8, 1, 0x8, [⟨0, 3, .ro, .const 0, .any⟩, ⟨8, 6, .ro, .const 0, .any⟩, ⟨16, 1, .ro, .const 0, .any⟩, ⟨17, 3, .ro, .const 0, .any⟩, ⟨20, 1, .ro, .const 0, .any⟩, ⟨32, 16, .ro, .const 0, .any⟩, ⟨48, 16, .ro, .const 0, .any⟩]⟩,
  ⟨"VES_CMD", 0x8, 1, 0x8, 1, 0x8, [⟨0, 4, .wo, .const 0, .any⟩, ⟨8, 8, .wo, .const 0, .any⟩]⟩,
  ⟨"VES_ARG0", 0x10, 1, 0x8, 1, 0x8, [⟨0, 48, .rw, .const 0, .multiple 8⟩]⟩,
  ⟨"VES_ARG1", 0x18, 1, 0x8, 1, 0x8, [⟨0, 25, .rw, .const 0, .any⟩]⟩,
  ⟨"VES_RESULT", 0x20, 1, 0x8, 1, 0x8, [⟨0, 8, .ro, .const 0, .any⟩, ⟨8, 4, .ro, .const 0, .any⟩, ⟨12, 4, .ro, .const 0, .any⟩, ⟨16, 1, .ro, .const 0, .any⟩, ⟨32, 32, .ro, .const 0, .any⟩]⟩,
  ⟨"VES_DEBUG", 0x28, 1, 0x8, 1, 0x8, [⟨0, 1, .ro, .const 0, .any⟩]⟩,
  ⟨"VES_IMAGES_OK", 0x30, 1, 0x8, 1, 0x8, [⟨0, 64, .sat, .const 0, .any⟩]⟩,
  ⟨"VES_VERIFY_FAIL", 0x38, 1, 0x8, 1, 0x8, [⟨0, 64, .sat, .const 0, .any⟩]⟩,
  ⟨"VES_SPDM_OBJECTS", 0x40, 1, 0x8, 1, 0x8, [⟨0, 64, .sat, .const 0, .any⟩]⟩,
  ⟨"VES_DEBUG_EVENTS", 0x48, 1, 0x8, 1, 0x8, [⟨0, 64, .sat, .const 0, .any⟩]⟩,
  ⟨"VES_LOG_LOST", 0x50, 1, 0x8, 1, 0x8, [⟨0, 64, .sat, .const 0, .any⟩]⟩,
  ⟨"VES_COMP_W0", 0x4040, 6, 0x40, 1, 0x8, [⟨0, 1, .ro, .const 0, .any⟩, ⟨1, 1, .ro, .const 0, .any⟩, ⟨2, 1, .ro, .const 0, .any⟩, ⟨8, 6, .ro, .const 0, .any⟩, ⟨16, 6, .ro, .const 0, .any⟩, ⟨32, 32, .ro, .const 0, .any⟩]⟩,
  ⟨"VES_COMP_W1", 0x4048, 6, 0x40, 1, 0x8, [⟨0, 32, .ro, .const 0, .any⟩]⟩,
  ⟨"VES_COMP_W2", 0x4050, 6, 0x40, 1, 0x8, [⟨0, 64, .ro, .const 0, .any⟩]⟩,
  ⟨"VES_COMP_W3", 0x4058, 6, 0x40, 1, 0x8, [⟨0, 64, .ro, .const 0, .any⟩]⟩,
  ⟨"VES_COMP_W4", 0x4060, 6, 0x40, 1, 0x8, [⟨0, 64, .ro, .const 0, .any⟩]⟩,
  ⟨"VES_COMP_W5", 0x4068, 6, 0x40, 1, 0x8, [⟨0, 64, .ro, .const 0, .any⟩]⟩,
  ⟨"VES_COMP_W6", 0x4070, 6, 0x40, 1, 0x8, [⟨0, 64, .ro, .const 0, .any⟩]⟩,
  ⟨"VES_COMP_W7", 0x4078, 6, 0x40, 1, 0x8, [⟨0, 64, .ro, .const 0, .any⟩]⟩,
  ⟨"VES_SLOT_V0", 0x6000, 32, 0x40, 1, 0x8, [⟨0, 64, .ro, .const 0, .any⟩]⟩,
  ⟨"VES_SLOT_V1", 0x6008, 32, 0x40, 1, 0x8, [⟨0, 64, .ro, .const 0, .any⟩]⟩,
  ⟨"VES_SLOT_V2", 0x6010, 32, 0x40, 1, 0x8, [⟨0, 64, .ro, .const 0, .any⟩]⟩,
  ⟨"VES_SLOT_V3", 0x6018, 32, 0x40, 1, 0x8, [⟨0, 64, .ro, .const 0, .any⟩]⟩,
  ⟨"VES_SLOT_V4", 0x6020, 32, 0x40, 1, 0x8, [⟨0, 64, .ro, .const 0, .any⟩]⟩]

/-- Registers of the VES block, part 1 (R422). -/
def rowsVES1 : List RegRow := [
  ⟨"VES_SLOT_V5", 0x6028, 32, 0x40, 1, 0x8, [⟨0, 64, .ro, .const 0, .any⟩]⟩,
  ⟨"VES_SLOT_W6", 0x6030, 32, 0x40, 1, 0x8, [⟨0, 32, .ro, .const 0, .any⟩]⟩,
  ⟨"VES_SLOT_W7", 0x6038, 32, 0x40, 1, 0x8, [⟨0, 32, .ro, .const 0, .any⟩]⟩]

/-- Registers of the HIF block, part 0 (R374). -/
def rowsHIF0 : List RegRow := [
  ⟨"HIF_LINK", 0x0, 1, 0x8, 1, 0x8, [⟨0, 3, .ro, .const 0, .any⟩, ⟨8, 4, .ro, .const 0, .any⟩, ⟨16, 1, .ro, .const 0, .any⟩, ⟨17, 1, .ro, .const 0, .any⟩]⟩,
  ⟨"HIF_PORT_STATE", 0x8, 1, 0x8, 1, 0x8, [⟨0, 2, .ro, .const 0, .any⟩, ⟨8, 1, .ro, .const 0, .any⟩, ⟨32, 32, .ro, .const 0, .any⟩]⟩,
  ⟨"HIF_HEARTBEAT", 0x10, 1, 0x8, 1, 0x8, [⟨0, 64, .wo, .const 0, .any⟩]⟩,
  ⟨"HIF_CFG", 0x18, 1, 0x8, 1, 0x8, [⟨0, 16, .sh, .const 0, .any⟩, ⟨16, 12, .sh, .const 0, .any⟩, ⟨32, 6, .sh, .const 0, .any⟩, ⟨40, 1, .sh, .const 0, .any⟩]⟩,
  ⟨"HIF_VF_MAP", 0x20, 4, 0x8, 1, 0x8, [⟨0, 6, .sh, .const 0, .any⟩, ⟨7, 1, .sh, .const 0, .any⟩, ⟨8, 6, .sh, .const 0, .any⟩, ⟨15, 1, .sh, .const 0, .any⟩, ⟨16, 6, .sh, .const 0, .any⟩, ⟨23, 1, .sh, .const 0, .any⟩, ⟨24, 6, .sh, .const 0, .any⟩, ⟨31, 1, .sh, .const 0, .any⟩, ⟨32, 6, .sh, .const 0, .any⟩, ⟨39, 1, .sh, .const 0, .any⟩, ⟨40, 6, .sh, .const 0, .any⟩, ⟨47, 1, .sh, .const 0, .any⟩, ⟨48, 6, .sh, .const 0, .any⟩, ⟨55, 1, .sh, .const 0, .any⟩, ⟨56, 6, .sh, .const 0, .any⟩, ⟨63, 1, .sh, .const 0, .any⟩]⟩,
  ⟨"HIF_WIN", 0x40, 8, 0x8, 1, 0x8, [⟨0, 48, .sh, .const 0, .any⟩, ⟨63, 1, .sh, .const 0, .any⟩]⟩,
  ⟨"HIF_DROPPED_WR", 0x80, 1, 0x8, 1, 0x8, [⟨0, 64, .sat, .const 0, .any⟩]⟩,
  ⟨"HIF_FAILED_RD", 0x88, 1, 0x8, 1, 0x8, [⟨0, 64, .sat, .const 0, .any⟩]⟩,
  ⟨"HIF_CA_SENT", 0x90, 1, 0x8, 1, 0x8, [⟨0, 64, .sat, .const 0, .any⟩]⟩,
  ⟨"HIF_UR_SENT", 0x98, 1, 0x8, 1, 0x8, [⟨0, 64, .sat, .const 0, .any⟩]⟩,
  ⟨"HIF_PART_REFUSED", 0xa0, 1, 0x8, 1, 0x8, [⟨0, 64, .sat, .const 0, .any⟩]⟩,
  ⟨"HIF_NARROW_WR", 0xa8, 1, 0x8, 1, 0x8, [⟨0, 64, .sat, .const 0, .any⟩]⟩,
  ⟨"HIF_MSIX_SENT", 0xb0, 1, 0x8, 1, 0x8, [⟨0, 64, .sat, .const 0, .any⟩]⟩,
  ⟨"HIF_MSIX_BAD_VEC", 0xb8, 1, 0x8, 1, 0x8, [⟨0, 64, .sat, .const 0, .any⟩]⟩,
  ⟨"HIF_LINK_DOWNS", 0xc0, 1, 0x8, 1, 0x8, [⟨0, 64, .sat, .const 0, .any⟩]⟩,
  ⟨"HIF_RING_RESETS", 0xc8, 1, 0x8, 1, 0x8, [⟨0, 64, .sat, .const 0, .any⟩]⟩,
  ⟨"HIF_DOE_OBJECTS", 0xd0, 1, 0x8, 1, 0x8, [⟨0, 64, .sat, .const 0, .any⟩]⟩,
  ⟨"HIF_BIND", 0x100, 1, 0x8, 1, 0x8, [⟨0, 64, .ro, .const 0, .any⟩]⟩,
  ⟨"HIF_PRIMARY", 0x108, 1, 0x8, 1, 0x8, [⟨0, 1, .ro, .const 0, .any⟩]⟩,
  ⟨"HIF_REBIND", 0x110, 1, 0x8, 1, 0x8, [⟨0, 3, .wo, .const 0, .any⟩, ⟨8, 6, .wo, .const 0, .any⟩]⟩,
  ⟨"HIF_REBIND_RESULT", 0x118, 1, 0x8, 1, 0x8, [⟨0, 8, .ro, .const 0, .any⟩, ⟨8, 3, .ro, .const 0, .any⟩, ⟨32, 32, .ro, .const 0, .any⟩]⟩,
  ⟨"HIF_REBINDS", 0x120, 1, 0x8, 1, 0x8, [⟨0, 64, .sat, .const 0, .any⟩]⟩,
  ⟨"HIF_BIND_PENDING", 0x128, 1, 0x8, 1, 0x8, [⟨0, 64, .ro, .const 0, .any⟩]⟩,
  ⟨"HIF_VF_WIN", 0x4000, 256, 0x8, 1, 0x8, [⟨0, 48, .sh, .const 0, .any⟩, ⟨63, 1, .sh, .const 0, .any⟩]⟩]

/-- Registers of the DBH block, part 0 (R385). -/
def rowsDBH0 : List RegRow := [
  ⟨"DBH_IGNORED", 0x0, 1, 0x8, 1, 0x8, [⟨0, 64, .sat, .const 0, .any⟩]⟩,
  ⟨"DBH_LAST_IGNORED", 0x8, 1, 0x8, 1, 0x8, [⟨0, 12, .ro, .const 0, .any⟩, ⟨12, 6, .ro, .const 0, .any⟩, ⟨18, 3, .ro, .const 0, .any⟩, ⟨21, 9, .ro, .const 0, .any⟩, ⟨32, 32, .ro, .const 0, .any⟩]⟩,
  ⟨"DBH_ACCEPTED", 0x10, 1, 0x8, 1, 0x8, [⟨0, 64, .sat, .const 0, .any⟩]⟩,
  ⟨"DBH_DELIVERED", 0x18, 1, 0x8, 1, 0x8, [⟨0, 64, .sat, .const 0, .any⟩]⟩,
  ⟨"DBH_SOURCE", 0x8000, 4096, 0x8, 1, 0x8, [⟨0, 3, .rw, .const 0, .any⟩, ⟨8, 6, .rw, .const 0, .any⟩, ⟨31, 1, .rw, .const 0, .any⟩]⟩,
  ⟨"DBH_T_RING", 0x10000, 512, 0x400, 1, 0x8, [⟨0, 12, .wo, .const 0, .any⟩, ⟨16, 6, .wo, .const 0, .any⟩]⟩,
  ⟨"DBH_T_CFG", 0x10008, 512, 0x400, 1, 0x8, [⟨0, 1, .sh, .const 0, .any⟩, ⟨1, 1, .sh, .const 0, .any⟩, ⟨16, 11, .sh, .const 0, .any⟩, ⟨32, 8, .sh, .const 32, .range 32 39⟩, ⟨40, 4, .sh, .const 0, .any⟩, ⟨48, 16, .sh, .const 0, .any⟩]⟩,
  ⟨"DBH_T_IDLE", 0x10010, 512, 0x400, 1, 0x8, [⟨0, 1, .rw, .const 0, .any⟩]⟩,
  ⟨"DBH_T_STATE", 0x10018, 512, 0x400, 1, 0x8, [⟨0, 2, .ro, .const 0, .any⟩, ⟨8, 1, .ro, .const 0, .any⟩, ⟨32, 32, .ro, .const 0, .any⟩]⟩,
  ⟨"DBH_T_SUMMARY", 0x10020, 512, 0x400, 1, 0x8, [⟨0, 64, .ro, .const 0, .any⟩]⟩,
  ⟨"DBH_T_DELIVERED", 0x10028, 512, 0x400, 1, 0x8, [⟨0, 64, .sat, .const 0, .any⟩]⟩,
  ⟨"DBH_T_COALESCED", 0x10030, 512, 0x400, 1, 0x8, [⟨0, 64, .sat, .const 0, .any⟩]⟩,
  ⟨"DBH_T_BYPASSES", 0x10038, 512, 0x400, 1, 0x8, [⟨0, 64, .sat, .const 0, .any⟩]⟩,
  ⟨"DBH_T_PENDING", 0x10200, 64, 0x8, 512, 0x400, [⟨0, 64, .w1c, .const 0, .any⟩]⟩]

/-- Registers of the CAT block, part 0 (R186). -/
def rowsCAT0 : List RegRow := [
  ⟨"CAT_RESERVE", 0x0, 1, 0x8, 1, 0x8, [⟨0, 15, .sh, .const 0, .range 0 16384⟩]⟩,
  ⟨"CAT_FREE", 0x8, 1, 0x8, 1, 0x8, [⟨0, 15, .ro, .const 16384, .any⟩, ⟨16, 9, .ro, .const 0, .any⟩]⟩,
  ⟨"CAT_BAD", 0x10, 1, 0x8, 1, 0x8, [⟨0, 64, .sat, .const 0, .any⟩]⟩,
  ⟨"CAT_LAST_BAD", 0x18, 1, 0x8, 1, 0x8, [⟨0, 8, .ro, .const 0, .any⟩, ⟨8, 6, .ro, .const 0, .any⟩, ⟨14, 2, .ro, .const 0, .any⟩, ⟨16, 32, .ro, .const 0, .any⟩]⟩,
  ⟨"CAT_P_QUOTA", 0x4000, 64, 0x200, 1, 0x8, [⟨0, 15, .sh, .const 0, .range 0 16384⟩]⟩,
  ⟨"CAT_P_USE", 0x4008, 64, 0x200, 1, 0x8, [⟨0, 15, .ro, .const 0, .any⟩, ⟨16, 15, .ro, .const 0, .any⟩, ⟨32, 9, .ro, .const 0, .any⟩]⟩,
  ⟨"CAT_P_ADMIT", 0x4010, 64, 0x200, 1, 0x8, [⟨0, 8, .sh, .const 64, .nonzero⟩, ⟨8, 16, .sh, .const 16, .any⟩, ⟨24, 15, .sh, .const 0, .any⟩, ⟨40, 1, .sh, .const 0, .any⟩, ⟨48, 8, .sh, .const 2, .any⟩]⟩,
  ⟨"CAT_P_TIMEOUT", 0x4018, 64, 0x200, 1, 0x8, [⟨0, 32, .sh, .const 0, .any⟩]⟩,
  ⟨"CAT_P_NOTIFY", 0x4020, 64, 0x200, 1, 0x8, [⟨0, 8, .sh, .const 0, .any⟩, ⟨8, 4, .sh, .const 0, .any⟩, ⟨12, 1, .sh, .const 0, .any⟩, ⟨16, 12, .sh, .const 0, .any⟩]⟩,
  ⟨"CAT_P_BASE", 0x4040, 4, 0x20, 64, 0x200, [⟨0, 48, .sh, .const 0, .multiple 64⟩]⟩,
  ⟨"CAT_P_SIZE", 0x4048, 4, 0x20, 64, 0x200, [⟨0, 17, .sh, .const 0, .powerOfTwoOrZero 2 65536⟩]⟩,
  ⟨"CAT_P_HEAD", 0x4050, 3, 0x20, 64, 0x200, [⟨0, 32, .ro, .const 0, .any⟩]⟩,
  ⟨"CAT_P_HEAD3", 0x40b0, 64, 0x200, 1, 0x8, [⟨0, 32, .rw, .const 0, .any⟩]⟩,
  ⟨"CAT_P_TAIL", 0x4058, 3, 0x20, 64, 0x200, [⟨0, 32, .rw, .const 0, .any⟩]⟩,
  ⟨"CAT_P_TAIL3", 0x40b8, 64, 0x200, 1, 0x8, [⟨0, 32, .ro, .const 0, .any⟩]⟩,
  ⟨"CAT_P_ADMITTED", 0x40c0, 64, 0x200, 1, 0x8, [⟨0, 64, .sat, .const 0, .any⟩]⟩,
  ⟨"CAT_P_REF_FULL", 0x40c8, 64, 0x200, 1, 0x8, [⟨0, 64, .sat, .const 0, .any⟩]⟩,
  ⟨"CAT_P_REF_POLICY", 0x40d0, 64, 0x200, 1, 0x8, [⟨0, 64, .sat, .const 0, .any⟩]⟩,
  ⟨"CAT_P_DEFERRED", 0x40d8, 64, 0x200, 1, 0x8, [⟨0, 64, .sat, .const 0, .any⟩]⟩,
  ⟨"CAT_P_PREEMPTED", 0x40e0, 64, 0x200, 1, 0x8, [⟨0, 64, .sat, .const 0, .any⟩]⟩,
  ⟨"CAT_P_DL_MISS", 0x40e8, 64, 0x200, 1, 0x8, [⟨0, 64, .sat, .const 0, .any⟩]⟩,
  ⟨"CAT_P_EXPIRED", 0x40f0, 64, 0x200, 1, 0x8, [⟨0, 64, .sat, .const 0, .any⟩]⟩,
  ⟨"CAT_P_CQ_STALL", 0x40f8, 64, 0x200, 1, 0x8, [⟨0, 64, .sat, .const 0, .any⟩]⟩,
  ⟨"CAT_P_RELEASE", 0x4100, 64, 0x200, 1, 0x8, [⟨0, 14, .wo, .const 0, .any⟩, ⟨16, 16, .wo, .const 0, .any⟩, ⟨32, 1, .wo, .const 0, .any⟩]⟩]

/-- Registers of the CAT block, part 1 (R186). -/
def rowsCAT1 : List RegRow := [
  ⟨"CAT_P_DISP_SEQ", 0x4108, 64, 0x200, 1, 0x8, [⟨0, 32, .ro, .const 0, .any⟩]⟩,
  ⟨"CAT_P_WIN_W0", 0x4180, 8, 0x10, 64, 0x200, [⟨0, 48, .ro, .const 0, .any⟩, ⟨48, 4, .ro, .const 0, .any⟩, ⟨52, 1, .ro, .const 0, .any⟩]⟩,
  ⟨"CAT_P_WIN_W1", 0x4188, 8, 0x10, 64, 0x200, [⟨0, 32, .ro, .const 0, .any⟩, ⟨32, 32, .ro, .const 0, .any⟩]⟩]

/-- Registers of the HEL block, part 0 (R295). -/
def rowsHEL0 : List RegRow := [
  ⟨"HEL_STATE", 0x0, 1, 0x8, 1, 0x8, [⟨0, 9, .ro, .const 0, .any⟩, ⟨10, 11, .ro, .const 0, .any⟩, ⟨21, 11, .ro, .const 0, .any⟩, ⟨32, 11, .ro, .const 0, .any⟩]⟩,
  ⟨"HEL_ANCH_BASE", 0x8, 1, 0x8, 1, 0x8, [⟨0, 48, .sh, .const 0, .multiple 4096⟩]⟩,
  ⟨"HEL_ANCH_CFG", 0x10, 1, 0x8, 1, 0x8, [⟨0, 5, .sh, .const 16, .range 10 24⟩, ⟨8, 6, .sh, .const 0, .any⟩, ⟨16, 1, .sh, .const 0, .any⟩]⟩,
  ⟨"HEL_ANCH_USE", 0x18, 1, 0x8, 1, 0x8, [⟨0, 25, .ro, .const 0, .any⟩]⟩,
  ⟨"HEL_RETRY", 0x20, 1, 0x8, 1, 0x8, [⟨0, 8, .sh, .const 4, .any⟩]⟩,
  ⟨"HEL_MEAS_CTL", 0x28, 1, 0x8, 1, 0x8, [⟨0, 1, .wo, .const 0, .any⟩, ⟨1, 1, .wo, .const 0, .any⟩]⟩,
  ⟨"HEL_MEAS_BYTES", 0x30, 1, 0x8, 1, 0x8, [⟨0, 64, .ro, .const 0, .any⟩]⟩,
  ⟨"HEL_MEAS_CYCLES", 0x38, 1, 0x8, 1, 0x8, [⟨0, 64, .ro, .const 0, .any⟩]⟩,
  ⟨"HEL_TRIG_CANCEL", 0x40, 1, 0x8, 1, 0x8, [⟨0, 10, .wo, .const 0, .any⟩, ⟨16, 1, .wo, .const 0, .any⟩]⟩,
  ⟨"HEL_LAST_ERR", 0x48, 1, 0x8, 1, 0x8, [⟨0, 8, .ro, .const 0, .any⟩, ⟨8, 8, .ro, .const 0, .any⟩, ⟨16, 6, .ro, .const 0, .any⟩, ⟨32, 32, .ro, .const 0, .any⟩]⟩,
  ⟨"HEL_ANCH_FULL", 0x50, 1, 0x8, 1, 0x8, [⟨0, 64, .sat, .const 0, .any⟩]⟩,
  ⟨"HEL_MIRROR_FAILED", 0x58, 1, 0x8, 1, 0x8, [⟨0, 64, .sat, .const 0, .any⟩]⟩,
  ⟨"HEL_UNRESOLVED", 0x60, 1, 0x8, 1, 0x8, [⟨0, 64, .sat, .const 0, .any⟩]⟩,
  ⟨"HEL_STALE_EPOCH", 0x68, 1, 0x8, 1, 0x8, [⟨0, 64, .sat, .const 0, .any⟩]⟩,
  ⟨"HEL_TRIG_FIRED", 0x70, 1, 0x8, 1, 0x8, [⟨0, 64, .sat, .const 0, .any⟩]⟩,
  ⟨"HEL_P_NOTIFY", 0x4000, 64, 0x200, 1, 0x8, [⟨0, 8, .sh, .const 0, .any⟩, ⟨8, 4, .sh, .const 0, .any⟩, ⟨12, 1, .sh, .const 0, .any⟩, ⟨16, 12, .sh, .const 0, .any⟩, ⟨28, 1, .sh, .const 0, .any⟩]⟩,
  ⟨"HEL_P_HKEY", 0x4008, 64, 0x200, 1, 0x8, [⟨0, 32, .sh, .const 0, .any⟩]⟩,
  ⟨"HEL_P_TRIG", 0x4010, 64, 0x200, 1, 0x8, [⟨0, 11, .sh, .const 0, .range 0 1024⟩]⟩,
  ⟨"HEL_P_USE", 0x4018, 64, 0x200, 1, 0x8, [⟨0, 11, .ro, .const 0, .any⟩, ⟨16, 11, .ro, .const 0, .any⟩]⟩,
  ⟨"HEL_P_BASE", 0x4020, 2, 0x20, 64, 0x200, [⟨0, 48, .sh, .const 0, .multiple 64⟩]⟩,
  ⟨"HEL_P_SIZE", 0x4028, 2, 0x20, 64, 0x200, [⟨0, 17, .sh, .const 0, .powerOfTwoOrZero 2 65536⟩]⟩,
  ⟨"HEL_P_HEAD0", 0x4030, 64, 0x200, 1, 0x8, [⟨0, 32, .ro, .const 0, .any⟩]⟩,
  ⟨"HEL_P_TAIL0", 0x4038, 64, 0x200, 1, 0x8, [⟨0, 32, .rw, .const 0, .any⟩]⟩,
  ⟨"HEL_P_HEAD1", 0x4050, 64, 0x200, 1, 0x8, [⟨0, 32, .rw, .const 0, .any⟩]⟩]

/-- Registers of the HEL block, part 1 (R295). -/
def rowsHEL1 : List RegRow := [
  ⟨"HEL_P_TAIL1", 0x4058, 64, 0x200, 1, 0x8, [⟨0, 32, .ro, .const 0, .any⟩]⟩,
  ⟨"HEL_P_TCTR", 0x4060, 16, 0x8, 64, 0x200, [⟨0, 32, .rw, .const 0, .any⟩]⟩,
  ⟨"HEL_P_WRS", 0x40e0, 64, 0x200, 1, 0x8, [⟨0, 64, .sat, .const 0, .any⟩]⟩,
  ⟨"HEL_P_FAILED", 0x40e8, 64, 0x200, 1, 0x8, [⟨0, 64, .sat, .const 0, .any⟩]⟩,
  ⟨"HEL_P_OUT_DONE", 0x40f0, 64, 0x200, 1, 0x8, [⟨0, 64, .sat, .const 0, .any⟩]⟩,
  ⟨"HEL_P_TAKEBACK", 0x40f8, 64, 0x200, 1, 0x8, [⟨0, 64, .sat, .const 0, .any⟩]⟩,
  ⟨"HEL_P_IN_DONE", 0x4100, 64, 0x200, 1, 0x8, [⟨0, 64, .sat, .const 0, .any⟩]⟩,
  ⟨"HEL_P_CQ_STALL", 0x4108, 64, 0x200, 1, 0x8, [⟨0, 64, .sat, .const 0, .any⟩]⟩,
  ⟨"HEL_INFLIGHT_W0", 0x10000, 256, 0x20, 1, 0x8, [⟨0, 32, .ro, .const 0, .any⟩, ⟨32, 8, .ro, .const 0, .any⟩, ⟨40, 8, .ro, .const 0, .any⟩, ⟨48, 6, .ro, .const 0, .any⟩, ⟨56, 1, .ro, .const 0, .any⟩]⟩,
  ⟨"HEL_INFLIGHT_W1", 0x10008, 256, 0x20, 1, 0x8, [⟨0, 64, .ro, .const 0, .any⟩]⟩,
  ⟨"HEL_INFLIGHT_W2", 0x10010, 256, 0x20, 1, 0x8, [⟨0, 64, .ro, .const 0, .any⟩]⟩,
  ⟨"HEL_INFLIGHT_W3", 0x10018, 256, 0x20, 1, 0x8, [⟨0, 64, .ro, .const 0, .any⟩]⟩,
  ⟨"HEL_TRIG_WR", 0x20000, 8, 0x8, 1024, 0x80, [⟨0, 64, .ro, .const 0, .any⟩]⟩,
  ⟨"HEL_TRIG_W8", 0x20040, 1024, 0x80, 1, 0x8, [⟨0, 1, .ro, .const 0, .any⟩, ⟨1, 6, .ro, .const 0, .any⟩]⟩,
  ⟨"HEL_OUT_W0", 0x40000, 1024, 0x40, 1, 0x8, [⟨0, 14, .ro, .const 0, .any⟩, ⟨14, 6, .ro, .const 0, .any⟩, ⟨20, 1, .ro, .const 0, .any⟩, ⟨32, 14, .ro, .const 0, .any⟩]⟩,
  ⟨"HEL_OUT_W1", 0x40008, 1024, 0x40, 1, 0x8, [⟨0, 64, .ro, .const 0, .any⟩]⟩,
  ⟨"HEL_OUT_W2", 0x40010, 1024, 0x40, 1, 0x8, [⟨0, 32, .ro, .const 0, .any⟩, ⟨32, 8, .ro, .const 0, .any⟩]⟩,
  ⟨"HEL_OUT_W3", 0x40018, 1024, 0x40, 1, 0x8, [⟨0, 64, .ro, .const 0, .any⟩]⟩,
  ⟨"HEL_OUT_MASK", 0x40020, 4, 0x8, 1024, 0x40, [⟨0, 64, .ro, .const 0, .any⟩]⟩,
  ⟨"HEL_IN_W0", 0x50000, 1024, 0x40, 1, 0x8, [⟨0, 14, .ro, .const 0, .any⟩, ⟨14, 6, .ro, .const 0, .any⟩, ⟨20, 1, .ro, .const 0, .any⟩, ⟨32, 14, .ro, .const 0, .any⟩]⟩,
  ⟨"HEL_IN_W1", 0x50008, 1024, 0x40, 1, 0x8, [⟨0, 64, .ro, .const 0, .any⟩]⟩,
  ⟨"HEL_IN_W2", 0x50010, 1024, 0x40, 1, 0x8, [⟨0, 32, .ro, .const 0, .any⟩, ⟨32, 8, .ro, .const 0, .any⟩]⟩,
  ⟨"HEL_IN_W3", 0x50018, 1024, 0x40, 1, 0x8, [⟨0, 64, .ro, .const 0, .any⟩]⟩,
  ⟨"HEL_IN_MASK", 0x50020, 4, 0x8, 1024, 0x40, [⟨0, 64, .ro, .const 0, .any⟩]⟩]

/-- Registers of the HEL block, part 2 (R295). -/
def rowsHEL2 : List RegRow := [
  ⟨"PROG_IMAGE", 0xc00, 1, 0x8, 1, 0x8, [⟨0, 48, .rw, .const 0, .multiple 8⟩]⟩,
  ⟨"PROG_LEN", 0xc08, 1, 0x8, 1, 0x8, [⟨0, 24, .rw, .const 0, .multipleIn 8 1 69040⟩]⟩,
  ⟨"PROG_CTL", 0xc10, 1, 0x8, 1, 0x8, [⟨0, 1, .wo, .const 0, .any⟩, ⟨1, 1, .sh, .const 0, .any⟩]⟩,
  ⟨"PROG_STATUS", 0xc18, 1, 0x8, 1, 0x8, [⟨0, 1, .ro, .const 0, .any⟩, ⟨1, 1, .ro, .const 0, .any⟩, ⟨4, 4, .ro, .const 0, .any⟩, ⟨32, 32, .ro, .const 0, .any⟩]⟩,
  ⟨"PROG_ID", 0xc20, 1, 0x8, 1, 0x8, [⟨0, 64, .ro, .const 0, .any⟩]⟩,
  ⟨"PROG_STAGED_ID", 0xc28, 1, 0x8, 1, 0x8, [⟨0, 64, .ro, .const 0, .any⟩]⟩,
  ⟨"PROG_FAILS", 0xc30, 1, 0x8, 1, 0x8, [⟨0, 64, .sat, .const 0, .any⟩]⟩]

/-- Registers of the STW block, part 0 (R265). -/
def rowsSTW0 : List RegRow := [
  ⟨"STW_STATE", 0x0, 1, 0x8, 1, 0x8, [⟨0, 8, .ro, .const 0, .any⟩, ⟨8, 8, .ro, .const 0, .any⟩, ⟨16, 1, .ro, .const 0, .any⟩]⟩,
  ⟨"STW_TC_MISS", 0x8, 1, 0x8, 1, 0x8, [⟨0, 64, .sat, .const 0, .any⟩]⟩,
  ⟨"STW_LAST_ERR", 0x10, 1, 0x8, 1, 0x8, [⟨0, 8, .ro, .const 0, .any⟩, ⟨8, 6, .ro, .const 0, .any⟩, ⟨32, 32, .ro, .const 0, .any⟩]⟩,
  ⟨"STW_MIG_STATUS", 0x100, 40, 0x8, 1, 0x8, [⟨0, 8, .ro, .const 0, .any⟩, ⟨16, 44, .ro, .const 0, .any⟩]⟩,
  ⟨"STW_P_SPACE", 0x4000, 6, 0x8, 64, 0x200, [⟨0, 32, .sh, .const 0, .any⟩]⟩,
  ⟨"STW_P_MAP", 0x4030, 6, 0x8, 64, 0x200, [⟨0, 48, .sh, .const 0, .multiple 8192⟩]⟩,
  ⟨"STW_P_GROUP", 0x4060, 64, 0x200, 1, 0x8, [⟨0, 12, .sh, .const 320, .nonzero⟩]⟩,
  ⟨"STW_P_GTBL", 0x4068, 64, 0x200, 1, 0x8, [⟨0, 48, .sh, .const 0, .multiple 16⟩]⟩,
  ⟨"STW_P_POLICY", 0x4070, 64, 0x200, 1, 0x8, [⟨0, 2, .sh, .const 2, .nonzero⟩, ⟨8, 8, .sh, .const 32, .nonzero⟩]⟩,
  ⟨"STW_P_T1", 0x4078, 64, 0x200, 1, 0x8, [⟨0, 26, .sh, .const 0, .any⟩, ⟨32, 26, .sh, .const 0, .atLeast 0 26⟩]⟩,
  ⟨"STW_P_T1R", 0x4080, 64, 0x200, 1, 0x8, [⟨0, 18, .sh, .const 0, .range 0 147456⟩]⟩,
  ⟨"STW_P_GRAB", 0x4088, 64, 0x200, 1, 0x8, [⟨0, 64, .ro, .const 0, .any⟩]⟩,
  ⟨"STW_P_REC", 0x4090, 64, 0x200, 1, 0x8, [⟨0, 14, .wo, .const 0, .any⟩, ⟨16, 16, .wo, .const 0, .any⟩, ⟨32, 2, .wo, .const 0, .any⟩, ⟨36, 2, .wo, .const 0, .any⟩]⟩,
  ⟨"STW_P_REC_RESULT", 0x4098, 64, 0x200, 1, 0x8, [⟨0, 8, .ro, .const 0, .any⟩, ⟨8, 1, .ro, .const 0, .any⟩, ⟨16, 14, .ro, .const 0, .any⟩]⟩,
  ⟨"STW_P_NOTIFY", 0x40a0, 64, 0x200, 1, 0x8, [⟨0, 12, .sh, .const 0, .any⟩, ⟨16, 1, .sh, .const 0, .any⟩]⟩,
  ⟨"STW_P_FREE", 0x40a8, 64, 0x200, 1, 0x8, [⟨0, 26, .ro, .const 0, .any⟩]⟩,
  ⟨"STW_P_FREE2", 0x40b0, 64, 0x200, 1, 0x8, [⟨0, 32, .ro, .const 0, .any⟩, ⟨32, 32, .ro, .const 0, .any⟩]⟩,
  ⟨"STW_P_KEYCMD", 0x40b8, 64, 0x200, 1, 0x8, [⟨0, 1, .wo, .const 0, .any⟩, ⟨1, 1, .wo, .const 0, .any⟩]⟩,
  ⟨"STW_P_KEYSW", 0x40c0, 64, 0x200, 1, 0x8, [⟨0, 1, .sh, .const 0, .any⟩]⟩,
  ⟨"STW_P_KEYSTAT", 0x40c8, 64, 0x200, 1, 0x8, [⟨0, 3, .ro, .const 0, .any⟩, ⟨8, 8, .ro, .const 0, .any⟩, ⟨16, 3, .ro, .const 0, .any⟩, ⟨24, 8, .ro, .const 0, .any⟩, ⟨32, 1, .ro, .const 0, .any⟩, ⟨33, 1, .ro, .const 0, .any⟩, ⟨40, 8, .ro, .const 0, .any⟩]⟩,
  ⟨"STW_P_INUSE", 0x40d0, 64, 0x200, 1, 0x8, [⟨0, 32, .ro, .const 0, .any⟩, ⟨32, 32, .ro, .const 0, .any⟩]⟩,
  ⟨"STW_P_SWEEP", 0x40d8, 64, 0x200, 1, 0x8, [⟨0, 8, .sh, .const 16, .nonzero⟩]⟩,
  ⟨"STW_P_SWEEP_POS", 0x40e0, 64, 0x200, 1, 0x8, [⟨0, 32, .ro, .const 0, .any⟩]⟩,
  ⟨"STW_P_MIGRATIONS", 0x40e8, 64, 0x200, 1, 0x8, [⟨0, 64, .sat, .const 0, .any⟩]⟩]

/-- Registers of the STW block, part 1 (R265). -/
def rowsSTW1 : List RegRow := [
  ⟨"STW_P_MIG_FAILED", 0x40f0, 64, 0x200, 1, 0x8, [⟨0, 64, .sat, .const 0, .any⟩]⟩,
  ⟨"STW_P_DEMOTED", 0x40f8, 64, 0x200, 1, 0x8, [⟨0, 64, .sat, .const 0, .any⟩]⟩,
  ⟨"STW_P_EXPIRED", 0x4100, 64, 0x200, 1, 0x8, [⟨0, 64, .sat, .const 0, .any⟩]⟩,
  ⟨"STW_P_GEN_GONE", 0x4108, 64, 0x200, 1, 0x8, [⟨0, 64, .sat, .const 0, .any⟩]⟩,
  ⟨"STW_P_HOME_REFUSED", 0x4110, 64, 0x200, 1, 0x8, [⟨0, 64, .sat, .const 0, .any⟩]⟩,
  ⟨"STW_P_CM_MISSED", 0x4118, 64, 0x200, 1, 0x8, [⟨0, 64, .sat, .const 0, .any⟩]⟩,
  ⟨"STW_P_T2_W0", 0x4120, 8, 0x10, 64, 0x200, [⟨0, 48, .sh, .const 0, .hostWindow 8192⟩]⟩,
  ⟨"STW_P_T2_W1", 0x4128, 8, 0x10, 64, 0x200, [⟨0, 24, .sh, .const 0, .any⟩]⟩,
  ⟨"STW_P_T3_W0", 0x41a0, 4, 0x18, 64, 0x200, [⟨0, 64, .sh, .const 0, .any⟩]⟩,
  ⟨"STW_P_T3_W1", 0x41a8, 4, 0x18, 64, 0x200, [⟨0, 32, .sh, .const 0, .any⟩]⟩,
  ⟨"STW_P_T3_W2", 0x41b0, 4, 0x18, 64, 0x200, [⟨0, 24, .sh, .const 0, .any⟩]⟩]

/-- Registers of the FAB block, part 0 (R314/R342). -/
def rowsFAB0 : List RegRow := [
  ⟨"FAB_LINK_STATE", 0x0, 1, 0x8, 1, 0x8, [⟨0, 3, .ro, .const 0, .any⟩, ⟨8, 5, .ro, .const 0, .any⟩, ⟨16, 8, .ro, .const 0, .any⟩, ⟨32, 20, .ro, .const 0, .any⟩]⟩,
  ⟨"FAB_LINK_CFG", 0x8, 1, 0x8, 1, 0x8, [⟨0, 1, .sh, .const 0, .any⟩, ⟨8, 5, .sh, .const 8, .range 1 16⟩, ⟨16, 1, .sh, .const 1, .any⟩, ⟨17, 1, .sh, .const 1, .any⟩, ⟨24, 8, .sh, .const 3, .any⟩, ⟨32, 12, .sh, .const 0, .any⟩]⟩,
  ⟨"FAB_PARTNER", 0x10, 1, 0x8, 1, 0x8, [⟨0, 14, .ro, .const 0, .any⟩, ⟨16, 2, .ro, .const 0, .any⟩, ⟨20, 1, .ro, .const 0, .any⟩]⟩,
  ⟨"FAB_LANE_MAP0", 0x18, 1, 0x8, 1, 0x8, [⟨0, 5, .ro, .const 0, .any⟩, ⟨8, 5, .ro, .const 1, .any⟩, ⟨16, 5, .ro, .const 2, .any⟩, ⟨24, 5, .ro, .const 3, .any⟩, ⟨32, 5, .ro, .const 4, .any⟩, ⟨40, 5, .ro, .const 5, .any⟩, ⟨48, 5, .ro, .const 6, .any⟩, ⟨56, 5, .ro, .const 7, .any⟩]⟩,
  ⟨"FAB_LANE_MAP1", 0x20, 1, 0x8, 1, 0x8, [⟨0, 5, .ro, .const 8, .any⟩, ⟨8, 5, .ro, .const 9, .any⟩, ⟨16, 5, .ro, .const 10, .any⟩, ⟨24, 5, .ro, .const 11, .any⟩, ⟨32, 5, .ro, .const 12, .any⟩, ⟨40, 5, .ro, .const 13, .any⟩, ⟨48, 5, .ro, .const 14, .any⟩, ⟨56, 5, .ro, .const 15, .any⟩]⟩,
  ⟨"FAB_SUBST", 0x28, 1, 0x8, 1, 0x8, [⟨0, 5, .wo, .const 0, .any⟩, ⟨8, 1, .wo, .const 0, .any⟩]⟩,
  ⟨"FAB_RECAL", 0x30, 1, 0x8, 1, 0x8, [⟨0, 1, .wo, .const 0, .any⟩]⟩,
  ⟨"FAB_RECAL_STATUS", 0x38, 1, 0x8, 1, 0x8, [⟨0, 1, .ro, .const 0, .any⟩, ⟨8, 5, .ro, .const 0, .any⟩, ⟨32, 32, .ro, .const 0, .any⟩]⟩,
  ⟨"FAB_BLOCKS_TX", 0x40, 1, 0x8, 1, 0x8, [⟨0, 64, .sat, .const 0, .any⟩]⟩,
  ⟨"FAB_BLOCKS_RX", 0x48, 1, 0x8, 1, 0x8, [⟨0, 64, .sat, .const 0, .any⟩]⟩,
  ⟨"FAB_RESENT", 0x50, 1, 0x8, 1, 0x8, [⟨0, 64, .sat, .const 0, .any⟩]⟩,
  ⟨"FAB_CHECK_FAIL", 0x58, 1, 0x8, 1, 0x8, [⟨0, 64, .sat, .const 0, .any⟩]⟩,
  ⟨"FAB_DUPLICATES", 0x60, 1, 0x8, 1, 0x8, [⟨0, 64, .sat, .const 0, .any⟩]⟩,
  ⟨"FAB_RETRAINS", 0x68, 1, 0x8, 1, 0x8, [⟨0, 64, .sat, .const 0, .any⟩]⟩,
  ⟨"FAB_SUBSTS", 0x70, 1, 0x8, 1, 0x8, [⟨0, 64, .sat, .const 0, .any⟩]⟩,
  ⟨"FAB_LC_CTL", 0x80, 1, 0x8, 1, 0x8, [⟨0, 1, .wo, .const 0, .any⟩, ⟨1, 1, .wo, .const 0, .any⟩]⟩,
  ⟨"FAB_LC_STATE", 0x88, 1, 0x8, 1, 0x8, [⟨0, 3, .ro, .const 0, .any⟩, ⟨8, 3, .ro, .const 0, .any⟩, ⟨16, 4, .ro, .const 0, .any⟩]⟩,
  ⟨"FAB_LC_A_MON", 0x90, 1, 0x8, 1, 0x8, [⟨0, 16, .ro, .const 0, .any⟩, ⟨16, 8, .ro, .const 0, .any⟩, ⟨32, 32, .ro, .const 0, .any⟩]⟩,
  ⟨"FAB_LC_B_MON", 0x98, 1, 0x8, 1, 0x8, [⟨0, 16, .ro, .const 0, .any⟩, ⟨16, 8, .ro, .const 0, .any⟩, ⟨32, 32, .ro, .const 0, .any⟩]⟩,
  ⟨"FAB_TP_CFG", 0x400, 1, 0x8, 1, 0x8, [⟨0, 16, .sh, .const 50, .nonzero⟩, ⟨16, 8, .sh, .const 8, .any⟩, ⟨24, 8, .sh, .const 16, .nonzero⟩, ⟨32, 16, .sh, .const 1000, .nonzero⟩, ⟨48, 8, .sh, .const 4, .any⟩]⟩,
  ⟨"FAB_TP_POOL", 0x408, 1, 0x8, 1, 0x8, [⟨0, 16, .sh, .const 256, .nonzero⟩, ⟨16, 18, .sh, .const 65536, .range 1 131072⟩, ⟨48, 16, .sh, .const 1024, .any⟩]⟩,
  ⟨"FAB_CTX_BASE_HA", 0x410, 1, 0x8, 1, 0x8, [⟨0, 48, .sh, .const 0, .multiple 4096⟩]⟩,
  ⟨"FAB_CTX_BASE_HB", 0x418, 1, 0x8, 1, 0x8, [⟨0, 48, .sh, .const 0, .multiple 4096⟩]⟩,
  ⟨"FAB_CTX_CMD", 0x420, 1, 0x8, 1, 0x8, [⟨0, 16, .wo, .const 0, .any⟩, ⟨16, 4, .wo, .const 0, .any⟩, ⟨24, 6, .wo, .const 0, .any⟩]⟩]

/-- Registers of the FAB block, part 1 (R314/R342). -/
def rowsFAB1 : List RegRow := [
  ⟨"FAB_CTX_ARG", 0x428, 1, 0x8, 1, 0x8, [⟨0, 14, .rw, .const 0, .any⟩, ⟨16, 6, .rw, .const 0, .any⟩, ⟨32, 16, .rw, .const 0, .any⟩, ⟨48, 1, .rw, .const 0, .any⟩]⟩,
  ⟨"FAB_TP_RESULT", 0x430, 1, 0x8, 1, 0x8, [⟨0, 8, .ro, .const 0, .any⟩, ⟨8, 3, .ro, .const 0, .any⟩, ⟨11, 1, .ro, .const 0, .any⟩, ⟨12, 1, .ro, .const 0, .any⟩, ⟨13, 1, .ro, .const 0, .any⟩, ⟨16, 8, .ro, .const 0, .any⟩, ⟨24, 8, .ro, .const 0, .any⟩, ⟨32, 32, .ro, .const 0, .any⟩]⟩,
  ⟨"FAB_CTX_STATE", 0x438, 1, 0x8, 1, 0x8, [⟨0, 13, .ro, .const 0, .any⟩, ⟨16, 13, .ro, .const 0, .any⟩, ⟨32, 7, .ro, .const 0, .any⟩, ⟨40, 14, .ro, .const 0, .any⟩]⟩,
  ⟨"FAB_RLC_CMD", 0x440, 1, 0x8, 1, 0x8, [⟨0, 6, .wo, .const 0, .any⟩, ⟨8, 1, .wo, .const 0, .any⟩]⟩,
  ⟨"FAB_TP_LAST_NACK", 0x448, 1, 0x8, 1, 0x8, [⟨0, 8, .ro, .const 0, .any⟩, ⟨8, 8, .ro, .const 0, .any⟩, ⟨16, 14, .ro, .const 0, .any⟩, ⟨32, 32, .ro, .const 0, .any⟩]⟩,
  ⟨"FAB_TP_CTX_MISS", 0x450, 1, 0x8, 1, 0x8, [⟨0, 64, .sat, .const 0, .any⟩]⟩,
  ⟨"FAB_TP_CTX_BUSY", 0x458, 1, 0x8, 1, 0x8, [⟨0, 64, .sat, .const 0, .any⟩]⟩,
  ⟨"FAB_TP_EVICT", 0x460, 1, 0x8, 1, 0x8, [⟨0, 64, .sat, .const 0, .any⟩]⟩,
  ⟨"FAB_TP_DUP", 0x468, 1, 0x8, 1, 0x8, [⟨0, 64, .sat, .const 0, .any⟩]⟩,
  ⟨"FAB_TP_KEY_MISMATCH", 0x470, 1, 0x8, 1, 0x8, [⟨0, 64, .sat, .const 0, .any⟩]⟩,
  ⟨"FAB_TP_AUTH_FAIL", 0x478, 1, 0x8, 1, 0x8, [⟨0, 64, .sat, .const 0, .any⟩]⟩,
  ⟨"FAB_TP_MSG_FULL", 0x480, 1, 0x8, 1, 0x8, [⟨0, 64, .sat, .const 0, .any⟩]⟩,
  ⟨"FAB_TP_LATE", 0x488, 1, 0x8, 1, 0x8, [⟨0, 64, .sat, .const 0, .any⟩]⟩,
  ⟨"FAB_TP_RESENT", 0x490, 1, 0x8, 1, 0x8, [⟨0, 64, .sat, .const 0, .any⟩]⟩,
  ⟨"FAB_TP_AHEAD", 0x498, 1, 0x8, 1, 0x8, [⟨0, 64, .sat, .const 0, .any⟩]⟩,
  ⟨"FAB_TP_STALE_TX", 0x4a0, 1, 0x8, 1, 0x8, [⟨0, 64, .sat, .const 0, .any⟩]⟩,
  ⟨"FAB_TP_STALE_HELD", 0x4a8, 1, 0x8, 1, 0x8, [⟨0, 64, .sat, .const 0, .any⟩]⟩,
  ⟨"FAB_TP_CREDIT_WAIT", 0x4b0, 1, 0x8, 1, 0x8, [⟨0, 64, .sat, .const 0, .any⟩]⟩,
  ⟨"FAB_RLC_HIT", 0x4b8, 1, 0x8, 1, 0x8, [⟨0, 64, .sat, .const 0, .any⟩]⟩,
  ⟨"FAB_RLC_MISS", 0x4c0, 1, 0x8, 1, 0x8, [⟨0, 64, .sat, .const 0, .any⟩]⟩,
  ⟨"FAB_TP_INVAL_RX", 0x4c8, 1, 0x8, 1, 0x8, [⟨0, 64, .sat, .const 0, .any⟩]⟩,
  ⟨"FAB_STALL", 0x700, 32, 0x8, 1, 0x8, [⟨0, 14, .ro, .const 0, .any⟩, ⟨14, 6, .ro, .const 0, .any⟩, ⟨20, 8, .ro, .const 0, .any⟩, ⟨28, 1, .ro, .const 0, .any⟩, ⟨32, 32, .ro, .const 0, .any⟩]⟩,
  ⟨"FAB_P_CFG", 0x800, 64, 0x10, 1, 0x8, [⟨0, 18, .sh, .const 0, .any⟩, ⟨24, 1, .sh, .const 0, .any⟩, ⟨32, 12, .sh, .const 0, .any⟩, ⟨44, 1, .sh, .const 0, .any⟩]⟩,
  ⟨"FAB_P_RGN_CMD", 0x808, 64, 0x10, 1, 0x8, [⟨0, 8, .wo, .const 0, .any⟩, ⟨8, 2, .wo, .const 0, .any⟩, ⟨16, 48, .wo, .const 0, .any⟩]⟩]

/-- Registers of the FAB block, part 2 (R314/R342). -/
def rowsFAB2 : List RegRow := [
  ⟨"FAB_LANE_THRESH", 0x2000, 1, 0x8, 1, 0x8, [⟨0, 16, .rw, .const 4, .any⟩]⟩,
  ⟨"FAB_LANE_W0", 0x4000, 20, 0x20, 1, 0x8, [⟨0, 64, .sat, .const 0, .any⟩]⟩,
  ⟨"FAB_LANE_W1", 0x4008, 20, 0x20, 1, 0x8, [⟨0, 64, .sat, .const 0, .any⟩]⟩,
  ⟨"FAB_LANE_W2", 0x4010, 20, 0x20, 1, 0x8, [⟨0, 16, .ro, .const 0, .any⟩, ⟨16, 16, .ro, .const 0, .any⟩, ⟨32, 3, .ro, .const 0, .any⟩]⟩,
  ⟨"FAB_LANE_W3", 0x4018, 20, 0x20, 1, 0x8, [⟨0, 32, .ro, .const 0, .any⟩]⟩,
  ⟨"FAB_RGN_W0", 0x80000, 256, 0x20, 64, 0x2000, [⟨0, 44, .ro, .const 0, .any⟩, ⟨63, 1, .ro, .const 0, .any⟩]⟩,
  ⟨"FAB_RGN_W1", 0x80008, 256, 0x20, 64, 0x2000, [⟨0, 44, .ro, .const 0, .any⟩]⟩,
  ⟨"FAB_RGN_W2", 0x80010, 256, 0x20, 64, 0x2000, [⟨0, 57, .ro, .const 0, .any⟩, ⟨63, 1, .ro, .const 0, .any⟩]⟩,
  ⟨"FAB_RGN_W3", 0x80018, 256, 0x20, 64, 0x2000, [⟨0, 32, .ro, .const 0, .any⟩, ⟨32, 1, .ro, .const 0, .any⟩, ⟨33, 1, .ro, .const 0, .any⟩, ⟨34, 1, .ro, .const 0, .any⟩, ⟨35, 1, .ro, .const 0, .any⟩]⟩]

/-- Registers of the ORR block, part 0 (R356). -/
def rowsORR0 : List RegRow := [
  ⟨"ORR_CFG", 0x0, 1, 0x8, 1, 0x8, [⟨0, 1, .sh, .const 1, .any⟩, ⟨1, 1, .sh, .const 1, .any⟩, ⟨8, 16, .sh, .const 64, .any⟩, ⟨24, 8, .sh, .const 8, .any⟩]⟩,
  ⟨"ORR_STATE", 0x8, 1, 0x8, 1, 0x8, [⟨0, 1, .ro, .const 1, .any⟩, ⟨1, 1, .ro, .const 0, .any⟩, ⟨16, 12, .ro, .const 0, .any⟩, ⟨32, 13, .ro, .const 0, .any⟩, ⟨48, 15, .ro, .const 0, .any⟩]⟩,
  ⟨"ORR_CLASS_W", 0x10, 1, 0x8, 1, 0x8, [⟨0, 8, .sh, .const 1, .any⟩, ⟨8, 8, .sh, .const 1, .any⟩, ⟨16, 8, .sh, .const 1, .any⟩, ⟨24, 8, .sh, .const 1, .any⟩, ⟨32, 8, .sh, .const 1, .any⟩, ⟨40, 8, .sh, .const 1, .any⟩, ⟨48, 8, .sh, .const 1, .any⟩, ⟨56, 8, .sh, .const 1, .any⟩]⟩,
  ⟨"ORR_MODE_SWITCHES", 0x18, 1, 0x8, 1, 0x8, [⟨0, 64, .sat, .const 0, .any⟩]⟩,
  ⟨"ORR_EXPRESS", 0x20, 1, 0x8, 1, 0x8, [⟨0, 64, .sat, .const 0, .any⟩]⟩,
  ⟨"ORR_GATE_LATE", 0x28, 1, 0x8, 1, 0x8, [⟨0, 64, .sat, .const 0, .any⟩]⟩,
  ⟨"ORR_G_CFG", 0x100, 4, 0x8, 1, 0x8, [⟨0, 1, .sh, .const 0, .any⟩, ⟨4, 12, .sh, .const 256, .any⟩]⟩,
  ⟨"ORR_P_KINDMAP", 0x4000, 64, 0x200, 1, 0x8, [⟨0, 24, .sh, .const 0, .any⟩]⟩,
  ⟨"ORR_P_WHEEL", 0x4008, 64, 0x200, 1, 0x8, [⟨0, 16, .sh, .const 64, .nonzero⟩, ⟨16, 1, .sh, .const 1, .any⟩]⟩,
  ⟨"ORR_P_BUCKET", 0x4010, 64, 0x200, 1, 0x8, [⟨0, 21, .sh, .const 1000, .nonzero⟩, ⟨32, 16, .sh, .const 64, .nonzero⟩]⟩,
  ⟨"ORR_P_STATE", 0x4018, 64, 0x200, 1, 0x8, [⟨0, 13, .ro, .const 0, .any⟩, ⟨32, 32, .ro, .const 0, .any⟩]⟩,
  ⟨"ORR_PC_BYTES", 0x4080, 8, 0x30, 64, 0x200, [⟨0, 64, .sat, .const 0, .any⟩]⟩,
  ⟨"ORR_PC_WAIT_CREDIT", 0x4088, 8, 0x30, 64, 0x200, [⟨0, 64, .sat, .const 0, .any⟩]⟩,
  ⟨"ORR_PC_WAIT_GATE", 0x4090, 8, 0x30, 64, 0x200, [⟨0, 64, .sat, .const 0, .any⟩]⟩,
  ⟨"ORR_PC_WAIT_ALLOW", 0x4098, 8, 0x30, 64, 0x200, [⟨0, 64, .sat, .const 0, .any⟩]⟩,
  ⟨"ORR_PC_WAIT_CONTEND", 0x40a0, 8, 0x30, 64, 0x200, [⟨0, 64, .sat, .const 0, .any⟩]⟩,
  ⟨"ORR_SLOT", 0xc000, 512, 0x8, 1, 0x8, [⟨0, 64, .sh, .const 0, .any⟩]⟩,
  ⟨"ORR_GATE_W0", 0xd000, 8, 0x10, 4, 0x80, [⟨0, 15, .sh, .const 0, .any⟩, ⟨16, 15, .sh, .const 0, .any⟩, ⟨32, 8, .sh, .const 0, .any⟩, ⟨40, 1, .sh, .const 0, .any⟩]⟩,
  ⟨"ORR_FC_BYTES", 0xe000, 8, 0x20, 4, 0x100, [⟨0, 64, .sat, .const 0, .any⟩]⟩,
  ⟨"ORR_FC_PACKETS", 0xe008, 8, 0x20, 4, 0x100, [⟨0, 64, .sat, .const 0, .any⟩]⟩,
  ⟨"ORR_FC_WAIT", 0xe010, 8, 0x20, 4, 0x100, [⟨0, 64, .sat, .const 0, .any⟩]⟩]

/-- Registers of the GAL block, part 0 (R140/R160). -/
def rowsGAL0 : List RegRow := [
  ⟨"GAL_STATE", 0x0, 1, 0x8, 1, 0x8, [⟨0, 4, .ro, .instanceNo, .any⟩, ⟨4, 1, .ro, .wing, .any⟩, ⟨8, 5, .ro, .const 16, .any⟩, ⟨16, 1, .ro, .const 0, .any⟩, ⟨17, 1, .ro, .const 0, .any⟩, ⟨18, 1, .ro, .const 0, .any⟩]⟩,
  ⟨"GAL_BAYPART0", 0x8, 1, 0x8, 1, 0x8, [⟨0, 64, .ro, .const 0, .any⟩]⟩,
  ⟨"GAL_BAYPART1", 0x10, 1, 0x8, 1, 0x8, [⟨0, 64, .ro, .const 0, .any⟩]⟩,
  ⟨"GAL_DISPATCH", 0x18, 1, 0x8, 1, 0x8, [⟨0, 4, .sh, .const 0, .any⟩, ⟨8, 4, .sh, .const 1, .nonzero⟩, ⟨16, 4, .sh, .const 0, .any⟩]⟩,
  ⟨"GAL_HBM", 0x20, 1, 0x8, 1, 0x8, [⟨0, 32, .sh, .const 0, .any⟩]⟩,
  ⟨"GAL_STORE", 0x28, 1, 0x8, 1, 0x8, [⟨0, 26, .sh, .const 33554432, .multipleIn 8192 0 33554432⟩]⟩,
  ⟨"GAL_PREEMPT", 0x30, 1, 0x8, 1, 0x8, [⟨0, 1, .sh, .const 0, .any⟩, ⟨16, 16, .sh, .const 0, .any⟩]⟩,
  ⟨"GAL_PREEMPT_STATUS", 0x38, 1, 0x8, 1, 0x8, [⟨0, 3, .ro, .const 0, .any⟩, ⟨4, 1, .ro, .const 0, .any⟩, ⟨8, 8, .ro, .const 0, .any⟩, ⟨32, 32, .ro, .const 0, .any⟩]⟩,
  ⟨"GAL_SAVE_BASE", 0x40, 1, 0x8, 1, 0x8, [⟨0, 48, .sh, .const 0, .multiple 4096⟩]⟩,
  ⟨"GAL_SAVE_SIZE", 0x48, 1, 0x8, 1, 0x8, [⟨0, 32, .sh, .const 4096, .multipleIn 4096 1 18446744073709551615⟩]⟩,
  ⟨"GAL_PREEMPTIONS", 0x50, 1, 0x8, 1, 0x8, [⟨0, 64, .sat, .const 0, .any⟩]⟩,
  ⟨"GAL_PREEMPT_TIME", 0x58, 1, 0x8, 1, 0x8, [⟨0, 32, .ro, .const 0, .any⟩, ⟨32, 32, .ro, .const 0, .any⟩]⟩,
  ⟨"GAL_BAYMAP", 0x60, 1, 0x8, 1, 0x8, [⟨0, 4, .ro, .const 0, .any⟩, ⟨4, 2, .ro, .const 0, .any⟩, ⟨8, 1, .w1c, .const 0, .any⟩, ⟨16, 16, .ro, .const 0, .any⟩, ⟨32, 17, .ro, .const 0, .any⟩]⟩,
  ⟨"GAL_SUBST", 0x68, 1, 0x8, 1, 0x8, [⟨0, 4, .wo, .const 0, .any⟩, ⟨8, 1, .wo, .const 0, .any⟩]⟩,
  ⟨"GAL_NUMEXC", 0x70, 1, 0x8, 1, 0x8, [⟨0, 64, .sat, .const 0, .any⟩]⟩,
  ⟨"GAL_TILE_REFUSED", 0x78, 1, 0x8, 1, 0x8, [⟨0, 64, .sat, .const 0, .any⟩]⟩,
  ⟨"GAL_BATCH_DONE", 0x80, 1, 0x8, 1, 0x8, [⟨0, 4, .wo, .const 0, .any⟩]⟩,
  ⟨"GAL_XP_TABLES", 0x800, 1, 0x8, 1, 0x8, [⟨0, 16, .ro, .const 0, .any⟩, ⟨16, 16, .ro, .const 0, .any⟩]⟩,
  ⟨"GAL_XP_TAGSRC", 0x808, 1, 0x8, 1, 0x8, [⟨0, 48, .rw, .const 0, .multiple 8⟩]⟩,
  ⟨"GAL_XP_TAGDST", 0x810, 1, 0x8, 1, 0x8, [⟨0, 57, .rw, .const 0, .any⟩, ⟨57, 4, .rw, .const 0, .any⟩, ⟨61, 3, .rw, .const 0, .any⟩]⟩,
  ⟨"GAL_XP_TAGCNT", 0x818, 1, 0x8, 1, 0x8, [⟨0, 24, .rw, .const 0, .any⟩]⟩,
  ⟨"GAL_XP_TAGGO", 0x820, 1, 0x8, 1, 0x8, [⟨0, 1, .wo, .const 0, .any⟩]⟩,
  ⟨"GAL_XP_TAGSTAT", 0x828, 1, 0x8, 1, 0x8, [⟨0, 1, .ro, .const 0, .any⟩, ⟨8, 8, .ro, .const 0, .any⟩, ⟨32, 24, .ro, .const 0, .any⟩]⟩,
  ⟨"GAL_XP_CODED", 0x830, 1, 0x8, 1, 0x8, [⟨0, 64, .sat, .const 0, .any⟩]⟩]

/-- Registers of the GAL block, part 1 (R140/R160). -/
def rowsGAL1 : List RegRow := [
  ⟨"GAL_XP_RAW", 0x838, 1, 0x8, 1, 0x8, [⟨0, 64, .sat, .const 0, .any⟩]⟩,
  ⟨"GAL_XP_FETCHED", 0x840, 1, 0x8, 1, 0x8, [⟨0, 64, .sat, .const 0, .any⟩]⟩,
  ⟨"GAL_XP_RAWEQ", 0x848, 1, 0x8, 1, 0x8, [⟨0, 64, .sat, .const 0, .any⟩]⟩,
  ⟨"GAL_XP_BUBBLES", 0x850, 1, 0x8, 1, 0x8, [⟨0, 64, .sat, .const 0, .any⟩]⟩,
  ⟨"GAL_XP_OVERCAP", 0x858, 1, 0x8, 1, 0x8, [⟨0, 64, .sat, .const 0, .any⟩]⟩,
  ⟨"GAL_XP_OVERCAP_CYC", 0x860, 1, 0x8, 1, 0x8, [⟨0, 64, .sat, .const 0, .any⟩]⟩,
  ⟨"GAL_XP_DECODE_ERR", 0x868, 1, 0x8, 1, 0x8, [⟨0, 64, .sat, .const 0, .any⟩]⟩,
  ⟨"GAL_XP_TAG_ERR", 0x870, 1, 0x8, 1, 0x8, [⟨0, 64, .sat, .const 0, .any⟩]⟩,
  ⟨"GAL_XP_LAST_ERR", 0x878, 1, 0x8, 1, 0x8, [⟨0, 8, .ro, .const 0, .any⟩, ⟨8, 4, .ro, .const 0, .any⟩, ⟨12, 4, .ro, .const 0, .any⟩, ⟨32, 32, .ro, .const 0, .any⟩]⟩,
  ⟨"GAL_XP_SAT_BAY", 0x880, 1, 0x8, 1, 0x8, [⟨0, 16, .ro, .const 0, .any⟩]⟩,
  ⟨"GAL_SR", 0x2000, 1, 0x8, 1, 0x8, [⟨0, 1, .rw, .const 0, .any⟩]⟩,
  ⟨"GAL_SR_SEED", 0x2008, 16, 0x8, 1, 0x8, [⟨0, 32, .rw, .seed, .nonzero⟩]⟩,
  ⟨"GAL_SAVE_W0", 0x4000, 16, 0x10, 1, 0x8, [⟨0, 2, .rw, .const 0, .any⟩, ⟨16, 16, .rw, .const 0, .any⟩, ⟨32, 25, .rw, .const 0, .multiple 64⟩]⟩,
  ⟨"GAL_SAVE_W1", 0x4008, 16, 0x10, 1, 0x8, [⟨0, 25, .rw, .const 0, .multiple 64⟩]⟩,
  ⟨"GAL_RESIDENT_W0", 0x4200, 8, 0x10, 1, 0x8, [⟨0, 16, .ro, .const 0, .any⟩, ⟨16, 3, .ro, .const 0, .any⟩, ⟨19, 1, .ro, .const 0, .any⟩, ⟨20, 1, .ro, .const 0, .any⟩, ⟨32, 16, .ro, .const 0, .any⟩]⟩,
  ⟨"GAL_RESIDENT_W1", 0x4208, 8, 0x10, 1, 0x8, [⟨0, 25, .ro, .const 0, .any⟩]⟩,
  ⟨"GAL_TABLE_LEN", 0x8000, 16, 0x8, 16, 0x800, [⟨0, 64, .sh, .const 0, .any⟩]⟩,
  ⟨"GAL_TABLE_EXP", 0x8080, 16, 0x800, 1, 0x8, [⟨0, 4, .sh, .const 0, .oneOf [4, 5, 8]⟩]⟩,
  ⟨"PROG_IMAGE", 0xc00, 1, 0x8, 1, 0x8, [⟨0, 48, .rw, .const 0, .multiple 8⟩]⟩,
  ⟨"PROG_LEN", 0xc08, 1, 0x8, 1, 0x8, [⟨0, 24, .rw, .const 0, .multipleIn 8 1 69040⟩]⟩,
  ⟨"PROG_CTL", 0xc10, 1, 0x8, 1, 0x8, [⟨0, 1, .wo, .const 0, .any⟩, ⟨1, 1, .sh, .const 0, .any⟩]⟩,
  ⟨"PROG_STATUS", 0xc18, 1, 0x8, 1, 0x8, [⟨0, 1, .ro, .const 0, .any⟩, ⟨1, 1, .ro, .const 0, .any⟩, ⟨4, 4, .ro, .const 0, .any⟩, ⟨32, 32, .ro, .const 0, .any⟩]⟩,
  ⟨"PROG_ID", 0xc20, 1, 0x8, 1, 0x8, [⟨0, 64, .ro, .const 0, .any⟩]⟩,
  ⟨"PROG_STAGED_ID", 0xc28, 1, 0x8, 1, 0x8, [⟨0, 64, .ro, .const 0, .any⟩]⟩]

/-- Registers of the GAL block, part 2 (R140/R160). -/
def rowsGAL2 : List RegRow := [
  ⟨"PROG_FAILS", 0xc30, 1, 0x8, 1, 0x8, [⟨0, 64, .sat, .const 0, .any⟩]⟩]

/-- Registers of the NBU block, part 0 (R224). -/
def rowsNBU0 : List RegRow := [
  ⟨"NBU_STATE", 0x0, 1, 0x8, 1, 0x8, [⟨0, 3, .ro, .instanceNo, .any⟩, ⟨8, 5, .ro, .const 0, .any⟩, ⟨16, 2, .ro, .const 0, .any⟩, ⟨20, 1, .ro, .const 0, .any⟩, ⟨24, 5, .ro, .const 31, .any⟩]⟩,
  ⟨"NBU_CM", 0x8, 1, 0x8, 1, 0x8, [⟨0, 31, .ro, .const 0, .any⟩]⟩,
  ⟨"NBU_QUOTA", 0x10, 1, 0x8, 1, 0x8, [⟨0, 5, .sh, .const 24, .any⟩]⟩,
  ⟨"NBU_REF", 0x18, 1, 0x8, 1, 0x8, [⟨0, 4, .sh, .const 8, .range 2 8⟩]⟩,
  ⟨"NBU_PWR", 0x20, 1, 0x8, 1, 0x8, [⟨0, 8, .sh, .const 40, .range 20 40⟩, ⟨8, 8, .sh, .const 95, .range 75 100⟩, ⟨16, 11, .sh, .const 1800, .range 0 1800⟩]⟩,
  ⟨"NBU_PWR_NOW", 0x28, 1, 0x8, 1, 0x8, [⟨0, 16, .ro, .const 0, .any⟩, ⟨16, 8, .ro, .const 0, .any⟩]⟩,
  ⟨"NBU_PCMAP", 0x30, 1, 0x8, 1, 0x8, [⟨0, 5, .ro, .const 0, .any⟩, ⟨8, 3, .ro, .const 0, .any⟩, ⟨16, 7, .ro, .const 0, .any⟩, ⟨32, 31, .ro, .const 0, .any⟩]⟩,
  ⟨"NBU_FAILED", 0x38, 1, 0x8, 1, 0x8, [⟨0, 32, .ro, .const 0, .any⟩]⟩,
  ⟨"NBU_SUBST", 0x40, 1, 0x8, 1, 0x8, [⟨0, 5, .wo, .const 0, .any⟩, ⟨8, 1, .wo, .const 0, .any⟩]⟩,
  ⟨"NBU_COPY", 0x48, 1, 0x8, 1, 0x8, [⟨0, 18, .ro, .const 0, .any⟩, ⟨24, 8, .ro, .const 0, .any⟩]⟩,
  ⟨"NBU_LOST_CLEAR", 0x50, 1, 0x8, 1, 0x8, [⟨0, 6, .wo, .const 0, .any⟩, ⟨8, 1, .wo, .const 0, .any⟩]⟩,
  ⟨"NBU_REF_OWED", 0x58, 1, 0x8, 1, 0x8, [⟨0, 4, .ro, .const 0, .any⟩, ⟨8, 5, .ro, .const 0, .any⟩]⟩,
  ⟨"NBU_GAP_MAX", 0x60, 1, 0x8, 1, 0x8, [⟨0, 16, .ro, .const 0, .any⟩]⟩,
  ⟨"NBU_HOLD_MAX", 0x68, 1, 0x8, 1, 0x8, [⟨0, 16, .ro, .const 0, .any⟩]⟩,
  ⟨"NBU_SEGMENTS", 0x70, 1, 0x8, 1, 0x8, [⟨0, 64, .sat, .const 0, .any⟩]⟩,
  ⟨"NBU_HELD", 0x78, 1, 0x8, 1, 0x8, [⟨0, 64, .sat, .const 0, .any⟩]⟩,
  ⟨"NBU_HOLD_FULL", 0x80, 1, 0x8, 1, 0x8, [⟨0, 64, .sat, .const 0, .any⟩]⟩,
  ⟨"NBU_REF_POSTPONED", 0x88, 1, 0x8, 1, 0x8, [⟨0, 64, .sat, .const 0, .any⟩]⟩,
  ⟨"NBU_REF_FORCED", 0x90, 1, 0x8, 1, 0x8, [⟨0, 64, .sat, .const 0, .any⟩]⟩,
  ⟨"NBU_THROTTLED", 0x98, 1, 0x8, 1, 0x8, [⟨0, 64, .sat, .const 0, .any⟩]⟩,
  ⟨"NBU_CE", 0xa0, 1, 0x8, 1, 0x8, [⟨0, 64, .sat, .const 0, .any⟩]⟩,
  ⟨"NBU_UE", 0xa8, 1, 0x8, 1, 0x8, [⟨0, 64, .sat, .const 0, .any⟩]⟩,
  ⟨"NBU_SPARE_TEST", 0x2000, 1, 0x8, 1, 0x8, [⟨0, 1, .rw, .const 1, .any⟩, ⟨1, 1, .ro, .const 0, .any⟩]⟩,
  ⟨"NBU_LOST", 0x4000, 64, 0x8, 1, 0x8, [⟨0, 48, .ro, .const 0, .any⟩, ⟨48, 8, .ro, .const 0, .any⟩, ⟨63, 1, .ro, .const 0, .any⟩]⟩]

/-- Registers of the NBU block, part 1 (R224). -/
def rowsNBU1 : List RegRow := [
  ⟨"PROG_IMAGE", 0xc00, 1, 0x8, 1, 0x8, [⟨0, 48, .rw, .const 0, .multiple 8⟩]⟩,
  ⟨"PROG_LEN", 0xc08, 1, 0x8, 1, 0x8, [⟨0, 24, .rw, .const 0, .multipleIn 8 1 36272⟩]⟩,
  ⟨"PROG_CTL", 0xc10, 1, 0x8, 1, 0x8, [⟨0, 1, .wo, .const 0, .any⟩, ⟨1, 1, .sh, .const 0, .any⟩]⟩,
  ⟨"PROG_STATUS", 0xc18, 1, 0x8, 1, 0x8, [⟨0, 1, .ro, .const 0, .any⟩, ⟨1, 1, .ro, .const 0, .any⟩, ⟨4, 4, .ro, .const 0, .any⟩, ⟨32, 32, .ro, .const 0, .any⟩]⟩,
  ⟨"PROG_ID", 0xc20, 1, 0x8, 1, 0x8, [⟨0, 64, .ro, .const 0, .any⟩]⟩,
  ⟨"PROG_STAGED_ID", 0xc28, 1, 0x8, 1, 0x8, [⟨0, 64, .ro, .const 0, .any⟩]⟩,
  ⟨"PROG_FAILS", 0xc30, 1, 0x8, 1, 0x8, [⟨0, 64, .sat, .const 0, .any⟩]⟩]

/-- Registers of the PRT block, part 0 (R403). -/
def rowsPRT0 : List RegRow := [
  ⟨"PRT_ROLE", 0x0, 1, 0x8, 1, 0x8, [⟨0, 3, .ro, .const 0, .any⟩, ⟨8, 3, .ro, .const 0, .any⟩, ⟨16, 1, .ro, .const 0, .any⟩, ⟨24, 8, .ro, .const 0, .any⟩, ⟨32, 32, .ro, .const 0, .any⟩]⟩,
  ⟨"PRT_ROLE_CMD", 0x8, 1, 0x8, 1, 0x8, [⟨0, 3, .wo, .const 0, .any⟩, ⟨8, 2, .wo, .const 0, .any⟩]⟩,
  ⟨"PRT_ROLE_CFG", 0x10, 1, 0x8, 1, 0x8, [⟨0, 32, .sh, .const 0, .any⟩, ⟨32, 12, .sh, .const 0, .any⟩, ⟨48, 1, .sh, .const 0, .any⟩]⟩,
  ⟨"PRT_DRAIN_WAIT", 0x18, 1, 0x8, 1, 0x8, [⟨0, 6, .ro, .const 0, .any⟩]⟩,
  ⟨"PRT_BAYS", 0x20, 4, 0x8, 1, 0x8, [⟨0, 64, .sh, .const 0, .any⟩]⟩,
  ⟨"PRT_PCS", 0x40, 4, 0x8, 1, 0x8, [⟨0, 31, .sh, .const 0, .any⟩, ⟨32, 31, .sh, .const 0, .any⟩]⟩,
  ⟨"PRT_CTX", 0x60, 1, 0x8, 1, 0x8, [⟨0, 16, .sh, .const 0, .any⟩, ⟨16, 17, .sh, .const 0, .range 0 65536⟩]⟩,
  ⟨"PRT_REGIONS", 0x68, 1, 0x8, 1, 0x8, [⟨0, 9, .sh, .const 0, .range 0 256⟩]⟩,
  ⟨"PRT_MERGED", 0x70, 1, 0x8, 1, 0x8, [⟨0, 1, .sh, .const 0, .any⟩, ⟨8, 3, .sh, .const 0, .any⟩]⟩,
  ⟨"PRT_MERGED_BLK", 0x78, 1, 0x8, 1, 0x8, [⟨0, 48, .sh, .const 0, .any⟩]⟩,
  ⟨"PRT_ROLE_CHANGES", 0x80, 1, 0x8, 1, 0x8, [⟨0, 64, .sat, .const 0, .any⟩]⟩,
  ⟨"PRT_NODE", 0x800, 1, 0x8, 1, 0x8, [⟨0, 14, .sh, .const 0, .any⟩]⟩,
  ⟨"PRT_MAP_CFG", 0x808, 1, 0x8, 1, 0x8, [⟨0, 16, .sh, .const 64, .nonzero⟩, ⟨16, 12, .sh, .const 0, .any⟩, ⟨32, 6, .sh, .const 0, .any⟩, ⟨40, 1, .sh, .const 0, .any⟩]⟩,
  ⟨"PRT_MAP_SRC", 0x810, 1, 0x8, 1, 0x8, [⟨0, 48, .rw, .const 0, .multiple 4096⟩]⟩,
  ⟨"PRT_MAP_CMD", 0x818, 1, 0x8, 1, 0x8, [⟨0, 2, .wo, .const 0, .any⟩]⟩,
  ⟨"PRT_MAP_STATUS", 0x820, 1, 0x8, 1, 0x8, [⟨0, 16, .ro, .const 0, .any⟩, ⟨16, 16, .ro, .const 0, .any⟩, ⟨32, 16, .ro, .const 0, .any⟩, ⟨48, 1, .ro, .const 0, .any⟩, ⟨49, 1, .ro, .const 0, .any⟩, ⟨50, 1, .ro, .const 0, .any⟩, ⟨56, 8, .ro, .const 0, .any⟩]⟩,
  ⟨"PRT_MAP_QUERY", 0x828, 1, 0x8, 1, 0x8, [⟨0, 14, .rw, .const 0, .any⟩]⟩,
  ⟨"PRT_MAP_ENTRY0", 0x830, 1, 0x8, 1, 0x8, [⟨0, 64, .ro, .const 0, .any⟩]⟩,
  ⟨"PRT_MAP_ENTRY1", 0x838, 1, 0x8, 1, 0x8, [⟨0, 64, .ro, .const 0, .any⟩]⟩,
  ⟨"PRT_ANCH_COPY", 0x840, 1, 0x8, 1, 0x8, [⟨0, 24, .ro, .const 0, .any⟩, ⟨24, 8, .ro, .const 0, .any⟩, ⟨32, 1, .ro, .const 0, .any⟩]⟩,
  ⟨"PRT_MAP_SWITCHES", 0x848, 1, 0x8, 1, 0x8, [⟨0, 64, .sat, .const 0, .any⟩]⟩,
  ⟨"PRT_MAP_LATE", 0x850, 1, 0x8, 1, 0x8, [⟨0, 64, .sat, .const 0, .any⟩]⟩,
  ⟨"PRT_MAP_LOAD_FAILS", 0x858, 1, 0x8, 1, 0x8, [⟨0, 64, .sat, .const 0, .any⟩]⟩]

/-- Registers of the PHO block, part 0 (R468). -/
def rowsPHO0 : List RegRow := [
  ⟨"PHO_TRACE_BASE", 0x0, 1, 0x8, 1, 0x8, [⟨0, 48, .sh, .const 0, .multiple 64⟩]⟩,
  ⟨"PHO_TRACE_SIZE", 0x8, 1, 0x8, 1, 0x8, [⟨0, 17, .sh, .const 0, .powerOfTwoOrZero 64 65536⟩]⟩,
  ⟨"PHO_TRACE_HEAD", 0x10, 1, 0x8, 1, 0x8, [⟨0, 32, .rw, .const 0, .any⟩]⟩,
  ⟨"PHO_TRACE_TAIL", 0x18, 1, 0x8, 1, 0x8, [⟨0, 32, .ro, .const 0, .any⟩]⟩,
  ⟨"PHO_TRACE_EN", 0x20, 1, 0x8, 1, 0x8, [⟨0, 40, .sh, .const 0, .any⟩]⟩,
  ⟨"PHO_TRACE_CFG", 0x28, 1, 0x8, 1, 0x8, [⟨0, 1, .sh, .const 0, .any⟩, ⟨8, 8, .sh, .const 255, .any⟩]⟩,
  ⟨"PHO_SAMPLE_BASE", 0x30, 1, 0x8, 1, 0x8, [⟨0, 48, .sh, .const 0, .multiple 64⟩]⟩,
  ⟨"PHO_SAMPLE_SIZE", 0x38, 1, 0x8, 1, 0x8, [⟨0, 17, .sh, .const 0, .powerOfTwoOrZero 64 65536⟩]⟩,
  ⟨"PHO_SAMPLE_HEAD", 0x40, 1, 0x8, 1, 0x8, [⟨0, 32, .rw, .const 0, .any⟩]⟩,
  ⟨"PHO_SAMPLE_TAIL", 0x48, 1, 0x8, 1, 0x8, [⟨0, 32, .ro, .const 0, .any⟩]⟩,
  ⟨"PHO_SAMPLE_CFG", 0x50, 1, 0x8, 1, 0x8, [⟨0, 16, .sh, .const 0, .any⟩, ⟨16, 16, .sh, .const 4096, .range 1 16384⟩]⟩,
  ⟨"PHO_SAMPLE_PARTS", 0x58, 1, 0x8, 1, 0x8, [⟨0, 64, .sh, .const 0, .any⟩]⟩,
  ⟨"PHO_DBG_ADDR", 0x60, 1, 0x8, 1, 0x8, [⟨0, 48, .rw, .const 0, .multiple 8⟩]⟩,
  ⟨"PHO_DBG_DATA", 0x68, 1, 0x8, 1, 0x8, [⟨0, 64, .rw, .const 0, .any⟩]⟩,
  ⟨"PHO_DBG_CMD", 0x70, 1, 0x8, 1, 0x8, [⟨0, 2, .wo, .const 0, .any⟩]⟩,
  ⟨"PHO_DBG_STATUS", 0x78, 1, 0x8, 1, 0x8, [⟨0, 8, .ro, .const 0, .any⟩, ⟨8, 1, .ro, .const 0, .any⟩]⟩,
  ⟨"PHO_STOP_CMD", 0x80, 1, 0x8, 1, 0x8, [⟨0, 8, .wo, .const 0, .any⟩, ⟨8, 3, .wo, .const 0, .any⟩, ⟨12, 2, .wo, .const 0, .any⟩]⟩,
  ⟨"PHO_STOP_STATUS", 0x88, 1, 0x8, 1, 0x8, [⟨0, 8, .ro, .const 0, .any⟩, ⟨32, 32, .ro, .const 0, .any⟩]⟩,
  ⟨"PHO_REG_SEL", 0x90, 1, 0x8, 1, 0x8, [⟨0, 8, .rw, .const 0, .any⟩, ⟨8, 3, .rw, .const 0, .any⟩, ⟨12, 3, .rw, .const 0, .any⟩, ⟨16, 5, .rw, .const 0, .any⟩, ⟨24, 2, .rw, .const 0, .any⟩]⟩,
  ⟨"PHO_REG_DATA", 0x98, 1, 0x8, 1, 0x8, [⟨0, 64, .rw, .const 0, .any⟩]⟩,
  ⟨"PHO_CLEAR", 0xa0, 1, 0x8, 1, 0x8, [⟨0, 1, .wo, .const 0, .any⟩]⟩,
  ⟨"PHO_TRACE_DROPPED", 0xa8, 1, 0x8, 1, 0x8, [⟨0, 64, .sat, .const 0, .any⟩]⟩,
  ⟨"PHO_SAMPLE_LATE", 0xb0, 1, 0x8, 1, 0x8, [⟨0, 64, .sat, .const 0, .any⟩]⟩,
  ⟨"PHO_U_SLICES", 0x400, 40, 0x20, 1, 0x8, [⟨0, 64, .sat, .const 0, .any⟩]⟩]

/-- Registers of the PHO block, part 1 (R468). -/
def rowsPHO1 : List RegRow := [
  ⟨"PHO_U_SLICE_SUM", 0x408, 40, 0x20, 1, 0x8, [⟨0, 64, .sat, .const 0, .any⟩]⟩,
  ⟨"PHO_U_SLICE_MAX", 0x410, 40, 0x20, 1, 0x8, [⟨0, 32, .ro, .const 0, .any⟩]⟩,
  ⟨"PHO_U_STATE", 0x418, 40, 0x20, 1, 0x8, [⟨0, 5, .ro, .const 0, .any⟩, ⟨8, 5, .ro, .const 0, .any⟩]⟩,
  ⟨"PHO_P_CTR", 0x4000, 8, 0x8, 64, 0x40, [⟨0, 64, .sat, .const 0, .any⟩]⟩,
  ⟨"PHO_PROG_CTR", 0x8000, 1024, 0x8, 1, 0x8, [⟨0, 64, .sat, .const 0, .any⟩]⟩]

/-- Registers of the NWL block, part 0 (R84). -/
def rowsNWL0 : List RegRow := [
  ⟨"NWL_C_STATE", 0x100, 8, 0x80, 1, 0x8, [⟨0, 3, .ro, .const 0, .any⟩, ⟨3, 3, .ro, .const 0, .any⟩, ⟨6, 3, .ro, .const 0, .any⟩, ⟨9, 3, .ro, .const 0, .any⟩, ⟨12, 3, .ro, .const 0, .any⟩, ⟨16, 1, .ro, .inService, .any⟩, ⟨24, 3, .ro, .index, .any⟩, ⟨32, 32, .ro, .const 0, .any⟩]⟩,
  ⟨"NWL_C_PART", 0x108, 8, 0x80, 1, 0x8, [⟨0, 6, .sh, .const 0, .any⟩, ⟨6, 6, .sh, .const 0, .any⟩, ⟨12, 6, .sh, .const 0, .any⟩, ⟨18, 6, .sh, .const 0, .any⟩, ⟨24, 6, .sh, .const 0, .any⟩, ⟨32, 5, .sh, .const 0, .any⟩]⟩,
  ⟨"NWL_C_ENTRY", 0x110, 8, 0x80, 1, 0x8, [⟨0, 16, .ro, .const 0, .any⟩, ⟨16, 16, .ro, .const 0, .any⟩, ⟨32, 16, .ro, .const 0, .any⟩, ⟨48, 16, .ro, .const 0, .any⟩]⟩,
  ⟨"NWL_C_ENTRY2", 0x118, 8, 0x80, 1, 0x8, [⟨0, 16, .ro, .const 0, .any⟩]⟩,
  ⟨"NWL_C_RUN", 0x120, 8, 0x80, 1, 0x8, [⟨1, 4, .sh, .const 15, .any⟩]⟩,
  ⟨"NWL_C_LAST_FAULT", 0x128, 8, 0x80, 1, 0x8, [⟨0, 16, .ro, .const 0, .any⟩, ⟨16, 3, .ro, .const 0, .any⟩, ⟨24, 8, .ro, .const 0, .any⟩, ⟨32, 32, .ro, .const 0, .any⟩]⟩,
  ⟨"NWL_C_FAULTS", 0x130, 8, 0x80, 1, 0x8, [⟨0, 64, .sat, .const 0, .any⟩]⟩,
  ⟨"PROG_IMAGE", 0xc00, 8, 0x40, 1, 0x8, [⟨0, 48, .rw, .const 0, .multiple 8⟩]⟩,
  ⟨"PROG_LEN", 0xc08, 8, 0x40, 1, 0x8, [⟨0, 24, .rw, .const 0, .multipleIn 8 1 265648⟩]⟩,
  ⟨"PROG_CTL", 0xc10, 8, 0x40, 1, 0x8, [⟨0, 1, .wo, .const 0, .any⟩, ⟨1, 1, .sh, .const 0, .any⟩]⟩,
  ⟨"PROG_STATUS", 0xc18, 8, 0x40, 1, 0x8, [⟨0, 1, .ro, .const 0, .any⟩, ⟨1, 1, .ro, .const 0, .any⟩, ⟨4, 4, .ro, .const 0, .any⟩, ⟨32, 32, .ro, .const 0, .any⟩]⟩,
  ⟨"PROG_ID", 0xc20, 8, 0x40, 1, 0x8, [⟨0, 64, .ro, .const 0, .any⟩]⟩,
  ⟨"PROG_STAGED_ID", 0xc28, 8, 0x40, 1, 0x8, [⟨0, 64, .ro, .const 0, .any⟩]⟩,
  ⟨"PROG_FAILS", 0xc30, 8, 0x40, 1, 0x8, [⟨0, 64, .sat, .const 0, .any⟩]⟩]

/-- Registers of the FLT block, part 0 (R453). -/
def rowsFLT0 : List RegRow := [
  ⟨"FLT_RING_BASE", 0x0, 1, 0x8, 1, 0x8, [⟨0, 48, .sh, .const 0, .multiple 64⟩]⟩,
  ⟨"FLT_RING_SIZE", 0x8, 1, 0x8, 1, 0x8, [⟨0, 17, .sh, .const 0, .powerOfTwoOrZero 64 65536⟩]⟩,
  ⟨"FLT_RING_HEAD", 0x10, 1, 0x8, 1, 0x8, [⟨0, 32, .rw, .const 0, .any⟩]⟩,
  ⟨"FLT_RING_TAIL", 0x18, 1, 0x8, 1, 0x8, [⟨0, 32, .ro, .const 0, .any⟩]⟩,
  ⟨"FLT_NOTIFY", 0x20, 1, 0x8, 1, 0x8, [⟨0, 12, .sh, .const 0, .any⟩, ⟨16, 6, .sh, .const 0, .any⟩, ⟨24, 1, .sh, .const 0, .any⟩, ⟨28, 3, .sh, .const 0, .any⟩]⟩,
  ⟨"FLT_FOLD", 0x28, 1, 0x8, 1, 0x8, [⟨0, 16, .sh, .const 1024, .any⟩]⟩,
  ⟨"FLT_HEALTH", 0x30, 1, 0x8, 1, 0x8, [⟨0, 2, .ro, .const 0, .any⟩, ⟨8, 3, .ro, .const 0, .any⟩, ⟨16, 48, .ro, .const 0, .any⟩]⟩,
  ⟨"FLT_HEALTH_CMD", 0x38, 1, 0x8, 1, 0x8, [⟨0, 2, .wo, .const 0, .any⟩]⟩,
  ⟨"FLT_HEALTH_CFG", 0x40, 1, 0x8, 1, 0x8, [⟨0, 16, .sh, .const 240, .nonzero⟩, ⟨16, 4, .sh, .const 3, .nonzero⟩]⟩,
  ⟨"FLT_LATE_CFG", 0x48, 1, 0x8, 1, 0x8, [⟨0, 32, .sh, .const 1000000, .nonzero⟩, ⟨32, 32, .sh, .const 16000000, .above 0 32⟩]⟩,
  ⟨"FLT_ERR_CFG", 0x50, 1, 0x8, 1, 0x8, [⟨0, 16, .sh, .const 1024, .nonzero⟩, ⟨16, 16, .sh, .const 8192, .above 0 16⟩, ⟨32, 8, .sh, .const 255, .any⟩, ⟨40, 8, .sh, .const 128, .any⟩, ⟨48, 8, .sh, .const 1, .any⟩]⟩,
  ⟨"FLT_LATE_SELF", 0x58, 1, 0x8, 1, 0x8, [⟨0, 64, .ro, .const 0, .any⟩]⟩,
  ⟨"FLT_LATE_INPUT", 0x60, 1, 0x8, 1, 0x8, [⟨0, 64, .ro, .const 0, .any⟩]⟩,
  ⟨"FLT_LATE_UNLOCKED", 0x68, 1, 0x8, 1, 0x8, [⟨0, 64, .ro, .const 0, .any⟩]⟩,
  ⟨"FLT_ERR", 0x70, 1, 0x8, 1, 0x8, [⟨0, 64, .ro, .const 0, .any⟩]⟩,
  ⟨"FLT_THERMAL", 0x78, 1, 0x8, 1, 0x8, [⟨0, 8, .ro, .const 0, .any⟩, ⟨8, 8, .ro, .const 0, .any⟩, ⟨16, 8, .ro, .const 0, .any⟩]⟩,
  ⟨"FLT_SPARES", 0x80, 1, 0x8, 1, 0x8, [⟨0, 5, .ro, .const 16, .any⟩, ⟨5, 5, .ro, .const 8, .any⟩, ⟨10, 7, .ro, .const 16, .any⟩, ⟨17, 2, .ro, .const 2, .any⟩, ⟨19, 2, .ro, .const 2, .any⟩, ⟨21, 11, .ro, .const 18, .any⟩, ⟨32, 8, .ro, .const 0, .any⟩]⟩,
  ⟨"FLT_SELFTEST", 0x88, 1, 0x8, 1, 0x8, [⟨0, 8, .ro, .const 255, .any⟩, ⟨8, 8, .ro, .const 0, .any⟩]⟩,
  ⟨"FLT_NWL_SUBST", 0x90, 1, 0x8, 1, 0x8, [⟨0, 3, .wo, .const 0, .any⟩, ⟨8, 1, .wo, .const 0, .any⟩]⟩,
  ⟨"FLT_NWL_MAP", 0x98, 1, 0x8, 1, 0x8, [⟨0, 24, .ro, .const 16434824, .any⟩, ⟨24, 8, .ro, .const 0, .any⟩, ⟨32, 8, .ro, .const 0, .any⟩]⟩,
  ⟨"FLT_RECORDS", 0xa0, 1, 0x8, 1, 0x8, [⟨0, 64, .sat, .const 0, .any⟩]⟩,
  ⟨"FLT_LOST", 0xa8, 1, 0x8, 1, 0x8, [⟨0, 64, .sat, .const 0, .any⟩]⟩,
  ⟨"FLT_FOLDED", 0xb0, 1, 0x8, 1, 0x8, [⟨0, 64, .sat, .const 0, .any⟩]⟩,
  ⟨"FLT_SUSPECTS", 0xb8, 1, 0x8, 1, 0x8, [⟨0, 64, .sat, .const 0, .any⟩]⟩]

/-- Registers of the FLT block, part 1 (R453). -/
def rowsFLT1 : List RegRow := [
  ⟨"FLT_QUAR_HELD", 0xc0, 1, 0x8, 1, 0x8, [⟨0, 64, .sat, .const 0, .any⟩]⟩,
  ⟨"FLT_SELFTEST_FAIL", 0xc8, 1, 0x8, 1, 0x8, [⟨0, 64, .sat, .const 0, .any⟩]⟩,
  ⟨"FLT_U_LATE", 0x200, 40, 0x8, 1, 0x8, [⟨0, 64, .sat, .const 0, .any⟩]⟩,
  ⟨"FLT_LAST", 0x3000, 8, 0x8, 1, 0x8, [⟨0, 64, .ro, .const 0, .any⟩]⟩,
  ⟨"FLT_P_NOTIFY", 0x4000, 64, 0x200, 1, 0x8, [⟨0, 12, .sh, .const 0, .any⟩, ⟨16, 1, .sh, .const 0, .any⟩]⟩]

/-- Registers of the ALM block, part 0 (R238/R266). -/
def rowsALM0 : List RegRow := [
  ⟨"ALM_CMD", 0x0, 1, 0x8, 1, 0x8, [⟨0, 12, .wo, .const 0, .any⟩, ⟨12, 4, .wo, .const 0, .any⟩, ⟨16, 6, .wo, .const 0, .any⟩]⟩,
  ⟨"ALM_CMD_ARG", 0x8, 1, 0x8, 1, 0x8, [⟨0, 64, .rw, .const 0, .any⟩]⟩,
  ⟨"ALM_RESULT", 0x10, 1, 0x8, 1, 0x8, [⟨0, 8, .ro, .const 0, .any⟩, ⟨16, 12, .ro, .const 0, .any⟩, ⟨32, 32, .ro, .const 0, .any⟩]⟩,
  ⟨"ALM_LOADS", 0x18, 1, 0x8, 1, 0x8, [⟨0, 64, .sat, .const 0, .any⟩]⟩,
  ⟨"ALM_EVICTIONS", 0x20, 1, 0x8, 1, 0x8, [⟨0, 64, .sat, .const 0, .any⟩]⟩,
  ⟨"ALM_ADVANCES", 0x28, 1, 0x8, 1, 0x8, [⟨0, 64, .sat, .const 0, .any⟩]⟩,
  ⟨"ALM_ADP_CMD", 0x800, 1, 0x8, 1, 0x8, [⟨0, 8, .wo, .const 0, .any⟩, ⟨8, 2, .wo, .const 0, .any⟩, ⟨10, 6, .wo, .const 0, .any⟩, ⟨16, 16, .wo, .const 0, .any⟩]⟩,
  ⟨"ALM_ADP_RESULT", 0x808, 1, 0x8, 1, 0x8, [⟨0, 8, .ro, .const 0, .any⟩, ⟨8, 8, .ro, .const 0, .any⟩, ⟨16, 16, .ro, .const 0, .any⟩, ⟨32, 32, .ro, .const 0, .any⟩]⟩,
  ⟨"ALM_ADP_NEXTVER", 0x810, 1, 0x8, 1, 0x8, [⟨0, 16, .ro, .const 1, .any⟩]⟩,
  ⟨"ALM_ADP_NOTIFY", 0x818, 1, 0x8, 1, 0x8, [⟨0, 12, .sh, .const 0, .any⟩, ⟨16, 1, .sh, .const 0, .any⟩]⟩,
  ⟨"ALM_ADP_LOADS", 0x820, 1, 0x8, 1, 0x8, [⟨0, 64, .sat, .const 0, .any⟩]⟩,
  ⟨"ALM_ADP_RETIRED", 0x828, 1, 0x8, 1, 0x8, [⟨0, 64, .sat, .const 0, .any⟩]⟩,
  ⟨"ALM_ADP_BIND_REFUSED", 0x830, 1, 0x8, 1, 0x8, [⟨0, 64, .sat, .const 0, .any⟩]⟩,
  ⟨"ALM_ADP_W0", 0x8000, 256, 0x20, 1, 0x8, [⟨0, 2, .ro, .const 0, .any⟩, ⟨8, 6, .ro, .const 0, .any⟩, ⟨16, 16, .ro, .const 0, .any⟩, ⟨32, 16, .ro, .const 0, .any⟩, ⟨48, 16, .ro, .const 0, .any⟩]⟩,
  ⟨"ALM_ADP_W1", 0x8008, 256, 0x20, 1, 0x8, [⟨0, 16, .ro, .const 0, .any⟩, ⟨32, 32, .ro, .const 0, .any⟩]⟩,
  ⟨"ALM_E_W0", 0x20000, 4096, 0x40, 1, 0x8, [⟨0, 3, .ro, .const 0, .any⟩, ⟨4, 3, .ro, .const 0, .any⟩, ⟨8, 6, .ro, .const 0, .any⟩, ⟨16, 2, .ro, .const 0, .any⟩, ⟨48, 16, .ro, .const 0, .any⟩]⟩,
  ⟨"ALM_E_W1", 0x20008, 4096, 0x40, 1, 0x8, [⟨0, 53, .ro, .const 0, .any⟩]⟩,
  ⟨"ALM_E_W2", 0x20010, 4096, 0x40, 1, 0x8, [⟨0, 32, .ro, .const 0, .any⟩, ⟨32, 16, .ro, .const 0, .any⟩, ⟨48, 16, .ro, .const 0, .any⟩]⟩,
  ⟨"ALM_E_W3", 0x20018, 4096, 0x40, 1, 0x8, [⟨0, 48, .ro, .const 0, .any⟩]⟩,
  ⟨"ALM_E_W4", 0x20020, 4096, 0x40, 1, 0x8, [⟨0, 48, .ro, .const 0, .any⟩]⟩,
  ⟨"ALM_E_W5", 0x20028, 4096, 0x40, 1, 0x8, [⟨0, 8, .ro, .const 0, .any⟩, ⟨8, 4, .ro, .const 0, .any⟩, ⟨12, 1, .ro, .const 0, .any⟩, ⟨16, 16, .ro, .const 0, .any⟩]⟩,
  ⟨"ALM_E_W6", 0x20030, 4096, 0x40, 1, 0x8, [⟨0, 64, .ro, .const 0, .any⟩]⟩,
  ⟨"ALM_E_W7", 0x20038, 4096, 0x40, 1, 0x8, [⟨0, 32, .ro, .const 0, .any⟩, ⟨32, 8, .ro, .const 0, .any⟩]⟩]

/-- The four registers every block instance has at the top of its basic page (R23). -/
def rowsCommon : List RegRow := [
  ⟨"PREFIX_STATUS", 0xfe0, 1, 0x8, 1, 0x8, [⟨0, 1, .ro, .const 0, .any⟩, ⟨1, 1, .ro, .const 1, .any⟩, ⟨2, 1, .ro, .const 0, .any⟩]⟩,
  ⟨"PREFIX_COMMIT", 0xfe8, 1, 0x8, 1, 0x8, [⟨0, 1, .wo, .const 0, .any⟩]⟩,
  ⟨"PREFIX_REFUSED", 0xff0, 1, 0x8, 1, 0x8, [⟨0, 64, .sat, .const 0, .any⟩]⟩,
  ⟨"PREFIX_XPT", 0xff8, 1, 0x8, 1, 0x8, [⟨0, 32, .rw, .const 0, .any⟩]⟩]

/-- The block map (R21, Table 1-8): base offset, instances, stride, and the rows of one instance. -/
def blockMap : List BlockRow := [
  ⟨.ATR, 0x0, 1, 0x100000, rowsATR0⟩,
  ⟨.MER, 0x100000, 1, 0x100000, rowsMER0⟩,
  ⟨.VES, 0x200000, 1, 0x100000, rowsVES0 ++ rowsVES1⟩,
  ⟨.HIF, 0x300000, 2, 0x80000, rowsHIF0⟩,
  ⟨.DBH, 0x400000, 1, 0x400000, rowsDBH0⟩,
  ⟨.CAT, 0x800000, 1, 0x400000, rowsCAT0 ++ rowsCAT1⟩,
  ⟨.HEL, 0xc00000, 1, 0x400000, rowsHEL0 ++ rowsHEL1 ++ rowsHEL2⟩,
  ⟨.STW, 0x1000000, 1, 0x400000, rowsSTW0 ++ rowsSTW1⟩,
  ⟨.FAB, 0x1400000, 4, 0x100000, rowsFAB0 ++ rowsFAB1 ++ rowsFAB2⟩,
  ⟨.ORR, 0x1800000, 1, 0x400000, rowsORR0⟩,
  ⟨.GAL, 0x1c00000, 16, 0x40000, rowsGAL0 ++ rowsGAL1 ++ rowsGAL2⟩,
  ⟨.NBU, 0x2000000, 8, 0x80000, rowsNBU0 ++ rowsNBU1⟩,
  ⟨.PRT, 0x2800000, 64, 0x10000, rowsPRT0⟩,
  ⟨.PHO, 0x2c00000, 1, 0x400000, rowsPHO0 ++ rowsPHO1⟩,
  ⟨.NWL, 0x3000000, 1, 0x400000, rowsNWL0⟩,
  ⟨.FLT, 0x3400000, 1, 0x400000, rowsFLT0 ++ rowsFLT1⟩,
  ⟨.ALM, 0x3800000, 1, 0x400000, rowsALM0⟩]

end Sys2Proof.Machine
end

