-- ==== Sys2Proof/Machine/Regs.lean ====
section
/-! DEFINITION. A name for every register field of the spec's register tables, as its place in BAR0: the register's
offset, the field's lowest bit and width, and whether the field is shadowed. The arguments are the block instance
(port, gallery g, stack h, partition p) and the table indices. -/

namespace Sys2Proof.Machine

def PREFIX_STATUS.READY (b : Nat) : FieldRef := ⟨b + 0xfe0, 0, 1, false⟩
def PREFIX_STATUS.IDLE (b : Nat) : FieldRef := ⟨b + 0xfe0, 1, 1, false⟩
def PREFIX_STATUS.SHADOW_PENDING (b : Nat) : FieldRef := ⟨b + 0xfe0, 2, 1, false⟩
def PREFIX_COMMIT.GO (b : Nat) : FieldRef := ⟨b + 0xfe8, 0, 1, false⟩
def PREFIX_REFUSED.COUNT (b : Nat) : FieldRef := ⟨b + 0xff0, 0, 64, false⟩
def PREFIX_XPT.KEY (b : Nat) : FieldRef := ⟨b + 0xff8, 0, 32, false⟩
def PROG_IMAGE.DPA (b : Nat) : FieldRef := ⟨b + 0xc00, 0, 48, false⟩
def PROG_LEN.BYTES (b : Nat) : FieldRef := ⟨b + 0xc08, 0, 24, false⟩
def PROG_CTL.STAGE (b : Nat) : FieldRef := ⟨b + 0xc10, 0, 1, false⟩
def PROG_CTL.SWAP (b : Nat) : FieldRef := ⟨b + 0xc10, 1, 1, true⟩
def PROG_STATUS.STAGED (b : Nat) : FieldRef := ⟨b + 0xc18, 0, 1, false⟩
def PROG_STATUS.BUSY (b : Nat) : FieldRef := ⟨b + 0xc18, 1, 1, false⟩
def PROG_STATUS.RESULT (b : Nat) : FieldRef := ⟨b + 0xc18, 4, 4, false⟩
def PROG_STATUS.INSTALLED_AT (b : Nat) : FieldRef := ⟨b + 0xc18, 32, 32, false⟩
def PROG_ID.HASH (b : Nat) : FieldRef := ⟨b + 0xc20, 0, 64, false⟩
def PROG_STAGED_ID.HASH (b : Nat) : FieldRef := ⟨b + 0xc28, 0, 64, false⟩
def PROG_FAILS.COUNT (b : Nat) : FieldRef := ⟨b + 0xc30, 0, 64, false⟩

def ATR_ID.DEVICE : FieldRef := ⟨0x0, 0, 16, false⟩
def ATR_ID.STEPPING : FieldRef := ⟨0x0, 16, 8, false⟩
def ATR_SERIAL.SERIAL : FieldRef := ⟨0x8, 0, 64, false⟩
def ATR_START.KIND : FieldRef := ⟨0x10, 0, 2, false⟩
def ATR_START.REQUESTER : FieldRef := ⟨0x10, 8, 4, false⟩
def ATR_START.PRESERVED : FieldRef := ⟨0x10, 16, 1, false⟩
def ATR_RESET.TYPE : FieldRef := ⟨0x18, 0, 3, false⟩
def ATR_RESET.UNIT : FieldRef := ⟨0x18, 8, 8, false⟩
def ATR_RESET.CTX : FieldRef := ⟨0x18, 16, 3, false⟩
def ATR_RESET.PART : FieldRef := ⟨0x18, 24, 6, false⟩
def ATR_RESET.PRESERVE_HBM : FieldRef := ⟨0x18, 32, 1, false⟩
def ATR_RESET.CONFIRM : FieldRef := ⟨0x18, 48, 16, false⟩
def ATR_RESET_STATUS.BUSY : FieldRef := ⟨0x20, 0, 1, false⟩
def ATR_RESET_STATUS.TYPE : FieldRef := ⟨0x20, 1, 3, false⟩
def ATR_RESET_STATUS.STATUS : FieldRef := ⟨0x20, 8, 8, false⟩
def ATR_RESET_STATUS.SEQ : FieldRef := ⟨0x20, 32, 32, false⟩
def ATR_READY.BLOCKS : FieldRef := ⟨0x28, 0, 19, false⟩
def ATR_READY.GAL : FieldRef := ⟨0x28, 32, 16, false⟩
def ATR_READY.NBU : FieldRef := ⟨0x28, 48, 8, false⟩
def ATR_READY.ALL : FieldRef := ⟨0x28, 63, 1, false⟩
def ATR_HELD.BLOCKS : FieldRef := ⟨0x30, 0, 19, false⟩
def ATR_HELD.GAL : FieldRef := ⟨0x30, 32, 16, false⟩
def ATR_HELD.NBU : FieldRef := ⟨0x30, 48, 8, false⟩
def ATR_NOTIFY.DB_SOURCE : FieldRef := ⟨0x38, 0, 12, true⟩
def ATR_NOTIFY.DB_PART : FieldRef := ⟨0x38, 16, 6, true⟩
def ATR_NOTIFY.READY_EN : FieldRef := ⟨0x38, 24, 1, true⟩
def ATR_NOTIFY.PWR_EN : FieldRef := ⟨0x38, 25, 1, true⟩
def ATR_PWR_NOW.VIN_MV : FieldRef := ⟨0x40, 0, 16, false⟩
def ATR_PWR_NOW.IIN_MA : FieldRef := ⟨0x40, 16, 16, false⟩
def ATR_PWR_NOW.POWER_W : FieldRef := ⟨0x40, 32, 11, false⟩
def ATR_PWR_CFG.WARN_W : FieldRef := ⟨0x48, 0, 11, true⟩
def ATR_PWR_FAULT.UNDER_RANGE : FieldRef := ⟨0x50, 0, 1, false⟩
def ATR_PWR_FAULT.OVER_RANGE : FieldRef := ⟨0x50, 1, 1, false⟩
def ATR_PWR_FAULT.OVER_WARN : FieldRef := ⟨0x50, 2, 1, false⟩
def ATR_PWR_FAULT.PHASE_LOST : FieldRef := ⟨0x50, 3, 1, false⟩
def ATR_PWR_FAULT.RAIL : FieldRef := ⟨0x50, 8, 4, false⟩
def ATR_CTX_RESETS.COUNT : FieldRef := ⟨0x58, 0, 64, false⟩
def ATR_PART_RESETS.COUNT : FieldRef := ⟨0x60, 0, 64, false⟩
def ATR_PWR_EVENTS.COUNT : FieldRef := ⟨0x68, 0, 64, false⟩

def MER_COUNT.COUNT : FieldRef := ⟨0x100000, 0, 64, false⟩
def MER_PHASE.CYCLE : FieldRef := ⟨0x100008, 0, 16, false⟩
def MER_PHASE.LANDING : FieldRef := ⟨0x100008, 16, 1, false⟩
def MER_PHASE.ADJ : FieldRef := ⟨0x100008, 24, 8, false⟩
def MER_PHASE.STEP : FieldRef := ⟨0x100008, 32, 32, false⟩
def MER_LENGTH.LEN : FieldRef := ⟨0x100010, 0, 2, true⟩
def MER_SWITCH_AT.COUNT : FieldRef := ⟨0x100018, 0, 64, true⟩
def MER_ORIGIN_SEC.SEC : FieldRef := ⟨0x100020, 0, 48, true⟩
def MER_ORIGIN_NS.NS : FieldRef := ⟨0x100028, 0, 30, true⟩
def MER_ORIGIN_COUNT.COUNT : FieldRef := ⟨0x100030, 0, 64, true⟩
def MER_PTP.DOMAIN : FieldRef := ⟨0x100038, 0, 8, true⟩
def MER_PTP.SYNC_LOG : FieldRef := ⟨0x100038, 8, 4, true⟩
def MER_PTP.DELAY_MECH : FieldRef := ⟨0x100038, 12, 1, true⟩
def MER_PTP.PORT_EN : FieldRef := ⟨0x100038, 16, 4, true⟩
def MER_PTP.GM_CAPABLE : FieldRef := ⟨0x100038, 20, 1, true⟩
def MER_PTP.PRIORITY1 : FieldRef := ⟨0x100038, 24, 8, true⟩
def MER_PTP.PRIORITY2 : FieldRef := ⟨0x100038, 32, 8, true⟩
def MER_HOLDOVER.LIMIT_MS : FieldRef := ⟨0x100040, 0, 16, true⟩
def MER_HOLDOVER.ACQ_TIMEOUT_MS : FieldRef := ⟨0x100040, 16, 16, true⟩
def MER_LOCK.STATE : FieldRef := ⟨0x100048, 0, 2, false⟩
def MER_LOCK.PORT : FieldRef := ⟨0x100048, 4, 2, false⟩
def MER_LOCK.ORDER_FAULT : FieldRef := ⟨0x100048, 8, 1, false⟩
def MER_OFFSET.OFFSET_NS : FieldRef := ⟨0x100050, 0, 32, false⟩
def MER_OFFSET.PATH_NS : FieldRef := ⟨0x100050, 32, 32, false⟩
def MER_SLIP.COUNT : FieldRef := ⟨0x100058, 0, 64, false⟩
def MER_SLIP_LAST.UNIT : FieldRef := ⟨0x100060, 0, 8, false⟩
def MER_SLIP_LAST.CAUSE : FieldRef := ⟨0x100060, 8, 3, false⟩
def MER_SLIP_LAST.MERIDIAN : FieldRef := ⟨0x100060, 32, 32, false⟩
def MER_LOCK_EVENTS.COUNT : FieldRef := ⟨0x100068, 0, 64, false⟩
def MER_STEPS.COUNT : FieldRef := ⟨0x100070, 0, 64, false⟩
def MER_LENGTH_REFUSED.COUNT : FieldRef := ⟨0x100078, 0, 64, false⟩
def MER_ADJ.LIMIT : FieldRef := ⟨0x102000, 0, 4, false⟩

def VES_STATE.STEP : FieldRef := ⟨0x200000, 0, 3, false⟩
def VES_STATE.FALLBACK : FieldRef := ⟨0x200000, 8, 6, false⟩
def VES_STATE.RESTARTING : FieldRef := ⟨0x200000, 16, 1, false⟩
def VES_STATE.SESSIONS : FieldRef := ⟨0x200000, 17, 3, false⟩
def VES_STATE.OWNED : FieldRef := ⟨0x200000, 20, 1, false⟩
def VES_STATE.FKR_CUR : FieldRef := ⟨0x200000, 32, 16, false⟩
def VES_STATE.FKR_PREV : FieldRef := ⟨0x200000, 48, 16, false⟩
def VES_CMD.OP : FieldRef := ⟨0x200008, 0, 4, false⟩
def VES_CMD.COMPONENT : FieldRef := ⟨0x200008, 8, 8, false⟩
def VES_ARG0.DPA : FieldRef := ⟨0x200010, 0, 48, false⟩
def VES_ARG1.LEN : FieldRef := ⟨0x200018, 0, 25, false⟩
def VES_RESULT.STATUS : FieldRef := ⟨0x200020, 0, 8, false⟩
def VES_RESULT.DETAIL : FieldRef := ⟨0x200020, 8, 4, false⟩
def VES_RESULT.OP : FieldRef := ⟨0x200020, 12, 4, false⟩
def VES_RESULT.BUSY : FieldRef := ⟨0x200020, 16, 1, false⟩
def VES_RESULT.SEQ : FieldRef := ⟨0x200020, 32, 32, false⟩
def VES_DEBUG.J7_EN : FieldRef := ⟨0x200028, 0, 1, false⟩
def VES_IMAGES_OK.COUNT : FieldRef := ⟨0x200030, 0, 64, false⟩
def VES_VERIFY_FAIL.COUNT : FieldRef := ⟨0x200038, 0, 64, false⟩
def VES_SPDM_OBJECTS.COUNT : FieldRef := ⟨0x200040, 0, 64, false⟩
def VES_DEBUG_EVENTS.COUNT : FieldRef := ⟨0x200048, 0, 64, false⟩
def VES_LOG_LOST.COUNT : FieldRef := ⟨0x200050, 0, 64, false⟩
def VES_COMP_W0.ACTIVE_BANK (i : Nat) : FieldRef := ⟨0x204040 + 0x40 * i, 0, 1, false⟩
def VES_COMP_W0.STAGED (i : Nat) : FieldRef := ⟨0x204040 + 0x40 * i, 1, 1, false⟩
def VES_COMP_W0.FAILED_BANK_OTHER (i : Nat) : FieldRef := ⟨0x204040 + 0x40 * i, 2, 1, false⟩
def VES_COMP_W0.SVN (i : Nat) : FieldRef := ⟨0x204040 + 0x40 * i, 8, 6, false⟩
def VES_COMP_W0.FLOOR (i : Nat) : FieldRef := ⟨0x204040 + 0x40 * i, 16, 6, false⟩
def VES_COMP_W0.VERSION (i : Nat) : FieldRef := ⟨0x204040 + 0x40 * i, 32, 32, false⟩
def VES_COMP_W1.STAGED_VERSION (i : Nat) : FieldRef := ⟨0x204048 + 0x40 * i, 0, 32, false⟩
def VES_COMP_W2.HASH0 (i : Nat) : FieldRef := ⟨0x204050 + 0x40 * i, 0, 64, false⟩
def VES_COMP_W3.HASH1 (i : Nat) : FieldRef := ⟨0x204058 + 0x40 * i, 0, 64, false⟩
def VES_COMP_W4.HASH2 (i : Nat) : FieldRef := ⟨0x204060 + 0x40 * i, 0, 64, false⟩
def VES_COMP_W5.HASH3 (i : Nat) : FieldRef := ⟨0x204068 + 0x40 * i, 0, 64, false⟩
def VES_COMP_W6.HASH4 (i : Nat) : FieldRef := ⟨0x204070 + 0x40 * i, 0, 64, false⟩
def VES_COMP_W7.HASH5 (i : Nat) : FieldRef := ⟨0x204078 + 0x40 * i, 0, 64, false⟩
def VES_SLOT_V0.VALUE0 (i : Nat) : FieldRef := ⟨0x206000 + 0x40 * i, 0, 64, false⟩
def VES_SLOT_V1.VALUE1 (i : Nat) : FieldRef := ⟨0x206008 + 0x40 * i, 0, 64, false⟩
def VES_SLOT_V2.VALUE2 (i : Nat) : FieldRef := ⟨0x206010 + 0x40 * i, 0, 64, false⟩
def VES_SLOT_V3.VALUE3 (i : Nat) : FieldRef := ⟨0x206018 + 0x40 * i, 0, 64, false⟩
def VES_SLOT_V4.VALUE4 (i : Nat) : FieldRef := ⟨0x206020 + 0x40 * i, 0, 64, false⟩
def VES_SLOT_V5.VALUE5 (i : Nat) : FieldRef := ⟨0x206028 + 0x40 * i, 0, 64, false⟩
def VES_SLOT_W6.EXTENDS (i : Nat) : FieldRef := ⟨0x206030 + 0x40 * i, 0, 32, false⟩
def VES_SLOT_W7.LAST_AT (i : Nat) : FieldRef := ⟨0x206038 + 0x40 * i, 0, 32, false⟩

def HIF_LINK.SPEED (port : Nat) : FieldRef := ⟨0x300000 + 0x80000 * port, 0, 3, false⟩
def HIF_LINK.WIDTH (port : Nat) : FieldRef := ⟨0x300000 + 0x80000 * port, 8, 4, false⟩
def HIF_LINK.FLIT (port : Nat) : FieldRef := ⟨0x300000 + 0x80000 * port, 16, 1, false⟩
def HIF_LINK.DL_UP (port : Nat) : FieldRef := ⟨0x300000 + 0x80000 * port, 17, 1, false⟩
def HIF_PORT_STATE.STATE (port : Nat) : FieldRef := ⟨0x300008 + 0x80000 * port, 0, 2, false⟩
def HIF_PORT_STATE.PRIMARY (port : Nat) : FieldRef := ⟨0x300008 + 0x80000 * port, 8, 1, false⟩
def HIF_PORT_STATE.LAST_HB (port : Nat) : FieldRef := ⟨0x300008 + 0x80000 * port, 32, 32, false⟩
def HIF_HEARTBEAT.VALUE (port : Nat) : FieldRef := ⟨0x300010 + 0x80000 * port, 0, 64, false⟩
def HIF_CFG.HB_TIMEOUT_MS (port : Nat) : FieldRef := ⟨0x300018 + 0x80000 * port, 0, 16, true⟩
def HIF_CFG.DB_SOURCE (port : Nat) : FieldRef := ⟨0x300018 + 0x80000 * port, 16, 12, true⟩
def HIF_CFG.DB_PART (port : Nat) : FieldRef := ⟨0x300018 + 0x80000 * port, 32, 6, true⟩
def HIF_CFG.DB_EN (port : Nat) : FieldRef := ⟨0x300018 + 0x80000 * port, 40, 1, true⟩
def HIF_VF_MAP.PART0 (port i : Nat) : FieldRef := ⟨0x300020 + 0x80000 * port + 0x8 * i, 0, 6, true⟩
def HIF_VF_MAP.VALID0 (port i : Nat) : FieldRef := ⟨0x300020 + 0x80000 * port + 0x8 * i, 7, 1, true⟩
def HIF_VF_MAP.PART1 (port i : Nat) : FieldRef := ⟨0x300020 + 0x80000 * port + 0x8 * i, 8, 6, true⟩
def HIF_VF_MAP.VALID1 (port i : Nat) : FieldRef := ⟨0x300020 + 0x80000 * port + 0x8 * i, 15, 1, true⟩
def HIF_VF_MAP.PART2 (port i : Nat) : FieldRef := ⟨0x300020 + 0x80000 * port + 0x8 * i, 16, 6, true⟩
def HIF_VF_MAP.VALID2 (port i : Nat) : FieldRef := ⟨0x300020 + 0x80000 * port + 0x8 * i, 23, 1, true⟩
def HIF_VF_MAP.PART3 (port i : Nat) : FieldRef := ⟨0x300020 + 0x80000 * port + 0x8 * i, 24, 6, true⟩
def HIF_VF_MAP.VALID3 (port i : Nat) : FieldRef := ⟨0x300020 + 0x80000 * port + 0x8 * i, 31, 1, true⟩
def HIF_VF_MAP.PART4 (port i : Nat) : FieldRef := ⟨0x300020 + 0x80000 * port + 0x8 * i, 32, 6, true⟩
def HIF_VF_MAP.VALID4 (port i : Nat) : FieldRef := ⟨0x300020 + 0x80000 * port + 0x8 * i, 39, 1, true⟩
def HIF_VF_MAP.PART5 (port i : Nat) : FieldRef := ⟨0x300020 + 0x80000 * port + 0x8 * i, 40, 6, true⟩
def HIF_VF_MAP.VALID5 (port i : Nat) : FieldRef := ⟨0x300020 + 0x80000 * port + 0x8 * i, 47, 1, true⟩
def HIF_VF_MAP.PART6 (port i : Nat) : FieldRef := ⟨0x300020 + 0x80000 * port + 0x8 * i, 48, 6, true⟩
def HIF_VF_MAP.VALID6 (port i : Nat) : FieldRef := ⟨0x300020 + 0x80000 * port + 0x8 * i, 55, 1, true⟩
def HIF_VF_MAP.PART7 (port i : Nat) : FieldRef := ⟨0x300020 + 0x80000 * port + 0x8 * i, 56, 6, true⟩
def HIF_VF_MAP.VALID7 (port i : Nat) : FieldRef := ⟨0x300020 + 0x80000 * port + 0x8 * i, 63, 1, true⟩
def HIF_WIN.DPA (port i : Nat) : FieldRef := ⟨0x300040 + 0x80000 * port + 0x8 * i, 0, 48, true⟩
def HIF_WIN.EN (port i : Nat) : FieldRef := ⟨0x300040 + 0x80000 * port + 0x8 * i, 63, 1, true⟩
def HIF_DROPPED_WR.COUNT (port : Nat) : FieldRef := ⟨0x300080 + 0x80000 * port, 0, 64, false⟩
def HIF_FAILED_RD.COUNT (port : Nat) : FieldRef := ⟨0x300088 + 0x80000 * port, 0, 64, false⟩
def HIF_CA_SENT.COUNT (port : Nat) : FieldRef := ⟨0x300090 + 0x80000 * port, 0, 64, false⟩
def HIF_UR_SENT.COUNT (port : Nat) : FieldRef := ⟨0x300098 + 0x80000 * port, 0, 64, false⟩
def HIF_PART_REFUSED.COUNT (port : Nat) : FieldRef := ⟨0x3000a0 + 0x80000 * port, 0, 64, false⟩
def HIF_NARROW_WR.COUNT (port : Nat) : FieldRef := ⟨0x3000a8 + 0x80000 * port, 0, 64, false⟩
def HIF_MSIX_SENT.COUNT (port : Nat) : FieldRef := ⟨0x3000b0 + 0x80000 * port, 0, 64, false⟩
def HIF_MSIX_BAD_VEC.COUNT (port : Nat) : FieldRef := ⟨0x3000b8 + 0x80000 * port, 0, 64, false⟩
def HIF_LINK_DOWNS.COUNT (port : Nat) : FieldRef := ⟨0x3000c0 + 0x80000 * port, 0, 64, false⟩
def HIF_RING_RESETS.COUNT (port : Nat) : FieldRef := ⟨0x3000c8 + 0x80000 * port, 0, 64, false⟩
def HIF_DOE_OBJECTS.COUNT (port : Nat) : FieldRef := ⟨0x3000d0 + 0x80000 * port, 0, 64, false⟩
def HIF_BIND.PORT (port : Nat) : FieldRef := ⟨0x300100 + 0x80000 * port, 0, 64, false⟩
def HIF_PRIMARY.PORT (port : Nat) : FieldRef := ⟨0x300108 + 0x80000 * port, 0, 1, false⟩
def HIF_REBIND.OP (port : Nat) : FieldRef := ⟨0x300110 + 0x80000 * port, 0, 3, false⟩
def HIF_REBIND.PART (port : Nat) : FieldRef := ⟨0x300110 + 0x80000 * port, 8, 6, false⟩
def HIF_REBIND_RESULT.STATUS (port : Nat) : FieldRef := ⟨0x300118 + 0x80000 * port, 0, 8, false⟩
def HIF_REBIND_RESULT.OP (port : Nat) : FieldRef := ⟨0x300118 + 0x80000 * port, 8, 3, false⟩
def HIF_REBIND_RESULT.SEQ (port : Nat) : FieldRef := ⟨0x300118 + 0x80000 * port, 32, 32, false⟩
def HIF_REBINDS.COUNT (port : Nat) : FieldRef := ⟨0x300120 + 0x80000 * port, 0, 64, false⟩
def HIF_BIND_PENDING.MASK (port : Nat) : FieldRef := ⟨0x300128 + 0x80000 * port, 0, 64, false⟩
def HIF_VF_WIN.DPA (port i : Nat) : FieldRef := ⟨0x304000 + 0x80000 * port + 0x8 * i, 0, 48, true⟩
def HIF_VF_WIN.EN (port i : Nat) : FieldRef := ⟨0x304000 + 0x80000 * port + 0x8 * i, 63, 1, true⟩

def DBH_IGNORED.COUNT : FieldRef := ⟨0x400000, 0, 64, false⟩
def DBH_LAST_IGNORED.SOURCE : FieldRef := ⟨0x400008, 0, 12, false⟩
def DBH_LAST_IGNORED.PART : FieldRef := ⟨0x400008, 12, 6, false⟩
def DBH_LAST_IGNORED.REASON : FieldRef := ⟨0x400008, 18, 3, false⟩
def DBH_LAST_IGNORED.TARGET : FieldRef := ⟨0x400008, 21, 9, false⟩
def DBH_LAST_IGNORED.MERIDIAN : FieldRef := ⟨0x400008, 32, 32, false⟩
def DBH_ACCEPTED.COUNT : FieldRef := ⟨0x400010, 0, 64, false⟩
def DBH_DELIVERED.COUNT : FieldRef := ⟨0x400018, 0, 64, false⟩
def DBH_SOURCE.TARGET (i : Nat) : FieldRef := ⟨0x408000 + 0x8 * i, 0, 3, false⟩
def DBH_SOURCE.PART (i : Nat) : FieldRef := ⟨0x408000 + 0x8 * i, 8, 6, false⟩
def DBH_SOURCE.ACTIVE (i : Nat) : FieldRef := ⟨0x408000 + 0x8 * i, 31, 1, false⟩
def DBH_T_RING.SOURCE (i : Nat) : FieldRef := ⟨0x410000 + 0x400 * i, 0, 12, false⟩
def DBH_T_RING.PART (i : Nat) : FieldRef := ⟨0x410000 + 0x400 * i, 16, 6, false⟩
def DBH_T_CFG.EN (i : Nat) : FieldRef := ⟨0x410008 + 0x400 * i, 0, 1, true⟩
def DBH_T_CFG.KIND (i : Nat) : FieldRef := ⟨0x410008 + 0x400 * i, 1, 1, true⟩
def DBH_T_CFG.VECTOR (i : Nat) : FieldRef := ⟨0x410008 + 0x400 * i, 16, 11, true⟩
def DBH_T_CFG.UNIT (i : Nat) : FieldRef := ⟨0x410008 + 0x400 * i, 32, 8, true⟩
def DBH_T_CFG.CTR (i : Nat) : FieldRef := ⟨0x410008 + 0x400 * i, 40, 4, true⟩
def DBH_T_CFG.MOD (i : Nat) : FieldRef := ⟨0x410008 + 0x400 * i, 48, 16, true⟩
def DBH_T_IDLE.IDLE (i : Nat) : FieldRef := ⟨0x410010 + 0x400 * i, 0, 1, false⟩
def DBH_T_STATE.STATE (i : Nat) : FieldRef := ⟨0x410018 + 0x400 * i, 0, 2, false⟩
def DBH_T_STATE.BLOCKED (i : Nat) : FieldRef := ⟨0x410018 + 0x400 * i, 8, 1, false⟩
def DBH_T_STATE.LAST_DELIVERY (i : Nat) : FieldRef := ⟨0x410018 + 0x400 * i, 32, 32, false⟩
def DBH_T_SUMMARY.WORDS (i : Nat) : FieldRef := ⟨0x410020 + 0x400 * i, 0, 64, false⟩
def DBH_T_DELIVERED.COUNT (i : Nat) : FieldRef := ⟨0x410028 + 0x400 * i, 0, 64, false⟩
def DBH_T_COALESCED.COUNT (i : Nat) : FieldRef := ⟨0x410030 + 0x400 * i, 0, 64, false⟩
def DBH_T_BYPASSES.COUNT (i : Nat) : FieldRef := ⟨0x410038 + 0x400 * i, 0, 64, false⟩
def DBH_T_PENDING.BITS (j i : Nat) : FieldRef := ⟨0x410200 + 0x400 * j + 0x8 * i, 0, 64, false⟩

def CAT_RESERVE.RESERVE : FieldRef := ⟨0x800000, 0, 15, true⟩
def CAT_FREE.FREE : FieldRef := ⟨0x800008, 0, 15, false⟩
def CAT_FREE.BATCHES : FieldRef := ⟨0x800008, 16, 9, false⟩
def CAT_BAD.COUNT : FieldRef := ⟨0x800010, 0, 64, false⟩
def CAT_LAST_BAD.STATUS : FieldRef := ⟨0x800018, 0, 8, false⟩
def CAT_LAST_BAD.PART : FieldRef := ⟨0x800018, 8, 6, false⟩
def CAT_LAST_BAD.SOURCE : FieldRef := ⟨0x800018, 14, 2, false⟩
def CAT_LAST_BAD.INDEX : FieldRef := ⟨0x800018, 16, 32, false⟩
def CAT_P_QUOTA.QUOTA (i : Nat) : FieldRef := ⟨0x804000 + 0x200 * i, 0, 15, true⟩
def CAT_P_USE.IN_USE (i : Nat) : FieldRef := ⟨0x804008 + 0x200 * i, 0, 15, false⟩
def CAT_P_USE.LC_WAITING (i : Nat) : FieldRef := ⟨0x804008 + 0x200 * i, 16, 15, false⟩
def CAT_P_USE.BATCHES (i : Nat) : FieldRef := ⟨0x804008 + 0x200 * i, 32, 9, false⟩
def CAT_P_ADMIT.RATE (i : Nat) : FieldRef := ⟨0x804010 + 0x200 * i, 0, 8, true⟩
def CAT_P_ADMIT.BE_BACKOFF (i : Nat) : FieldRef := ⟨0x804010 + 0x200 * i, 8, 16, true⟩
def CAT_P_ADMIT.BE_PRESSURE (i : Nat) : FieldRef := ⟨0x804010 + 0x200 * i, 24, 15, true⟩
def CAT_P_ADMIT.PREEMPT_EN (i : Nat) : FieldRef := ⟨0x804010 + 0x200 * i, 40, 1, true⟩
def CAT_P_ADMIT.PREEMPT_WAIT (i : Nat) : FieldRef := ⟨0x804010 + 0x200 * i, 48, 8, true⟩
def CAT_P_TIMEOUT.HANDOVER_IN_LIMIT (i : Nat) : FieldRef := ⟨0x804018 + 0x200 * i, 0, 32, true⟩
def CAT_P_NOTIFY.UNIT (i : Nat) : FieldRef := ⟨0x804020 + 0x200 * i, 0, 8, true⟩
def CAT_P_NOTIFY.CTR (i : Nat) : FieldRef := ⟨0x804020 + 0x200 * i, 8, 4, true⟩
def CAT_P_NOTIFY.EN (i : Nat) : FieldRef := ⟨0x804020 + 0x200 * i, 12, 1, true⟩
def CAT_P_NOTIFY.DB_SOURCE (i : Nat) : FieldRef := ⟨0x804020 + 0x200 * i, 16, 12, true⟩
def CAT_P_BASE.DPA (j i : Nat) : FieldRef := ⟨0x804040 + 0x200 * j + 0x20 * i, 0, 48, true⟩
def CAT_P_SIZE.ENTRIES (j i : Nat) : FieldRef := ⟨0x804048 + 0x200 * j + 0x20 * i, 0, 17, true⟩
def CAT_P_HEAD.INDEX (j i : Nat) : FieldRef := ⟨0x804050 + 0x200 * j + 0x20 * i, 0, 32, false⟩
def CAT_P_HEAD3.INDEX (i : Nat) : FieldRef := ⟨0x8040b0 + 0x200 * i, 0, 32, false⟩
def CAT_P_TAIL.INDEX (j i : Nat) : FieldRef := ⟨0x804058 + 0x200 * j + 0x20 * i, 0, 32, false⟩
def CAT_P_TAIL3.INDEX (i : Nat) : FieldRef := ⟨0x8040b8 + 0x200 * i, 0, 32, false⟩
def CAT_P_ADMITTED.COUNT (i : Nat) : FieldRef := ⟨0x8040c0 + 0x200 * i, 0, 64, false⟩
def CAT_P_REF_FULL.COUNT (i : Nat) : FieldRef := ⟨0x8040c8 + 0x200 * i, 0, 64, false⟩
def CAT_P_REF_POLICY.COUNT (i : Nat) : FieldRef := ⟨0x8040d0 + 0x200 * i, 0, 64, false⟩
def CAT_P_DEFERRED.COUNT (i : Nat) : FieldRef := ⟨0x8040d8 + 0x200 * i, 0, 64, false⟩
def CAT_P_PREEMPTED.COUNT (i : Nat) : FieldRef := ⟨0x8040e0 + 0x200 * i, 0, 64, false⟩
def CAT_P_DL_MISS.COUNT (i : Nat) : FieldRef := ⟨0x8040e8 + 0x200 * i, 0, 64, false⟩
def CAT_P_EXPIRED.COUNT (i : Nat) : FieldRef := ⟨0x8040f0 + 0x200 * i, 0, 64, false⟩
def CAT_P_CQ_STALL.COUNT (i : Nat) : FieldRef := ⟨0x8040f8 + 0x200 * i, 0, 64, false⟩
def CAT_P_RELEASE.RECORD (i : Nat) : FieldRef := ⟨0x804100 + 0x200 * i, 0, 14, false⟩
def CAT_P_RELEASE.GEN (i : Nat) : FieldRef := ⟨0x804100 + 0x200 * i, 16, 16, false⟩
def CAT_P_RELEASE.GO (i : Nat) : FieldRef := ⟨0x804100 + 0x200 * i, 32, 1, false⟩
def CAT_P_DISP_SEQ.SEQ (i : Nat) : FieldRef := ⟨0x804108 + 0x200 * i, 0, 32, false⟩
def CAT_P_WIN_W0.DPA (j i : Nat) : FieldRef := ⟨0x804180 + 0x200 * j + 0x10 * i, 0, 48, false⟩
def CAT_P_WIN_W0.GROUP (j i : Nat) : FieldRef := ⟨0x804180 + 0x200 * j + 0x10 * i, 48, 4, false⟩
def CAT_P_WIN_W0.PREEMPTING (j i : Nat) : FieldRef := ⟨0x804180 + 0x200 * j + 0x10 * i, 52, 1, false⟩
def CAT_P_WIN_W1.SEQ (j i : Nat) : FieldRef := ⟨0x804188 + 0x200 * j + 0x10 * i, 0, 32, false⟩
def CAT_P_WIN_W1.MERIDIAN (j i : Nat) : FieldRef := ⟨0x804188 + 0x200 * j + 0x10 * i, 32, 32, false⟩

def HEL_STATE.INFLIGHT : FieldRef := ⟨0xc00000, 0, 9, false⟩
def HEL_STATE.ARMED : FieldRef := ⟨0xc00000, 10, 11, false⟩
def HEL_STATE.OUT_OPEN : FieldRef := ⟨0xc00000, 21, 11, false⟩
def HEL_STATE.IN_OPEN : FieldRef := ⟨0xc00000, 32, 11, false⟩
def HEL_ANCH_BASE.DPA : FieldRef := ⟨0xc00008, 0, 48, true⟩
def HEL_ANCH_CFG.SLOTS_LOG2 : FieldRef := ⟨0xc00010, 0, 5, true⟩
def HEL_ANCH_CFG.PART : FieldRef := ⟨0xc00010, 8, 6, true⟩
def HEL_ANCH_CFG.EN : FieldRef := ⟨0xc00010, 16, 1, true⟩
def HEL_ANCH_USE.ENTRIES : FieldRef := ⟨0xc00018, 0, 25, false⟩
def HEL_RETRY.MAPS : FieldRef := ⟨0xc00020, 0, 8, true⟩
def HEL_MEAS_CTL.START : FieldRef := ⟨0xc00028, 0, 1, false⟩
def HEL_MEAS_CTL.STOP : FieldRef := ⟨0xc00028, 1, 1, false⟩
def HEL_MEAS_BYTES.BYTES : FieldRef := ⟨0xc00030, 0, 64, false⟩
def HEL_MEAS_CYCLES.CYCLES : FieldRef := ⟨0xc00038, 0, 64, false⟩
def HEL_TRIG_CANCEL.SLOT : FieldRef := ⟨0xc00040, 0, 10, false⟩
def HEL_TRIG_CANCEL.GO : FieldRef := ⟨0xc00040, 16, 1, false⟩
def HEL_LAST_ERR.STATUS : FieldRef := ⟨0xc00048, 0, 8, false⟩
def HEL_LAST_ERR.OP : FieldRef := ⟨0xc00048, 8, 8, false⟩
def HEL_LAST_ERR.PART : FieldRef := ⟨0xc00048, 16, 6, false⟩
def HEL_LAST_ERR.MERIDIAN : FieldRef := ⟨0xc00048, 32, 32, false⟩
def HEL_ANCH_FULL.COUNT : FieldRef := ⟨0xc00050, 0, 64, false⟩
def HEL_MIRROR_FAILED.COUNT : FieldRef := ⟨0xc00058, 0, 64, false⟩
def HEL_UNRESOLVED.COUNT : FieldRef := ⟨0xc00060, 0, 64, false⟩
def HEL_STALE_EPOCH.COUNT : FieldRef := ⟨0xc00068, 0, 64, false⟩
def HEL_TRIG_FIRED.COUNT : FieldRef := ⟨0xc00070, 0, 64, false⟩
def HEL_P_NOTIFY.UNIT (i : Nat) : FieldRef := ⟨0xc04000 + 0x200 * i, 0, 8, true⟩
def HEL_P_NOTIFY.CTR (i : Nat) : FieldRef := ⟨0xc04000 + 0x200 * i, 8, 4, true⟩
def HEL_P_NOTIFY.EN (i : Nat) : FieldRef := ⟨0xc04000 + 0x200 * i, 12, 1, true⟩
def HEL_P_NOTIFY.DB_SOURCE (i : Nat) : FieldRef := ⟨0xc04000 + 0x200 * i, 16, 12, true⟩
def HEL_P_NOTIFY.DB_EN (i : Nat) : FieldRef := ⟨0xc04000 + 0x200 * i, 28, 1, true⟩
def HEL_P_HKEY.KEY (i : Nat) : FieldRef := ⟨0xc04008 + 0x200 * i, 0, 32, true⟩
def HEL_P_TRIG.QUOTA (i : Nat) : FieldRef := ⟨0xc04010 + 0x200 * i, 0, 11, true⟩
def HEL_P_USE.TRIGS (i : Nat) : FieldRef := ⟨0xc04018 + 0x200 * i, 0, 11, false⟩
def HEL_P_USE.HANDOVERS (i : Nat) : FieldRef := ⟨0xc04018 + 0x200 * i, 16, 11, false⟩
def HEL_P_BASE.DPA (j i : Nat) : FieldRef := ⟨0xc04020 + 0x200 * j + 0x20 * i, 0, 48, true⟩
def HEL_P_SIZE.ENTRIES (j i : Nat) : FieldRef := ⟨0xc04028 + 0x200 * j + 0x20 * i, 0, 17, true⟩
def HEL_P_HEAD0.INDEX (i : Nat) : FieldRef := ⟨0xc04030 + 0x200 * i, 0, 32, false⟩
def HEL_P_TAIL0.INDEX (i : Nat) : FieldRef := ⟨0xc04038 + 0x200 * i, 0, 32, false⟩
def HEL_P_HEAD1.INDEX (i : Nat) : FieldRef := ⟨0xc04050 + 0x200 * i, 0, 32, false⟩
def HEL_P_TAIL1.INDEX (i : Nat) : FieldRef := ⟨0xc04058 + 0x200 * i, 0, 32, false⟩
def HEL_P_TCTR.VALUE (j i : Nat) : FieldRef := ⟨0xc04060 + 0x200 * j + 0x8 * i, 0, 32, false⟩
def HEL_P_WRS.COUNT (i : Nat) : FieldRef := ⟨0xc040e0 + 0x200 * i, 0, 64, false⟩
def HEL_P_FAILED.COUNT (i : Nat) : FieldRef := ⟨0xc040e8 + 0x200 * i, 0, 64, false⟩
def HEL_P_OUT_DONE.COUNT (i : Nat) : FieldRef := ⟨0xc040f0 + 0x200 * i, 0, 64, false⟩
def HEL_P_TAKEBACK.COUNT (i : Nat) : FieldRef := ⟨0xc040f8 + 0x200 * i, 0, 64, false⟩
def HEL_P_IN_DONE.COUNT (i : Nat) : FieldRef := ⟨0xc04100 + 0x200 * i, 0, 64, false⟩
def HEL_P_CQ_STALL.COUNT (i : Nat) : FieldRef := ⟨0xc04108 + 0x200 * i, 0, 64, false⟩
def HEL_INFLIGHT_W0.TAG (i : Nat) : FieldRef := ⟨0xc10000 + 0x20 * i, 0, 32, false⟩
def HEL_INFLIGHT_W0.ISSUER (i : Nat) : FieldRef := ⟨0xc10000 + 0x20 * i, 32, 8, false⟩
def HEL_INFLIGHT_W0.OP (i : Nat) : FieldRef := ⟨0xc10000 + 0x20 * i, 40, 8, false⟩
def HEL_INFLIGHT_W0.PART (i : Nat) : FieldRef := ⟨0xc10000 + 0x20 * i, 48, 6, false⟩
def HEL_INFLIGHT_W0.VALID (i : Nat) : FieldRef := ⟨0xc10000 + 0x20 * i, 56, 1, false⟩
def HEL_INFLIGHT_W1.PROGRESS (i : Nat) : FieldRef := ⟨0xc10008 + 0x20 * i, 0, 64, false⟩
def HEL_INFLIGHT_W2.SENT (i : Nat) : FieldRef := ⟨0xc10010 + 0x20 * i, 0, 64, false⟩
def HEL_INFLIGHT_W3.CONFIRMED (i : Nat) : FieldRef := ⟨0xc10018 + 0x20 * i, 0, 64, false⟩
def HEL_TRIG_WR.WR (j i : Nat) : FieldRef := ⟨0xc20000 + 0x80 * j + 0x8 * i, 0, 64, false⟩
def HEL_TRIG_W8.VALID (i : Nat) : FieldRef := ⟨0xc20040 + 0x80 * i, 0, 1, false⟩
def HEL_TRIG_W8.PART (i : Nat) : FieldRef := ⟨0xc20040 + 0x80 * i, 1, 6, false⟩
def HEL_OUT_W0.RECORD (i : Nat) : FieldRef := ⟨0xc40000 + 0x40 * i, 0, 14, false⟩
def HEL_OUT_W0.PART (i : Nat) : FieldRef := ⟨0xc40000 + 0x40 * i, 14, 6, false⟩
def HEL_OUT_W0.VALID (i : Nat) : FieldRef := ⟨0xc40000 + 0x40 * i, 20, 1, false⟩
def HEL_OUT_W0.PEER (i : Nat) : FieldRef := ⟨0xc40000 + 0x40 * i, 32, 14, false⟩
def HEL_OUT_W1.REQ_ID (i : Nat) : FieldRef := ⟨0xc40008 + 0x40 * i, 0, 64, false⟩
def HEL_OUT_W2.EPOCH (i : Nat) : FieldRef := ⟨0xc40010 + 0x40 * i, 0, 32, false⟩
def HEL_OUT_W2.TOTAL (i : Nat) : FieldRef := ⟨0xc40010 + 0x40 * i, 32, 8, false⟩
def HEL_OUT_W3.BYTES (i : Nat) : FieldRef := ⟨0xc40018 + 0x40 * i, 0, 64, false⟩
def HEL_OUT_MASK.MASK (j i : Nat) : FieldRef := ⟨0xc40020 + 0x40 * j + 0x8 * i, 0, 64, false⟩
def HEL_IN_W0.RECORD (i : Nat) : FieldRef := ⟨0xc50000 + 0x40 * i, 0, 14, false⟩
def HEL_IN_W0.PART (i : Nat) : FieldRef := ⟨0xc50000 + 0x40 * i, 14, 6, false⟩
def HEL_IN_W0.VALID (i : Nat) : FieldRef := ⟨0xc50000 + 0x40 * i, 20, 1, false⟩
def HEL_IN_W0.PEER (i : Nat) : FieldRef := ⟨0xc50000 + 0x40 * i, 32, 14, false⟩
def HEL_IN_W1.REQ_ID (i : Nat) : FieldRef := ⟨0xc50008 + 0x40 * i, 0, 64, false⟩
def HEL_IN_W2.EPOCH (i : Nat) : FieldRef := ⟨0xc50010 + 0x40 * i, 0, 32, false⟩
def HEL_IN_W2.TOTAL (i : Nat) : FieldRef := ⟨0xc50010 + 0x40 * i, 32, 8, false⟩
def HEL_IN_W3.BYTES (i : Nat) : FieldRef := ⟨0xc50018 + 0x40 * i, 0, 64, false⟩
def HEL_IN_MASK.MASK (j i : Nat) : FieldRef := ⟨0xc50020 + 0x40 * j + 0x8 * i, 0, 64, false⟩

def STW_STATE.MIGRATING : FieldRef := ⟨0x1000000, 0, 8, false⟩
def STW_STATE.REC_QUEUE : FieldRef := ⟨0x1000000, 8, 8, false⟩
def STW_STATE.SWEEPING : FieldRef := ⟨0x1000000, 16, 1, false⟩
def STW_TC_MISS.COUNT : FieldRef := ⟨0x1000008, 0, 64, false⟩
def STW_LAST_ERR.STATUS : FieldRef := ⟨0x1000010, 0, 8, false⟩
def STW_LAST_ERR.PART : FieldRef := ⟨0x1000010, 8, 6, false⟩
def STW_LAST_ERR.MERIDIAN : FieldRef := ⟨0x1000010, 32, 32, false⟩
def STW_MIG_STATUS.STATUS (i : Nat) : FieldRef := ⟨0x1000100 + 0x8 * i, 0, 8, false⟩
def STW_MIG_STATUS.UNIT (i : Nat) : FieldRef := ⟨0x1000100 + 0x8 * i, 16, 44, false⟩
def STW_P_SPACE.UNITS (j i : Nat) : FieldRef := ⟨0x1004000 + 0x200 * j + 0x8 * i, 0, 32, true⟩
def STW_P_MAP.DPA (j i : Nat) : FieldRef := ⟨0x1004030 + 0x200 * j + 0x8 * i, 0, 48, true⟩
def STW_P_GROUP.FRAMES (i : Nat) : FieldRef := ⟨0x1004060 + 0x200 * i, 0, 12, true⟩
def STW_P_GTBL.DPA (i : Nat) : FieldRef := ⟨0x1004068 + 0x200 * i, 0, 48, true⟩
def STW_P_POLICY.PARK_TIER (i : Nat) : FieldRef := ⟨0x1004070 + 0x200 * i, 0, 2, true⟩
def STW_P_POLICY.RUN_GROUPS (i : Nat) : FieldRef := ⟨0x1004070 + 0x200 * i, 8, 8, true⟩
def STW_P_T1.LOW (i : Nat) : FieldRef := ⟨0x1004078 + 0x200 * i, 0, 26, true⟩
def STW_P_T1.HIGH (i : Nat) : FieldRef := ⟨0x1004078 + 0x200 * i, 32, 26, true⟩
def STW_P_T1R.DIRECT_FRAMES (i : Nat) : FieldRef := ⟨0x1004080 + 0x200 * i, 0, 18, true⟩
def STW_P_GRAB.ENTRY (i : Nat) : FieldRef := ⟨0x1004088 + 0x200 * i, 0, 64, false⟩
def STW_P_REC.RECORD (i : Nat) : FieldRef := ⟨0x1004090 + 0x200 * i, 0, 14, false⟩
def STW_P_REC.GEN (i : Nat) : FieldRef := ⟨0x1004090 + 0x200 * i, 16, 16, false⟩
def STW_P_REC.OP (i : Nat) : FieldRef := ⟨0x1004090 + 0x200 * i, 32, 2, false⟩
def STW_P_REC.TIER (i : Nat) : FieldRef := ⟨0x1004090 + 0x200 * i, 36, 2, false⟩
def STW_P_REC_RESULT.STATUS (i : Nat) : FieldRef := ⟨0x1004098 + 0x200 * i, 0, 8, false⟩
def STW_P_REC_RESULT.BUSY (i : Nat) : FieldRef := ⟨0x1004098 + 0x200 * i, 8, 1, false⟩
def STW_P_REC_RESULT.RECORD (i : Nat) : FieldRef := ⟨0x1004098 + 0x200 * i, 16, 14, false⟩
def STW_P_NOTIFY.DB_SOURCE (i : Nat) : FieldRef := ⟨0x10040a0 + 0x200 * i, 0, 12, true⟩
def STW_P_NOTIFY.EN (i : Nat) : FieldRef := ⟨0x10040a0 + 0x200 * i, 16, 1, true⟩
def STW_P_FREE.T1 (i : Nat) : FieldRef := ⟨0x10040a8 + 0x200 * i, 0, 26, false⟩
def STW_P_FREE2.T2 (i : Nat) : FieldRef := ⟨0x10040b0 + 0x200 * i, 0, 32, false⟩
def STW_P_FREE2.T3 (i : Nat) : FieldRef := ⟨0x10040b0 + 0x200 * i, 32, 32, false⟩
def STW_P_KEYCMD.ROTATE (i : Nat) : FieldRef := ⟨0x10040b8 + 0x200 * i, 0, 1, false⟩
def STW_P_KEYCMD.FORCE_RETIRE (i : Nat) : FieldRef := ⟨0x10040b8 + 0x200 * i, 1, 1, false⟩
def STW_P_KEYSW.SWITCH (i : Nat) : FieldRef := ⟨0x10040c0 + 0x200 * i, 0, 1, true⟩
def STW_P_KEYSTAT.A_STATE (i : Nat) : FieldRef := ⟨0x10040c8 + 0x200 * i, 0, 3, false⟩
def STW_P_KEYSTAT.A_GEN (i : Nat) : FieldRef := ⟨0x10040c8 + 0x200 * i, 8, 8, false⟩
def STW_P_KEYSTAT.B_STATE (i : Nat) : FieldRef := ⟨0x10040c8 + 0x200 * i, 16, 3, false⟩
def STW_P_KEYSTAT.B_GEN (i : Nat) : FieldRef := ⟨0x10040c8 + 0x200 * i, 24, 8, false⟩
def STW_P_KEYSTAT.WRITE_SLOT (i : Nat) : FieldRef := ⟨0x10040c8 + 0x200 * i, 32, 1, false⟩
def STW_P_KEYSTAT.SWEEPING (i : Nat) : FieldRef := ⟨0x10040c8 + 0x200 * i, 33, 1, false⟩
def STW_P_KEYSTAT.LAST_STATUS (i : Nat) : FieldRef := ⟨0x10040c8 + 0x200 * i, 40, 8, false⟩
def STW_P_INUSE.A (i : Nat) : FieldRef := ⟨0x10040d0 + 0x200 * i, 0, 32, false⟩
def STW_P_INUSE.B (i : Nat) : FieldRef := ⟨0x10040d0 + 0x200 * i, 32, 32, false⟩
def STW_P_SWEEP.FRAMES (i : Nat) : FieldRef := ⟨0x10040d8 + 0x200 * i, 0, 8, true⟩
def STW_P_SWEEP_POS.DONE (i : Nat) : FieldRef := ⟨0x10040e0 + 0x200 * i, 0, 32, false⟩
def STW_P_MIGRATIONS.COUNT (i : Nat) : FieldRef := ⟨0x10040e8 + 0x200 * i, 0, 64, false⟩
def STW_P_MIG_FAILED.COUNT (i : Nat) : FieldRef := ⟨0x10040f0 + 0x200 * i, 0, 64, false⟩
def STW_P_DEMOTED.COUNT (i : Nat) : FieldRef := ⟨0x10040f8 + 0x200 * i, 0, 64, false⟩
def STW_P_EXPIRED.COUNT (i : Nat) : FieldRef := ⟨0x1004100 + 0x200 * i, 0, 64, false⟩
def STW_P_GEN_GONE.COUNT (i : Nat) : FieldRef := ⟨0x1004108 + 0x200 * i, 0, 64, false⟩
def STW_P_HOME_REFUSED.COUNT (i : Nat) : FieldRef := ⟨0x1004110 + 0x200 * i, 0, 64, false⟩
def STW_P_CM_MISSED.COUNT (i : Nat) : FieldRef := ⟨0x1004118 + 0x200 * i, 0, 64, false⟩
def STW_P_T2_W0.DPA (j i : Nat) : FieldRef := ⟨0x1004120 + 0x200 * j + 0x10 * i, 0, 48, true⟩
def STW_P_T2_W1.FRAMES (j i : Nat) : FieldRef := ⟨0x1004128 + 0x200 * j + 0x10 * i, 0, 24, true⟩
def STW_P_T3_W0.GFA (j i : Nat) : FieldRef := ⟨0x10041a0 + 0x200 * j + 0x18 * i, 0, 64, true⟩
def STW_P_T3_W1.KEY (j i : Nat) : FieldRef := ⟨0x10041a8 + 0x200 * j + 0x18 * i, 0, 32, true⟩
def STW_P_T3_W2.FRAMES (j i : Nat) : FieldRef := ⟨0x10041b0 + 0x200 * j + 0x18 * i, 0, 24, true⟩

def FAB_LINK_STATE.STATE (port : Nat) : FieldRef := ⟨0x1400000 + 0x100000 * port, 0, 3, false⟩
def FAB_LINK_STATE.ACTIVE_LANES (port : Nat) : FieldRef := ⟨0x1400000 + 0x100000 * port, 8, 5, false⟩
def FAB_LINK_STATE.ATTEMPTS (port : Nat) : FieldRef := ⟨0x1400000 + 0x100000 * port, 16, 8, false⟩
def FAB_LINK_STATE.ACTIVE_MASK (port : Nat) : FieldRef := ⟨0x1400000 + 0x100000 * port, 32, 20, false⟩
def FAB_LINK_CFG.EN (port : Nat) : FieldRef := ⟨0x1400008 + 0x100000 * port, 0, 1, true⟩
def FAB_LINK_CFG.MIN_LANES (port : Nat) : FieldRef := ⟨0x1400008 + 0x100000 * port, 8, 5, true⟩
def FAB_LINK_CFG.AUTO_SUBST (port : Nat) : FieldRef := ⟨0x1400008 + 0x100000 * port, 16, 1, true⟩
def FAB_LINK_CFG.AUTO_RECAL (port : Nat) : FieldRef := ⟨0x1400008 + 0x100000 * port, 17, 1, true⟩
def FAB_LINK_CFG.RETRAIN_LIMIT (port : Nat) : FieldRef := ⟨0x1400008 + 0x100000 * port, 24, 8, true⟩
def FAB_LINK_CFG.DB_SOURCE (port : Nat) : FieldRef := ⟨0x1400008 + 0x100000 * port, 32, 12, true⟩
def FAB_PARTNER.NODE (port : Nat) : FieldRef := ⟨0x1400010 + 0x100000 * port, 0, 14, false⟩
def FAB_PARTNER.PORT (port : Nat) : FieldRef := ⟨0x1400010 + 0x100000 * port, 16, 2, false⟩
def FAB_PARTNER.VALID (port : Nat) : FieldRef := ⟨0x1400010 + 0x100000 * port, 20, 1, false⟩
def FAB_LANE_MAP0.POS0 (port : Nat) : FieldRef := ⟨0x1400018 + 0x100000 * port, 0, 5, false⟩
def FAB_LANE_MAP0.POS1 (port : Nat) : FieldRef := ⟨0x1400018 + 0x100000 * port, 8, 5, false⟩
def FAB_LANE_MAP0.POS2 (port : Nat) : FieldRef := ⟨0x1400018 + 0x100000 * port, 16, 5, false⟩
def FAB_LANE_MAP0.POS3 (port : Nat) : FieldRef := ⟨0x1400018 + 0x100000 * port, 24, 5, false⟩
def FAB_LANE_MAP0.POS4 (port : Nat) : FieldRef := ⟨0x1400018 + 0x100000 * port, 32, 5, false⟩
def FAB_LANE_MAP0.POS5 (port : Nat) : FieldRef := ⟨0x1400018 + 0x100000 * port, 40, 5, false⟩
def FAB_LANE_MAP0.POS6 (port : Nat) : FieldRef := ⟨0x1400018 + 0x100000 * port, 48, 5, false⟩
def FAB_LANE_MAP0.POS7 (port : Nat) : FieldRef := ⟨0x1400018 + 0x100000 * port, 56, 5, false⟩
def FAB_LANE_MAP1.POS8 (port : Nat) : FieldRef := ⟨0x1400020 + 0x100000 * port, 0, 5, false⟩
def FAB_LANE_MAP1.POS9 (port : Nat) : FieldRef := ⟨0x1400020 + 0x100000 * port, 8, 5, false⟩
def FAB_LANE_MAP1.POS10 (port : Nat) : FieldRef := ⟨0x1400020 + 0x100000 * port, 16, 5, false⟩
def FAB_LANE_MAP1.POS11 (port : Nat) : FieldRef := ⟨0x1400020 + 0x100000 * port, 24, 5, false⟩
def FAB_LANE_MAP1.POS12 (port : Nat) : FieldRef := ⟨0x1400020 + 0x100000 * port, 32, 5, false⟩
def FAB_LANE_MAP1.POS13 (port : Nat) : FieldRef := ⟨0x1400020 + 0x100000 * port, 40, 5, false⟩
def FAB_LANE_MAP1.POS14 (port : Nat) : FieldRef := ⟨0x1400020 + 0x100000 * port, 48, 5, false⟩
def FAB_LANE_MAP1.POS15 (port : Nat) : FieldRef := ⟨0x1400020 + 0x100000 * port, 56, 5, false⟩
def FAB_SUBST.LANE (port : Nat) : FieldRef := ⟨0x1400028 + 0x100000 * port, 0, 5, false⟩
def FAB_SUBST.GO (port : Nat) : FieldRef := ⟨0x1400028 + 0x100000 * port, 8, 1, false⟩
def FAB_RECAL.GO (port : Nat) : FieldRef := ⟨0x1400030 + 0x100000 * port, 0, 1, false⟩
def FAB_RECAL_STATUS.BUSY (port : Nat) : FieldRef := ⟨0x1400038 + 0x100000 * port, 0, 1, false⟩
def FAB_RECAL_STATUS.LANE (port : Nat) : FieldRef := ⟨0x1400038 + 0x100000 * port, 8, 5, false⟩
def FAB_RECAL_STATUS.LAST_AT (port : Nat) : FieldRef := ⟨0x1400038 + 0x100000 * port, 32, 32, false⟩
def FAB_BLOCKS_TX.COUNT (port : Nat) : FieldRef := ⟨0x1400040 + 0x100000 * port, 0, 64, false⟩
def FAB_BLOCKS_RX.COUNT (port : Nat) : FieldRef := ⟨0x1400048 + 0x100000 * port, 0, 64, false⟩
def FAB_RESENT.COUNT (port : Nat) : FieldRef := ⟨0x1400050 + 0x100000 * port, 0, 64, false⟩
def FAB_CHECK_FAIL.COUNT (port : Nat) : FieldRef := ⟨0x1400058 + 0x100000 * port, 0, 64, false⟩
def FAB_DUPLICATES.COUNT (port : Nat) : FieldRef := ⟨0x1400060 + 0x100000 * port, 0, 64, false⟩
def FAB_RETRAINS.COUNT (port : Nat) : FieldRef := ⟨0x1400068 + 0x100000 * port, 0, 64, false⟩
def FAB_SUBSTS.COUNT (port : Nat) : FieldRef := ⟨0x1400070 + 0x100000 * port, 0, 64, false⟩
def FAB_LC_CTL.EJECT_A (port : Nat) : FieldRef := ⟨0x1400080 + 0x100000 * port, 0, 1, false⟩
def FAB_LC_CTL.EJECT_B (port : Nat) : FieldRef := ⟨0x1400080 + 0x100000 * port, 1, 1, false⟩
def FAB_LC_STATE.A_STATE (port : Nat) : FieldRef := ⟨0x1400088 + 0x100000 * port, 0, 3, false⟩
def FAB_LC_STATE.B_STATE (port : Nat) : FieldRef := ⟨0x1400088 + 0x100000 * port, 8, 3, false⟩
def FAB_LC_STATE.FEED (port : Nat) : FieldRef := ⟨0x1400088 + 0x100000 * port, 16, 4, false⟩
def FAB_LC_A_MON.POWER_CDBM (port : Nat) : FieldRef := ⟨0x1400090 + 0x100000 * port, 0, 16, false⟩
def FAB_LC_A_MON.TEMP (port : Nat) : FieldRef := ⟨0x1400090 + 0x100000 * port, 16, 8, false⟩
def FAB_LC_A_MON.HOURS (port : Nat) : FieldRef := ⟨0x1400090 + 0x100000 * port, 32, 32, false⟩
def FAB_LC_B_MON.POWER_CDBM (port : Nat) : FieldRef := ⟨0x1400098 + 0x100000 * port, 0, 16, false⟩
def FAB_LC_B_MON.TEMP (port : Nat) : FieldRef := ⟨0x1400098 + 0x100000 * port, 16, 8, false⟩
def FAB_LC_B_MON.HOURS (port : Nat) : FieldRef := ⟨0x1400098 + 0x100000 * port, 32, 32, false⟩
def FAB_TP_CFG.RESEND_US (port : Nat) : FieldRef := ⟨0x1400400 + 0x100000 * port, 0, 16, true⟩
def FAB_TP_CFG.RETRIES (port : Nat) : FieldRef := ⟨0x1400400 + 0x100000 * port, 16, 8, true⟩
def FAB_TP_CFG.OPEN_TRIES (port : Nat) : FieldRef := ⟨0x1400400 + 0x100000 * port, 24, 8, true⟩
def FAB_TP_CFG.S_TIMEOUT_US (port : Nat) : FieldRef := ⟨0x1400400 + 0x100000 * port, 32, 16, true⟩
def FAB_TP_CFG.BUSY_RETRY_US (port : Nat) : FieldRef := ⟨0x1400400 + 0x100000 * port, 48, 8, true⟩
def FAB_TP_POOL.INIT_GRANT (port : Nat) : FieldRef := ⟨0x1400408 + 0x100000 * port, 0, 16, true⟩
def FAB_TP_POOL.CONN_MAX (port : Nat) : FieldRef := ⟨0x1400408 + 0x100000 * port, 16, 18, true⟩
def FAB_TP_POOL.IDLE_REVOKE (port : Nat) : FieldRef := ⟨0x1400408 + 0x100000 * port, 48, 16, true⟩
def FAB_CTX_BASE_HA.DPA (port : Nat) : FieldRef := ⟨0x1400410 + 0x100000 * port, 0, 48, true⟩
def FAB_CTX_BASE_HB.DPA (port : Nat) : FieldRef := ⟨0x1400418 + 0x100000 * port, 0, 48, true⟩
def FAB_CTX_CMD.CTX (port : Nat) : FieldRef := ⟨0x1400420 + 0x100000 * port, 0, 16, false⟩
def FAB_CTX_CMD.OP (port : Nat) : FieldRef := ⟨0x1400420 + 0x100000 * port, 16, 4, false⟩
def FAB_CTX_CMD.PART (port : Nat) : FieldRef := ⟨0x1400420 + 0x100000 * port, 24, 6, false⟩
def FAB_CTX_ARG.PEER_NODE (port : Nat) : FieldRef := ⟨0x1400428 + 0x100000 * port, 0, 14, false⟩
def FAB_CTX_ARG.PEER_PART (port : Nat) : FieldRef := ⟨0x1400428 + 0x100000 * port, 16, 6, false⟩
def FAB_CTX_ARG.PEER_CTX (port : Nat) : FieldRef := ⟨0x1400428 + 0x100000 * port, 32, 16, false⟩
def FAB_CTX_ARG.CIPHER (port : Nat) : FieldRef := ⟨0x1400428 + 0x100000 * port, 48, 1, false⟩
def FAB_TP_RESULT.STATUS (port : Nat) : FieldRef := ⟨0x1400430 + 0x100000 * port, 0, 8, false⟩
def FAB_TP_RESULT.STATE (port : Nat) : FieldRef := ⟨0x1400430 + 0x100000 * port, 8, 3, false⟩
def FAB_TP_RESULT.CACHED (port : Nat) : FieldRef := ⟨0x1400430 + 0x100000 * port, 11, 1, false⟩
def FAB_TP_RESULT.PINNED (port : Nat) : FieldRef := ⟨0x1400430 + 0x100000 * port, 12, 1, false⟩
def FAB_TP_RESULT.BUSY (port : Nat) : FieldRef := ⟨0x1400430 + 0x100000 * port, 13, 1, false⟩
def FAB_TP_RESULT.TX_GEN (port : Nat) : FieldRef := ⟨0x1400430 + 0x100000 * port, 16, 8, false⟩
def FAB_TP_RESULT.OLD_GEN (port : Nat) : FieldRef := ⟨0x1400430 + 0x100000 * port, 24, 8, false⟩
def FAB_TP_RESULT.SEQ (port : Nat) : FieldRef := ⟨0x1400430 + 0x100000 * port, 32, 32, false⟩
def FAB_CTX_STATE.CACHED (port : Nat) : FieldRef := ⟨0x1400438 + 0x100000 * port, 0, 13, false⟩
def FAB_CTX_STATE.PINNED (port : Nat) : FieldRef := ⟨0x1400438 + 0x100000 * port, 16, 13, false⟩
def FAB_CTX_STATE.MISS_BUF (port : Nat) : FieldRef := ⟨0x1400438 + 0x100000 * port, 32, 7, false⟩
def FAB_CTX_STATE.MSGS (port : Nat) : FieldRef := ⟨0x1400438 + 0x100000 * port, 40, 14, false⟩
def FAB_RLC_CMD.PART (port : Nat) : FieldRef := ⟨0x1400440 + 0x100000 * port, 0, 6, false⟩
def FAB_RLC_CMD.GO (port : Nat) : FieldRef := ⟨0x1400440 + 0x100000 * port, 8, 1, false⟩
def FAB_TP_LAST_NACK.STATUS (port : Nat) : FieldRef := ⟨0x1400448 + 0x100000 * port, 0, 8, false⟩
def FAB_TP_LAST_NACK.KIND (port : Nat) : FieldRef := ⟨0x1400448 + 0x100000 * port, 8, 8, false⟩
def FAB_TP_LAST_NACK.NODE (port : Nat) : FieldRef := ⟨0x1400448 + 0x100000 * port, 16, 14, false⟩
def FAB_TP_LAST_NACK.MERIDIAN (port : Nat) : FieldRef := ⟨0x1400448 + 0x100000 * port, 32, 32, false⟩
def FAB_TP_CTX_MISS.COUNT (port : Nat) : FieldRef := ⟨0x1400450 + 0x100000 * port, 0, 64, false⟩
def FAB_TP_CTX_BUSY.COUNT (port : Nat) : FieldRef := ⟨0x1400458 + 0x100000 * port, 0, 64, false⟩
def FAB_TP_EVICT.COUNT (port : Nat) : FieldRef := ⟨0x1400460 + 0x100000 * port, 0, 64, false⟩
def FAB_TP_DUP.COUNT (port : Nat) : FieldRef := ⟨0x1400468 + 0x100000 * port, 0, 64, false⟩
def FAB_TP_KEY_MISMATCH.COUNT (port : Nat) : FieldRef := ⟨0x1400470 + 0x100000 * port, 0, 64, false⟩
def FAB_TP_AUTH_FAIL.COUNT (port : Nat) : FieldRef := ⟨0x1400478 + 0x100000 * port, 0, 64, false⟩
def FAB_TP_MSG_FULL.COUNT (port : Nat) : FieldRef := ⟨0x1400480 + 0x100000 * port, 0, 64, false⟩
def FAB_TP_LATE.COUNT (port : Nat) : FieldRef := ⟨0x1400488 + 0x100000 * port, 0, 64, false⟩
def FAB_TP_RESENT.COUNT (port : Nat) : FieldRef := ⟨0x1400490 + 0x100000 * port, 0, 64, false⟩
def FAB_TP_AHEAD.COUNT (port : Nat) : FieldRef := ⟨0x1400498 + 0x100000 * port, 0, 64, false⟩
def FAB_TP_STALE_TX.COUNT (port : Nat) : FieldRef := ⟨0x14004a0 + 0x100000 * port, 0, 64, false⟩
def FAB_TP_STALE_HELD.COUNT (port : Nat) : FieldRef := ⟨0x14004a8 + 0x100000 * port, 0, 64, false⟩
def FAB_TP_CREDIT_WAIT.COUNT (port : Nat) : FieldRef := ⟨0x14004b0 + 0x100000 * port, 0, 64, false⟩
def FAB_RLC_HIT.COUNT (port : Nat) : FieldRef := ⟨0x14004b8 + 0x100000 * port, 0, 64, false⟩
def FAB_RLC_MISS.COUNT (port : Nat) : FieldRef := ⟨0x14004c0 + 0x100000 * port, 0, 64, false⟩
def FAB_TP_INVAL_RX.COUNT (port : Nat) : FieldRef := ⟨0x14004c8 + 0x100000 * port, 0, 64, false⟩
def FAB_STALL.NODE (port i : Nat) : FieldRef := ⟨0x1400700 + 0x100000 * port + 0x8 * i, 0, 14, false⟩
def FAB_STALL.PART (port i : Nat) : FieldRef := ⟨0x1400700 + 0x100000 * port + 0x8 * i, 14, 6, false⟩
def FAB_STALL.OP (port i : Nat) : FieldRef := ⟨0x1400700 + 0x100000 * port + 0x8 * i, 20, 8, false⟩
def FAB_STALL.VALID (port i : Nat) : FieldRef := ⟨0x1400700 + 0x100000 * port + 0x8 * i, 28, 1, false⟩
def FAB_STALL.AGE (port i : Nat) : FieldRef := ⟨0x1400700 + 0x100000 * port + 0x8 * i, 32, 32, false⟩
def FAB_P_CFG.CREDIT_SHARE (port i : Nat) : FieldRef := ⟨0x1400800 + 0x100000 * port + 0x10 * i, 0, 18, true⟩
def FAB_P_CFG.RLC_EN (port i : Nat) : FieldRef := ⟨0x1400800 + 0x100000 * port + 0x10 * i, 24, 1, true⟩
def FAB_P_CFG.DB_SOURCE (port i : Nat) : FieldRef := ⟨0x1400800 + 0x100000 * port + 0x10 * i, 32, 12, true⟩
def FAB_P_CFG.DB_EN (port i : Nat) : FieldRef := ⟨0x1400800 + 0x100000 * port + 0x10 * i, 44, 1, true⟩
def FAB_P_RGN_CMD.INDEX (port i : Nat) : FieldRef := ⟨0x1400808 + 0x100000 * port + 0x10 * i, 0, 8, false⟩
def FAB_P_RGN_CMD.OP (port i : Nat) : FieldRef := ⟨0x1400808 + 0x100000 * port + 0x10 * i, 8, 2, false⟩
def FAB_P_RGN_CMD.DESC (port i : Nat) : FieldRef := ⟨0x1400808 + 0x100000 * port + 0x10 * i, 16, 48, false⟩
def FAB_LANE_THRESH.UCW_LIMIT (port : Nat) : FieldRef := ⟨0x1402000 + 0x100000 * port, 0, 16, false⟩
def FAB_LANE_W0.CORRECTED (port i : Nat) : FieldRef := ⟨0x1404000 + 0x100000 * port + 0x20 * i, 0, 64, false⟩
def FAB_LANE_W1.UNCORRECTED (port i : Nat) : FieldRef := ⟨0x1404008 + 0x100000 * port + 0x20 * i, 0, 64, false⟩
def FAB_LANE_W2.RX_OMA (port i : Nat) : FieldRef := ⟨0x1404010 + 0x100000 * port + 0x20 * i, 0, 16, false⟩
def FAB_LANE_W2.TX_OMA (port i : Nat) : FieldRef := ⟨0x1404010 + 0x100000 * port + 0x20 * i, 16, 16, false⟩
def FAB_LANE_W2.LSTATE (port i : Nat) : FieldRef := ⟨0x1404010 + 0x100000 * port + 0x20 * i, 32, 3, false⟩
def FAB_LANE_W3.CAL_AT (port i : Nat) : FieldRef := ⟨0x1404018 + 0x100000 * port + 0x20 * i, 0, 32, false⟩
def FAB_RGN_W0.BASE (port j i : Nat) : FieldRef := ⟨0x1480000 + 0x100000 * port + 0x2000 * j + 0x20 * i, 0, 44, false⟩
def FAB_RGN_W0.VALID (port j i : Nat) : FieldRef := ⟨0x1480000 + 0x100000 * port + 0x2000 * j + 0x20 * i, 63, 1, false⟩
def FAB_RGN_W1.LEN (port j i : Nat) : FieldRef := ⟨0x1480008 + 0x100000 * port + 0x2000 * j + 0x20 * i, 0, 44, false⟩
def FAB_RGN_W2.TARGET (port j i : Nat) : FieldRef := ⟨0x1480010 + 0x100000 * port + 0x2000 * j + 0x20 * i, 0, 57, false⟩
def FAB_RGN_W2.PHYS (port j i : Nat) : FieldRef := ⟨0x1480010 + 0x100000 * port + 0x2000 * j + 0x20 * i, 63, 1, false⟩
def FAB_RGN_W3.KEY (port j i : Nat) : FieldRef := ⟨0x1480018 + 0x100000 * port + 0x2000 * j + 0x20 * i, 0, 32, false⟩
def FAB_RGN_W3.RD (port j i : Nat) : FieldRef := ⟨0x1480018 + 0x100000 * port + 0x2000 * j + 0x20 * i, 32, 1, false⟩
def FAB_RGN_W3.WR (port j i : Nat) : FieldRef := ⟨0x1480018 + 0x100000 * port + 0x2000 * j + 0x20 * i, 33, 1, false⟩
def FAB_RGN_W3.ATOM (port j i : Nat) : FieldRef := ⟨0x1480018 + 0x100000 * port + 0x2000 * j + 0x20 * i, 34, 1, false⟩
def FAB_RGN_W3.CACHE (port j i : Nat) : FieldRef := ⟨0x1480018 + 0x100000 * port + 0x2000 * j + 0x20 * i, 35, 1, false⟩

def ORR_CFG.MODE : FieldRef := ⟨0x1800000, 0, 1, true⟩
def ORR_CFG.AUTO_RECOVER : FieldRef := ⟨0x1800000, 1, 1, true⟩
def ORR_CFG.RECOVER_HOLD : FieldRef := ⟨0x1800000, 8, 16, true⟩
def ORR_CFG.EXPRESS_MAX : FieldRef := ⟨0x1800000, 24, 8, true⟩
def ORR_STATE.MODE : FieldRef := ⟨0x1800008, 0, 1, false⟩
def ORR_STATE.AUTO : FieldRef := ⟨0x1800008, 1, 1, false⟩
def ORR_STATE.SLOT : FieldRef := ⟨0x1800008, 16, 12, false⟩
def ORR_STATE.GRANT : FieldRef := ⟨0x1800008, 32, 13, false⟩
def ORR_STATE.QUEUED : FieldRef := ⟨0x1800008, 48, 15, false⟩
def ORR_CLASS_W.WEIGHT0 : FieldRef := ⟨0x1800010, 0, 8, true⟩
def ORR_CLASS_W.WEIGHT1 : FieldRef := ⟨0x1800010, 8, 8, true⟩
def ORR_CLASS_W.WEIGHT2 : FieldRef := ⟨0x1800010, 16, 8, true⟩
def ORR_CLASS_W.WEIGHT3 : FieldRef := ⟨0x1800010, 24, 8, true⟩
def ORR_CLASS_W.WEIGHT4 : FieldRef := ⟨0x1800010, 32, 8, true⟩
def ORR_CLASS_W.WEIGHT5 : FieldRef := ⟨0x1800010, 40, 8, true⟩
def ORR_CLASS_W.WEIGHT6 : FieldRef := ⟨0x1800010, 48, 8, true⟩
def ORR_CLASS_W.WEIGHT7 : FieldRef := ⟨0x1800010, 56, 8, true⟩
def ORR_MODE_SWITCHES.COUNT : FieldRef := ⟨0x1800018, 0, 64, false⟩
def ORR_EXPRESS.COUNT : FieldRef := ⟨0x1800020, 0, 64, false⟩
def ORR_GATE_LATE.COUNT : FieldRef := ⟨0x1800028, 0, 64, false⟩
def ORR_G_CFG.GATE_EN (i : Nat) : FieldRef := ⟨0x1800100 + 0x8 * i, 0, 1, true⟩
def ORR_G_CFG.GUARD (i : Nat) : FieldRef := ⟨0x1800100 + 0x8 * i, 4, 12, true⟩
def ORR_P_KINDMAP.CLASSES (i : Nat) : FieldRef := ⟨0x1804000 + 0x200 * i, 0, 24, true⟩
def ORR_P_WHEEL.BURST_KIB (i : Nat) : FieldRef := ⟨0x1804008 + 0x200 * i, 0, 16, true⟩
def ORR_P_WHEEL.SPILL (i : Nat) : FieldRef := ⟨0x1804008 + 0x200 * i, 16, 1, true⟩
def ORR_P_BUCKET.RATE (i : Nat) : FieldRef := ⟨0x1804010 + 0x200 * i, 0, 21, true⟩
def ORR_P_BUCKET.BURST_KIB (i : Nat) : FieldRef := ⟨0x1804010 + 0x200 * i, 32, 16, true⟩
def ORR_P_STATE.SLOTS (i : Nat) : FieldRef := ⟨0x1804018 + 0x200 * i, 0, 13, false⟩
def ORR_P_STATE.ALLOWANCE (i : Nat) : FieldRef := ⟨0x1804018 + 0x200 * i, 32, 32, false⟩
def ORR_PC_BYTES.COUNT (j i : Nat) : FieldRef := ⟨0x1804080 + 0x200 * j + 0x30 * i, 0, 64, false⟩
def ORR_PC_WAIT_CREDIT.COUNT (j i : Nat) : FieldRef := ⟨0x1804088 + 0x200 * j + 0x30 * i, 0, 64, false⟩
def ORR_PC_WAIT_GATE.COUNT (j i : Nat) : FieldRef := ⟨0x1804090 + 0x200 * j + 0x30 * i, 0, 64, false⟩
def ORR_PC_WAIT_ALLOW.COUNT (j i : Nat) : FieldRef := ⟨0x1804098 + 0x200 * j + 0x30 * i, 0, 64, false⟩
def ORR_PC_WAIT_CONTEND.COUNT (j i : Nat) : FieldRef := ⟨0x18040a0 + 0x200 * j + 0x30 * i, 0, 64, false⟩
def ORR_SLOT.SLOTS8 (i : Nat) : FieldRef := ⟨0x180c000 + 0x8 * i, 0, 64, true⟩
def ORR_GATE_W0.START (j i : Nat) : FieldRef := ⟨0x180d000 + 0x80 * j + 0x10 * i, 0, 15, true⟩
def ORR_GATE_W0.END (j i : Nat) : FieldRef := ⟨0x180d000 + 0x80 * j + 0x10 * i, 16, 15, true⟩
def ORR_GATE_W0.CLASSES (j i : Nat) : FieldRef := ⟨0x180d000 + 0x80 * j + 0x10 * i, 32, 8, true⟩
def ORR_GATE_W0.VALID (j i : Nat) : FieldRef := ⟨0x180d000 + 0x80 * j + 0x10 * i, 40, 1, true⟩
def ORR_FC_BYTES.COUNT (j i : Nat) : FieldRef := ⟨0x180e000 + 0x100 * j + 0x20 * i, 0, 64, false⟩
def ORR_FC_PACKETS.COUNT (j i : Nat) : FieldRef := ⟨0x180e008 + 0x100 * j + 0x20 * i, 0, 64, false⟩
def ORR_FC_WAIT.COUNT (j i : Nat) : FieldRef := ⟨0x180e010 + 0x100 * j + 0x20 * i, 0, 64, false⟩

def GAL_STATE.GALLERY (g : Nat) : FieldRef := ⟨0x1c00000 + 0x40000 * g, 0, 4, false⟩
def GAL_STATE.WING (g : Nat) : FieldRef := ⟨0x1c00000 + 0x40000 * g, 4, 1, false⟩
def GAL_STATE.ACTIVE_BAYS (g : Nat) : FieldRef := ⟨0x1c00000 + 0x40000 * g, 8, 5, false⟩
def GAL_STATE.RATE_OVER (g : Nat) : FieldRef := ⟨0x1c00000 + 0x40000 * g, 16, 1, false⟩
def GAL_STATE.RESIDENT_OVERFLOW (g : Nat) : FieldRef := ⟨0x1c00000 + 0x40000 * g, 17, 1, false⟩
def GAL_STATE.SPLIT (g : Nat) : FieldRef := ⟨0x1c00000 + 0x40000 * g, 18, 1, false⟩
def GAL_BAYPART0.ALL (g : Nat) : FieldRef := ⟨0x1c00008 + 0x40000 * g, 0, 64, false⟩
def GAL_BAYPART1.ALL (g : Nat) : FieldRef := ⟨0x1c00010 + 0x40000 * g, 0, 64, false⟩
def GAL_DISPATCH.GROUP (g : Nat) : FieldRef := ⟨0x1c00018 + 0x40000 * g, 0, 4, true⟩
def GAL_DISPATCH.SLOTS (g : Nat) : FieldRef := ⟨0x1c00018 + 0x40000 * g, 8, 4, true⟩
def GAL_DISPATCH.KCTR (g : Nat) : FieldRef := ⟨0x1c00018 + 0x40000 * g, 16, 4, true⟩
def GAL_HBM.RATE (g : Nat) : FieldRef := ⟨0x1c00020 + 0x40000 * g, 0, 32, true⟩
def GAL_STORE.T0_BASE (g : Nat) : FieldRef := ⟨0x1c00028 + 0x40000 * g, 0, 26, true⟩
def GAL_PREEMPT.REQ (g : Nat) : FieldRef := ⟨0x1c00030 + 0x40000 * g, 0, 1, true⟩
def GAL_PREEMPT.ENTRY (g : Nat) : FieldRef := ⟨0x1c00030 + 0x40000 * g, 16, 16, true⟩
def GAL_PREEMPT_STATUS.STATE (g : Nat) : FieldRef := ⟨0x1c00038 + 0x40000 * g, 0, 3, false⟩
def GAL_PREEMPT_STATUS.SAVE_VALID (g : Nat) : FieldRef := ⟨0x1c00038 + 0x40000 * g, 4, 1, false⟩
def GAL_PREEMPT_STATUS.LAST_STATUS (g : Nat) : FieldRef := ⟨0x1c00038 + 0x40000 * g, 8, 8, false⟩
def GAL_PREEMPT_STATUS.SAVED_BYTES (g : Nat) : FieldRef := ⟨0x1c00038 + 0x40000 * g, 32, 32, false⟩
def GAL_SAVE_BASE.DPA (g : Nat) : FieldRef := ⟨0x1c00040 + 0x40000 * g, 0, 48, true⟩
def GAL_SAVE_SIZE.BYTES (g : Nat) : FieldRef := ⟨0x1c00048 + 0x40000 * g, 0, 32, true⟩
def GAL_PREEMPTIONS.COUNT (g : Nat) : FieldRef := ⟨0x1c00050 + 0x40000 * g, 0, 64, false⟩
def GAL_PREEMPT_TIME.SAVE_CYCLES (g : Nat) : FieldRef := ⟨0x1c00058 + 0x40000 * g, 0, 32, false⟩
def GAL_PREEMPT_TIME.RESTORE_CYCLES (g : Nat) : FieldRef := ⟨0x1c00058 + 0x40000 * g, 32, 32, false⟩
def GAL_BAYMAP.SPARE_FOR (g : Nat) : FieldRef := ⟨0x1c00060 + 0x40000 * g, 0, 4, false⟩
def GAL_BAYMAP.SPARE_STATE (g : Nat) : FieldRef := ⟨0x1c00060 + 0x40000 * g, 4, 2, false⟩
def GAL_BAYMAP.DATA_LOST (g : Nat) : FieldRef := ⟨0x1c00060 + 0x40000 * g, 8, 1, false⟩
def GAL_BAYMAP.LOST_MASK (g : Nat) : FieldRef := ⟨0x1c00060 + 0x40000 * g, 16, 16, false⟩
def GAL_BAYMAP.FAILED_POS (g : Nat) : FieldRef := ⟨0x1c00060 + 0x40000 * g, 32, 17, false⟩
def GAL_SUBST.INDEX (g : Nat) : FieldRef := ⟨0x1c00068 + 0x40000 * g, 0, 4, false⟩
def GAL_SUBST.GO (g : Nat) : FieldRef := ⟨0x1c00068 + 0x40000 * g, 8, 1, false⟩
def GAL_NUMEXC.COUNT (g : Nat) : FieldRef := ⟨0x1c00070 + 0x40000 * g, 0, 64, false⟩
def GAL_TILE_REFUSED.COUNT (g : Nat) : FieldRef := ⟨0x1c00078 + 0x40000 * g, 0, 64, false⟩
def GAL_BATCH_DONE.COUNT (g : Nat) : FieldRef := ⟨0x1c00080 + 0x40000 * g, 0, 4, false⟩
def GAL_XP_TABLES.VALID (g : Nat) : FieldRef := ⟨0x1c00800 + 0x40000 * g, 0, 16, false⟩
def GAL_XP_TABLES.PENDING (g : Nat) : FieldRef := ⟨0x1c00800 + 0x40000 * g, 16, 16, false⟩
def GAL_XP_TAGSRC.DPA (g : Nat) : FieldRef := ⟨0x1c00808 + 0x40000 * g, 0, 48, false⟩
def GAL_XP_TAGDST.ADDR (g : Nat) : FieldRef := ⟨0x1c00810 + 0x40000 * g, 0, 57, false⟩
def GAL_XP_TAGDST.BAY (g : Nat) : FieldRef := ⟨0x1c00810 + 0x40000 * g, 57, 4, false⟩
def GAL_XP_TAGDST.LOC (g : Nat) : FieldRef := ⟨0x1c00810 + 0x40000 * g, 61, 3, false⟩
def GAL_XP_TAGCNT.COUNT (g : Nat) : FieldRef := ⟨0x1c00818 + 0x40000 * g, 0, 24, false⟩
def GAL_XP_TAGGO.GO (g : Nat) : FieldRef := ⟨0x1c00820 + 0x40000 * g, 0, 1, false⟩
def GAL_XP_TAGSTAT.BUSY (g : Nat) : FieldRef := ⟨0x1c00828 + 0x40000 * g, 0, 1, false⟩
def GAL_XP_TAGSTAT.STATUS (g : Nat) : FieldRef := ⟨0x1c00828 + 0x40000 * g, 8, 8, false⟩
def GAL_XP_TAGSTAT.DONE (g : Nat) : FieldRef := ⟨0x1c00828 + 0x40000 * g, 32, 24, false⟩
def GAL_XP_CODED.COUNT (g : Nat) : FieldRef := ⟨0x1c00830 + 0x40000 * g, 0, 64, false⟩
def GAL_XP_RAW.COUNT (g : Nat) : FieldRef := ⟨0x1c00838 + 0x40000 * g, 0, 64, false⟩
def GAL_XP_FETCHED.BYTES (g : Nat) : FieldRef := ⟨0x1c00840 + 0x40000 * g, 0, 64, false⟩
def GAL_XP_RAWEQ.BYTES (g : Nat) : FieldRef := ⟨0x1c00848 + 0x40000 * g, 0, 64, false⟩
def GAL_XP_BUBBLES.CYCLES (g : Nat) : FieldRef := ⟨0x1c00850 + 0x40000 * g, 0, 64, false⟩
def GAL_XP_OVERCAP.COUNT (g : Nat) : FieldRef := ⟨0x1c00858 + 0x40000 * g, 0, 64, false⟩
def GAL_XP_OVERCAP_CYC.CYCLES (g : Nat) : FieldRef := ⟨0x1c00860 + 0x40000 * g, 0, 64, false⟩
def GAL_XP_DECODE_ERR.COUNT (g : Nat) : FieldRef := ⟨0x1c00868 + 0x40000 * g, 0, 64, false⟩
def GAL_XP_TAG_ERR.COUNT (g : Nat) : FieldRef := ⟨0x1c00870 + 0x40000 * g, 0, 64, false⟩
def GAL_XP_LAST_ERR.STATUS (g : Nat) : FieldRef := ⟨0x1c00878 + 0x40000 * g, 0, 8, false⟩
def GAL_XP_LAST_ERR.BAY (g : Nat) : FieldRef := ⟨0x1c00878 + 0x40000 * g, 8, 4, false⟩
def GAL_XP_LAST_ERR.CTAB (g : Nat) : FieldRef := ⟨0x1c00878 + 0x40000 * g, 12, 4, false⟩
def GAL_XP_LAST_ERR.MERIDIAN (g : Nat) : FieldRef := ⟨0x1c00878 + 0x40000 * g, 32, 32, false⟩
def GAL_XP_SAT_BAY.BUBBLE_BAYS (g : Nat) : FieldRef := ⟨0x1c00880 + 0x40000 * g, 0, 16, false⟩
def GAL_SR.SR_EN (g : Nat) : FieldRef := ⟨0x1c02000 + 0x40000 * g, 0, 1, false⟩
def GAL_SR_SEED.SEED (g i : Nat) : FieldRef := ⟨0x1c02008 + 0x40000 * g + 0x8 * i, 0, 32, false⟩
def GAL_SAVE_W0.LOC (g i : Nat) : FieldRef := ⟨0x1c04000 + 0x40000 * g + 0x10 * i, 0, 2, false⟩
def GAL_SAVE_W0.BAYMASK (g i : Nat) : FieldRef := ⟨0x1c04000 + 0x40000 * g + 0x10 * i, 16, 16, false⟩
def GAL_SAVE_W0.OFFSET (g i : Nat) : FieldRef := ⟨0x1c04000 + 0x40000 * g + 0x10 * i, 32, 25, false⟩
def GAL_SAVE_W1.LENGTH (g i : Nat) : FieldRef := ⟨0x1c04008 + 0x40000 * g + 0x10 * i, 0, 25, false⟩
def GAL_RESIDENT_W0.ALM_ENTRY (g i : Nat) : FieldRef := ⟨0x1c04200 + 0x40000 * g + 0x10 * i, 0, 16, false⟩
def GAL_RESIDENT_W0.KIND (g i : Nat) : FieldRef := ⟨0x1c04200 + 0x40000 * g + 0x10 * i, 16, 3, false⟩
def GAL_RESIDENT_W0.PINNED (g i : Nat) : FieldRef := ⟨0x1c04200 + 0x40000 * g + 0x10 * i, 19, 1, false⟩
def GAL_RESIDENT_W0.VALID (g i : Nat) : FieldRef := ⟨0x1c04200 + 0x40000 * g + 0x10 * i, 20, 1, false⟩
def GAL_RESIDENT_W0.FRAMES (g i : Nat) : FieldRef := ⟨0x1c04200 + 0x40000 * g + 0x10 * i, 32, 16, false⟩
def GAL_RESIDENT_W1.OFFSET (g i : Nat) : FieldRef := ⟨0x1c04208 + 0x40000 * g + 0x10 * i, 0, 25, false⟩
def GAL_TABLE_LEN.LEN16 (g j i : Nat) : FieldRef := ⟨0x1c08000 + 0x40000 * g + 0x800 * j + 0x8 * i, 0, 64, true⟩
def GAL_TABLE_EXP.EXP_BITS (g i : Nat) : FieldRef := ⟨0x1c08080 + 0x40000 * g + 0x800 * i, 0, 4, true⟩

def NBU_STATE.STACK (h : Nat) : FieldRef := ⟨0x2000000 + 0x80000 * h, 0, 3, false⟩
def NBU_STATE.CM_COUNT (h : Nat) : FieldRef := ⟨0x2000000 + 0x80000 * h, 8, 5, false⟩
def NBU_STATE.PWR_STATE (h : Nat) : FieldRef := ⟨0x2000000 + 0x80000 * h, 16, 2, false⟩
def NBU_STATE.REF_DOUBLED (h : Nat) : FieldRef := ⟨0x2000000 + 0x80000 * h, 20, 1, false⟩
def NBU_STATE.LIVE_PCS (h : Nat) : FieldRef := ⟨0x2000000 + 0x80000 * h, 24, 5, false⟩
def NBU_CM.SET (h : Nat) : FieldRef := ⟨0x2000008 + 0x80000 * h, 0, 31, false⟩
def NBU_QUOTA.QUOTA (h : Nat) : FieldRef := ⟨0x2000010 + 0x80000 * h, 0, 5, true⟩
def NBU_REF.POSTPONE_MAX (h : Nat) : FieldRef := ⟨0x2000018 + 0x80000 * h, 0, 4, true⟩
def NBU_PWR.CAP (h : Nat) : FieldRef := ⟨0x2000020 + 0x80000 * h, 0, 8, true⟩
def NBU_PWR.THROTTLE_C (h : Nat) : FieldRef := ⟨0x2000020 + 0x80000 * h, 8, 8, true⟩
def NBU_PWR.THROTTLE_GAP (h : Nat) : FieldRef := ⟨0x2000020 + 0x80000 * h, 16, 11, true⟩
def NBU_PWR_NOW.POWER_CW (h : Nat) : FieldRef := ⟨0x2000028 + 0x80000 * h, 0, 16, false⟩
def NBU_PWR_NOW.TEMP (h : Nat) : FieldRef := ⟨0x2000028 + 0x80000 * h, 16, 8, false⟩
def NBU_PCMAP.SPARE_FOR (h : Nat) : FieldRef := ⟨0x2000030 + 0x80000 * h, 0, 5, false⟩
def NBU_PCMAP.SPARE_STATE (h : Nat) : FieldRef := ⟨0x2000030 + 0x80000 * h, 8, 3, false⟩
def NBU_PCMAP.LOST_COUNT (h : Nat) : FieldRef := ⟨0x2000030 + 0x80000 * h, 16, 7, false⟩
def NBU_PCMAP.LOST_MASK (h : Nat) : FieldRef := ⟨0x2000030 + 0x80000 * h, 32, 31, false⟩
def NBU_FAILED.FAILED_POS (h : Nat) : FieldRef := ⟨0x2000038 + 0x80000 * h, 0, 32, false⟩
def NBU_SUBST.INDEX (h : Nat) : FieldRef := ⟨0x2000040 + 0x80000 * h, 0, 5, false⟩
def NBU_SUBST.GO (h : Nat) : FieldRef := ⟨0x2000040 + 0x80000 * h, 8, 1, false⟩
def NBU_COPY.FRAMES (h : Nat) : FieldRef := ⟨0x2000048 + 0x80000 * h, 0, 18, false⟩
def NBU_COPY.STATUS (h : Nat) : FieldRef := ⟨0x2000048 + 0x80000 * h, 24, 8, false⟩
def NBU_LOST_CLEAR.ENTRY (h : Nat) : FieldRef := ⟨0x2000050 + 0x80000 * h, 0, 6, false⟩
def NBU_LOST_CLEAR.GO (h : Nat) : FieldRef := ⟨0x2000050 + 0x80000 * h, 8, 1, false⟩
def NBU_REF_OWED.MAX (h : Nat) : FieldRef := ⟨0x2000058 + 0x80000 * h, 0, 4, false⟩
def NBU_REF_OWED.PC (h : Nat) : FieldRef := ⟨0x2000058 + 0x80000 * h, 8, 5, false⟩
def NBU_GAP_MAX.CYCLES (h : Nat) : FieldRef := ⟨0x2000060 + 0x80000 * h, 0, 16, false⟩
def NBU_HOLD_MAX.CYCLES (h : Nat) : FieldRef := ⟨0x2000068 + 0x80000 * h, 0, 16, false⟩
def NBU_SEGMENTS.COUNT (h : Nat) : FieldRef := ⟨0x2000070 + 0x80000 * h, 0, 64, false⟩
def NBU_HELD.COUNT (h : Nat) : FieldRef := ⟨0x2000078 + 0x80000 * h, 0, 64, false⟩
def NBU_HOLD_FULL.CYCLES (h : Nat) : FieldRef := ⟨0x2000080 + 0x80000 * h, 0, 64, false⟩
def NBU_REF_POSTPONED.COUNT (h : Nat) : FieldRef := ⟨0x2000088 + 0x80000 * h, 0, 64, false⟩
def NBU_REF_FORCED.COUNT (h : Nat) : FieldRef := ⟨0x2000090 + 0x80000 * h, 0, 64, false⟩
def NBU_THROTTLED.COUNT (h : Nat) : FieldRef := ⟨0x2000098 + 0x80000 * h, 0, 64, false⟩
def NBU_CE.COUNT (h : Nat) : FieldRef := ⟨0x20000a0 + 0x80000 * h, 0, 64, false⟩
def NBU_UE.COUNT (h : Nat) : FieldRef := ⟨0x20000a8 + 0x80000 * h, 0, 64, false⟩
def NBU_SPARE_TEST.EN (h : Nat) : FieldRef := ⟨0x2002000 + 0x80000 * h, 0, 1, false⟩
def NBU_SPARE_TEST.PASS (h : Nat) : FieldRef := ⟨0x2002000 + 0x80000 * h, 1, 1, false⟩
def NBU_LOST.DPA (h i : Nat) : FieldRef := ⟨0x2004000 + 0x80000 * h + 0x8 * i, 0, 48, false⟩
def NBU_LOST.STATUS (h i : Nat) : FieldRef := ⟨0x2004000 + 0x80000 * h + 0x8 * i, 48, 8, false⟩
def NBU_LOST.VALID (h i : Nat) : FieldRef := ⟨0x2004000 + 0x80000 * h + 0x8 * i, 63, 1, false⟩

def PRT_ROLE.ROLE (p : Nat) : FieldRef := ⟨0x2800000 + 0x10000 * p, 0, 3, false⟩
def PRT_ROLE.NEXT (p : Nat) : FieldRef := ⟨0x2800000 + 0x10000 * p, 8, 3, false⟩
def PRT_ROLE.DRAINING (p : Nat) : FieldRef := ⟨0x2800000 + 0x10000 * p, 16, 1, false⟩
def PRT_ROLE.LAST_STATUS (p : Nat) : FieldRef := ⟨0x2800000 + 0x10000 * p, 24, 8, false⟩
def PRT_ROLE.CHANGED_AT (p : Nat) : FieldRef := ⟨0x2800000 + 0x10000 * p, 32, 32, false⟩
def PRT_ROLE_CMD.ROLE (p : Nat) : FieldRef := ⟨0x2800008 + 0x10000 * p, 0, 3, false⟩
def PRT_ROLE_CMD.OP (p : Nat) : FieldRef := ⟨0x2800008 + 0x10000 * p, 8, 2, false⟩
def PRT_ROLE_CFG.DRAIN_LIMIT (p : Nat) : FieldRef := ⟨0x2800010 + 0x10000 * p, 0, 32, true⟩
def PRT_ROLE_CFG.DB_SOURCE (p : Nat) : FieldRef := ⟨0x2800010 + 0x10000 * p, 32, 12, true⟩
def PRT_ROLE_CFG.DB_EN (p : Nat) : FieldRef := ⟨0x2800010 + 0x10000 * p, 48, 1, true⟩
def PRT_DRAIN_WAIT.UNMET (p : Nat) : FieldRef := ⟨0x2800018 + 0x10000 * p, 0, 6, false⟩
def PRT_BAYS.BAYS (p i : Nat) : FieldRef := ⟨0x2800020 + 0x10000 * p + 0x8 * i, 0, 64, true⟩
def PRT_PCS.STACK_EVEN (p i : Nat) : FieldRef := ⟨0x2800040 + 0x10000 * p + 0x8 * i, 0, 31, true⟩
def PRT_PCS.STACK_ODD (p i : Nat) : FieldRef := ⟨0x2800040 + 0x10000 * p + 0x8 * i, 32, 31, true⟩
def PRT_CTX.FIRST (p : Nat) : FieldRef := ⟨0x2800060 + 0x10000 * p, 0, 16, true⟩
def PRT_CTX.COUNT (p : Nat) : FieldRef := ⟨0x2800060 + 0x10000 * p, 16, 17, true⟩
def PRT_REGIONS.COUNT (p : Nat) : FieldRef := ⟨0x2800068 + 0x10000 * p, 0, 9, true⟩
def PRT_MERGED.COMPAT_EN (p : Nat) : FieldRef := ⟨0x2800070 + 0x10000 * p, 0, 1, true⟩
def PRT_MERGED.AGENT_CORE (p : Nat) : FieldRef := ⟨0x2800070 + 0x10000 * p, 8, 3, true⟩
def PRT_MERGED_BLK.DPA (p : Nat) : FieldRef := ⟨0x2800078 + 0x10000 * p, 0, 48, true⟩
def PRT_ROLE_CHANGES.COUNT (p : Nat) : FieldRef := ⟨0x2800080 + 0x10000 * p, 0, 64, false⟩
def PRT_NODE.ID (p : Nat) : FieldRef := ⟨0x2800800 + 0x10000 * p, 0, 14, true⟩
def PRT_MAP_CFG.DRAIN (p : Nat) : FieldRef := ⟨0x2800808 + 0x10000 * p, 0, 16, true⟩
def PRT_MAP_CFG.DB_SOURCE (p : Nat) : FieldRef := ⟨0x2800808 + 0x10000 * p, 16, 12, true⟩
def PRT_MAP_CFG.DB_PART (p : Nat) : FieldRef := ⟨0x2800808 + 0x10000 * p, 32, 6, true⟩
def PRT_MAP_CFG.DB_EN (p : Nat) : FieldRef := ⟨0x2800808 + 0x10000 * p, 40, 1, true⟩
def PRT_MAP_SRC.DPA (p : Nat) : FieldRef := ⟨0x2800810 + 0x10000 * p, 0, 48, false⟩
def PRT_MAP_CMD.OP (p : Nat) : FieldRef := ⟨0x2800818 + 0x10000 * p, 0, 2, false⟩
def PRT_MAP_STATUS.CUR_EPOCH (p : Nat) : FieldRef := ⟨0x2800820 + 0x10000 * p, 0, 16, false⟩
def PRT_MAP_STATUS.PREV_EPOCH (p : Nat) : FieldRef := ⟨0x2800820 + 0x10000 * p, 16, 16, false⟩
def PRT_MAP_STATUS.STAGED_EPOCH (p : Nat) : FieldRef := ⟨0x2800820 + 0x10000 * p, 32, 16, false⟩
def PRT_MAP_STATUS.STAGED (p : Nat) : FieldRef := ⟨0x2800820 + 0x10000 * p, 48, 1, false⟩
def PRT_MAP_STATUS.BUSY (p : Nat) : FieldRef := ⟨0x2800820 + 0x10000 * p, 49, 1, false⟩
def PRT_MAP_STATUS.PREV_VALID (p : Nat) : FieldRef := ⟨0x2800820 + 0x10000 * p, 50, 1, false⟩
def PRT_MAP_STATUS.RESULT (p : Nat) : FieldRef := ⟨0x2800820 + 0x10000 * p, 56, 8, false⟩
def PRT_MAP_QUERY.NODE (p : Nat) : FieldRef := ⟨0x2800828 + 0x10000 * p, 0, 14, false⟩
def PRT_MAP_ENTRY0.W0 (p : Nat) : FieldRef := ⟨0x2800830 + 0x10000 * p, 0, 64, false⟩
def PRT_MAP_ENTRY1.W1 (p : Nat) : FieldRef := ⟨0x2800838 + 0x10000 * p, 0, 64, false⟩
def PRT_ANCH_COPY.COPIED (p : Nat) : FieldRef := ⟨0x2800840 + 0x10000 * p, 0, 24, false⟩
def PRT_ANCH_COPY.STATUS (p : Nat) : FieldRef := ⟨0x2800840 + 0x10000 * p, 24, 8, false⟩
def PRT_ANCH_COPY.BUSY (p : Nat) : FieldRef := ⟨0x2800840 + 0x10000 * p, 32, 1, false⟩
def PRT_MAP_SWITCHES.COUNT (p : Nat) : FieldRef := ⟨0x2800848 + 0x10000 * p, 0, 64, false⟩
def PRT_MAP_LATE.COUNT (p : Nat) : FieldRef := ⟨0x2800850 + 0x10000 * p, 0, 64, false⟩
def PRT_MAP_LOAD_FAILS.COUNT (p : Nat) : FieldRef := ⟨0x2800858 + 0x10000 * p, 0, 64, false⟩

def PHO_TRACE_BASE.DPA : FieldRef := ⟨0x2c00000, 0, 48, true⟩
def PHO_TRACE_SIZE.ENTRIES : FieldRef := ⟨0x2c00008, 0, 17, true⟩
def PHO_TRACE_HEAD.INDEX : FieldRef := ⟨0x2c00010, 0, 32, false⟩
def PHO_TRACE_TAIL.INDEX : FieldRef := ⟨0x2c00018, 0, 32, false⟩
def PHO_TRACE_EN.UNITS : FieldRef := ⟨0x2c00020, 0, 40, true⟩
def PHO_TRACE_CFG.MODE : FieldRef := ⟨0x2c00028, 0, 1, true⟩
def PHO_TRACE_CFG.DEV_EVENTS : FieldRef := ⟨0x2c00028, 8, 8, true⟩
def PHO_SAMPLE_BASE.DPA : FieldRef := ⟨0x2c00030, 0, 48, true⟩
def PHO_SAMPLE_SIZE.ENTRIES : FieldRef := ⟨0x2c00038, 0, 17, true⟩
def PHO_SAMPLE_HEAD.INDEX : FieldRef := ⟨0x2c00040, 0, 32, false⟩
def PHO_SAMPLE_TAIL.INDEX : FieldRef := ⟨0x2c00048, 0, 32, false⟩
def PHO_SAMPLE_CFG.PERIOD : FieldRef := ⟨0x2c00050, 0, 16, true⟩
def PHO_SAMPLE_CFG.MAX : FieldRef := ⟨0x2c00050, 16, 16, true⟩
def PHO_SAMPLE_PARTS.MASK : FieldRef := ⟨0x2c00058, 0, 64, true⟩
def PHO_DBG_ADDR.DPA : FieldRef := ⟨0x2c00060, 0, 48, false⟩
def PHO_DBG_DATA.DATA : FieldRef := ⟨0x2c00068, 0, 64, false⟩
def PHO_DBG_CMD.OP : FieldRef := ⟨0x2c00070, 0, 2, false⟩
def PHO_DBG_STATUS.STATUS : FieldRef := ⟨0x2c00078, 0, 8, false⟩
def PHO_DBG_STATUS.BUSY : FieldRef := ⟨0x2c00078, 8, 1, false⟩
def PHO_STOP_CMD.UNIT : FieldRef := ⟨0x2c00080, 0, 8, false⟩
def PHO_STOP_CMD.CTX : FieldRef := ⟨0x2c00080, 8, 3, false⟩
def PHO_STOP_CMD.OP : FieldRef := ⟨0x2c00080, 12, 2, false⟩
def PHO_STOP_STATUS.STATUS : FieldRef := ⟨0x2c00088, 0, 8, false⟩
def PHO_STOP_STATUS.SEQ : FieldRef := ⟨0x2c00088, 32, 32, false⟩
def PHO_REG_SEL.UNIT : FieldRef := ⟨0x2c00090, 0, 8, false⟩
def PHO_REG_SEL.CTX : FieldRef := ⟨0x2c00090, 8, 3, false⟩
def PHO_REG_SEL.FILE : FieldRef := ⟨0x2c00090, 12, 3, false⟩
def PHO_REG_SEL.INDEX : FieldRef := ⟨0x2c00090, 16, 5, false⟩
def PHO_REG_SEL.WORD : FieldRef := ⟨0x2c00090, 24, 2, false⟩
def PHO_REG_DATA.DATA : FieldRef := ⟨0x2c00098, 0, 64, false⟩
def PHO_CLEAR.SLICE_MAX : FieldRef := ⟨0x2c000a0, 0, 1, false⟩
def PHO_TRACE_DROPPED.COUNT : FieldRef := ⟨0x2c000a8, 0, 64, false⟩
def PHO_SAMPLE_LATE.COUNT : FieldRef := ⟨0x2c000b0, 0, 64, false⟩
def PHO_U_SLICES.COUNT (i : Nat) : FieldRef := ⟨0x2c00400 + 0x20 * i, 0, 64, false⟩
def PHO_U_SLICE_SUM.COUNT (i : Nat) : FieldRef := ⟨0x2c00408 + 0x20 * i, 0, 64, false⟩
def PHO_U_SLICE_MAX.CYCLES (i : Nat) : FieldRef := ⟨0x2c00410 + 0x20 * i, 0, 32, false⟩
def PHO_U_STATE.STOPPED (i : Nat) : FieldRef := ⟨0x2c00418 + 0x20 * i, 0, 5, false⟩
def PHO_U_STATE.STOP_PENDING (i : Nat) : FieldRef := ⟨0x2c00418 + 0x20 * i, 8, 5, false⟩
def PHO_P_CTR.COUNT (j i : Nat) : FieldRef := ⟨0x2c04000 + 0x40 * j + 0x8 * i, 0, 64, false⟩
def PHO_PROG_CTR.COUNT (i : Nat) : FieldRef := ⟨0x2c08000 + 0x8 * i, 0, 64, false⟩

def NWL_C_STATE.CTX0 (i : Nat) : FieldRef := ⟨0x3000100 + 0x80 * i, 0, 3, false⟩
def NWL_C_STATE.CTX1 (i : Nat) : FieldRef := ⟨0x3000100 + 0x80 * i, 3, 3, false⟩
def NWL_C_STATE.CTX2 (i : Nat) : FieldRef := ⟨0x3000100 + 0x80 * i, 6, 3, false⟩
def NWL_C_STATE.CTX3 (i : Nat) : FieldRef := ⟨0x3000100 + 0x80 * i, 9, 3, false⟩
def NWL_C_STATE.CTX4 (i : Nat) : FieldRef := ⟨0x3000100 + 0x80 * i, 12, 3, false⟩
def NWL_C_STATE.IN_SERVICE (i : Nat) : FieldRef := ⟨0x3000100 + 0x80 * i, 16, 1, false⟩
def NWL_C_STATE.POSITION (i : Nat) : FieldRef := ⟨0x3000100 + 0x80 * i, 24, 3, false⟩
def NWL_C_STATE.INSTALLED_AT (i : Nat) : FieldRef := ⟨0x3000100 + 0x80 * i, 32, 32, false⟩
def NWL_C_PART.PART0 (i : Nat) : FieldRef := ⟨0x3000108 + 0x80 * i, 0, 6, true⟩
def NWL_C_PART.PART1 (i : Nat) : FieldRef := ⟨0x3000108 + 0x80 * i, 6, 6, true⟩
def NWL_C_PART.PART2 (i : Nat) : FieldRef := ⟨0x3000108 + 0x80 * i, 12, 6, true⟩
def NWL_C_PART.PART3 (i : Nat) : FieldRef := ⟨0x3000108 + 0x80 * i, 18, 6, true⟩
def NWL_C_PART.PART4 (i : Nat) : FieldRef := ⟨0x3000108 + 0x80 * i, 24, 6, true⟩
def NWL_C_PART.VALID (i : Nat) : FieldRef := ⟨0x3000108 + 0x80 * i, 32, 5, true⟩
def NWL_C_ENTRY.C (i : Nat) : FieldRef := ⟨0x3000110 + 0x80 * i, 0, 16, false⟩
def NWL_C_ENTRY.B1 (i : Nat) : FieldRef := ⟨0x3000110 + 0x80 * i, 16, 16, false⟩
def NWL_C_ENTRY.B2 (i : Nat) : FieldRef := ⟨0x3000110 + 0x80 * i, 32, 16, false⟩
def NWL_C_ENTRY.B3 (i : Nat) : FieldRef := ⟨0x3000110 + 0x80 * i, 48, 16, false⟩
def NWL_C_ENTRY2.B4 (i : Nat) : FieldRef := ⟨0x3000118 + 0x80 * i, 0, 16, false⟩
def NWL_C_RUN.BG_EN (i : Nat) : FieldRef := ⟨0x3000120 + 0x80 * i, 1, 4, true⟩
def NWL_C_LAST_FAULT.PC (i : Nat) : FieldRef := ⟨0x3000128 + 0x80 * i, 0, 16, false⟩
def NWL_C_LAST_FAULT.CTX (i : Nat) : FieldRef := ⟨0x3000128 + 0x80 * i, 16, 3, false⟩
def NWL_C_LAST_FAULT.STATUS (i : Nat) : FieldRef := ⟨0x3000128 + 0x80 * i, 24, 8, false⟩
def NWL_C_LAST_FAULT.MERIDIAN (i : Nat) : FieldRef := ⟨0x3000128 + 0x80 * i, 32, 32, false⟩
def NWL_C_FAULTS.COUNT (i : Nat) : FieldRef := ⟨0x3000130 + 0x80 * i, 0, 64, false⟩

def FLT_RING_BASE.DPA : FieldRef := ⟨0x3400000, 0, 48, true⟩
def FLT_RING_SIZE.ENTRIES : FieldRef := ⟨0x3400008, 0, 17, true⟩
def FLT_RING_HEAD.INDEX : FieldRef := ⟨0x3400010, 0, 32, false⟩
def FLT_RING_TAIL.INDEX : FieldRef := ⟨0x3400018, 0, 32, false⟩
def FLT_NOTIFY.DB_SOURCE : FieldRef := ⟨0x3400020, 0, 12, true⟩
def FLT_NOTIFY.DB_PART : FieldRef := ⟨0x3400020, 16, 6, true⟩
def FLT_NOTIFY.EN : FieldRef := ⟨0x3400020, 24, 1, true⟩
def FLT_NOTIFY.MIN_SEV : FieldRef := ⟨0x3400020, 28, 3, true⟩
def FLT_FOLD.MERIDIANS : FieldRef := ⟨0x3400028, 0, 16, true⟩
def FLT_HEALTH.STATE : FieldRef := ⟨0x3400030, 0, 2, false⟩
def FLT_HEALTH.CAUSE : FieldRef := ⟨0x3400030, 8, 3, false⟩
def FLT_HEALTH.LAST_SELF_QUAR : FieldRef := ⟨0x3400030, 16, 48, false⟩
def FLT_HEALTH_CMD.OP : FieldRef := ⟨0x3400038, 0, 2, false⟩
def FLT_HEALTH_CFG.HOLDOFF_MIN : FieldRef := ⟨0x3400040, 0, 16, true⟩
def FLT_HEALTH_CFG.DECAY : FieldRef := ⟨0x3400040, 16, 4, true⟩
def FLT_LATE_CFG.LATE_SUSPECT : FieldRef := ⟨0x3400048, 0, 32, true⟩
def FLT_LATE_CFG.LATE_QUAR : FieldRef := ⟨0x3400048, 32, 32, true⟩
def FLT_ERR_CFG.ERR_SUSPECT : FieldRef := ⟨0x3400050, 0, 16, true⟩
def FLT_ERR_CFG.ERR_QUAR : FieldRef := ⟨0x3400050, 16, 16, true⟩
def FLT_ERR_CFG.UE_W : FieldRef := ⟨0x3400050, 32, 8, true⟩
def FLT_ERR_CFG.SUB_W : FieldRef := ⟨0x3400050, 40, 8, true⟩
def FLT_ERR_CFG.CE_W : FieldRef := ⟨0x3400050, 48, 8, true⟩
def FLT_LATE_SELF.ACC : FieldRef := ⟨0x3400058, 0, 64, false⟩
def FLT_LATE_INPUT.ACC : FieldRef := ⟨0x3400060, 0, 64, false⟩
def FLT_LATE_UNLOCKED.ACC : FieldRef := ⟨0x3400068, 0, 64, false⟩
def FLT_ERR.ACC : FieldRef := ⟨0x3400070, 0, 64, false⟩
def FLT_THERMAL.DIE_MAX : FieldRef := ⟨0x3400078, 0, 8, false⟩
def FLT_THERMAL.STACK_MAX : FieldRef := ⟨0x3400078, 8, 8, false⟩
def FLT_THERMAL.THROTTLED : FieldRef := ⟨0x3400078, 16, 8, false⟩
def FLT_SPARES.BAYS : FieldRef := ⟨0x3400080, 0, 5, false⟩
def FLT_SPARES.PCS : FieldRef := ⟨0x3400080, 5, 5, false⟩
def FLT_SPARES.LANES : FieldRef := ⟨0x3400080, 10, 7, false⟩
def FLT_SPARES.NEWEL : FieldRef := ⟨0x3400080, 17, 2, false⟩
def FLT_SPARES.CARTRIDGES : FieldRef := ⟨0x3400080, 19, 2, false⟩
def FLT_SPARES.PHASES : FieldRef := ⟨0x3400080, 21, 11, false⟩
def FLT_SPARES.EMPTY : FieldRef := ⟨0x3400080, 32, 8, false⟩
def FLT_SELFTEST.LAST_PASS : FieldRef := ⟨0x3400088, 0, 8, false⟩
def FLT_SELFTEST.RUNNING : FieldRef := ⟨0x3400088, 8, 8, false⟩
def FLT_NWL_SUBST.CORE : FieldRef := ⟨0x3400090, 0, 3, false⟩
def FLT_NWL_SUBST.GO : FieldRef := ⟨0x3400090, 8, 1, false⟩
def FLT_NWL_MAP.POS : FieldRef := ⟨0x3400098, 0, 24, false⟩
def FLT_NWL_MAP.FAILED : FieldRef := ⟨0x3400098, 24, 8, false⟩
def FLT_NWL_MAP.LOST : FieldRef := ⟨0x3400098, 32, 8, false⟩
def FLT_RECORDS.COUNT : FieldRef := ⟨0x34000a0, 0, 64, false⟩
def FLT_LOST.COUNT : FieldRef := ⟨0x34000a8, 0, 64, false⟩
def FLT_FOLDED.COUNT : FieldRef := ⟨0x34000b0, 0, 64, false⟩
def FLT_SUSPECTS.COUNT : FieldRef := ⟨0x34000b8, 0, 64, false⟩
def FLT_QUAR_HELD.COUNT : FieldRef := ⟨0x34000c0, 0, 64, false⟩
def FLT_SELFTEST_FAIL.COUNT : FieldRef := ⟨0x34000c8, 0, 64, false⟩
def FLT_U_LATE.COUNT (i : Nat) : FieldRef := ⟨0x3400200 + 0x8 * i, 0, 64, false⟩
def FLT_LAST.WORD (i : Nat) : FieldRef := ⟨0x3403000 + 0x8 * i, 0, 64, false⟩
def FLT_P_NOTIFY.DB_SOURCE (i : Nat) : FieldRef := ⟨0x3404000 + 0x200 * i, 0, 12, true⟩
def FLT_P_NOTIFY.EN (i : Nat) : FieldRef := ⟨0x3404000 + 0x200 * i, 16, 1, true⟩

def ALM_CMD.ENTRY : FieldRef := ⟨0x3800000, 0, 12, false⟩
def ALM_CMD.OP : FieldRef := ⟨0x3800000, 12, 4, false⟩
def ALM_CMD.PART : FieldRef := ⟨0x3800000, 16, 6, false⟩
def ALM_CMD_ARG.ARG : FieldRef := ⟨0x3800008, 0, 64, false⟩
def ALM_RESULT.STATUS : FieldRef := ⟨0x3800010, 0, 8, false⟩
def ALM_RESULT.ENTRY : FieldRef := ⟨0x3800010, 16, 12, false⟩
def ALM_RESULT.SEQ : FieldRef := ⟨0x3800010, 32, 32, false⟩
def ALM_LOADS.COUNT : FieldRef := ⟨0x3800018, 0, 64, false⟩
def ALM_EVICTIONS.COUNT : FieldRef := ⟨0x3800020, 0, 64, false⟩
def ALM_ADVANCES.COUNT : FieldRef := ⟨0x3800028, 0, 64, false⟩
def ALM_ADP_CMD.SLOT : FieldRef := ⟨0x3800800, 0, 8, false⟩
def ALM_ADP_CMD.OP : FieldRef := ⟨0x3800800, 8, 2, false⟩
def ALM_ADP_CMD.PART : FieldRef := ⟨0x3800800, 10, 6, false⟩
def ALM_ADP_CMD.ALM_ENTRY : FieldRef := ⟨0x3800800, 16, 16, false⟩
def ALM_ADP_RESULT.STATUS : FieldRef := ⟨0x3800808, 0, 8, false⟩
def ALM_ADP_RESULT.SLOT : FieldRef := ⟨0x3800808, 8, 8, false⟩
def ALM_ADP_RESULT.VERSION : FieldRef := ⟨0x3800808, 16, 16, false⟩
def ALM_ADP_RESULT.SEQ : FieldRef := ⟨0x3800808, 32, 32, false⟩
def ALM_ADP_NEXTVER.VERSION : FieldRef := ⟨0x3800810, 0, 16, false⟩
def ALM_ADP_NOTIFY.DB_SOURCE : FieldRef := ⟨0x3800818, 0, 12, true⟩
def ALM_ADP_NOTIFY.EN : FieldRef := ⟨0x3800818, 16, 1, true⟩
def ALM_ADP_LOADS.COUNT : FieldRef := ⟨0x3800820, 0, 64, false⟩
def ALM_ADP_RETIRED.COUNT : FieldRef := ⟨0x3800828, 0, 64, false⟩
def ALM_ADP_BIND_REFUSED.COUNT : FieldRef := ⟨0x3800830, 0, 64, false⟩
def ALM_ADP_W0.STATE (i : Nat) : FieldRef := ⟨0x3808000 + 0x20 * i, 0, 2, false⟩
def ALM_ADP_W0.PART (i : Nat) : FieldRef := ⟨0x3808000 + 0x20 * i, 8, 6, false⟩
def ALM_ADP_W0.VERSION (i : Nat) : FieldRef := ⟨0x3808000 + 0x20 * i, 16, 16, false⟩
def ALM_ADP_W0.ALM_ENTRY (i : Nat) : FieldRef := ⟨0x3808000 + 0x20 * i, 32, 16, false⟩
def ALM_ADP_W0.REFS (i : Nat) : FieldRef := ⟨0x3808000 + 0x20 * i, 48, 16, false⟩
def ALM_ADP_W1.NAMED (i : Nat) : FieldRef := ⟨0x3808008 + 0x20 * i, 0, 16, false⟩
def ALM_ADP_W1.CHANGED_AT (i : Nat) : FieldRef := ⟨0x3808008 + 0x20 * i, 32, 32, false⟩
def ALM_E_W0.STATE (i : Nat) : FieldRef := ⟨0x3820000 + 0x40 * i, 0, 3, false⟩
def ALM_E_W0.KIND (i : Nat) : FieldRef := ⟨0x3820000 + 0x40 * i, 4, 3, false⟩
def ALM_E_W0.PART (i : Nat) : FieldRef := ⟨0x3820000 + 0x40 * i, 8, 6, false⟩
def ALM_E_W0.WIN_TIER (i : Nat) : FieldRef := ⟨0x3820000 + 0x40 * i, 16, 2, false⟩
def ALM_E_W0.PINS (i : Nat) : FieldRef := ⟨0x3820000 + 0x40 * i, 48, 16, false⟩
def ALM_E_W1.BASE (i : Nat) : FieldRef := ⟨0x3820008 + 0x40 * i, 0, 53, false⟩
def ALM_E_W2.UNITS (i : Nat) : FieldRef := ⟨0x3820010 + 0x40 * i, 0, 32, false⟩
def ALM_E_W2.LAYERS (i : Nat) : FieldRef := ⟨0x3820010 + 0x40 * i, 32, 16, false⟩
def ALM_E_W2.WINDOW (i : Nat) : FieldRef := ⟨0x3820010 + 0x40 * i, 48, 16, false⟩
def ALM_E_W3.SOURCE (i : Nat) : FieldRef := ⟨0x3820018 + 0x40 * i, 0, 48, false⟩
def ALM_E_W4.TAGS (i : Nat) : FieldRef := ⟨0x3820020 + 0x40 * i, 0, 48, false⟩
def ALM_E_W5.UNIT (i : Nat) : FieldRef := ⟨0x3820028 + 0x40 * i, 0, 8, false⟩
def ALM_E_W5.CTR (i : Nat) : FieldRef := ⟨0x3820028 + 0x40 * i, 8, 4, false⟩
def ALM_E_W5.NOTIFY_EN (i : Nat) : FieldRef := ⟨0x3820028 + 0x40 * i, 12, 1, false⟩
def ALM_E_W5.WIN_FIRST (i : Nat) : FieldRef := ⟨0x3820028 + 0x40 * i, 16, 16, false⟩
def ALM_E_W6.LAST_USE (i : Nat) : FieldRef := ⟨0x3820030 + 0x40 * i, 0, 64, false⟩
def ALM_E_W7.RESIDENT (i : Nat) : FieldRef := ⟨0x3820038 + 0x40 * i, 0, 32, false⟩
def ALM_E_W7.LAST_STATUS (i : Nat) : FieldRef := ⟨0x3820038 + 0x40 * i, 32, 8, false⟩

end Sys2Proof.Machine
end

