-- ==== Sys2Proof/Machine/Types.lean ====
section
/-! DEFINITION. The names the commands and the state are written with: who sends a command, the Larty units and their
contexts, the shared status codes, and the fields of a Larty instruction word. -/

namespace Sys2Proof.Machine

/-- The two host ports (R360). -/
inductive Port where
  | HA | HB
  deriving DecidableEq, Repr

def Port.num : Port → Nat
  | .HA => 0
  | .HB => 1

def Port.other : Port → Port
  | .HA => .HB
  | .HB => .HA

def Port.ofNum (n : Nat) : Port := if n = 0 then .HA else .HB

/-- Who makes a register access: the PF of a port, VF `v` (numbered from 0) of a port, a newel context or a gallery
sequencer by CFGW, CFGR or a SPACE 2 access, or the module's own debug path (J7). -/
inductive Agent where
  | pf (port : Port)
  | vf (port : Port) (v : Fin 32)
  | newel (c : Fin 8) (x : Fin 5)
  | gallery (g : Fin 16)
  | j7
  deriving DecidableEq, Repr

/-- A number of its own for every agent, by which the per-agent result registers are kept (R265, R342, R374). -/
def Agent.code : Agent → Nat
  | .pf p => p.num
  | .vf p v => 2 + 32 * p.num + v.val
  | .newel c x => 66 + 5 * c.val + x.val
  | .gallery g => 106 + g.val
  | .j7 => 122

/-- Every agent code is below this. -/
def agentCount : Nat := 123

/-- The host port whose function the agent is. -/
def Agent.port : Agent → Option Port
  | .pf p => some p
  | .vf p _ => some p
  | _ => none

/-- A Larty context: the one critical context of a gallery, near-bank or heliostat sequencer, or one of the five of a
newel core (0 critical, 1 to 4 B1 to B4) (R51). -/
inductive LCtx where
  | gal (g : Fin 16)
  | nb (h : Fin 8)
  | hel
  | nwl (c : Fin 8) (x : Fin 5)
  deriving DecidableEq, Repr

/-- The kinds of programmable unit (Table 3-1). -/
inductive UnitKind where
  | gal | nb | hel | nwl
  deriving DecidableEq, Repr

/-- Unit numbers (Table 3-11). -/
def LCtx.unit : LCtx → Nat
  | .gal g => g.val
  | .nb h => 0x10 + h.val
  | .hel => 0x18
  | .nwl c _ => 0x20 + c.val

def LCtx.ctx : LCtx → Nat
  | .nwl _ x => x.val
  | _ => 0

def LCtx.kind : LCtx → UnitKind
  | .gal _ => .gal
  | .nb _ => .nb
  | .hel => .hel
  | .nwl _ _ => .nwl

/-- Whether the context runs in slices (R52, R53). -/
def LCtx.critical (x : LCtx) : Bool := x.ctx == 0

/-- The key of a context in the per-context tables. -/
def LCtx.key (x : LCtx) : Nat := x.unit * 8 + x.ctx

/-- The kind of a unit number, when the number names a unit (R72). -/
def unitKind (u : Nat) : Option UnitKind :=
  if u < 0x10 then some .gal
  else if u < 0x18 then some .nb
  else if u = 0x18 then some .hel
  else if 0x20 ≤ u ∧ u < 0x28 then some .nwl
  else none

/-- The instruction store's size in words (Table 3-1). -/
def UnitKind.storeWords : UnitKind → Nat
  | .gal => 8192
  | .nb => 4096
  | .hel => 8192
  | .nwl => 32768

/-- The shared status codes (R24, Table 1-14). -/
inductive Status where
  | ok | partialDone | refusedFull | refusedPolicy | deferred
  | keyMismatch | staleMap | badLength | ctxBusy | keyGenGone | notOwner
  | abandoned | linkFailed | uncorrected
  deriving DecidableEq, Repr

def Status.code : Status → Nat
  | .ok => 0x00
  | .partialDone => 0x01
  | .refusedFull => 0x10
  | .refusedPolicy => 0x11
  | .deferred => 0x12
  | .keyMismatch => 0x20
  | .staleMap => 0x21
  | .badLength => 0x22
  | .ctxBusy => 0x23
  | .keyGenGone => 0x24
  | .notOwner => 0x25
  | .abandoned => 0x30
  | .linkFailed => 0x31
  | .uncorrected => 0x32

/-- The precedence of R25: the lower number is reported. -/
def Status.rank : Status → Nat
  | .uncorrected => 0
  | .linkFailed => 1
  | .abandoned => 2
  | .keyMismatch => 3
  | .staleMap => 4
  | .notOwner => 5
  | .keyGenGone => 6
  | .badLength => 7
  | .ctxBusy => 8
  | .refusedFull => 9
  | .refusedPolicy => 10
  | .deferred => 11
  | .partialDone => 12
  | .ok => 13

/-- The status reported when both conditions are met (R25). -/
def Status.worse (a b : Status) : Status := if a.rank ≤ b.rank then a else b

def Status.all : List Status :=
  [.ok, .partialDone, .refusedFull, .refusedPolicy, .deferred, .keyMismatch, .staleMap, .badLength, .ctxBusy,
   .keyGenGone, .notOwner, .abandoned, .linkFailed, .uncorrected]

def Status.ofCode (n : Nat) : Option Status := Status.all.find? (fun x => x.code == n)

/-- The fields of a Larty instruction word below its opcode (R59, Table 3-5). -/
structure LFields where
  d : BitVec 6 := 0
  a : BitVec 6 := 0
  b : BitVec 6 := 0
  g : Bool := false
  n : Bool := false
  p : BitVec 3 := 0
  imm : BitVec 33 := 0
  deriving DecidableEq, Repr

/-- A direct-memory data pattern: a little-endian string of bytes a command carries. -/
abbrev Bytes := List Byte

/-- Who rings a doorbell: an agent that writes the doorbell word to an address, or a device unit or a C_MBOX, whose ring
names a partition and a source alone (R378). -/
inductive Ringer where
  | agent (a : Agent)
  | unit
  deriving DecidableEq, Repr

/-- A change of a function's configuration state (R358, R360, R366). -/
inductive CfgWrite where
  | power (d3hot : Bool)
  | busMaster (on : Bool)
  | msixEnable (on : Bool)
  | msixMask (on : Bool)
  | vectorMask (vec : Fin 2048) (masked : Bool)
  /-- A new BAR2 size, as a power of two. -/
  | barSize (log2 : Fin 64)
  deriving DecidableEq, Repr

/-- A PTP message as a port receives it (R46). An Announce carries the state that the best master clock algorithm gives the
port (0 listening, 1 slave, 2 master, 3 passive). A Follow_Up completes the Sync of its sequence number: it carries what
the port measures from the pair, the offset and the mean path delay in ns, and the PTP time of the moment in ns. -/
inductive PtpMsg where
  | announce (role : Fin 4)
  | sync (seq : BitVec 16)
  | followUp (seq : BitVec 16) (offset path : BitVec 32) (time : BitVec 80)
  | delayReq
  | delayResp (path : BitVec 32)
  | pdelayReq
  | pdelayResp
  | pdelayRespFollowUp (path : BitVec 32)
  /-- Management or Signaling. -/
  | other
  deriving DecidableEq, Repr

/-- Where an SPDM request comes from: a port's DOE mailbox, MCTP over I3C, or MCTP over a port's vendor-defined messages
(R412, R413). -/
inductive SpdmPath where
  | doe (x : Port)
  | i3c
  | vdm (x : Port)
  deriving DecidableEq, Repr

def SpdmPath.num : SpdmPath → Nat
  | .doe x => x.num
  | .vdm x => 2 + x.num
  | .i3c => 4

/-- The bindings of the MCTP endpoint: I3C on J2, and vendor-defined messages of a port's PF (R464). -/
inductive Binding where
  | i3c
  | vdm (x : Port)
  deriving DecidableEq, Repr

/-- A secured session of a binding is one of the same path. -/
def Binding.num : Binding → Nat
  | .vdm x => 2 + x.num
  | .i3c => 4

/-- A ring whose index software moves (R187): a catalogue ring (its TAIL, or HEAD of ring 3), a heliostat ring (TAIL of ring 0,
HEAD of ring 1), or HEAD of the fault, trace or sample ring. -/
inductive Ring where
  | cat (p : Fin 64) (r : Fin 4)
  | hel (p : Fin 64) (r : Fin 2)
  | fault | trace | sample
  deriving DecidableEq, Repr

/-- The hashes of an owner root: an Ed25519 and an ML-DSA-65 public key (Table 20-1). -/
abbrev OwnerRoot := BitVec 768

/-- The common header of an arriving packet (Table 15-2): the receiver's context, the map epoch, the key generation and
the PSN; and the verdict on its authentication tag (R329). -/
structure PktHdr where
  ctx : BitVec 16
  epoch : BitVec 16 := 0
  kgen : BitVec 8 := 0
  psn : BitVec 32 := 0
  auth : Bool := true
  deriving DecidableEq, Repr

end Sys2Proof.Machine
end

