-- ==== Sys2Proof/Machine/Parts.lean ====
section
/-! DEFINITION. The parts of the machine's state, block by block, as plain data. A register that the spec shows is held
under its own offset in the register tables of State; these parts hold what the spec gives a block beside its
registers: queues, buffers, stores, work in progress, timers that run, and pins. -/

namespace Sys2Proof.Machine

/-! ## Meridian timebase (R33 to R50) -/

/-- What a PTP port has in hand (R46). -/
structure PtpPort where
  /-- The port's state by the best master clock algorithm: 0 listening, 1 slave, 2 master, 3 passive. -/
  role : Nat := 0
  /-- A two-step Sync whose Follow_Up has not come, by its sequence number plus 1; 0 for none. -/
  syncSeq : Nat := 0
  deriving DecidableEq, Repr

structure MerPart where
  /-- The length in force (R44): MER_LENGTH.LEN at reset. -/
  lenNow : Nat := 1
  /-- A live LEN that acts from MER_SWITCH_AT on (R44). -/
  switchPending : Bool := false
  /-- The pending switch leaves the origin as a map wrote it (R396). -/
  keepOrigin : Bool := false
  ptp : Tab PtpPort := []
  /-- Successive Sync intervals within 20 ns in ACQUIRE (Table 2-4). -/
  goodSyncs : Nat := 0
  /-- The step extension that the landing of the next meridian makes, in arithmetic cycles (R49), and the count that the
  next landing loads. -/
  stepNext : Nat := 0
  countNext : Option Nat := none
  deriving DecidableEq, Repr

/-! ## Larty units (R51 to R103) -/

/-- The state of a context, coded as NWL_C_STATE.CTX (Table 3-20). -/
inductive CtxState where
  | idle | running | waiting | stopped | faulted | debug
  deriving DecidableEq, Repr

def CtxState.code : CtxState → Nat
  | .idle => 0
  | .running => 1
  | .waiting => 2
  | .stopped => 3
  | .faulted => 4
  | .debug => 5

/-- What a waiting context waits for. -/
inductive Wait where
  | none
  /-- The next meridian start (MYLD, or a critical context after an install or a reset) (R52, R53). -/
  | meridian
  /-- A WAITK (credit false) or WAITC of n from counter ctr, its outcome to predicate pres (R70). -/
  | take (credit : Bool) (ctr n pres limit : Nat)
  /-- A class C response of the given request kind (RLD 0, RADD 1, RCAS 2), its data to gd, its outcome to pres (R67). -/
  | remote (kind d pres size req : Nat)
  /-- Every tile instruction issued earlier to the masked bays (TSYNC, R73). -/
  | tsync (mask : Nat)
  /-- Every segment issued earlier on the masked pseudo-channels (ASYNC, R92). -/
  | async (mask : Nat)
  /-- A SPACE 1 access at the word the PC names, for its unit's home or the end of a transit (R66, R243). -/
  | access
  deriving DecidableEq, Repr

/-- One Larty context. -/
structure Ctx where
  state : CtxState := .idle
  pc : BitVec 16 := 0
  wait : Wait := .none
  /-- A RESUME waits for the meridian start at which the context's slice opens (R462). -/
  resumed : Bool := false
  /-- A debug stop that waits for a remote access to end (R462). -/
  stopPending : Bool := false
  deriving DecidableEq, Repr

/-- The critical slice of a unit (R36, R37). -/
structure Slice where
  isOpen : Bool := false
  /-- Cycles of the whole meridians that have passed since the meridian in which it opened began (R455). -/
  carried : Nat := 0
  /-- Landings the slice has crossed. -/
  crossed : Nat := 0
  /-- The slice budget of that meridian, and the late cycles that the landings crossed have counted. -/
  budget : Nat := 0
  counted : Nat := 0
  rateOver : Bool := false
  stack : Bool := false
  bayCopy : Bool := false
  /-- A RESUME opened it (R37, R462). -/
  byDebug : Bool := false
  /-- It stands for one STEP of a stopped context, and no slice is measured (R462). -/
  stepping : Bool := false
  tierWait : Bool := false
  overCap : Bool := false
  deriving DecidableEq, Repr

/-- What the device keeps of a verified program image (Table 4-4). -/
structure Image where
  present : Bool := false
  proven : Bool := false
  cmOperands : Bool := false
  agent : Bool := false
  codeWords : Nat := 0
  entryC : BitVec 16 := 0
  entryB1 : BitVec 16 := 0
  entryB2 : BitVec 16 := 0
  entryB3 : BitVec 16 := 0
  entryB4 : BitVec 16 := 0
  budget3 : Nat := 0
  budget6 : Nat := 0
  budget12 : Nat := 0
  hbmRate : Nat := 0
  residIn : Nat := 0
  residOut : Nat := 0
  serial : Word := 0
  hash : Bytes := []
  deriving DecidableEq, Repr

/-- A give on its way to a counter (R12). `giver` is the giving unit, or 0xFF for a block. -/
structure Give where
  unit : Nat
  credit : Bool
  ctr : Nat
  count : Nat
  giver : Nat
  deriving DecidableEq, Repr

/-- A queued MOVE (R78). -/
structure MoveOp where
  unit : Nat
  ctx : Nat
  part : Nat
  ctr : Nat
  src : Word
  dst : Word
  len : Nat
  phys : Bool
  deriving DecidableEq, Repr

structure Larty where
  /-- Contexts, by unit * 8 + context. -/
  ctxs : Tab Ctx := []
  /-- g registers, by context key * 32 + number. -/
  g : Tab Word := []
  /-- p registers, by context key * 8 + number. -/
  p : Tab Bool := []
  /-- t registers, by context key * 16 + number. -/
  t : Tab Desc := []
  /-- Token counters, by unit * 16 + number. -/
  k : Tab (BitVec 32) := []
  /-- Credit counters, by unit * 16 + number. -/
  c : Tab (BitVec 32) := []
  slices : Tab Slice := []
  /-- Cycles from the meridian start to the last successful take on a token counter, with the meridian it fell in
  (R65), by unit * 16 + number: (meridian, cycle). -/
  lastTake : Tab (Nat × Nat) := []
  /-- Working stores and standby stores, by unit * 65536 + word. -/
  work : Tab Word := []
  standby : Tab Word := []
  installed : Tab Image := []
  staged : Tab Image := []
  /-- A live-written SWAP that waits for the next landing (R100), by unit. -/
  liveSwap : Tab Bool := []
  /-- Local stores of the newel cores and the staging store of the heliostat sequencer, by unit * 2^20 + offset. -/
  localStore : Tab Byte := []
  /-- Units whose local store holds free values where nothing is listed: which free value, plus 1. -/
  localFill : Tab Nat := []
  /-- Gives issued and not yet visible (R12), oldest first. -/
  gives : List Give := []
  /-- Move queues (32 entries a unit), oldest first. -/
  moveQueue : List MoveOp := []
  deriving DecidableEq, Repr

/-! ## Faults and health (R441 to R454) -/

/-- A fault record (Table 22-1) without its SUPPRESSED and SEQ, as a unit reports it. -/
structure Report where
  cls : Nat
  status : Nat := 0
  sev : Nat := 0
  part : Option Nat := none
  blk : Nat
  inst : Nat := 0
  unit : Nat := 0xFF
  ctx : Nat := 0
  addr : Nat := 0
  d0 : Nat := 0
  d1 : Nat := 0
  deriving DecidableEq, Repr

/-- A report that a unit can make: a class of Table 22-2, a status of Table 1-14, a severity of Table 22-3. -/
def Report.legal (r : Report) : Bool :=
  decide (1 ≤ r.cls ∧ r.cls ≤ 14) && (Status.ofCode r.status).isSome && decide (r.sev ≤ 4) &&
  decide (r.part.getD 0 < 64) && decide (r.blk < 17) && decide (r.inst < 64) && decide (r.unit < 256) && decide (r.ctx < 5)

/-- A record that has taken its SEQ (R443): the report, when it was made, and how many of its source were folded. -/
structure FaultRec where
  report : Report
  seq : Nat
  meridian : Nat
  suppressed : Nat
  deriving DecidableEq, Repr

/-- What folding remembers of a source: its last record's meridian and the reports folded since (R443). -/
structure FoldEntry where
  cls : Nat
  blk : Nat
  inst : Nat
  unit : Nat
  status : Nat
  meridian : Nat
  suppressed : Nat
  deriving DecidableEq, Repr

structure FltPart where
  /-- Reports on their way to the recorder, oldest first. -/
  inbound : List Report := []
  /-- The 64-record on-chip queue, oldest first (R442). -/
  queue : List FaultRec := []
  nextSeq : Nat := 0
  fold : List FoldEntry := []
  /-- Meridian of each unit's last slip record plus 1, 0 for none (R37). -/
  lastSlip : Tab Nat := []
  /-- Corrected errors towards the next 1,024 (R446). -/
  ceCount : Nat := 0
  /-- The lateness added in the meridian that is running: self, input, unlocked (R446). -/
  lateSelfNow : Nat := 0
  lateInputNow : Nat := 0
  lateUnlockedNow : Nat := 0
  errNow : Nat := 0
  /-- A spare self-test failed while SUSPECT, since the last landing (Table 22-6a). -/
  selftestFailed : Bool := false
  /-- Newel cores due for substitution at the next landing (R452). -/
  nwlDue : List Nat := []
  deriving DecidableEq, Repr

/-! ## Doorbell hall and host interface (R358 to R386) -/

/-- A host-kind delivery on its way to the host interface (R383, R366). -/
structure Msix where
  target : Nat
  part : Nat
  vector : Nat
  deriving DecidableEq, Repr

/-- The configuration state of one PCI Express function (R366). -/
structure Fn where
  msixEnable : Bool := false
  msixMask : Bool := false
  busMaster : Bool := false
  d3hot : Bool := false
  /-- log2 of the BAR2 size: 34 for the PF, 32 for a VF at reset (Table 17-2). 0 stands for the reset value. -/
  bar2Log2 : Nat := 0
  /-- HIF_VF_REC_PAGE of a VF (Table 17-3). -/
  recPage : Nat := 0
  deriving DecidableEq, Repr

/-- A DOE request object (R372): 0 DOE Discovery, 1 CMA/SPDM, 2 Secured CMA/SPDM. -/
structure DoeObject where
  port : Port
  kind : Nat
  len : Nat
  deriving DecidableEq, Repr

structure HifPart where
  /-- Functions, by port * 64 + (0 for the PF, v + 1 for VF v). -/
  fns : Tab Fn := []
  /-- Vectors whose mask bit was cleared, by function key * 2048 + vector. A vector is masked until then. -/
  unmasked : Tab Bool := []
  /-- Deliveries the hall made that the host interface has not decided, oldest first. -/
  msixQueue : List Msix := []
  /-- Messages held under R366, oldest first. -/
  held : List Msix := []
  /-- The object in each port's DOE mailbox, and the error flag. -/
  doe : List DoeObject := []
  doeError : Tab Bool := []
  /-- Ports whose outstanding device read has reached its completion timeout (R359). -/
  timeouts : List Port := []
  deriving DecidableEq, Repr

/-! ## Bring-up and resets (R424 to R437) -/

structure AtrPart where
  /-- Rails that report power-good, in the order of Table 21-1; 9 when all do. -/
  rails : Nat := 9
  /-- The input is valid; the power-on sequence runs or has ended. -/
  inputValid : Bool := true
  powering : Bool := true
  /-- Failed sequences since the input became valid (R426), and a retry that waits for its second. -/
  failures : Nat := 0
  retryDue : Bool := false
  /-- PWR_DIS is high; the hardware trip has latched. -/
  disabled : Bool := false
  tripped : Bool := false
  /-- Spare phases left of each rail, by its order less 1 (Table 1-16). -/
  phases : Tab Nat := []
  /-- The next start reports a thermal trip (R483). -/
  tripReport : Bool := false
  /-- What the next start is: ATR_START KIND, REQUESTER. -/
  startKind : Nat := 0
  requester : Nat := 0
  /-- A warm start that has been accepted and waits for its module reset: PRESERVE_HBM (R427). -/
  warm : Option Bool := none
  /-- Contexts whose reset waits, as context keys, each with the partition whose reset asked, or none (R435, R436). -/
  ctxResets : List (Nat × Option Nat) := []
  /-- Partitions whose reset is accepted and has not taken effect. -/
  partResets : List Nat := []
  /-- Partitions whose reset has taken effect and whose context resets run. -/
  partRunning : List Nat := []
  deriving DecidableEq, Repr

/-! ## Vestibule (R406 to R422) -/

/-- A firmware image in a bank of the module flash (Table 20-3). -/
structure FwImage where
  present : Bool := false
  svn : Nat := 0
  version : Nat := 0
  edKey : Nat := 0
  mldsaKey : Nat := 0
  revokeEn : Bool := false
  revokeMask : Nat := 0
  hash : Bytes := List.replicate 48 0
  deriving DecidableEq, Repr

/-- A firmware component: its banks A and B, its boot selector, the bank that runs, and its fused floor (R407 to R415). The
flag b of a bank is true for bank B. -/
structure FwComp where
  bankA : FwImage := { present := true }
  bankB : FwImage := {}
  selector : Bool := false
  running : Bool := false
  /-- The bank that does not run is recorded as staged. -/
  staged : Bool := false
  otherFailed : Bool := false
  floor : Nat := 0
  /-- The component's unit is out of reset. -/
  released : Bool := false
  deriving DecidableEq, Repr

/-- A secured SPDM session (R412, R413): the root its requester's chain ends at, where it authenticated mutually. -/
structure Session where
  path : Nat
  finished : Bool := false
  chain : Option OwnerRoot := none
  deriving DecidableEq, Repr

/-- What waits for the vestibule, in order of arrival (R422). -/
inductive VesItem where
  | cmd (agent : Agent) (op comp addr len : Nat)
  | enroll (agent : Agent) (addr len serial keys : Nat) (good : Bool)
  | doe (x : Port)
  | prog (unit : Nat)
  /-- ActivateFirmware of a component (R414, R466). -/
  | pldm (comp : Nat)
  deriving DecidableEq, Repr

/-- Where a PLDM firmware update stands (R466). -/
inductive UpdatePhase where
  | idle | learn | ready | download | transferred | verified | activate
  deriving DecidableEq, Repr

structure PldmUpdate where
  phase : UpdatePhase := .idle
  /-- The agent's maximum transfer size. -/
  maxXfer : Nat := 0
  /-- The components of its table, and those staged. -/
  table : List Nat := []
  staged : List Nat := []
  /-- The component in hand, its image's length, and the bytes pulled so far. -/
  comp : Nat := 0
  size : Nat := 0
  image : Bytes := []
  /-- The outcome of the image's check: DETAIL of Table 20-12, 1 when all pass. -/
  detail : Nat := 0
  deriving DecidableEq, Repr

structure VesPart where
  /-- Components by COMPONENT. -/
  comps : Tab FwComp := []
  /-- Revoked manifest indices, of both key kinds. -/
  revoked : Nat := 0
  owner : Option OwnerRoot := none
  /-- The last accepted enrolment: its serial, and its key pairs. -/
  enrolSerial : Nat := 0
  enrolled : Nat := 0
  queue : List VesItem := []
  sessions : List Session := []
  /-- Fabric roots installed and not yet active: serial and ACTIVE_AT (R419). -/
  roots : List (Nat × Nat) := []
  /-- The measurement log: slot and value (R411). -/
  log : List (Nat × Bytes) := []
  /-- Debug paths used since module reset: 0 BAR0, 1 J7 (R420). -/
  debugPaths : List Nat := []
  /-- The component whose live activation runs (R415). -/
  activating : Option Nat := none
  update : PldmUpdate := {}
  deriving DecidableEq, Repr

/-! ## Stairwell and almanac (R240 to R267) -/

/-- Why a migration runs. -/
inductive MigKind where
  /-- MIGR of a unit, its token to counter ctr. -/
  | migr (unit ctr : Nat)
  /-- PARK of a unit with a time to live in seconds. -/
  | park (unit ctr ttl : Nat)
  /-- A demand write (R243). -/
  | demand
  /-- Demotion under pressure of a parked group (R256). -/
  | demotion
  /-- A record command PARK or UNPARK (R254). -/
  | recPark
  | recUnpark
  /-- The load of an almanac entry or its first window, the new layer of an ADVANCE (R258, R259). -/
  | almLoad (entry : Nat)
  | almAdvance (entry layer : Nat)
  /-- The return of an entry to its backing frames (R258). -/
  | almEvict (entry : Nat)
  deriving DecidableEq, Repr

/-- A migration that runs: the units from `first` on of a partition's space, to a tier (R250). -/
structure Migration where
  part : Nat
  space : Nat
  first : Nat
  count : Nat
  tier : Nat
  kind : MigKind
  deriving DecidableEq, Repr

/-- A write held until its unit is homed or out of transit (R243, R250). -/
structure HeldWrite where
  part : Nat
  addr : Nat
  data : Bytes
  deriving DecidableEq, Repr

/-- A read held until its group is homed (R248). -/
structure HeldRead where
  part : Nat
  addr : Nat
  len : Nat
  deriving DecidableEq, Repr

/-- A MIGR or PARK that waits in the move queue for the end of a migration of its group (R252). -/
structure MoveReq where
  part : Nat
  base : Nat
  tier : Nat
  kind : MigKind
  deriving DecidableEq, Repr

/-- A record command of STW_P_REC (R254): op 1 PARK, 2 UNPARK, 3 FREE. -/
structure RecCmd where
  agent : Nat
  part : Nat
  record : Nat
  gen : Nat
  op : Nat
  tier : Nat
  /-- The next page-list entry, and whether its group is moving. -/
  index : Nat := 0
  moving : Bool := false
  started : Bool := false
  /-- The status the command ends with, once it is known. -/
  status : Option Status := none
  deriving DecidableEq, Repr

/-- A key slot's hidden part (R261, R262): its key identifier and write counter. -/
structure KeySlot where
  keyId : Word := 0
  counter : Nat := 0
  deriving DecidableEq, Repr

structure StwPart where
  /-- Frames in use, by home address (T3: 2^64 + the global fabric address), holding the partition plus 1. -/
  frames : Tab Nat := []
  /-- What the encrypted frames hold, byte by byte under the same addresses. -/
  plain : Tab Byte := []
  migs : List Migration := []
  heldWrites : List HeldWrite := []
  heldReads : List HeldRead := []
  moveReqs : List MoveReq := []
  /-- Groups a CWR has passed to the stairwell for homing (R248): partition, record, group. -/
  homing : List (Nat × Nat × Nat) := []
  recCmds : List RecCmd := []
  /-- Key slots, by partition * 2 + slot, and the last generation issued, by partition. -/
  keys : Tab KeySlot := []
  lastGen : Tab Nat := []
  /-- The next unit of a running sweep plus 1, by partition; 0 when no sweep runs, and whether the last sweep is done. -/
  sweep : Tab Nat := []
  sweepDone : Tab Bool := []
  /-- ADVANCE commands that wait behind another of their entry: entry, layer, agent code. -/
  advances : List (Nat × Nat × Nat) := []
  deriving DecidableEq, Repr

/-! ## Galleries (R122 to R161) -/

/-- A tile instruction in a bay's queue (R73): its opcode, its descriptors and its IMM as they stood at issue. -/
structure TileOp where
  op : Nat
  d : Desc
  a : Desc
  b : Desc
  imm : Nat
  deriving DecidableEq, Repr

/-- What the gallery keeps of a pre-emption: the apply point it began at, and the tags saved (R134, R153). -/
structure SaveInfo where
  atMer : Nat := 0
  atCycle : Nat := 0
  /-- Tags of the save-table ranges: whether the tag is the gallery store's, its key, and its value. -/
  tags : List (Bool × Nat × Nat) := []
  deriving DecidableEq, Repr

structure GalPart where
  /-- Bay queues, oldest first, by gallery * 16 + bay (R73). -/
  queues : Tab (List TileOp) := []
  /-- Block tags of the operand buffers, by (gallery * 16 + bay) * 384 + slot, and of the gallery stores, by
  gallery * 8192 + slot (R151). -/
  obTags : Tab Nat := []
  gsTags : Tab Nat := []
  /-- Code tables that passed and wait for their apply point, by gallery * 16 + table (R146): their 17 words. -/
  pendTables : Tab (List Word) := []
  /-- Bays due for substitution, by gallery: logical bay, and whether an uncorrectable error caused it (R137). -/
  substDue : Tab (List (Nat × Bool)) := []
  /-- Bays whose 2 MiB are being copied to the spare, by gallery * 16 + bay (R138). -/
  copying : Tab Bool := []
  saves : Tab SaveInfo := []
  deriving DecidableEq, Repr

/-! ## Near-bank units (R202 to R223) -/

/-- Where a segment of a pseudo-channel stands: issued by ATTN, asked for (SEG_REQ), granted, or in its boundary gap. -/
inductive SegPhase where
  | idle | issued | requested | running | gap
  deriving DecidableEq, Repr

/-- The segment of one pseudo-channel: its work item and descriptors, and what SEG_REQ carried. -/
structure Seg where
  phase : SegPhase := .idle
  item : Nat := 0
  ta : Desc := 0
  td : Desc := 0
  /-- Entries the segment takes, and its time T (R202). -/
  take : Nat := 0
  cycles : Nat := 0
  /-- The near-bank unit has ended the segment. -/
  ended : Bool := false
  deriving DecidableEq, Repr

/-- An ordinary access in a hold queue (R213). -/
structure HeldAccess where
  write : Bool
  addr : Nat
  len : Nat
  data : Bytes
  deriving DecidableEq, Repr

structure NbPart where
  /-- Segments, by stack * 32 + logical pseudo-channel. -/
  segs : Tab Seg := []
  /-- OWED, under the same keys (R217). -/
  owed : Tab Nat := []
  /-- Hold queues, oldest first, under the same keys. -/
  held : Tab (List HeldAccess) := []
  /-- Merge stores, by stack * 262144 + offset (R205). -/
  merge : Tab Byte := []
  /-- The result of the last segment of a position, by stack * 32 + position: its status code and failing entry. -/
  last : Tab (Nat × Nat) := []
  /-- Logical pseudo-channels due for substitution behind a running copy, by stack (R220). -/
  due : Tab (List Nat) := []
  /-- Stacks whose copy has ended and whose REMAP waits for a landing (R221). -/
  remap : Tab Bool := []
  deriving DecidableEq, Repr

/-! ## Catalogue (R172 to R184) -/

/-- Batch states of Table 8-11; a DONE batch leaves the table. -/
inductive BatchState where
  | queued | running | preempted
  deriving DecidableEq, Repr

/-- A batch the catalogue holds (R178). -/
structure Batch where
  part : Nat
  seq : Nat
  dpa : Nat
  tag : Word
  kind : Nat
  state : BatchState := .queued
  /-- Its records, and whether each took the header's adapter handle (R180). -/
  recs : List (Nat × Bool)
  /-- The adapter slots it holds a reference on, one for each bound record. -/
  refs : List Nat
  /-- It holds a latency-critical record; the level of the most urgent one. -/
  lc : Bool
  level : Nat
  deadline : Nat
  /-- Almanac entries the descriptor's header names (R132), and those of its records and bound adapters (R260). -/
  named : List Nat
  used : List Nat
  group : Nat := 0
  /-- Galleries of its group at dispatch, and those that have credited it (R183). -/
  gals : List Nat := []
  credited : List Nat := []
  /-- Dispatched under R182. -/
  preempting : Bool := false
  /-- The number of its dispatch, and the meridian its wait began. -/
  dispatchNo : Nat := 0
  waitFrom : Nat := 0
  /-- The progress word its header holds. -/
  progress : Word := 0
  /-- The status of a RESTORE that failed during the batch (Table 8-11). -/
  endStatus : Status := .ok
  deriving DecidableEq, Repr

/-- A pre-emption in progress (R182). -/
structure Preempt where
  part : Nat
  group : Nat
  gals : List Nat
  deriving DecidableEq, Repr

structure CatPart where
  batches : List Batch := []
  nextSeq : Nat := 0
  nextDispatch : Nat := 0
  /-- Completion records that wait for ring space, oldest first (R176): partition and words. -/
  waiting : List (Nat × List Word) := []
  /-- Meridian plus 1 in which a partition's CQ_STALL last counted. -/
  stalled : Tab Nat := []
  /-- Admissions of each partition in this meridian (Table 8-7). -/
  admits : Tab Nat := []
  preempts : List Preempt := []
  /-- Batch slots each gallery has outstanding (R131). -/
  outstanding : Tab Nat := []
  deriving DecidableEq, Repr

/-! ## Partitions and maps (R387 to R404) -/

/-- A barrier slot's open due meridian (R401): arrivals so far, the waiting BARFs as (unit, counter), and whether the
node has told the root. -/
structure BarOpen where
  slot : Nat
  due : Nat
  arrivals : Nat := 0
  waiters : List (Nat × Nat) := []
  told : Bool := false
  deriving DecidableEq, Repr

structure PrtPart where
  /-- Map images: current, previous and staged (R393), as the bytes that are not 0. -/
  cur : Tab Byte := []
  prev : Tab Byte := []
  staged : Tab Byte := []
  /-- Meridian whose landing ends the previous map's drain window (R395). -/
  prevUntil : Nat := 0
  /-- A map has switched since module reset (R396). -/
  everSwitched : Bool := false
  barriers : List BarOpen := []
  /-- The image address of a LOAD that runs (R394). -/
  loadFrom : Nat := 0
  /-- Meridian plus 1 at which each partition's drain started (R391). -/
  drainFrom : Tab Nat := []
  /-- A mirror of the running copy sweep has failed (R399). -/
  sweepFailed : Bool := false
  deriving DecidableEq, Repr

/-! ## Photometer (R455 to R469) -/

/-- A debug memory access in hand (R461): its path (0 BAR0, 1 J7), whether it writes, its address. -/
structure DbgAccess where
  path : Nat
  write : Bool
  addr : Nat
  deriving DecidableEq, Repr

/-- A die-to-die module at its receiver (R9, R10): blocks delivered, successive bad checks of the block in hand, blocks
asked for again, and whether the link has failed. -/
structure D2d where
  delivered : Nat := 0
  bad : Nat := 0
  resent : Nat := 0
  failed : Bool := false
  deriving DecidableEq, Repr

structure PhoPart where
  /-- The 2,048-record trace buffer, oldest first (R460). -/
  trace : List (Word × Word) := []
  /-- The record index a sampling pass has reached; none when no pass runs (R458). -/
  samplePass : Option Nat := none
  /-- Meridian plus 1 of the last landing at which sampling ran, 0 before the first. -/
  sampledAt : Nat := 0
  /-- Debug accesses whose BUSY is 1. -/
  dbg : List DbgAccess := []
  /-- Die-to-die modules: 0 to 5 East Wing to atrium, 6 to 11 West Wing to atrium, 12 to 15 East Wing to West Wing. -/
  d2d : Tab D2d := []
  deriving DecidableEq, Repr

/-! ## Management (R464, R465) -/

structure MgmtPart where
  /-- Endpoint IDs: 0 I3C, 1 PCIe vendor-defined messages. -/
  eids : Tab Nat := []
  /-- The event receiver: its binding and endpoint ID. -/
  receiver : Option (Binding × Nat) := none
  /-- What each sensor last showed a receiver: its state, or the band its reading lies in. -/
  shown : Tab Nat := []
  deriving DecidableEq, Repr

/-- What leaves the module and is not written to memory the model holds. -/
inductive Out where
  /-- An MSI-X message: the port, the function (0 the PF, v + 1 VF v) and the vector. -/
  | msix (port : Port) (fn vector : Nat)
  /-- A PTP message on a fabric port: 0 Sync, 1 Follow_Up, 2 Delay_Req, 3 Pdelay_Req, 4 Announce, 5 Delay_Resp,
  6 Pdelay_Resp, 7 Pdelay_Resp_Follow_Up. -/
  | ptp (port kind : Nat)
  /-- A transport packet handed to the orrery: the destination node, the packet kind, and its words. -/
  | packet (node kind : Nat) (words : List Word)
  /-- A link-local block sent on a port: kind 0 DATA, 1 CONTROL, with its sequence number. -/
  | linkBlock (port kind seq : Nat)
  /-- An answer on a management binding: the binding, the code of the answer, its words. -/
  | answer (binding code : Nat) (words : List Word)
  /-- The outcome of a host read through a BAR: the port, the status of the completion (0 served, 1 UR, 2 CA), data. -/
  | completion (port : Port) (status : Nat) (data : Nat)
  /-- The answer to a tensor-address read: the partition, the address, the status and the data (none unless OK). -/
  | tensor (part addr status : Nat) (data : Bytes)
  /-- A stack's answer to NB_STATUS: the position, the status code and the failing entry. -/
  | nbStatus (stack position status entry : Nat)
  /-- The answer to an ordinary read at a wing controller: the address, the status and the data (none unless OK). -/
  | readData (addr status : Nat) (data : Bytes)
  /-- A pin's new level: 0 ALERT#, 1 others. -/
  | pin (pin level : Nat)
  deriving DecidableEq, Repr

end Sys2Proof.Machine
end

