-- ==== Sys2Proof/Machine/FabParts.lean ====
section
/-! DEFINITION. The parts of the machine's state that serve the fabric, as plain data: the transport, the links, the
orrery and the heliostat (R268 to R357). -/

namespace Sys2Proof.Machine

/-! ## Transport (R316 to R343) -/

/-- Who a request, message or packet is for. -/
inductive Owner where
  | none
  /-- The running work request of an in-flight slot. -/
  | wr (slot : Nat)
  /-- The waiting remote access of a newel background context. -/
  | remote (unit ctx : Nat)
  /-- An RFL, whose token goes to a counter of its unit. -/
  | flush (unit ctr : Nat)
  /-- A close or take-back of an outbound or inbound handover entry (R289). -/
  | close (inbound : Bool) (h : Nat)
  /-- The anchor's mirror or copy of the word it has just stored (R283, R399). -/
  | mirror
  /-- The anchor copy sweep (R399). -/
  | sweep
  /-- The device's own barrier work of a slot and due meridian (R401). -/
  | barrier (slot due : Nat)
  deriving DecidableEq, Repr

/-- Where the data of a packet comes from: a partition's tensor address, or a DPA. -/
structure Src where
  part : Option Nat
  addr : Nat
  deriving DecidableEq, Repr

/-- A packet, or the packets still to be sent of one message (Table 15-3). -/
structure Send where
  /-- The local connection context, and the kind. -/
  ctx : Nat
  kind : Nat
  /-- The traffic kind of Table 16-1. -/
  tk : Nat := 0
  owner : Owner := .none
  /-- The unit in whose remote issue queue it holds a place (R67). -/
  unit : Option Nat := none
  /-- The message it belongs to, by id; 0 for none. -/
  msg : Nat := 0
  /-- The fields of the kind part in packing order, as they stand for offset 0. -/
  flds : List Nat := []
  /-- The data still to be sent: from memory on, `left` bytes, or given. `off` is the offset of the first of them. -/
  src : Option Src := none
  left : Nat := 0
  data : Bytes := []
  off : Nat := 0
  /-- A re-send keeps its PSN; its units may have been paid (R332). -/
  psn : Option Nat := none
  paid : Bool := false
  timeouts : Nat := 0
  /-- The map epoch that must no longer be current before the packet is sent again (R341). -/
  heldAt : Option Nat := none
  /-- A flush waits for the sending of the messages it covers: issuer unit, issuing context (none for every context of the
  unit), node, partition, and the first id it does not cover (R335). -/
  flushOf : Option (Nat × Option Nat × Nat × Nat × Nat) := none
  /-- The port the orrery has chosen, once the packet is at the head of its queue (R352). -/
  port : Option Nat := none
  deriving DecidableEq, Repr

/-- A packet that was sent and is not acknowledged. -/
structure Sent where
  send : Send
  psn : Nat
  units : Nat
  epoch : Nat
  deriving DecidableEq, Repr

/-- An outstanding request: it awaits a response on its context under its number. -/
structure Req where
  ctx : Nat
  req : Nat
  kind : Nat
  owner : Owner
  /-- Where read data is placed: in memory, or in the work request's buffer from `base` on; and how many bytes have come. -/
  dst : Option Src := none
  base : Nat := 0
  got : Nat := 0
  /-- The line a load fills, its key and partition; `keep` falls when an INVAL overtakes it (R338). -/
  line : Option (Nat × Nat × Nat) := none
  keep : Bool := true
  /-- What a flush covers. -/
  covers : Option (Nat × Option Nat × Nat × Nat × Nat) := none
  deriving DecidableEq, Repr

/-- A message or posted write on its way, for flushes (R274, R335). -/
structure Msg where
  id : Nat
  unit : Nat
  ictx : Nat
  node : Nat
  /-- None for an INVAL, which counts as a write to every partition of its node (R338). -/
  part : Option Nat
  bytes : Nat
  /-- Only messages of work requests are covered by a FLUSH; an RFL covers every write of its unit. -/
  wr : Bool := false
  failed : Option Status := none
  /-- The in-flight slot's start number, the outbound handover entry and its layer. -/
  start : Nat := 0
  layer : Option (Nat × Nat) := none
  /-- An INVAL that INVAL_ACK has not answered, with its line, and the connection it went out on. -/
  inval : Option Nat := none
  ctx : Nat := 0
  deriving DecidableEq, Repr

/-- A class C packet at its receiver (Table 15-3). -/
structure CPkt where
  kind : Nat
  psn : Nat
  addr : Nat
  key : Nat
  size : Nat := 0
  line : Bool := false
  req : Nat := 0
  data : Word := 0
  swap : Word := 0
  source : Nat := 0
  /-- The verdict on encrypted homes a load reads (R264). -/
  good : Bool := true
  deriving DecidableEq, Repr

/-- An incomplete inbound message (R334): a WRITE by its context and MSG number, a layer by its context, record, epoch and
layer. `ranges` are the distinct placed pieces. -/
structure InMsg where
  ctx : Nat
  layer : Option (Nat × Nat × Nat) := none
  msg : Nat := 0
  part : Nat
  node : Nat
  tag : Nat := 0
  ctrInc : Nat := 0
  len : Nat
  ranges : List (Nat × Nat) := []
  deriving DecidableEq, Repr

/-- A key slot of a context (R330). -/
structure TpKey where
  held : Bool := false
  gen : Nat := 0
  count : Nat := 0
  deriving DecidableEq, Repr

/-- A connection context (R316 to R331). `state` is the code of Table 15-1. -/
structure TpCtx where
  state : Nat := 0
  part : Nat := 0
  node : Nat := 0
  peerPart : Nat := 0
  peerCtx : Nat := 0
  aes : Bool := false
  cached : Bool := false
  pinned : Bool := false
  lastUse : Nat := 0
  tries : Nat := 0
  /-- As a sender: the next PSN, the lowest not acknowledged, the units granted and held, and whether a CREDIT_REQ is out. -/
  txPsn : Nat := 0
  txBase : Nat := 0
  granted : Nat := 0
  held : Nat := 0
  asked : Bool := false
  /-- A REVOKE has come and is not answered: no further credited packet is sent until it is. -/
  returnDue : Bool := false
  /-- As a receiver: the window base, the PSNs received above it, the units the peer holds, the units granted since OPEN. -/
  rxBase : Nat := 0
  rxSeen : List Nat := []
  out : Nat := 0
  rxGranted : Nat := 0
  /-- A REVOKE has been sent and is not answered. -/
  revoking : Bool := false
  /-- Arrivals since the last ACK, and the meridian of the last credited packet. -/
  arrivals : Nat := 0
  lastArrival : Nat := 0
  /-- PSNs below which everything is placed are refused ones (R335). -/
  refused : List Nat := []
  /-- Class C packets that wait for a gap (R333). -/
  waitC : List CPkt := []
  /-- Flushes that wait: PSN, request number, UPTO. -/
  waitF : List (Nat × Nat × Nat) := []
  /-- The replies kept for the last 64 requests, by the request's PSN (R332). -/
  kept : List (Nat × Send) := []
  keyA : TpKey := {}
  keyB : TpKey := {}
  txSlot : Nat := 0
  /-- The other slot holds a generation that is not retired, and the first PSN received under the new one. -/
  oldLive : Bool := false
  newPsn : Option Nat := none
  /-- The generation a KEYCHG of this end has offered. -/
  offered : Option Nat := none
  nextReq : Nat := 0
  nextMsg : Nat := 0
  /-- The port of the last class S packet (R333). -/
  lastPort : Nat := 3
  /-- Agents whose command waits for its outcome: CREATE, CLOSE, KEY_INSTALL and KEY_SWITCH. -/
  waiting : List (Nat × Nat) := []
  deriving DecidableEq, Repr

/-- A packet in the miss buffer (R321). -/
inductive Miss where
  | open (ctx srcCtx : Nat) (aes : Bool)
  | close (ctx : Nat)
  | creditReq (ctx want : Nat)
  | inval (ctx addr : Nat)
  | keychg (ctx gen : Nat)
  deriving DecidableEq, Repr

/-- A line of the remote-line cache (R337). -/
structure RlcLine where
  line : Nat
  part : Nat
  key : Nat
  data : Bytes
  deriving DecidableEq, Repr

structure TpPart where
  ctxs : Tab TpCtx := []
  /-- Use count, for least recently used. -/
  uses : Nat := 0
  /-- Packets that wait to be sent, in order of offer, and express packets. -/
  sends : List Send := []
  express : List Send := []
  sent : List Sent := []
  reqs : List Req := []
  msgs : List Msg := []
  nextMsg : Nat := 1
  inMsgs : List InMsg := []
  misses : List Miss := []
  /-- Contexts whose backing entry is being fetched. -/
  fetching : List Nat := []
  /-- Credit-free packets refused with CTX_BUSY, that wait for BUSY_RETRY_US (R321). -/
  busy : List Send := []
  /-- Most recently used first. -/
  rlc : List RlcLine := []
  /-- Contexts with a key that the vestibule derives, and whether a CREATE asked (R330). -/
  derives : List (Nat × Bool) := []
  /-- The root serial under which each context was last created with AES-256-GCM, plus 1 (R419). -/
  serials : Tab Nat := []
  deriving DecidableEq, Repr

/-! ## Links (R297 to R315) -/

/-- A DATA block in a replay buffer (R303). -/
structure Replay where
  seq : Nat
  lane : Nat
  resends : Nat := 0
  packets : List (Nat × Nat)
  deriving DecidableEq, Repr

structure Link where
  txSeq : Nat := 0
  rxSeq : Nat := 0
  /-- Sequence numbers held out of order. -/
  reorder : List Nat := []
  replay : List Replay := []
  /-- The next logical lane position. -/
  nextLane : Nat := 0
  /-- Lanes that locked in their last adaptation, as 20 bits, and how many spares are left. -/
  locked : Nat := 0
  spares : Nat := 4
  /-- A RETRAIN that has trained and looks for its partner. -/
  aligning : Bool := false
  /-- Substitutions that wait for the landing: logical position and the lane that leaves it. -/
  substs : List (Nat × Nat) := []
  /-- Lanes still to be retuned, in order (R309). -/
  recal : List Nat := []
  /-- A recalibration waits for the end of a cartridge move (R312). -/
  deferred : Bool := false
  deriving DecidableEq, Repr

structure FabPart where
  links : Tab Link := []
  deriving DecidableEq, Repr

/-! ## Orrery (R344 to R357) -/

structure OrrPort where
  /-- Deficits of the eight classes, the class served last, and the partition served last in each class. -/
  deficit : List Nat := [0, 0, 0, 0, 0, 0, 0, 0]
  nextClass : Nat := 0
  lastPart : List Nat := [63, 63, 63, 63, 63, 63, 63, 63]
  /-- The last 64 block starts, newest first: true for an express start (R345). -/
  starts : List Bool := []
  deriving DecidableEq, Repr

structure OrrPart where
  ports : Tab OrrPort := []
  /-- Gate lists in force, as the meridian that began last found them (R354): port * 8 + entry. -/
  gates : Tab Word := []
  /-- Fractions of a byte of the bucket fill, by partition, in units of 1/1350 byte. -/
  frac : Tab Nat := []
  /-- Meridians with every enabled port UP since the last RETRAIN, while in automatic BUCKET. -/
  hold : Nat := 0
  autoDue : Bool := false
  /-- Partitions and classes of the packets started in the running control cycle (R355). -/
  started : List (Nat × Nat) := []
  deriving DecidableEq, Repr

/-! ## Heliostat (R268 to R296) -/

/-- A work request that RPOST put into a unit's remote issue queue. `part` is none for a context without a partition. -/
structure Posted where
  unit : Nat
  ctx : Nat
  part : Option Nat
  words : List Word
  deriving DecidableEq, Repr

/-- A running work request (R269). -/
structure Wr where
  words : List Word
  /-- A unit number, or 0xFF for a host ring, and the issuing context. -/
  unit : Nat
  ictx : Nat
  part : Nat
  fired : Bool
  start : Nat
  done : Option Status := none
  result : Word := 0
  mirrorFailed : Bool := false
  progress : Word := 0
  /-- The first failing status of a LAYER, and the bytes it carries for each layer (R288). -/
  fail : Status := .ok
  phase : Nat := 0
  waits : Nat := 0
  buf : Bytes := []
  /-- The record's STATE and GEN at the start of a CKPT, and the key slot it counts in (R292). -/
  recState : Nat := 0
  recGen : Nat := 0
  keySlot : Nat := 0
  deriving DecidableEq, Repr

/-- What a trigger slot remembers beside its registers (R276, R278). -/
structure Trig where
  holds : Bool := false
  dead : Bool := false
  deriving DecidableEq, Repr

/-- What a handover entry remembers beside its registers (R289). -/
structure Handover where
  /-- The close (or take-back) is due, sent, or waits for a retry. -/
  due : Bool := false
  sent : Bool := false
  takeBack : Bool := false
  retryAtMap : Bool := false
  retryAtLanding : Bool := false
  retries : Nat := 0
  /-- The work request whose FINAL flush ended it, and its first failing status. -/
  slot : Nat := 0
  fail : Status := .ok
  hkey : Nat := 0
  layerBytes : Nat := 0
  /-- The epoch of the map under which the last attempt was made. -/
  epoch : Nat := 0
  deriving DecidableEq, Repr

/-- An op at the anchor (R282). `src` is none for one of this node's own, with its owner. -/
structure OwnOp where
  src : Option (Nat × Nat × Nat)
  owner : Owner := .none
  kind : Nat
  part : Nat
  epoch : Nat
  req : Word
  expected : Word
  new : Word
  mirror : Bool
  mirrorNode : Nat
  mirrorPart : Nat
  /-- Decided, with mirrors outstanding. -/
  decided : Bool := false
  waits : Nat := 0
  status : Status := .ok
  failed : Bool := false
  result : Word := 0
  deriving DecidableEq, Repr

/-- A flush that has its answer (R274): who issued it, what it covers, and whether everything was placed. -/
structure FlushEnd where
  owner : Owner
  covers : Nat × Option Nat × Nat × Nat × Nat
  ctx : Nat
  status : Status
  deriving DecidableEq, Repr

/-- A frame of a checkpoint image as it was sealed: key identifier, nonce and plaintext (R291). -/
structure Sealed where
  key : Word
  nonce : Nat
  data : Bytes
  deriving DecidableEq, Repr

structure HelPart where
  posted : List Posted := []
  /-- Fired work requests at the head of their partitions' host-ring queues, oldest firing last. -/
  fired : List (Nat × List Word) := []
  wrs : Tab Wr := []
  /-- The queue served last: 0 to 63 a host ring, then the heliostat sequencer, then the newel cores. -/
  lastQueue : Nat := 72
  starts : Nat := 0
  trigs : Tab Trig := []
  outs : Tab Handover := []
  ins : Tab Handover := []
  waiting : List (Nat × List Word) := []
  stalled : Tab Nat := []
  measuring : Bool := false
  /-- Start of the measured time: meridian and cycle. -/
  measFrom : Option (Nat × Nat) := none
  measMsgs : List Nat := []
  ops : List OwnOp := []
  flushes : List FlushEnd := []
  images : List Sealed := []
  /-- Progress words last written to records, by handover direction and entry (R273). -/
  lastProgress : Tab Word := []
  deriving DecidableEq, Repr

end Sys2Proof.Machine
end

