-- ==== Sys2Proof/Syntax.lean ====
section
/-! DEFINITION. The commands of the block: one constructor for each row of spec/opcode_table.json, with the row's
operands. A Larty instruction names the context that issues it and the fields of its word below the opcode. -/

namespace Sys2Proof

open Sys2Proof.Machine

inductive Instr where
  /-- REGISTER_WRITE (R485): A write to a register that has no row of its own enters the shadow or live copy, or is refused and counted in PREFIX_REFUSED. -/
  | registerWrite (a : Agent) (off : BitVec 26) (narrow : Bool) (w : Word)
  /-- EXPERT_LIVE_WRITE (R42): A write at an expert or live offset takes effect at once only if XPT holds 0xE1, the block is IDLE, no commit is pending and the value passes the block's checks; otherwise it is refused. -/
  | expertLiveWrite (a : Agent) (off : BitVec 26) (w : Word)
  /-- COMMIT_REQUEST (R39): A write of 1 to PREFIX_COMMIT.GO asks for the block's shadow copies to apply at the next apply point and sets SHADOW_PENDING. -/
  | commitRequest (a : Agent) (b : Blk) (inst : Fin 64)
  /-- D2D_BLOCK_RECEIVE (R9): A die-to-die receiver checks the 32-bit check of a 2 KiB block, delivers it in order or discards it and asks for a re-send. -/
  | d2dBlockReceive (m : Fin 16) (good : Bool)
  /-- D2D_LINK_FAIL (R10): After 16 failed re-sends of one block the die-to-die link fails, a fault record is written and its traffic moves to the remaining modules. -/
  | d2dLinkFail (m : Fin 16)
  /-- TOKEN_GIVE_ARRIVE (R12): A give reaches the receiving token or credit counter and adds its count, ordered after any take of the same cycle. -/
  | tokenGiveArrive (i : Nat)
  /-- MERIDIAN_START (R33): A new meridian begins, the meridian count rises by 1 and waiting critical slices start. -/
  | meridianStart
  /-- DRAIN_START (R35): At cycle B the slice window closes; no new critical slice starts and issued work drains. -/
  | drainStart
  /-- APPLY_POINT (R40): At cycle B+64 every block with a due commit copies its shadow fields to the live copy in one cycle, refusing fields that fail their checks. -/
  | applyPoint
  /-- PTP_MESSAGE_RECEIVE (R46): A PTP message arrives at a port and is timestamped; Sync pairs update the offset and drive the lock state. -/
  | ptpMessageReceive (f : Fin 4) (m : PtpMsg)
  /-- PTP_SYNC_SEND (R46): Acting as master on a port, the timebase sends a Sync and its Follow_Up each Sync interval. -/
  | ptpSyncSend (f : Fin 4)
  /-- SYNC_LOSS_TIMEOUT (R47): With no valid Sync for 4 successive Sync intervals, a LOCKED timebase enters HOLDOVER. -/
  | syncLossTimeout
  /-- ACQUIRE_TIMEOUT (R47): ACQ_TIMEOUT_MS elapses without LOCKED and the timebase returns to FREERUN with a fault record. -/
  | acquireTimeout
  /-- HOLDOVER_TIMEOUT (R47): HOLDOVER lasts LIMIT_MS and the timebase enters FREERUN with a fault record. -/
  | holdoverTimeout
  /-- NOP (R59): No operation. -/
  | nop (x : LCtx) (op : BitVec 8) (f : LFields)
  /-- BR (R60): A branch adds a signed word offset to the PC, under its guard. -/
  | br (x : LCtx) (f : LFields)
  /-- CALL (R59): Saves PC+1 in gd and branches by a signed offset. -/
  | call (x : LCtx) (f : LFields)
  /-- JR (R59): Jumps to the word index held in ga. -/
  | jr (x : LCtx) (f : LFields)
  /-- MYLD (R52): Ends a critical slice, or makes a background context wait for the next meridian start. -/
  | myld (x : LCtx) (f : LFields)
  /-- MCHK (R36): Writes the remaining slice budget in arithmetic cycles to gd. -/
  | mchk (x : LCtx) (f : LFields)
  /-- MCNT (R59): Writes MER_COUNT to gd. -/
  | mcnt (x : LCtx) (f : LFields)
  /-- HALT (R52): Puts the context in STOPPED and closes a critical slice. -/
  | halt (x : LCtx) (f : LFields)
  /-- BARF (R65): Records the context's arrival at a fabric barrier slot for a due meridian, with its input-late and self-late parts. -/
  | barf (x : LCtx) (f : LFields)
  /-- BRK (R52): Stops the context as a debug stop would. -/
  | brk (x : LCtx) (f : LFields)
  /-- ADD (R59): gd receives ga plus gb modulo 2^64. -/
  | add (x : LCtx) (f : LFields)
  /-- SUB (R59): gd receives ga minus gb modulo 2^64. -/
  | sub (x : LCtx) (f : LFields)
  /-- AND (R59): gd receives the bitwise AND of ga and gb. -/
  | and (x : LCtx) (f : LFields)
  /-- OR (R59): gd receives the bitwise OR of ga and gb. -/
  | or (x : LCtx) (f : LFields)
  /-- XOR (R59): gd receives the bitwise XOR of ga and gb. -/
  | xor (x : LCtx) (f : LFields)
  /-- SHL (R59): Shifts ga left by an immediate or register amount. -/
  | shl (x : LCtx) (f : LFields)
  /-- SHR (R59): Shifts ga right logically. -/
  | shr (x : LCtx) (f : LFields)
  /-- SRA (R59): Shifts ga right arithmetically. -/
  | sra (x : LCtx) (f : LFields)
  /-- MUL (R59): gd receives the low 64 bits of ga times gb. -/
  | mul (x : LCtx) (f : LFields)
  /-- ADDI (R59): gd receives ga plus the sign-extended immediate. -/
  | addi (x : LCtx) (f : LFields)
  /-- MOVL (R59): gd receives the sign-extended 32-bit immediate. -/
  | movl (x : LCtx) (f : LFields)
  /-- MOVH (R59): The high 32 bits of gd receive the immediate. -/
  | movh (x : LCtx) (f : LFields)
  /-- CMP (R59): pd receives the comparison of ga and gb under COND. -/
  | cmp (x : LCtx) (f : LFields)
  /-- CMPI (R95): pd receives the comparison of ga with a sign-extended immediate under COND. -/
  | cmpi (x : LCtx) (f : LFields)
  /-- PSET (R59): pd receives the truth-table bit selected by pa and pb. -/
  | pset (x : LCtx) (f : LFields)
  /-- TDSET (R57): Writes one 64-bit word of a tile descriptor from ga. -/
  | tdset (x : LCtx) (f : LFields)
  /-- LD (R66): Loads a zero-extended value of 1-8 bytes from local store, tensor space or register space. -/
  | ld (x : LCtx) (f : LFields) (good : Bool)
  /-- ST (R66): Stores the low bytes of gb to local store, tensor space or register space. -/
  | st (x : LCtx) (f : LFields)
  /-- LDT (R57): Loads a 32-byte tile descriptor from memory. -/
  | ldt (x : LCtx) (f : LFields) (good : Bool)
  /-- STT (R66): Stores the 32 bytes of a tile descriptor. -/
  | stt (x : LCtx) (f : LFields)
  /-- AADD (R66): Atomically adds gb to an 8-byte location and returns the old value. -/
  | aadd (x : LCtx) (f : LFields) (good : Bool)
  /-- ACAS (R66): Atomically compares an 8-byte location with gd and swaps in gb, returning the old value. -/
  | acas (x : LCtx) (f : LFields) (good : Bool)
  /-- FENCEL (R66): Later local accesses of the context wait until earlier ones complete. -/
  | fencel (x : LCtx) (f : LFields)
  /-- RLD (R67): Issues a class C remote load and blocks the background context until the response. -/
  | rld (x : LCtx) (f : LFields)
  /-- RST (R67): Posts a class C remote store. -/
  | rst (x : LCtx) (f : LFields)
  /-- RADD (R67): Issues a class C remote atomic add and waits for the old value. -/
  | radd (x : LCtx) (f : LFields)
  /-- RCAS (R67): Issues a class C remote compare-and-swap and waits for the old value. -/
  | rcas (x : LCtx) (f : LFields)
  /-- RPOST (R268): Posts a 64-byte heliostat work request from local memory. -/
  | rpost (x : LCtx) (f : LFields)
  /-- RFL (R274): Posts a flush to a node and partition; a token is given once earlier writes are placed. -/
  | rfl (x : LCtx) (f : LFields)
  /-- RINV (R338): Sends INVAL for a remote line to a reader node. -/
  | rinv (x : LCtx) (f : LFields)
  /-- MBOX (R339): Posts an 8-byte remote write followed by a doorbell at the target partition. -/
  | mbox (x : LCtx) (f : LFields)
  /-- GIVE (R69): Adds a count to a token counter of a unit. -/
  | give (x : LCtx) (f : LFields)
  /-- RETC (R69): Adds a count to a credit counter of a unit. -/
  | retc (x : LCtx) (f : LFields)
  /-- TAKEK (R70): Tries once to take N from a token counter and sets PRES. -/
  | takek (x : LCtx) (f : LFields)
  /-- TAKEC (R70): Tries once to take N from a credit counter and sets PRES. -/
  | takec (x : LCtx) (f : LFields)
  /-- WAITK (R70): Tries each cycle to take N from a token counter until success or LIMIT. -/
  | waitk (x : LCtx) (f : LFields)
  /-- WAITC (R70): Tries each cycle to take N from a credit counter until success or LIMIT. -/
  | waitc (x : LCtx) (f : LFields)
  /-- WAIT_TAKE_SUCCESS (R70): A waiting WAITK or WAITC finds enough in its counter, subtracts N and sets PRES to 1. -/
  | waitTakeSuccess (x : LCtx)
  /-- WAIT_LIMIT_EXPIRED (R70): A WAITK or WAITC reaches its LIMIT without success and sets PRES to 0. -/
  | waitLimitExpired (x : LCtx)
  /-- RDK (R59): Reads a token counter into gd. -/
  | rdk (x : LCtx) (f : LFields)
  /-- RDC (R59): Reads a credit counter into gd. -/
  | rdc (x : LCtx) (f : LFields)
  /-- SETK (R71): Loads a token counter from ga, applied before takes and gives of the cycle. -/
  | setk (x : LCtx) (f : LFields)
  /-- SETC (R71): Loads a credit counter from ga, applied before takes and gives of the cycle. -/
  | setc (x : LCtx) (f : LFields)
  /-- TMMA (R74): Enters a matrix multiply-accumulate in a bay's queue. -/
  | tmma (x : LCtx) (f : LFields)
  /-- TLOAD (R488): Enters a tile copy in a bay's queue, keeping coded blocks coded. -/
  | tload (x : LCtx) (f : LFields)
  /-- TSTORE (R488): Enters a conversion and store of an accumulator tile in a bay's queue. -/
  | tstore (x : LCtx) (f : LFields)
  /-- TEW (R119): Enters an elementwise operation on accumulator tiles. -/
  | tew (x : LCtx) (f : LFields)
  /-- TFN (R120): Enters an elementwise function on an accumulator tile. -/
  | tfn (x : LCtx) (f : LFields)
  /-- TRED (R119): Enters a row reduction into a one-column tile. -/
  | tred (x : LCtx) (f : LFields)
  /-- TSYNC (R73): Waits until every earlier tile instruction to the masked bays has completed. -/
  | tsync (x : LCtx) (f : LFields)
  /-- BAY_INSTRUCTION_COMPLETE (R90): A bay completes the oldest tile instruction of its queue, freeing a queue entry and releasing waiting issues and TSYNC. -/
  | bayInstructionComplete (g bay : Fin 16) (good : Bool) (bubbles busy : Nat)
  /-- ATTN (R76): Issues one attention segment on a logical pseudo-channel for a work item. -/
  | attn (x : LCtx) (f : LFields)
  /-- AMRG (R207): Merges two partial results in the merge store. -/
  | amrg (x : LCtx) (f : LFields)
  /-- AMODE (R77): Sets the stack's compute-mode set if within quota and not lost. -/
  | amode (x : LCtx) (f : LFields)
  /-- ASYNC (R92): Waits until every earlier segment on the named pseudo-channels has completed. -/
  | async (x : LCtx) (f : LFields)
  /-- ATTN_SEGMENT_END (R203): A segment ends, writing the partial result and POS, and STATUS and DONE when the item completes. -/
  | attnSegmentEnd (h : Fin 8) (pc : Fin 31) (ue : Option Nat) (ce : Nat) (good : Bool)
  /-- MOVE (R78): Queues a copy of LEN bytes; a token is given when the last byte is written. -/
  | move (x : LCtx) (f : LFields)
  /-- MOVE_COMPLETE (R78): A queued MOVE writes its last byte and gives its token, or completes with UNCORRECTED. -/
  | moveComplete (i : Nat) (ue good : Bool)
  /-- MIGR (R252): Asks the stairwell to move a page group to a tier. -/
  | migr (x : LCtx) (f : LFields)
  /-- PARK (R253): Asks the stairwell to park a page group with a TTL. -/
  | park (x : LCtx) (f : LFields)
  /-- CRD (R80): Reads one word of a catalogue record. -/
  | crd (x : LCtx) (f : LFields)
  /-- CWR (R165): Writes a program-writable word of a catalogue record. -/
  | cwr (x : LCtx) (f : LFields)
  /-- CSTATE (R80): Changes a record's state atomically if it holds FROM and the transition is allowed. -/
  | cstate (x : LCtx) (f : LFields)
  /-- CADMIT (R174): Admits an admission request from local memory under the checks of R173. -/
  | cadmit (x : LCtx) (f : LFields)
  /-- CCOMMIT (R166): Moves tentative tokens of a record to committed. -/
  | ccommit (x : LCtx) (f : LFields)
  /-- CTRIM (R166): Drops tentative tokens and frees the page groups beyond COMMITTED. -/
  | ctrim (x : LCtx) (f : LFields)
  /-- CPROG (R169): Writes a record's progress word. -/
  | cprog (x : LCtx) (f : LFields)
  /-- BELL (R378): Writes a doorbell word to a doorbell-hall target address. -/
  | bell (x : LCtx) (f : LFields)
  /-- TMARK (R459): Adds a program trace record to the photometer trace. -/
  | tmark (x : LCtx) (f : LFields)
  /-- TADD (R457): Adds ga to a photometer program counter. -/
  | tadd (x : LCtx) (f : LFields)
  /-- CMT (R81): Makes a commit request to a block instance. -/
  | cmt (x : LCtx) (f : LFields)
  /-- CFGW (R81): Writes a BAR0 register under the rules of a host write. -/
  | cfgw (x : LCtx) (f : LFields)
  /-- CFGR (R81): Reads a BAR0 register into gd. -/
  | cfgr (x : LCtx) (f : LFields)
  /-- PROG_STAGE (R99): A write of STAGE sends the image to the vestibule for verification into the standby store. -/
  | progStage (a : Agent) (u : Fin 64)
  /-- PROG_VERIFY_DONE (R99): The vestibule finishes verifying an image and stages it or records the failure in RESULT. -/
  | progVerifyDone (verdict : Fin 4)
  /-- SEG_REQ (R211): The pier die asks the wing controller for the banks of a pseudo-channel for a segment. -/
  | segReq (h : Fin 8) (pc : Fin 31)
  /-- SEG_GRANT (R211): The controller grants every bank of a pseudo-channel to the near-bank unit for T cycles. -/
  | segGrant (h : Fin 8) (pc : Fin 31)
  /-- NB_STATUS (R219): The controller reads the result of the last segment of a position. -/
  | nbStatus (h : Fin 8) (position : Fin 32)
  /-- REMAP (R221): Moves a logical pseudo-channel to a new position at a landing. -/
  | remap (h : Fin 8) (pc : Fin 31) (position : Fin 32)
  /-- SPTEST (R220): Starts or stops self-test on the spare position. -/
  | sptest (h : Fin 8) (start : Bool)
  /-- SEGMENT_GRANT_EXPIRY (R211): A segment's T cycles end; the controller resumes and starts the boundary gap. -/
  | segmentGrantExpiry (h : Fin 8) (pc : Fin 31)
  /-- BOUNDARY_GAP_END (R212): The boundary gap finishes serving held accesses, owed refreshes and the precharge and grant step. -/
  | boundaryGapEnd (h : Fin 8) (pc : Fin 31) (gap hold : Nat)
  /-- ORDINARY_ACCESS (R213): An ordinary access reaches the wing controller and is served, or held while a segment or gap runs. -/
  | ordinaryAccess (addr : BitVec 48) (write : Bool) (len : Nat) (data : Bytes) (ue : Bool)
  /-- REFRESH_DUE (R217): A refresh falls due on a pseudo-channel and is issued or postponed, raising OWED. -/
  | refreshDue (h : Fin 8) (pc : Fin 31)
  /-- REFRESH_RATE_CHANGE (R218): The stack temperature crosses 85 °C and tREFI halves or returns. -/
  | refreshRateChange (h : Fin 8) (temp : BitVec 8)
  /-- NBU_THROTTLE_ENTER (R216): Stack power above CAP or temperature at THROTTLE_C moves the stack to THROTTLE. -/
  | nbuThrottleEnter (h : Fin 8) (power : BitVec 16) (temp : BitVec 8)
  /-- NBU_THROTTLE_EXIT (R216): Power and temperature below their margins for 1 ms return the stack to NORMAL. -/
  | nbuThrottleExit (h : Fin 8) (power : BitVec 16) (temp : BitVec 8)
  /-- NBU_CRITICAL_ENTER (R216): A stack at 105 °C enters CRITICAL and gives no grant. -/
  | nbuCriticalEnter (h : Fin 8) (power : BitVec 16) (temp : BitVec 8)
  /-- NBU_CRITICAL_EXIT (R216): A CRITICAL stack below 100 °C returns to THROTTLE. -/
  | nbuCriticalExit (h : Fin 8) (power : BitVec 16) (temp : BitVec 8)
  /-- NBU_SUBST (R220): A write of GO to NBU_SUBST requests substitution of the spare for a logical pseudo-channel. -/
  | nbuSubst (a : Agent) (h : Fin 8) (index : Fin 32)
  /-- PC_FAULT_SUBST (R220): A corrected-error threshold or an uncorrectable near-bank error triggers substitution of the spare position. -/
  | pcFaultSubst (h : Fin 8) (pc : Fin 31) (ue : Bool)
  /-- PC_COPY_END (R221): The frame-by-frame copy to the spare position ends. -/
  | pcCopyEnd (h : Fin 8) (lost : List Nat)
  /-- PC_REMAP_APPLY (R221): At the first landing with no segment or gap running, the logical pseudo-channel moves to the spare. -/
  | pcRemapApply (h : Fin 8)
  /-- NBU_LOST_CLEAR (R222): A write of GO removes a lost-frame entry. -/
  | nbuLostClear (a : Agent) (h : Fin 8) (entry : Fin 64)
  /-- GAL_SUBST (R137): A write of GO requests substitution of the spare for a bay. -/
  | galSubst (a : Agent) (g index : Fin 16)
  /-- BAY_UE (R138): An uncorrectable error stops a bay at once and discards its queue. -/
  | bayUe (g bay : Fin 16)
  /-- BAY_SUBSTITUTE (R137): At the first landing with no slice open, the spare bay takes the logical index. -/
  | baySubstitute (g : Fin 16)
  /-- BAY_COPY_DONE (R138): The copy of a bay's 2 MiB to the spare completes. -/
  | bayCopyDone (g bay : Fin 16)
  /-- PREEMPT_DRAIN_DONE (R134): The last queued tile instruction of every bay completes and the gallery begins its save. -/
  | preemptDrainDone (g : Fin 16)
  /-- PREEMPT_SAVE_DONE (R136): The save finishes, or fails on an uncorrectable write, and the gallery enters LC. -/
  | preemptSaveDone (g : Fin 16) (good : Bool)
  /-- PREEMPT_RESTORE_DONE (R134): The restore ends and the gallery returns to RUN, resuming or resetting its context. -/
  | preemptRestoreDone (g : Fin 16) (good : Bool)
  /-- GAL_BATCH_DONE (R131): A write returns batch slots of a gallery to the catalogue. -/
  | galBatchDone (a : Agent) (g : Fin 16) (count : Fin 16)
  /-- GAL_SR_SEED_WRITE (R141): A seed write loads a bay's stochastic-rounding generator state. -/
  | galSrSeedWrite (a : Agent) (g n : Fin 16) (seed : BitVec 32)
  /-- TAG_LOAD_GO (R154): A write of GO starts the tag-load engine. -/
  | tagLoadGo (a : Agent) (g : Fin 16)
  /-- TAG_LOAD_DONE (R154): The tag-load engine finishes with OK, BAD_LENGTH or UNCORRECTED. -/
  | tagLoadDone (g : Fin 16)
  /-- ADMISSION_ENTRY (R173): The catalogue takes an admission ring entry, checks it and admits, refuses or defers it with a completion record. -/
  | admissionEntry (p : Fin 64)
  /-- BATCH_VALIDATE (R179): The catalogue takes a batch ring entry, validates the descriptor and binds adapters, or refuses it whole. -/
  | batchValidate (p : Fin 64)
  /-- BATCH_DISPATCH (R181): When a group has a free slot, the catalogue dispatches the first queued batch and gives batch tokens. -/
  | batchDispatch (p : Fin 64)
  /-- BATCH_PREEMPT_REQUEST (R182): A latency-critical batch that waited PREEMPT_WAIT meridians makes the catalogue pre-empt a best-effort group. -/
  | batchPreemptRequest (p : Fin 64)
  /-- RECORD_EXPIRY (R167): At a landing a PAUSED or PARKED record whose EXPIRY has passed moves to DONE and its groups are freed. -/
  | recordExpiry (i : Fin 16384)
  /-- DEADLINE_MISSED (R168): At a landing a serving record's deadline is found passed; DL_MISSED is set and counted. -/
  | deadlineMissed (i : Fin 16384)
  /-- HANDOVER_IN_TIMEOUT (R170): A record in HANDOVER_IN for HANDOVER_IN_LIMIT meridians moves to FAILED with LINK_FAILED. -/
  | handoverInTimeout (i : Fin 16384)
  /-- RECORD_UE (R170): An uncorrectable error in a record moves it to FAILED with a fault record. -/
  | recordUe (i : Fin 16384)
  /-- COMPLETION_RING_DRAIN (R176): Completion records that waited are written in order once ring space is freed. -/
  | completionRingDrain (p : Fin 64)
  /-- RECORD_RELEASE (R187): A write of GO to CAT_P_RELEASE frees a DONE or FAILED record with matching GEN. -/
  | recordRelease (a : Agent) (p : Fin 64) (record : Fin 16384) (gen : BitVec 16)
  /-- RING_INDEX_WRITE (R187): A write of a ring's HEAD or TAIL is checked for direction and room and applied or refused. -/
  | ringIndexWrite (a : Agent) (r : Ring) (index : BitVec 32)
  /-- STW_P_GRAB (R247): A read of STW_P_GRAB allocates the lowest FREE group and returns its base. -/
  | stwPGrab (a : Agent) (p : Fin 64)
  /-- GROUP_HOMED (R248): An allocated group is homed in T1, releasing its held accesses, or refused with REFUSED_FULL. -/
  | groupHomed (frames : List Nat)
  /-- TENSOR_READ (R243): A tensor-address read is served from the home in any tier, decrypted when needed. -/
  | tensorRead (p : Fin 64) (ta : BitVec 57) (len : Nat) (good : Bool)
  /-- TENSOR_WRITE (R243): A tensor-address write lands at its home, starts a demand migration or is dropped. -/
  | tensorWrite (p : Fin 64) (ta : BitVec 57) (data : Bytes)
  /-- MIGRATION_CONFIRM (R250): A migration's copy is confirmed; every entry names its new home in one change and held writes are released. -/
  | migrationConfirm (i : Nat) (frames : List Nat)
  /-- MIGRATION_FAIL (R251): A migration meets an uncorrectable read or failed write and stops, keeping the old homes. -/
  | migrationFail (i : Nat) (read : Bool)
  /-- GROUP_EXPIRY (R253): At a landing a parked group whose EXPIRY has passed is freed. -/
  | groupExpiry (p : Fin 64) (g : Nat)
  /-- REC_PARK (R254): A record command parks every group of a PAUSED record. -/
  | recPark (a : Agent) (p : Fin 64) (record : Fin 16384) (gen : BitVec 16) (tier : Fin 4)
  /-- REC_UNPARK (R254): A record command migrates every group of a PARKED record to T0 or T1. -/
  | recUnpark (a : Agent) (p : Fin 64) (record : Fin 16384) (gen : BitVec 16) (tier : Fin 4)
  /-- REC_FREE (R254): A record command frees every group of a DONE or FAILED record. -/
  | recFree (a : Agent) (p : Fin 64) (record : Fin 16384) (gen : BitVec 16) (tier : Fin 4)
  /-- REC_COMMAND_END (R255): A record command ends, changing the record state and writing STW_P_REC_RESULT and a doorbell. -/
  | recCommandEnd
  /-- DEMOTION_START (R256): Free T1 frames fall below LOW and the stairwell demotes parked groups and unpinned entries until HIGH. -/
  | demotionStart (p : Fin 64)
  /-- KEY_ROTATE (R262): A write of ROTATE asks the vestibule to install a new page key in the idle slot. -/
  | keyRotate (a : Agent) (p : Fin 64)
  /-- KEY_FORCE_RETIRE (R262): A write of FORCE_RETIRE stops the sweep of a DRAINING slot and marks its entries GONE. -/
  | keyForceRetire (a : Agent) (p : Fin 64)
  /-- KEY_INSTALL_DONE (R262): The vestibule finishes deriving a page key and the slot becomes PENDING. -/
  | keyInstallDone (p : Fin 64) (keyId : Word)
  /-- KEY_SWEEP_STEP (R263): In each meridian the sweep re-encrypts up to FRAMES units under the ACTIVE key. -/
  | keySweepStep (p : Fin 64) (t3 : Bool)
  /-- KEY_SLOT_EMPTY (R262): At a landing with the sweep done and IN_USE 0, a DRAINING slot erases its key and becomes EMPTY. -/
  | keySlotEmpty (p : Fin 64)
  /-- ALM_REGISTER (R257): Registers an almanac entry from a descriptor and homes its units at their backing frames. -/
  | almRegister (a : Agent) (e : Fin 4096) (p : Fin 64)
  /-- ALM_LOAD (R258): Moves an entry or its first window to WIN_TIER. -/
  | almLoad (a : Agent) (e : Fin 4096) (p : Fin 64)
  /-- ALM_EVICT (R258): Returns an unpinned entry's units to their backing frames. -/
  | almEvict (a : Agent) (e : Fin 4096) (p : Fin 64)
  /-- ALM_PIN (R258): Adds 1 to an entry's pin count. -/
  | almPin (a : Agent) (e : Fin 4096) (p : Fin 64)
  /-- ALM_UNPIN (R258): Subtracts 1 from an entry's pin count. -/
  | almUnpin (a : Agent) (e : Fin 4096) (p : Fin 64)
  /-- ALM_ADVANCE (R259): Returns the finished layer of a window and moves the next layer in. -/
  | almAdvance (a : Agent) (e : Fin 4096) (p : Fin 64)
  /-- ALM_UNREGISTER (R258): Unhomes an ABSENT unpinned entry. -/
  | almUnregister (a : Agent) (e : Fin 4096) (p : Fin 64)
  /-- ALM_MOVE_CONFIRMED (R258): Every move of a LOADING entry or a new window layer is confirmed and the residency token is given. -/
  | almMoveConfirmed (e : Fin 4096) (frames : List Nat)
  /-- ALM_EVICT_DONE (R258): Every unit of an EVICTING entry is at its backing frame and the entry becomes ABSENT. -/
  | almEvictDone (e : Fin 4096)
  /-- ADP_LOAD (R234): Loads an almanac entry into an EMPTY adapter slot with a new version. -/
  | adpLoad (a : Agent) (slot : Fin 256) (p : Fin 64) (entry : BitVec 16)
  /-- ADP_RETIRE (R234): Moves a loading or ready adapter slot to RETIRING. -/
  | adpRetire (a : Agent) (slot : Fin 256) (p : Fin 64)
  /-- ADP_SLOT_READY (R233): At a landing with every frame resident, a LOADING slot becomes READY. -/
  | adpSlotReady (slot : Fin 256)
  /-- ADP_SLOT_EMPTY (R233): At a landing with REFS 0, a RETIRING slot releases its pin and becomes EMPTY. -/
  | adpSlotEmpty (slot : Fin 256)
  /-- WR_NOP (R270): A NOP work request completes at once. -/
  | wrNop
  /-- WR_WRITE (R270): A WRITE work request sends LEN bytes to a remote address as one message. -/
  | wrWrite
  /-- WR_READ (R270): A READ work request reads LEN bytes of a remote address into local memory. -/
  | wrRead
  /-- WR_CAS (R270): A CAS work request compares and swaps 8 remote bytes. -/
  | wrCas
  /-- WR_FADD (R270): A FADD work request adds to 8 remote bytes. -/
  | wrFadd
  /-- WR_FLUSH (R274): A FLUSH work request confirms placement of earlier messages of its issuer. -/
  | wrFlush
  /-- WR_OWN_CAS (R284): An OWN_CAS work request is checked against OWN_EPOCH and sent to the anchor. -/
  | wrOwnCas
  /-- WR_OWN_READ (R286): An OWN_READ work request reads the ownership word from the anchor. -/
  | wrOwnRead
  /-- WR_OWN_MIRROR (R283): An OWN_MIRROR work request offers a word to a mirror anchor. -/
  | wrOwnMirror
  /-- WR_LAYER (R288): A LAYER work request sends layers of a record's pages to the receiver, opening an outbound handover entry. -/
  | wrLayer
  /-- WR_CKPT (R292): A CKPT work request writes an encrypted checkpoint image of a record. -/
  | wrCkpt (good : Bool)
  /-- WR_RESTORE (R293): A RESTORE work request reads and decrypts an image into an admitted record. -/
  | wrRestore
  /-- WR_COMPLETE (R271): A running work request ends and writes its completion record, token and doorbell. -/
  | wrComplete (i : Fin 256)
  /-- TRIGGER_FIRE (R278): A trigger condition holds and the armed work request moves to the head of the host-ring queue. -/
  | triggerFire (i : Fin 1024)
  /-- HEL_TRIG_CANCEL (R278): A write of GO frees a trigger slot with an ABANDONED completion. -/
  | helTrigCancel (a : Agent) (i : Fin 1024)
  /-- MESSAGE_COMPLETE (R277): A message's placed bytes equal its length at the receiver. -/
  | messageComplete (i : Nat)
  /-- FLUSH_COMPLETE (R274): A flush learns that every covered byte was placed, or that some was not. -/
  | flushComplete (i : Nat)
  /-- HANDOVER_CLOSE (R289): After a FINAL flush or a full inbound mask, the heliostat makes the close or take-back and reports to the catalogue. -/
  | handoverClose (inb : Bool) (h : Fin 1024)
  /-- OWN_RETRY (R287): A failed close or take-back is retried at the new anchor at a map change. -/
  | ownRetry (inb : Bool) (h : Fin 1024)
  /-- HEL_MEAS_START (R294): A write of START clears and starts the handover throughput measurement. -/
  | helMeasStart (a : Agent)
  /-- HEL_MEAS_STOP (R294): A write of STOP ends the handover throughput measurement. -/
  | helMeasStop (a : Agent)
  /-- LINK_BLOCK_RECEIVE (R303): A link block arrives on a lane, is checked and delivered in order, held or dropped, and acknowledgements are taken. -/
  | linkBlockReceive (f : Fin 4) (ty : Fin 4) (seq ack : BitVec 24) (good : Bool) (missing : List (BitVec 24))
  /-- LINK_RESEND_TIMEOUT (R304): A DATA block not acknowledged within 20 µs is re-sent on another lane. -/
  | linkResendTimeout (f : Fin 4) (seq : BitVec 24)
  /-- LINK_CONTROL_SEND (R303): Every 1 µs with nothing else to send, the receiver sends a CONTROL block. -/
  | linkControlSend (f : Fin 4)
  /-- LINK_RETRAIN (R306): A block reaching 16 re-sends, too few active lanes or total light loss moves an UP port to RETRAIN. -/
  | linkRetrain (f : Fin 4) (dark : Bool)
  /-- LINK_ENABLE_CHANGE (R306): Live EN of a port changes, starting training or disabling the link. -/
  | linkEnableChange (f : Fin 4)
  /-- LANES_LOCKED (R306): Training locks 16 lanes and the port moves to ALIGN with its active set. -/
  | lanesLocked (f : Fin 4) (mask : BitVec 20)
  /-- TRAINING_TIMEOUT (R306): 50 ms of training pass; the port aligns with at least MIN_LANES or counts a failed attempt. -/
  | trainingTimeout (f : Fin 4) (mask : BitVec 20) (light : Bool)
  /-- ALIGN_AGREE (R306): The partner's CONTROL block agrees on the active set and identities and the port goes UP. -/
  | alignAgree (f : Fin 4) (node : BitVec 14) (port : Fin 4)
  /-- ALIGN_TIMEOUT (R306): 10 ms in ALIGN without agreement returns the port to TRAINING. -/
  | alignTimeout (f : Fin 4)
  /-- LANE_FAIL (R307): A lane exceeds its error limits or loses lock and leaves service. -/
  | laneFail (f : Fin 4) (lane : Fin 20)
  /-- LANE_SUBSTITUTE (R308): At the next landing a locked spare lane takes a failed or named lane's logical position. -/
  | laneSubstitute (f : Fin 4)
  /-- FAB_SUBST (R308): A write of GO names an active lane for substitution. -/
  | fabSubst (a : Agent) (f : Fin 4) (lane : Fin 32)
  /-- FAB_RECAL (R309): A write of GO, or a 4 °C temperature change with AUTO_RECAL, starts a rolling recalibration. -/
  | fabRecal (a : Option Agent) (f : Fin 4)
  /-- LANE_RECAL_DONE (R309): A lane finishes retuning and becomes a spare, and the next lane is handed over. -/
  | laneRecalDone (f : Fin 4)
  /-- LC_INSERT (R310): A cartridge is inserted and latched and starts warming. -/
  | lcInsert (x : Fin 2)
  /-- LC_WAVELENGTH_LOCK (R310): All four wavelengths lock within 2 s and the cartridge becomes READY. -/
  | lcWavelengthLock (x : Fin 2)
  /-- LC_WARM_TIMEOUT (R310): A cartridge fails to lock within 2 s and becomes FAILED. -/
  | lcWarmTimeout (x : Fin 2)
  /-- LC_EJECT_A (R310): A write of EJECT_A releases cartridge LC-A, moving its ports to LC-B. -/
  | lcEjectA (a : Agent)
  /-- LC_EJECT_B (R310): A write of EJECT_B releases cartridge LC-B, moving its ports to LC-A. -/
  | lcEjectB (a : Agent)
  /-- LC_RELEASE_DONE (R312): Every lane has moved; the laser turns off and the latch unlocks. -/
  | lcReleaseDone (x : Fin 2)
  /-- LC_REMOVE (R310): A released or failed cartridge is removed and becomes ABSENT. -/
  | lcRemove (x : Fin 2)
  /-- LC_LOSS (R313): A feeding cartridge loses output or its latch is forced, and its ports switch to the other cartridge. -/
  | lcLoss (x : Fin 2) (removed : Bool)
  /-- CTX_CREATE (R316): Creates a connection context toward a peer partition and sends OPEN. -/
  | ctxCreate (a : Agent) (n : BitVec 16) (p : Fin 64)
  /-- CTX_CLOSE (R317): Closes an open context after revoking credit and draining. -/
  | ctxClose (a : Agent) (n : BitVec 16)
  /-- CTX_QUERY (R317): Returns the context's state in FAB_TP_RESULT. -/
  | ctxQuery (a : Agent) (n : BitVec 16)
  /-- CTX_KEY_INSTALL (R330): Asks the vestibule to derive the next generation's key into the free slot. -/
  | ctxKeyInstall (a : Agent) (n : BitVec 16)
  /-- CTX_KEY_SWITCH (R330): Starts a key change by sending KEYCHG. -/
  | ctxKeySwitch (a : Agent) (n : BitVec 16)
  /-- CTX_PIN (R319): Keeps a context cached. -/
  | ctxPin (a : Agent) (n : BitVec 16)
  /-- CTX_UNPIN (R319): Lets a pinned context be evicted. -/
  | ctxUnpin (a : Agent) (n : BitVec 16)
  /-- CTX_RESET (R317): Returns a FAILED context to CLOSED. -/
  | ctxReset (a : Agent) (n : BitVec 16)
  /-- CTX_FETCH_DONE (R320): A context's backing entry is fetched and its seal checked, releasing waiting work. -/
  | ctxFetchDone (n : BitVec 16) (good : Bool)
  /-- OPEN (R317): An OPEN packet arrives and a matching opening context answers OPEN_ACK and grants credit. -/
  | openPacket (h : PktHdr) (srcCtx : BitVec 16) (aes : Bool)
  /-- OPEN_ACK (R317): An OPEN_ACK arrives and the context becomes OPEN. -/
  | openAck (h : PktHdr)
  /-- CLOSE (R317): A CLOSE arrives and the context answers CLOSE_ACK and becomes CLOSED. -/
  | close (h : PktHdr)
  /-- CLOSE_ACK (R317): A CLOSE_ACK arrives and a CLOSING context becomes CLOSED. -/
  | closeAck (h : PktHdr)
  /-- ACK (R331): An ACK arrives and releases acknowledged packets. -/
  | ack (h : PktHdr) (base : BitVec 32) (map : BitVec 64)
  /-- NACK (R332): A NACK arrives, returning credit and causing a re-send or a failure by its status. -/
  | nack (h : PktHdr) (psn : BitVec 32) (status : Status) (units : BitVec 16)
  /-- CREDIT (R326): A CREDIT packet arrives and the sender's held units grow. -/
  | credit (h : PktHdr) (granted : BitVec 32)
  /-- CREDIT_REQ (R326): A CREDIT_REQ arrives and the receiver grants within its limits. -/
  | creditReq (h : PktHdr) (want : BitVec 18)
  /-- REVOKE (R327): A REVOKE arrives and the sender returns its unspent units once its packets are acknowledged. -/
  | revoke (h : PktHdr)
  /-- REVOKE_ACK (R327): A REVOKE_ACK arrives with the returned units. -/
  | revokeAck (h : PktHdr) (returned : BitVec 32)
  /-- KEYCHG (R330): A KEYCHG arrives and is answered KEYCHG_ACK or NACK with KEY_GEN_GONE. -/
  | keychg (h : PktHdr) (gen : BitVec 8)
  /-- KEYCHG_ACK (R330): A KEYCHG_ACK arrives and later packets use the new generation. -/
  | keychgAck (h : PktHdr) (gen : BitVec 8)
  /-- INVAL (R338): An INVAL arrives, the line is dropped for every partition and INVAL_ACK is sent. -/
  | inval (h : PktHdr) (addr : BitVec 64)
  /-- INVAL_ACK (R338): An INVAL_ACK arrives, completing the invalidation. -/
  | invalAck (h : PktHdr) (addr : BitVec 64)
  /-- C_LOAD (R325): A class C load arrives, is checked against its region and answered. -/
  | cLoad (h : PktHdr) (addr : BitVec 44) (key : BitVec 32) (size : BitVec 2) (line : Bool) (req : BitVec 16) (good : Bool)
  /-- C_STORE (R325): A class C store arrives, is checked and applied in PSN order. -/
  | cStore (h : PktHdr) (addr : BitVec 44) (key : BitVec 32) (size : BitVec 2) (data : Word)
  /-- C_ADD (R340): A class C atomic add arrives and is applied at the target. -/
  | cAdd (h : PktHdr) (addr : BitVec 44) (key : BitVec 32) (req : BitVec 16) (data : Word) (good : Bool)
  /-- C_CAS (R340): A class C compare-and-swap arrives and is applied at the target. -/
  | cCas (h : PktHdr) (addr : BitVec 44) (key : BitVec 32) (req : BitVec 16) (compare swap : Word) (good : Bool)
  /-- C_MBOX (R339): A mailbox write arrives, is written and then rings its doorbell source. -/
  | cMbox (h : PktHdr) (addr : BitVec 44) (key : BitVec 32) (source : BitVec 12) (data : Word)
  /-- C_RESP (R67): A class C response arrives and completes the waiting load or atomic. -/
  | cResp (h : PktHdr) (req : BitVec 16) (status : Status) (data : Word) (line : Bytes)
  /-- S_WRITE (R333): A class S write packet arrives and is placed at its address. -/
  | sWrite (h : PktHdr) (addr : BitVec 44) (off len : BitVec 40) (key tag : BitVec 32) (msg : BitVec 16) (ctrInc : BitVec 5) (data : Bytes)
  /-- S_READ (R325): A class S read request arrives and is answered with S_READ_DATA. -/
  | sRead (h : PktHdr) (addr : BitVec 44) (len : BitVec 40) (key : BitVec 32) (req : BitVec 16)
  /-- S_READ_DATA (R333): Read data arrives and is placed locally. -/
  | sReadData (h : PktHdr) (req : BitVec 16) (off len : BitVec 40) (data : Bytes) (good : Bool)
  /-- S_ATOM (R340): A class S atomic arrives and is applied at the target. -/
  | sAtom (h : PktHdr) (addr : BitVec 44) (key : BitVec 32) (req : BitVec 16) (op : Bool) (compare operand : Word) (good : Bool)
  /-- S_OWN (R282): An ownership op arrives at the anchor and is decided against the anchor table. -/
  | sOwn (h : PktHdr) (req : BitVec 16) (op : BitVec 2) (reqId expected new : Word) (mirror : Bool) (mirrorNode : BitVec 14) (mirrorPart : BitVec 6)
  /-- S_RESP (R335): A class S response arrives and completes its request. -/
  | sResp (h : PktHdr) (req : BitVec 16) (status : Status) (mf : Bool) (result : Word)
  /-- S_LAYER (R289): A layer packet arrives, is checked for key, record and epoch and placed. -/
  | sLayer (h : PktHdr) (reqId : Word) (hkey epoch : BitVec 32) (rec_ : Fin 16384) (layer total : BitVec 8) (units : BitVec 40) (addr : BitVec 53) (data : Bytes)
  /-- S_FLUSH (R335): A flush arrives and is answered once every PSN below UPTO is placed. -/
  | sFlush (h : PktHdr) (req : BitVec 16) (upto : BitVec 32)
  /-- PACKET_RESEND_TIMEOUT (R332): RESEND_US passes without acknowledgement and the packet is re-sent, or its message fails after RETRIES. -/
  | packetResendTimeout (n : BitVec 16) (psn : BitVec 32)
  /-- S_RESPONSE_TIMEOUT (R335): A class S request gets no response within S_TIMEOUT_US and completes with LINK_FAILED. -/
  | sResponseTimeout (n : BitVec 16) (req : BitVec 16)
  /-- IDLE_REVOKE_TIMEOUT (R327): A context idle for IDLE_REVOKE meridians has its credit revoked. -/
  | idleRevokeTimeout (n : BitVec 16)
  /-- ACK_SEND (R331): Within 1 µs of the first unacknowledged arrival, or after 64 arrivals, the receiver sends an ACK. -/
  | ackSend (n : BitVec 16)
  /-- RGN_ADD (R324): Adds a region entry from a descriptor. -/
  | rgnAdd (a : Agent) (p : Fin 64) (index : Fin 256) (desc : BitVec 48)
  /-- RGN_REMOVE (R324): Clears a region entry. -/
  | rgnRemove (a : Agent) (p : Fin 64) (index : Fin 256)
  /-- RLC_FLUSH (R338): Drops every remote-line cache line of a partition. -/
  | rlcFlush (a : Agent) (p : Fin 64)
  /-- WHEEL_SLOT (R347): The calendar wheel passes a slot and adds the slot grant to its owner's allowance. -/
  | wheelSlot
  /-- BUCKET_FILL (R349): In BUCKET mode each partition's allowance fills at its rate each control cycle. -/
  | bucketFill
  /-- PORT_BLOCK_START (R351): A port can start a scheduled block and the orrery chooses a packet by gate, weight, class and spill. -/
  | portBlockStart (f : Fin 4) (good : Bool)
  /-- BAR2_ACCESS (R364): A host access through a BAR2 window segment is checked and served, refused or discarded. -/
  | bar2Access (x : Port) (fn : Fin 33) (off : BitVec 39) (write : Bool) (len : Nat) (data : Bytes) (ue : Bool)
  /-- HOST_PORT_LINK_UP (R367): The data link comes up after PERST# release and the port becomes UP. -/
  | hostPortLinkUp (x : Port) (speed : Fin 7) (width : Fin 9)
  /-- HOST_PORT_LINK_DOWN (R367): Link down, PERST# or hot reset takes the port DOWN and resets its host rings. -/
  | hostPortLinkDown (x : Port)
  /-- PF_FLR (R367): A PF function-level reset resets the PF, its VFs and the host rings of its partitions. -/
  | pfFlr (x : Port)
  /-- VF_FLR (R367): A VF function-level reset resets the VF and its partition's host rings. -/
  | vfFlr (x : Port) (v : Fin 32)
  /-- HIF_HEARTBEAT (R367): A write to HIF_HEARTBEAT counts as a heartbeat and returns a SILENT port to UP. -/
  | hifHeartbeat (a : Agent) (x : Port)
  /-- HEARTBEAT_TIMEOUT (R367): No heartbeat for HB_TIMEOUT_MS moves the port to SILENT. -/
  | heartbeatTimeout (x : Port)
  /-- REBIND (R370): Requests that one partition move to the other host port. -/
  | rebind (a : Agent) (p : Fin 64)
  /-- REBIND_ALL (R370): Requests that every partition of a down or silent port move to the writer's port. -/
  | rebindAll (a : Agent)
  /-- TAKE_PRIMARY (R370): Makes the writer's port primary when the other is down or silent. -/
  | takePrimary (a : Agent)
  /-- GIVE_PRIMARY (R370): Makes the other port primary. -/
  | givePrimary (a : Agent)
  /-- REBIND_APPLY (R371): At the landing a re-bind changes the partition's port, clears its VF maps and resets its rings. -/
  | rebindApply
  /-- MSIX_SEND (R366): A host-kind doorbell delivery is sent as an MSI-X message or held. -/
  | msixSend
  /-- MSIX_HELD_RELEASE (R366): A held MSI-X message is sent when its blocking condition clears. -/
  | msixHeldRelease (i : Nat)
  /-- DOE_OBJECT (R372): A request object is complete in a PF's DOE mailbox and goes to the vestibule. -/
  | doeObject (x : Port) (kind : Fin 3) (len : BitVec 20)
  /-- DOE_ABORT (R372): A DOE Abort discards the object in hand within 1 ms. -/
  | doeAbort (x : Port)
  /-- DOORBELL_RING (R379): A ring reaches the doorbell hall, is checked and sets its pending bit or is ignored. -/
  | doorbellRing (r : Ringer) (t : Fin 512) (w : Word)
  /-- PENDING_WORD_CLEAR (R381): A write of 1 bits to a pending word clears those bits. -/
  | pendingWordClear (a : Agent) (t : Fin 512) (k : Fin 64) (bits : Word)
  /-- TARGET_IDLE_WRITE (R384): A write of IDLE declares the target waiting and delivers at once if it is HELD. -/
  | targetIdleWrite (a : Agent) (t : Fin 512) (v : Bool)
  /-- MODERATION_TIMER_EXPIRE (R382): A target's moderation timer expires, ending HOLDOFF or delivering a HELD target. -/
  | moderationTimerExpire (t : Fin 512)
  /-- DELIVERY_UNBLOCK (R382): A blocked host target is no longer blocked and a HELD delivery is made. -/
  | deliveryUnblock (t : Fin 512)
  /-- ROLE_SET (R391): Requests a role change and starts the partition's drain. -/
  | roleSet (a : Agent) (p : Fin 64) (role : Fin 8)
  /-- ROLE_CANCEL (R391): Cancels a role change in progress. -/
  | roleCancel (a : Agent) (p : Fin 64)
  /-- ROLE_DRAIN_COMPLETE (R392): At a landing where every drain condition holds, the role changes at the apply point. -/
  | roleDrainComplete (p : Fin 64)
  /-- ROLE_DRAIN_LIMIT (R391): DRAIN_LIMIT meridians pass without a drain and the role change ends with PARTIAL. -/
  | roleDrainLimit (p : Fin 64)
  /-- MAP_LOAD (R394): Copies and checks a map image into the staged-map store. -/
  | mapLoad (a : Agent) (i : Fin 64)
  /-- MAP_SWEEP (R399): Starts an anchor copy sweep that mirrors every entry of COPY slots. -/
  | mapSweep (a : Agent) (i : Fin 64)
  /-- MAP_SWITCH (R395): At an allowed apply point the staged map becomes current and the old map starts its drain window. -/
  | mapSwitch
  /-- MAP_RETIRE (R395): The previous map's drain window ends and it retires. -/
  | mapRetire
  /-- ANCH_COPY_SWEEP_END (R399): The anchor copy sweep ends with OK or LINK_FAILED. -/
  | anchCopySweepEnd
  /-- VESTIBULE_BOOT (R409): The vestibule leaves reset and runs its boot sequence, releasing the other units. -/
  | vestibuleBoot (bad : BitVec 12)
  /-- STAGE_FW (R414): Checks a firmware image and writes it to the component's inactive bank. -/
  | stageFw (a : Agent) (comp : BitVec 8)
  /-- ACTIVATE (R415): Switches a component's boot selector and makes the staged image live. -/
  | activate (a : Agent) (comp : BitVec 8)
  /-- LIVE_ACTIVATION_END (R415): A live activation finishes its switch and the component's slot is extended. -/
  | liveActivationEnd
  /-- COMMIT_SVN (R415): Raises the component's fused SVN floor and blows carried revocations. -/
  | commitSvn (a : Agent) (comp : BitVec 8)
  /-- ENROLL (R416): Replaces the enrolled program-signing keys from an owner-signed record. -/
  | enroll (a : Agent) (serial : BitVec 64) (keys : Fin 9) (good : Bool)
  /-- DEBUG_ENABLE (R420): Enables the J7 debug path and extends slot 7. -/
  | debugEnable (a : Agent)
  /-- DEBUG_DISABLE (R420): Disables the J7 debug path and extends slot 7. -/
  | debugDisable (a : Agent)
  /-- LOG_READ (R422): Copies the measurement log to host memory. -/
  | logRead (a : Agent)
  /-- GET_VERSION (R412): The SPDM responder answers VERSION. -/
  | getVersion (x : SpdmPath)
  /-- GET_CAPABILITIES (R412): The SPDM responder answers CAPABILITIES. -/
  | getCapabilities (x : SpdmPath)
  /-- NEGOTIATE_ALGORITHMS (R412): The SPDM responder answers ALGORITHMS. -/
  | negotiateAlgorithms (x : SpdmPath)
  /-- GET_DIGESTS (R412): The SPDM responder answers DIGESTS. -/
  | getDigests (x : SpdmPath)
  /-- GET_CERTIFICATE (R412): The SPDM responder answers CERTIFICATE. -/
  | getCertificate (x : SpdmPath) (slot : Fin 8)
  /-- CHALLENGE (R412): The SPDM responder answers CHALLENGE_AUTH with both signatures. -/
  | challenge (x : SpdmPath) (slot : Fin 8)
  /-- GET_MEASUREMENTS (R412): The SPDM responder answers MEASUREMENTS, signed or unsigned. -/
  | getMeasurements (x : SpdmPath) (index : Fin 33) (signed : Bool)
  /-- KEY_EXCHANGE (R412): The SPDM responder opens a secured session or answers Busy. -/
  | keyExchange (x : SpdmPath)
  /-- SPDM_FINISH (R412): The SPDM responder answers FINISH_RSP. -/
  | spdmFinish (x : SpdmPath) (i : Fin 4) (good : Bool) (chain : Option OwnerRoot)
  /-- SPDM_HEARTBEAT (R412): The SPDM responder answers HEARTBEAT_ACK. -/
  | spdmHeartbeat (x : SpdmPath) (i : Fin 4)
  /-- KEY_UPDATE (R412): The SPDM responder updates session keys and answers KEY_UPDATE_ACK. -/
  | keyUpdate (x : SpdmPath) (i : Fin 4)
  /-- END_SESSION (R412): The SPDM responder ends a session and answers END_SESSION_ACK. -/
  | endSession (x : SpdmPath) (i : Fin 4)
  /-- TAKE_OWNERSHIP (R413): A vendor-defined request fuses the owner root once. -/
  | takeOwnership (x : SpdmPath) (i : Fin 4) (root : OwnerRoot)
  /-- FABRIC_ROOT (R419): A vendor-defined request installs a fabric root with serial and ACTIVE_AT. -/
  | fabricRoot (x : SpdmPath) (i : Fin 4) (serial : BitVec 16) (activeAt : BitVec 64)
  /-- FABRIC_ROOT_ACTIVATE (R419): At meridian ACTIVE_AT the installed root becomes current and the old one previous. -/
  | fabricRootActivate
  /-- INPUT_VALID (R424): The 56 V input rises above 50 V and stays above 47 V for 10 ms, starting the rails. -/
  | inputValid
  /-- INPUT_INVALID (R424): The input falls below 47 V or rises above 61 V and the module powers down. -/
  | inputInvalid
  /-- INPUT_OUT_OF_RANGE (R424): The input lies outside 51-59 V for 1 ms and ATR_PWR_FAULT records it. -/
  | inputOutOfRange (mv : BitVec 16)
  /-- RAIL_POWER_GOOD (R425): A rail reports power-good and the next rail starts, or the vestibule leaves reset. -/
  | railPowerGood
  /-- RAIL_TIMEOUT (R426): A rail fails to report power-good within 10 ms and the module powers down. -/
  | railTimeout
  /-- RAIL_LOSS (R426): A rail loses power-good in service and the module powers down. -/
  | railLoss (r : Fin 9)
  /-- POWER_RETRY (R426): 1 s after a failed sequence, the rails are tried again, at most 3 times. -/
  | powerRetry
  /-- PWR_DIS (R473): A high level on PWR_DIS powers the module down; its release begins a cold start. -/
  | pwrDis (high : Bool)
  /-- THERMAL_TRIP (R483): A die at 120 °C or a stack at 110 °C trips the hardware and powers the module down. -/
  | thermalTrip (stack : Bool) (temp : BitVec 8)
  /-- POWER_OVER_WARN (R438): Input power above WARN_W for 10 ms sets OVER_WARN with a fault record. -/
  | powerOverWarn (power : BitVec 11)
  /-- PHASE_LOST (R31): A regulator phase fails and a spare phase takes over or the rail limit falls. -/
  | phaseLost (r : Fin 9)
  /-- RESET_CONTEXT (R435): An ATR_RESET of TYPE CONTEXT requests a reset of one Larty context. -/
  | resetContext (a : Agent) (unit : BitVec 8) (ctx : Fin 8)
  /-- RESET_PARTITION (R436): An ATR_RESET of TYPE PARTITION requests a reset of a partition. -/
  | resetPartition (a : Agent) (p : Fin 64)
  /-- RESET_WARM (R427): An ATR_RESET of TYPE WARM starts a warm start. -/
  | resetWarm (a : Agent) (preserve : Bool) (confirm : BitVec 16)
  /-- RESET_COLD (R427): An ATR_RESET of TYPE COLD turns the rails off and starts a cold start. -/
  | resetCold (a : Agent) (confirm : BitVec 16)
  /-- CONTEXT_RESET_APPLY (R435): A requested context reset takes effect, at once for a background context or at the first landing with no slice open. -/
  | contextResetApply (x : LCtx)
  /-- PARTITION_RESET_APPLY (R436): At the apply point of the first landing after acceptance, the partition's work ends as Table 21-5 gives. -/
  | partitionResetApply (p : Fin 64)
  /-- BLOCK_READY (R430): A block completes its bring-up and raises READY, ringing the readiness doorbell. -/
  | blockReady (b : Blk) (i : Fin 64)
  /-- FAULT_REPORT (R442): A report reaches the fault recorder and is folded or made into a record that is written, queued or dropped. -/
  | faultReport (r : Report)
  /-- FAULT_RING_DRAIN (R442): Queued fault records are written once ring space exists. -/
  | faultRingDrain
  /-- DIE_TEMP_LIMIT (R447): A wing or atrium die reaches 100 °C or 110 °C and a THERMAL record is written. -/
  | dieTempLimit (temp : BitVec 8)
  /-- HEALTH_QUARANTINE (R448): A QUARANTINE command moves the device to QUARANTINE. -/
  | healthQuarantine (a : Agent)
  /-- HEALTH_RELEASE (R448): A RELEASE command leaves QUARANTINE for HEALTHY or SUSPECT. -/
  | healthRelease (a : Agent)
  /-- HEALTH_CLEAR (R448): A CLEAR command sets every health accumulator to 0. -/
  | healthClear (a : Agent)
  /-- FLT_NWL_SUBST (R452): A write of GO names a newel core for substitution. -/
  | fltNwlSubst (a : Agent) (core : Fin 8)
  /-- NEWEL_SUBSTITUTE (R452): At the first landing after the cause, a spare core takes the logical number and installs its program. -/
  | newelSubstitute
  /-- SELFTEST_PASS_START (R450): A spare's self-test period elapses and a pass starts. -/
  | selftestPassStart (kind : Fin 9) (i : Nat)
  /-- SELFTEST_PASS_END (R450): A spare's self-test pass ends, passing or marking the spare failed. -/
  | selftestPassEnd (kind : Fin 9) (i : Nat) (passed : Bool)
  /-- SAMPLE_PASS (R458): At a landing at a multiple of PERIOD, a sampling pass over catalogue records starts or is skipped. -/
  | samplePass
  /-- TRACE_DRAIN (R460): Trace records move from the on-chip buffer to the trace ring as room allows. -/
  | traceDrain
  /-- DBG_READ (R461): Reads 8 bytes at a DPA into PHO_DBG_DATA. -/
  | dbgRead (a : Agent)
  /-- DBG_WRITE (R461): Writes PHO_DBG_DATA to a DPA. -/
  | dbgWrite (a : Agent)
  /-- DBG_ACCESS_DONE (R461): A debug memory access completes and BUSY falls. -/
  | dbgAccessDone (path : Fin 2) (ue : Bool)
  /-- DBG_STOP (R462): Stops a context at its next instruction boundary. -/
  | dbgStop (a : Agent) (unit : BitVec 8) (ctx : Fin 8)
  /-- DBG_STEP (R462): Runs one instruction of a stopped context. -/
  | dbgStep (a : Agent) (unit : BitVec 8) (ctx : Fin 8) (good : Bool)
  /-- DBG_RESUME (R462): Lets a stopped context continue. -/
  | dbgResume (a : Agent) (unit : BitVec 8) (ctx : Fin 8)
  /-- STOP_PENDING_COMPLETE (R462): A background context waiting on a remote access completes it and stops. -/
  | stopPendingComplete (x : LCtx)
  /-- PHO_REG_DATA_ACCESS (R463): A read or write of PHO_REG_DATA accesses the selected register of a context. -/
  | phoRegDataAccess (a : Agent) (write : Option Word)
  /-- PHO_CLEAR (R468): A write of 1 sets every SLICE_MAX to 0. -/
  | phoClear (a : Agent)
  /-- SET_ENDPOINT_ID (R464): The bus owner sets the MCTP endpoint ID of a binding. -/
  | setEndpointId (x : Binding) (eid : BitVec 8)
  /-- GET_ENDPOINT_ID (R464): Returns the MCTP endpoint ID. -/
  | getEndpointId (x : Binding)
  /-- GET_MCTP_VERSION_SUPPORT (R464): Returns the supported MCTP versions. -/
  | getMctpVersionSupport (x : Binding)
  /-- GET_MESSAGE_TYPE_SUPPORT (R464): Returns the supported MCTP message types. -/
  | getMessageTypeSupport (x : Binding)
  /-- GET_ENDPOINT_UUID (R464): Returns the endpoint UUID. -/
  | getEndpointUuid (x : Binding)
  /-- GET_TID (R464): Returns the PLDM terminus ID. -/
  | getTid (x : Binding)
  /-- GET_PLDM_VERSION (R464): Returns the PLDM version. -/
  | getPldmVersion (x : Binding)
  /-- GET_PLDM_TYPES (R464): Returns the PLDM types. -/
  | getPldmTypes (x : Binding)
  /-- GET_PLDM_COMMANDS (R464): Returns the PLDM commands. -/
  | getPldmCommands (x : Binding) (type : BitVec 6)
  /-- GET_SENSOR_READING (R465): Returns a numeric sensor reading within 10 ms. -/
  | getSensorReading (x : Binding) (id : BitVec 16)
  /-- GET_STATE_SENSOR_READINGS (R465): Returns state sensor readings. -/
  | getStateSensorReadings (x : Binding) (id : BitVec 16)
  /-- GET_PDR (R465): Returns a platform descriptor record. -/
  | getPdr (x : Binding) (record : BitVec 32)
  /-- GET_PDR_REPOSITORY_INFO (R465): Returns PDR repository information. -/
  | getPdrRepositoryInfo (x : Binding)
  /-- SET_EVENT_RECEIVER (R465): Sets the receiver of platform event messages. -/
  | setEventReceiver (x : Binding) (eid : BitVec 8)
  /-- PLATFORM_EVENT_MESSAGE (R465): A state-sensor change or threshold crossing sends a PlatformEventMessage. -/
  | platformEventMessage (id : Fin 22)
  /-- QUERY_DEVICE_IDENTIFIERS (R466): Returns the PLDM device identifiers. -/
  | queryDeviceIdentifiers (x : Binding)
  /-- GET_FIRMWARE_PARAMETERS (R466): Returns firmware component parameters. -/
  | getFirmwareParameters (x : Binding)
  /-- REQUEST_UPDATE (R466): Starts a PLDM firmware update, mapped to STAGE_FW, or answers ALREADY_IN_UPDATE_MODE. -/
  | requestUpdate (x : Binding) (maxXfer : BitVec 32)
  /-- PASS_COMPONENT_TABLE (R466): Accepts the component table of an update. -/
  | passComponentTable (x : Binding) (comp : BitVec 16) (last : Bool)
  /-- UPDATE_COMPONENT (R466): Starts pulling a component image with RequestFirmwareData. -/
  | updateComponent (x : Binding) (comp : BitVec 16) (size : BitVec 32)
  /-- REQUEST_FIRMWARE_DATA_RESP (R466): A piece of firmware image arrives from the update agent. -/
  | requestFirmwareDataResp (x : Binding) (piece : Bytes)
  /-- TRANSFER_COMPLETE (R466): Acknowledges the end of the image transfer. -/
  | transferComplete (x : Binding)
  /-- VERIFY_COMPLETE (R466): Acknowledges the end of image verification. -/
  | verifyComplete (x : Binding) (verdict : Fin 3)
  /-- APPLY_COMPLETE (R466): Acknowledges the end of image apply. -/
  | applyComplete (x : Binding) (good : Bool)
  /-- ACTIVATE_FIRMWARE (R466): Activates the staged image, mapped to ACTIVATE. -/
  | activateFirmware (x : Binding)
  /-- GET_STATUS (R466): Returns the update state. -/
  | getStatus (x : Binding)
  /-- CANCEL_UPDATE_COMPONENT (R466): Cancels the update of a component. -/
  | cancelUpdateComponent (x : Binding)
  /-- CANCEL_UPDATE (R466): Cancels the firmware update. -/
  | cancelUpdate (x : Binding)
  /-- VENDOR_RESET (R467): A vendor-defined RESET in an owner-authenticated session acts as ATR_RESET WARM or COLD. -/
  | vendorReset (x : Binding) (i : Fin 4) (cold preserve : Bool) (confirm : BitVec 16)
  /-- FAULT_LAST (R467): A vendor-defined FAULT_LAST returns FLT_LAST. -/
  | faultLast (x : Binding)
  /-- J7_DEBUG_READ (R478): A J7 frame with command 0x01 reads a PHO debug register. -/
  | j7DebugRead (offset : BitVec 16) (present : Bool)
  /-- J7_DEBUG_WRITE (R478): A J7 frame with command 0x02 writes a PHO debug register. -/
  | j7DebugWrite (offset : BitVec 16) (w : Word) (present : Bool)
  /-- CONN_KEY_INSTALL_DONE (R330): The vestibule finishes deriving a connection key into a context's free key slot, for KEY_INSTALL or for a CREATE with AES-256-GCM, and the command's BUSY falls with its outcome. -/
  | connKeyInstallDone (n : BitVec 16)
  /-- BUSY_RETRY_EXPIRY (R321): BUSY_RETRY_US after a NACK carrying CTX_BUSY, the sender re-sends the credit-free packet, without limit. -/
  | busyRetryExpiry (n : BitVec 16)
  /-- MAP_LOAD_DONE (R394): The copy and check of a map image end within 200 µs; BUSY falls, and the map is staged or RESULT records the failure. -/
  | mapLoadDone (ue : Bool)
  /-- STAGE_FW_DONE (R414): The check, the flash write and the read-back of a staged firmware image end; the bank is recorded as staged or the outcome is written to VES_RESULT and BUSY falls. -/
  | stageFwDone (verdict : Fin 5)
  /-- NEWEL_CORE_UE (R452): An uncorrectable error arises in a newel core, making it due for substitution at the next landing. -/
  | newelCoreUe (core : Fin 8)
  /-- PCIE_COMPLETION_TIMEOUT (R359): A device read of host memory reaches its PCI Express completion timeout and completes with LINK_FAILED. -/
  | pcieCompletionTimeout (x : Port)
  /-- CONFIG_SPACE_WRITE (R366): A host configuration or MSI-X control write changes a function's power state, Bus Master Enable, MSI-X enable or mask, or a vector mask, blocking or unblocking MSI-X delivery. -/
  | configSpaceWrite (x : Port) (fn : Fin 33) (w : CfgWrite)
  /-- PTP_DELAY_REQ_SEND (R46): A PTP slave port sends a Delay_Req, or any port sends a Pdelay_Req under the peer-to-peer mechanism, on its own timer. -/
  | ptpDelayReqSend (f : Fin 4)
  /-- PTP_ANNOUNCE_SEND (R46): A PTP port in master state sends an Announce at its announce interval. -/
  | ptpAnnounceSend (f : Fin 4)
  deriving DecidableEq, Repr

end Sys2Proof
end

