-- ==== Sys2Proof/Machine/State.lean ====
section
/-! DEFINITION. The state of the block, the machine right after reset, and the reasons a step can stop. -/

namespace Sys2Proof.Machine

open Sys2Proof

/-- Why a command stops with a fault. -/
inductive Fault where
  /-- The command's operands are not well formed (Instr.wf): no sender of the spec can send it. Raised by the meaning of
  a command that carries a byte string or a list. Safe: the hardware has no such input. -/
  | illFormed
  deriving DecidableEq, Repr

/-- Why a command is refused by the model. -/
inductive Refusal where
  /-- The model gives the command no meaning yet. Raised by Dispatch alone. Safe. -/
  | notModelled (mnemonic : String)
  deriving DecidableEq, Repr

structure State where
  /-- The commands that are waiting, first in first out. -/
  pending : List Instr
  /-- Register words by BAR0 offset: the only copy, or the shadow copy of a shadowed register. -/
  regs : Tab Word
  /-- Live copies of the shadowed registers, by the offset of the shadow copy (R39). -/
  live : Tab Word
  /-- Result registers held per agent, by offset * 1024 + agent code. -/
  priv : Tab Word
  /-- Memory by device physical address: HBM, gallery stores, bay SRAM, catalogue records, host memory. -/
  mem : List Host.Cell
  atr : AtrPart
  ves : VesPart
  merp : MerPart
  larty : Larty
  stw : StwPart
  cat : CatPart
  gal : GalPart
  nb : NbPart
  tp : TpPart
  fab : FabPart
  orr : OrrPart
  hel : HelPart
  prt : PrtPart
  flt : FltPart
  pho : PhoPart
  mgmt : MgmtPart
  hif : HifPart
  /-- Doorbell-hall targets whose moderation timer runs (R382). -/
  dbhTimer : Tab Bool
  /-- What has left the module, oldest first. -/
  outbox : List Out
  /-- The model's own: how many free values have been taken. -/
  freeCtr : Nat
  deriving DecidableEq, Repr

/-- The machine right after reset: every register at its reset value, memory with nothing listed, no command waiting. -/
def State.reset : State where
  pending := []
  regs := []
  live := []
  priv := []
  mem := []
  atr := {}
  ves := {}
  merp := {}
  larty := {}
  stw := {}
  cat := {}
  gal := {}
  nb := {}
  tp := {}
  fab := {}
  orr := {}
  hel := {}
  prt := {}
  flt := {}
  pho := {}
  mgmt := {}
  hif := {}
  dbhTimer := []
  outbox := []
  freeCtr := 0

end Sys2Proof.Machine
end

