-- ==== Sys2Proof/Machine/Access.lean ====
section
/-! DEFINITION. Reading and writing registers by field and memory by device physical address: the named operations
every meaning uses. -/

namespace Sys2Proof.Machine

/-! ## The register map -/

/-- The table index a location has in a row, where the row covers it. -/
def RegRow.index (r : RegRow) (loc : Nat) : Option Nat :=
  if loc < r.off then none
  else
    let d := loc - r.off
    let j := if r.n2 = 1 then 0 else d / r.s2
    let e := if r.n2 = 1 then d else d % r.s2
    let i := e / r.s1
    if e % r.s1 = 0 ∧ i < r.n1 ∧ j < r.n2 then some (j * r.n1 + i) else none

def findRow : List RegRow → Nat → Option (RegRow × Nat)
  | [], _ => none
  | r :: rs, loc =>
    match r.index loc with
    | some i => some (r, i)
    | none => findRow rs loc

def findBlock : List BlockRow → Nat → Option BlockRow
  | [], _ => none
  | b :: bs, off => if b.base ≤ off ∧ off < b.base + b.insts * b.stride then some b else findBlock bs off

/-- What the register map says of a BAR0 offset: the block, its instance, the row and the table index. -/
structure RegHit where
  blk : Blk
  inst : Nat
  row : RegRow
  idx : Nat
  deriving Repr

def regAt (off : Nat) : Option RegHit :=
  match findBlock blockMap off with
  | none => none
  | some b =>
    let loc := (off - b.base) % b.stride
    let inst := (off - b.base) / b.stride
    match findRow rowsCommon loc with
    | some (r, i) => some ⟨b.blk, inst, r, i⟩
    | none =>
      match findRow b.rows loc with
      | some (r, i) => some ⟨b.blk, inst, r, i⟩
      | none => none

def ResetVal.value (v : ResetVal) (inst idx : Nat) : Nat :=
  match v with
  | .const n => n
  | .instanceNo => inst
  | .wing => inst / 8
  | .index => idx
  | .inService => if idx < 6 then 1 else 0
  | .seed => 0x1621 + idx

/-- A register's reset word (the Reset column of the register tables). -/
def RegHit.resetWord (h : RegHit) : Word :=
  h.row.fields.foldl (fun w f => setBits w f.lo f.len (f.reset.value h.inst h.idx)) 0

/-- What a register word at a BAR0 offset holds at reset; an offset without a register holds 0 (R7). -/
def regReset (off : Nat) : Word :=
  match regAt off with
  | some h => h.resetWord
  | none => 0

/-! ## Registers of the state -/

/-- The word a register holds: its only copy, or its shadow copy. -/
def State.reg (s : State) (off : Nat) : Word := Tab.get regReset s.regs off

/-- The live copy of a shadowed register. -/
def State.liveReg (s : State) (off : Nat) : Word := Tab.get regReset s.live off

/-- A register word held for one agent. -/
def State.privReg (s : State) (off agent : Nat) : Word := Tab.get (fun _ => 0) s.priv (off * 1024 + agent)

def State.setReg (s : State) (off : Nat) (w : Word) : State := { s with regs := Tab.put regReset s.regs off w }

def State.setLive (s : State) (off : Nat) (w : Word) : State := { s with live := Tab.put regReset s.live off w }

def State.setPriv (s : State) (off agent : Nat) (w : Word) : State :=
  { s with priv := Tab.put (fun _ => 0) s.priv (off * 1024 + agent) w }

/-- The value of a field that governs the block: the live copy of a shadowed field, else the only copy. -/
def State.rd (s : State) (f : FieldRef) : Nat :=
  getBits (if f.sh then s.liveReg f.off else s.reg f.off) f.lo f.len

/-- The shadow copy of a field. -/
def State.rdShadow (s : State) (f : FieldRef) : Nat := getBits (s.reg f.off) f.lo f.len

/-- Set a field: both copies of a shadowed field, else the only copy. -/
def State.wr (s : State) (f : FieldRef) (v : Nat) : State :=
  let s1 := s.setReg f.off (setBits (s.reg f.off) f.lo f.len v)
  if f.sh then s1.setLive f.off (setBits (s1.liveReg f.off) f.lo f.len v) else s1

/-- Set the shadow copy of a field alone. -/
def State.wrShadow (s : State) (f : FieldRef) (v : Nat) : State :=
  s.setReg f.off (setBits (s.reg f.off) f.lo f.len v)

/-- Add to a field, stopping at all-ones (a SAT counter, R6). -/
def State.add (s : State) (f : FieldRef) (n : Nat) : State :=
  s.wr f (min (s.rd f + n) (2 ^ f.len - 1))

/-- Add 1 to a saturating counter. -/
def State.inc (s : State) (f : FieldRef) : State := s.add f 1

/-- Add to a field modulo its width (a free-running index or sequence number). -/
def State.addMod (s : State) (f : FieldRef) (n : Nat) : State := s.wr f ((s.rd f + n) % 2 ^ f.len)

/-- Whether a one-bit field is 1. -/
def State.on (s : State) (f : FieldRef) : Bool := s.rd f == 1

/-- Set a per-agent result field. -/
def State.wrPriv (s : State) (agent : Nat) (f : FieldRef) (v : Nat) : State :=
  s.setPriv f.off agent (setBits (s.privReg f.off agent) f.lo f.len v)

def State.rdPriv (s : State) (agent : Nat) (f : FieldRef) : Nat := getBits (s.privReg f.off agent) f.lo f.len

/-- The base offset of a block instance (R21, Table 1-8). -/
def blockBase (b : Blk) (inst : Nat) : Nat :=
  match blockMap.find? (fun r => r.blk == b) with
  | some r => r.base + r.stride * inst
  | none => 0

/-- How many instances a block has. -/
def blockInsts (b : Blk) : Nat :=
  match blockMap.find? (fun r => r.blk == b) with
  | some r => r.insts
  | none => 0

/-- The CMT code of a block (Table 3-17). -/
def Blk.code : Blk → Nat
  | .ATR => 0 | .MER => 1 | .VES => 2 | .HIF => 3 | .DBH => 4 | .CAT => 5 | .HEL => 6 | .STW => 7 | .FAB => 8
  | .ORR => 9 | .GAL => 10 | .NBU => 11 | .PRT => 12 | .PHO => 13 | .NWL => 14 | .FLT => 15 | .ALM => 16

def Blk.all : List Blk :=
  [.ATR, .MER, .VES, .HIF, .DBH, .CAT, .HEL, .STW, .FAB, .ORR, .GAL, .NBU, .PRT, .PHO, .NWL, .FLT, .ALM]

def Blk.ofCode (n : Nat) : Option Blk := Blk.all.find? (fun b => b.code == n)

/-- A refused register write is counted in the block's PREFIX_REFUSED (R28). -/
def State.countRefused (s : State) (b : Blk) (inst : Nat) : State := s.inc (PREFIX_REFUSED.COUNT (blockBase b inst))

/-- The meridian count (R33), its low 32 bits, and the cycle of the meridian. -/
def State.mer (s : State) : Nat := s.rd MER_COUNT.COUNT
def State.mer32 (s : State) : Nat := s.mer % 2 ^ 32
def State.cycle (s : State) : Nat := s.rd MER_PHASE.CYCLE

/-- Take a free value: the value itself, and the state with the counter advanced. -/
def State.free (s : State) : Word × State := (Sys2Proof.Config.freeValue s.freeCtr, { s with freeCtr := s.freeCtr + 1 })

/-- A free byte string. -/
def State.freeBytes (s : State) (n : Nat) : Bytes × State :=
  ((List.range n).map (Sys2Proof.Config.freeByte s.freeCtr), { s with freeCtr := s.freeCtr + 1 })

def State.emit (s : State) (o : Out) : State := { s with outbox := s.outbox ++ [o] }

/-! ## Memory by device physical address (R14, Table 1-5) -/

/-- What lies at a device physical address. -/
inductive DpaKind where
  | hbm | galleryStore | baySram | record | registers
  | host (p : Port)
  | reserved
  deriving DecidableEq, Repr

/-- Bytes of one stack's address range and of one pseudo-channel (R15). -/
def stackSpan : Nat := 0x900000000
def pcSpan : Nat := 0x48000000

/-- The map of Table 1-5; the image of PC31 of each stack is reserved (R16). -/
def dpaKind (a : Nat) : DpaKind :=
  if a < 0x4800000000 then (if a % stackSpan < 31 * pcSpan then .hbm else .reserved)
  else if a < 0x10000000000 then .reserved
  else if a < 0x10020000000 then .galleryStore
  else if a < 0x10040000000 then .baySram
  else if a < 0x20000000000 then .reserved
  else if a < 0x20000200000 then .record
  else if a < 0x30000000000 then .reserved
  else if a < 0x30004000000 then .registers
  else if a < 0x800000000000 then .reserved
  else if a < 0xC00000000000 then .host .HA
  else if a < 0x1000000000000 then .host .HB
  else .reserved

/-- The stack and the logical pseudo-channel an HBM address lies on (R15). -/
def dpaStack (a : Nat) : Nat := a / stackSpan
def dpaPc (a : Nat) : Nat := a % stackSpan / pcSpan

/-- The DPA of a byte of a logical pseudo-channel (R15). -/
def hbmDpa (stack pc off : Nat) : Nat := stack * stackSpan + pc * pcSpan + off

/-- The address spaces a range may not leave: an HBM stack, or a whole region of Table 1-5. -/
def dpaRegion (a : Nat) : DpaKind × Nat :=
  match dpaKind a with
  | .hbm => (.hbm, dpaStack a)
  | k => (k, 0)

/-- No byte of the range is reserved. -/
def rangeOk (a n : Nat) : Bool :=
  n == 0 || (decide (dpaKind a ≠ .reserved) && decide (dpaRegion a = dpaRegion (a + n - 1)))

/-- Every byte of the range lies in HBM. -/
def rangeHbm (a n : Nat) : Bool := rangeOk a n && decide (dpaKind a = .hbm)

/-- What a byte that nothing has written reads as: 0. HBM is zero-filled and SRAM zeroed at bring-up (R427); host memory
is the host's (DESIGN CHOICE, log 2). -/
def memDefault (_ : Nat) : Byte := 0

def State.byte (s : State) (a : Nat) : Byte := Tab.get memDefault s.mem a

def State.setByte (s : State) (a : Nat) (b : Byte) : State := { s with mem := Tab.put memDefault s.mem a b }

/-- The `n` bytes from `a`. -/
def State.bytes (s : State) (a : Nat) : Nat → Bytes
  | 0 => []
  | n + 1 => s.byte a :: s.bytes (a + 1) n

def State.setBytes (s : State) (a : Nat) : Bytes → State
  | [] => s
  | b :: bs => (s.setByte a b).setBytes (a + 1) bs

/-- A little-endian number of `n` bytes, and an 8-byte word. -/
def State.num (s : State) (a n : Nat) : Nat := leNat (s.bytes a n)
def State.word (s : State) (a : Nat) : Word := BitVec.ofNat 64 (s.num a 8)
def State.setNum (s : State) (a n v : Nat) : State := s.setBytes a (leBytes n v)
def State.setWord (s : State) (a : Nat) (w : Word) : State := s.setNum a 8 w.toNat

/-- Copy `n` bytes. -/
def State.copy (s : State) (src dst n : Nat) : State := s.setBytes dst (s.bytes src n)

/-- A record, entry or image of words in memory. -/
def State.words (s : State) (a n : Nat) : List Word := (List.range n).map (fun i => s.word (a + 8 * i))
def State.setWords (s : State) (a : Nat) (ws : List Word) : State := s.setBytes a (ws.flatMap (fun w => leBytes 8 w.toNat))

end Sys2Proof.Machine
end

