-- ==== Sys2Proof/Machine/Ops.lean ====
section
/-! DEFINITION. The shared operations of the block: host ports and device accesses to memory, gives, doorbells, the
fault recorder and commit requests. Every meaning is written over these. -/

namespace Sys2Proof.Machine

/-! ## Host ports (R366 to R369) -/

/-- The port a partition is bound to (HIF_BIND). The device-wide HIF registers are held in instance 0 (R374). -/
def State.portOf (s : State) (p : Nat) : Port := if bitOf (s.rd (HIF_BIND.PORT 0)) p then .HB else .HA

/-- Table 17-4: 0 DOWN, 1 UP, 2 SILENT. -/
def State.portState (s : State) (x : Port) : Nat := s.rd (HIF_PORT_STATE.STATE x.num)

def State.portUp (s : State) (x : Port) : Bool := s.portState x == 1

def State.primary (s : State) : Port := Port.ofNum (s.rd (HIF_PRIMARY.PORT 0))

/-- The partition a VF is mapped to, by the live VF map (R363). -/
def State.vfPart (s : State) (x : Port) (v : Nat) : Option Nat :=
  let w := s.liveReg (HIF_VF_MAP.PART0 x.num (v / 8)).off
  if getBit w (8 * (v % 8) + 7) then some (getBits w (8 * (v % 8)) 6) else none

/-- The function that serves a partition on its port: 0 the PF, v + 1 the VF mapped to it (R366). -/
def State.servingFn (s : State) (p : Nat) : Nat :=
  match firstBelow 32 (fun v => s.vfPart (s.portOf p) v == some p) with
  | some v => v + 1
  | none => 0

def fnKey (x : Port) (fn : Nat) : Nat := x.num * 64 + fn

def State.fn (s : State) (x : Port) (fn : Nat) : Fn := Tab.get (fun _ => {}) s.hif.fns (fnKey x fn)

def State.setFn (s : State) (x : Port) (fn : Nat) (v : Fn) : State :=
  { s with hif := { s.hif with fns := Tab.put (fun _ => {}) s.hif.fns (fnKey x fn) v } }

/-- Vectors a function's MSI-X table holds (Table 17-2). -/
def fnVectors (fn : Nat) : Nat := if fn = 0 then 2048 else 64

def State.vectorUnmasked (s : State) (x : Port) (fn vec : Nat) : Bool :=
  Tab.get (fun _ => false) s.hif.unmasked (fnKey x fn * 2048 + vec)

/-- A message of the function and vector is held by a condition of R366. -/
def State.msixBlocked (s : State) (x : Port) (fn vec : Nat) : Bool :=
  let f := s.fn x fn
  !s.vectorUnmasked x fn vec || !f.msixEnable || f.msixMask || !f.busMaster || f.d3hot || !s.portUp x

/-- A doorbell target is blocked: a host target whose message R366 would hold. A newel target never is (R382). A vector
past the function's table is not held: it is not sent at all (R366). -/
def State.targetBlocked (s : State) (t : Nat) : Bool :=
  let p := t / 8
  let fn := s.servingFn p
  let vec := s.rd (DBH_T_CFG.VECTOR t)
  s.rd (DBH_T_CFG.KIND t) == 0 && decide (vec < fnVectors fn) && s.msixBlocked (s.portOf p) fn vec

/-! ## Partition counters (R456) -/

/-- Add to a counter of Table 23-1. -/
def State.countPart (s : State) (p word n : Nat) : State := s.add (PHO_P_CTR.COUNT p word) n

/-! ## Gives (R12, R13, R69) -/

/-- A unit that takes gives: a newel core backed by a healthy position, or any other unit of Table 3-11 (R69). -/
def State.unitInService (s : State) (u : Nat) : Bool :=
  match unitKind u with
  | none => false
  | some .nwl => s.on (NWL_C_STATE.IN_SERVICE (u - 0x20))
  | some _ => true

/-- Issue a give: a count of 0 gives nothing (R27). -/
def State.issueGive (s : State) (x : Give) : State :=
  if x.count = 0 then s else { s with larty := { s.larty with gives := s.larty.gives ++ [x] } }

/-! ## Doorbell hall (R376 to R386) -/

/-- A report to the fault recorder, on its way. -/
def State.postReport (s : State) (r : Report) : State :=
  { s with flt := { s.flt with inbound := s.flt.inbound ++ [r] } }

def State.setTimer (s : State) (t : Nat) (b : Bool) : State :=
  { s with dbhTimer := Tab.put (fun _ => false) s.dbhTimer t b }

def State.timerRuns (s : State) (t : Nat) : Bool := Tab.get (fun _ => false) s.dbhTimer t

/-- A give by a block: one to a unit out of service is discarded with a fault record that names the target (R69). -/
def State.giveFromBlock (s : State) (b : Blk) (unit ctr : Nat) : State :=
  if s.unitInService unit then s.issueGive { unit := unit, credit := false, ctr := ctr, count := 1, giver := 0xFF }
  else s.postReport { cls := 0x01, status := Status.linkFailed.code, sev := 3, blk := b.code, unit := unit }

/-- The give of a newel-kind delivery, or the report of its discard (R383). -/
def State.deliverNewel (s : State) (t : Nat) : State :=
  let u := s.rd (DBH_T_CFG.UNIT t)
  if s.unitInService u then
    s.issueGive { unit := u, credit := false, ctr := s.rd (DBH_T_CFG.CTR t), count := 1, giver := 0xFF }
  else
    s.postReport { cls := 0x01, status := Status.linkFailed.code, sev := 3, blk := Blk.DBH.code, unit := u, addr := t }

/-- Hand a delivery to the host interface (R383). -/
def State.deliverHost (s : State) (t : Nat) : State :=
  { s with hif := { s.hif with
      msixQueue := s.hif.msixQueue ++ [{ target := t, part := t / 8, vector := s.rd (DBH_T_CFG.VECTOR t) }] } }

/-- Make a delivery (R382, R383): IDLE is cleared, the delivery counted, the moderation timer restarted unless MOD is
0, and the target moves to HOLDOFF, or to QUIET when MOD is 0. -/
def State.deliver (s : State) (t : Nat) : State :=
  let noMod := s.rd (DBH_T_CFG.MOD t) == 0
  let s := if s.rd (DBH_T_CFG.KIND t) = 0 then s.deliverHost t else s.deliverNewel t
  let s := s.wr (DBH_T_IDLE.IDLE t) 0
  let s := s.inc (DBH_T_DELIVERED.COUNT t)
  let s := s.inc DBH_DELIVERED.COUNT
  let s := s.wr (DBH_T_STATE.LAST_DELIVERY t) s.mer32
  let s := s.setTimer t (!noMod)
  s.wr (DBH_T_STATE.STATE t) (if noMod then 0 else 1)

/-- What a fresh ring does to its target (Table 18-3). -/
def State.freshRing (s : State) (t : Nat) : State :=
  let blocked := s.targetBlocked t
  if s.rd (DBH_T_STATE.STATE t) = 0 then
    if blocked then s.wr (DBH_T_STATE.STATE t) 2 else s.deliver t
  else if s.rd (DBH_T_STATE.STATE t) = 1 then
    if s.on (DBH_T_IDLE.IDLE t) && !blocked then (s.deliver t).inc (DBH_T_BYPASSES.COUNT t)
    else s.wr (DBH_T_STATE.STATE t) 2
  else s

/-- The reason a ring ends, if a check of Table 18-2 fails. `addr` is the target an addressed ring names. -/
def State.ringReason (s : State) (addr : Option Nat) (reservedZero : Bool) (part src : Nat) : Option Nat :=
  let t := 8 * part + s.rd (DBH_SOURCE.TARGET src)
  if !reservedZero then some 5
  else if !s.on (DBH_SOURCE.ACTIVE src) then some 1
  else if s.rd (DBH_SOURCE.PART src) ≠ part then some 2
  else if addr.isSome ∧ addr ≠ some t then some 3
  else if !s.on (DBH_T_CFG.EN t) then some 4
  else none

/-- An ended ring changes nothing but these two registers (R379). -/
def State.ignoreRing (s : State) (addr : Option Nat) (part src reason : Nat) : State :=
  let s := s.inc DBH_IGNORED.COUNT
  let s := s.wr DBH_LAST_IGNORED.SOURCE src
  let s := s.wr DBH_LAST_IGNORED.PART part
  let s := s.wr DBH_LAST_IGNORED.REASON reason
  let s := s.wr DBH_LAST_IGNORED.TARGET (addr.getD 0)
  s.wr DBH_LAST_IGNORED.MERIDIAN s.mer32

/-- An accepted ring sets its pending bit, or counts as coalesced where it finds the bit set (R380). -/
def State.setPendingBit (s : State) (t src : Nat) : State :=
  let f := DBH_T_PENDING.BITS t (src / 64)
  let s1 := s.inc DBH_ACCEPTED.COUNT
  if bitOf (s.rd f) (src % 64) then s1.inc (DBH_T_COALESCED.COUNT t)
  else
    let s2 := s1.wr f (withBit (s.rd f) (src % 64))
    s2.wr (DBH_T_SUMMARY.WORDS t) (withBit (s2.rd (DBH_T_SUMMARY.WORDS t)) (src / 64))

/-- A ring reaches the hall (R378 to R382). -/
def State.ring (s : State) (addr : Option Nat) (reservedZero : Bool) (part src : Nat) : State :=
  match s.ringReason addr reservedZero part src with
  | some reason => s.ignoreRing addr part src reason
  | none =>
    let t := 8 * part + s.rd (DBH_SOURCE.TARGET src)
    (s.setPendingBit t src).freshRing t

/-- A ring by a device unit: a partition and a source, no address (R378). -/
def State.notify (s : State) (part src : Nat) : State := s.ring none true part src

/-- A ring by a device unit where its notify register enables it. -/
def State.notifyIf (s : State) (en : Bool) (part src : Nat) : State := if en then s.notify part src else s

/-! ## Trace records (R459, R460) -/

/-- A trace record (Table 23-3) of a unit's context, for the unit's bit of PHO_TRACE_EN; a record that finds the buffer
full is dropped. -/
def State.trace (s : State) (dev : Bool) (event unit ctx payload : Nat) : State :=
  if !bitOf (s.rd PHO_TRACE_EN.UNITS) unit then s
  else if 2048 ≤ s.pho.trace.length then s.inc PHO_TRACE_DROPPED.COUNT
  else
    let w0 := setBits (setBits (setBits (setBits (setBits 0 0 16 event) 16 1 (b01 dev)) 24 8 unit) 32 3 ctx)
      48 16 s.mer
    let w1 := setBits (setBits 0 0 16 s.cycle) 16 48 payload
    { s with pho := { s.pho with trace := s.pho.trace ++ [(w0, w1)] } }

/-- A device event of Table 23-4, where DEV_EVENTS enables it. -/
def State.traceDev (s : State) (event unit ctx payload : Nat) : State :=
  if bitOf (s.rd PHO_TRACE_CFG.DEV_EVENTS) (event - 1) then s.trace true event unit ctx payload else s

/-! ## The fault recorder (R441 to R444) -/

/-- The word w0 to w7 of a fault record (Table 22-1). -/
def FaultRec.words (r : FaultRec) : List Word :=
  let x := r.report
  let w0 := setBits (setBits (setBits (setBits (setBits (setBits 0 0 8 x.cls) 8 8 x.status) 16 3 x.sev)
    24 6 (x.part.getD 0)) 30 1 (b01 x.part.isSome)) 32 32 r.seq
  let w2 := setBits (setBits (setBits (setBits (setBits 0 0 5 x.blk) 5 6 x.inst) 16 8 x.unit) 24 3 x.ctx)
    32 32 r.suppressed
  [w0, BitVec.ofNat 64 r.meridian, w2, BitVec.ofNat 64 x.addr, BitVec.ofNat 64 x.d0, BitVec.ofNat 64 x.d1, 0, 0]

/-- The source of a record is its CLASS, BLOCK, INSTANCE, UNIT and STATUS (R443). -/
def FoldEntry.sameSource (e : FoldEntry) (r : Report) : Bool :=
  e.cls == r.cls && e.blk == r.blk && e.inst == r.inst && e.unit == r.unit && e.status == r.status

/-- The last record of the report's source. -/
def State.foldOf (s : State) (r : Report) : Option FoldEntry := s.flt.fold.find? (fun e => e.sameSource r)

/-- A report is folded when its source's last record is younger than FLT_FOLD.MERIDIANS; SEVERITY 4 and CLASS 0x0D
never are (R443). -/
def State.folds (s : State) (r : Report) : Bool :=
  r.sev != 4 && r.cls != 0x0D &&
  match s.foldOf r with
  | some e => decide (s.mer - e.meridian < s.rd FLT_FOLD.MERIDIANS)
  | none => false

def State.setFold (s : State) (r : Report) (e : FoldEntry) : State :=
  { s with flt := { s.flt with fold := e :: s.flt.fold.filter (fun x => !x.sameSource r) } }

/-- A folded report makes no record; the next record of its source carries the count (R443). -/
def State.foldReport (s : State) (r : Report) : State :=
  match s.foldOf r with
  | some e => (s.setFold r { e with suppressed := e.suppressed + 1 }).inc FLT_FOLDED.COUNT
  | none => s

/-- Entries a ring holds between its HEAD and its TAIL (R187): both run freely modulo 2^32. -/
def ringCount (tail head : Nat) : Nat := (tail + 2 ^ 32 - head) % 2 ^ 32

/-- The fault ring has room for a record. -/
def State.fltRoom (s : State) : Bool :=
  decide (0 < s.rd FLT_RING_SIZE.ENTRIES) &&
  decide (ringCount (s.rd FLT_RING_TAIL.INDEX) (s.rd FLT_RING_HEAD.INDEX) < s.rd FLT_RING_SIZE.ENTRIES)

/-- The doorbells of a written record (R444); a HEALTH record rings whatever MIN_SEV holds (R448). -/
def State.ringFault (s : State) (r : Report) : State :=
  let s := s.notifyIf (s.on FLT_NOTIFY.EN && (decide (s.rd FLT_NOTIFY.MIN_SEV ≤ r.sev) || r.cls == 0x0D))
    (s.rd FLT_NOTIFY.DB_PART) (s.rd FLT_NOTIFY.DB_SOURCE)
  match r.part with
  | some p => s.notifyIf (s.on (FLT_P_NOTIFY.EN p)) p (s.rd (FLT_P_NOTIFY.DB_SOURCE p))
  | none => s

/-- Write a record to its ring slot and ring its doorbells (R442, R444). A slot at a reserved DPA holds nothing: the
record is lost (DEDUCED, log 12). -/
def State.writeFaultRec (s : State) (r : FaultRec) : State :=
  let a := s.rd FLT_RING_BASE.DPA + 64 * (s.rd FLT_RING_TAIL.INDEX % s.rd FLT_RING_SIZE.ENTRIES)
  let s1 := if rangeOk a 64 then (s.setWords a r.words).inc FLT_RECORDS.COUNT else s.inc FLT_LOST.COUNT
  (s1.addMod FLT_RING_TAIL.INDEX 1).ringFault r.report

/-- FLT_LAST holds the newest record (R442). -/
def State.setFltLast (s : State) (ws : List Word) : State :=
  (ws.zip (List.range 8)).foldl (fun s x => s.setReg (FLT_LAST.WORD x.2).off x.1) s

/-- Make a record: it takes its SEQ, is copied to FLT_LAST, and is written, queued or dropped (R442, R443). -/
def State.makeRecord (s : State) (r : Report) : State :=
  let sup := match s.foldOf r with
    | some e => e.suppressed
    | none => 0
  let rec_ : FaultRec := { report := r, seq := s.flt.nextSeq, meridian := s.mer, suppressed := sup }
  let s := { s with flt := { s.flt with nextSeq := (s.flt.nextSeq + 1) % 2 ^ 32 } }
  let s := s.setFold r { cls := r.cls, blk := r.blk, inst := r.inst, unit := r.unit, status := r.status,
                         meridian := s.mer, suppressed := 0 }
  let s := s.setFltLast rec_.words
  let s := if r.unit = 0xFF then s else s.traceDev 0x0004 r.unit r.ctx rec_.seq
  if s.flt.queue.isEmpty && s.fltRoom then s.writeFaultRec rec_
  else if s.flt.queue.length < 64 then { s with flt := { s.flt with queue := s.flt.queue ++ [rec_] } }
  else s.inc FLT_LOST.COUNT

/-- One report reaches the recorder (R442, R443). -/
def State.recordOne (s : State) (r : Report) : State := if s.folds r then s.foldReport r else s.makeRecord r

/-- The reports on their way reach the recorder. Reports that their doorbells cause stay on their way (DEDUCED, log 11). -/
def State.settleReports (s : State) : State :=
  let rs := s.flt.inbound
  rs.foldl State.recordOne { s with flt := { s.flt with inbound := [] } }

/-- A unit reports a fault. -/
def State.report (s : State) (r : Report) : State := (s.postReport r).settleReports

/-- Queued records are written once ring space exists (R442). -/
def State.drainFaults : Nat → State → State
  | 0, s => s
  | n + 1, s =>
    match s.flt.queue with
    | [] => s
    | r :: rs =>
      if s.fltRoom then State.drainFaults n (State.writeFaultRec { s with flt := { s.flt with queue := rs } } r) else s

/-- A doorbell rung by a unit, and the reports its delivery makes reach the recorder. -/
def State.bell (s : State) (part src : Nat) : State := (s.notify part src).settleReports

def State.bellIf (s : State) (en : Bool) (part src : Nat) : State := if en then s.bell part src else s

/-! ## Health inputs (R446) -/

/-- An uncorrectable error anywhere in the device. -/
def State.noteUe (s : State) : State :=
  { s with flt := { s.flt with errNow := s.flt.errNow + s.rd FLT_ERR_CFG.UE_W } }

/-- A spare taken into use. -/
def State.noteSub (s : State) : State :=
  { s with flt := { s.flt with errNow := s.flt.errNow + s.rd FLT_ERR_CFG.SUB_W } }

/-- Corrected errors: CE_W per 1,024 of them. -/
def State.noteCe (s : State) (n : Nat) : State :=
  let c := s.flt.ceCount + n
  { s with flt := { s.flt with ceCount := c % 1024, errNow := s.flt.errNow + c / 1024 * s.rd FLT_ERR_CFG.CE_W } }

/-! ## Device accesses to memory (R14, R26, R359, R369) -/

/-- The MEMORY record of a refused or uncorrectable access (Table 22-2). -/
def memReport (blk inst unit : Nat) (part : Option Nat) (addr : Nat) : Report :=
  { cls := 0x03, status := Status.uncorrected.code, sev := 3, part := part, blk := blk, inst := inst, unit := unit,
    addr := addr }

/-- The range touches a pseudo-channel out of service, or a frame of the lost-frame table (R222, R223). -/
def State.hbmLost (s : State) (a n : Nat) : Bool :=
  n != 0 && decide (dpaKind a = .hbm) &&
  ((s.rd (NBU_PCMAP.LOST_MASK (dpaStack a)) != 0 &&
      (List.range 31).any (fun i => decide (dpaPc a ≤ i) && decide (i ≤ dpaPc (a + n - 1)) &&
        bitOf (s.rd (NBU_PCMAP.LOST_MASK (dpaStack a))) i)) ||
   (s.rd (NBU_PCMAP.LOST_COUNT (dpaStack a)) != 0 &&
      (List.range 64).any (fun i => s.on (NBU_LOST.VALID (dpaStack a) i) &&
        decide (s.rd (NBU_LOST.DPA (dpaStack a) i) < a + n) && decide (a < s.rd (NBU_LOST.DPA (dpaStack a) i) + 8192))))

/-- The range lies on a stack whose NBU is held in reset: an operation that needs it ends with UNCORRECTED (R432). -/
def State.hbmHeld (s : State) (a n : Nat) : Bool :=
  n != 0 && decide (dpaKind a = .hbm) && getBit (s.reg ATR_HELD.BLOCKS.off) (48 + dpaStack a)

/-- The status a device access to a range meets: UNCORRECTED on a reserved DPA, on lost HBM and on a held stack, LINK_FAILED on a host
window whose port is not UP. -/
def State.storeStatus (s : State) (a n : Nat) : Status :=
  if !rangeOk a n || s.hbmLost a n || s.hbmHeld a n then .uncorrected
  else match dpaKind a with
    | .host p => if n == 0 || s.portUp p then .ok else .linkFailed
    | _ => .ok

/-- The status a device read meets: a read of a host window can reach its completion timeout as well (R359). -/
def State.accessStatus (s : State) (a n : Nat) : Status :=
  match dpaKind a with
  | .host p => if n != 0 && s.hif.timeouts.contains p && rangeOk a n then .linkFailed else s.storeStatus a n
  | _ => s.storeStatus a n

/-- The read whose completion timed out has completed. -/
def State.endTimeout (s : State) (p : Port) : State :=
  { s with hif := { s.hif with timeouts := s.hif.timeouts.filter (fun q => q != p) } }

/-- The counters of a device access that failed on a host port (R369), and the record of one on a reserved DPA. -/
def State.noteAccess (s : State) (write : Bool) (r : Report) (a n : Nat) : State :=
  match (if write then s.storeStatus a n else s.accessStatus a n) with
  | .uncorrected =>
    s.report { r with addr := a, d1 := if dpaKind a = .hbm then dpaStack a * 32 + dpaPc a else r.d1 }
  | .linkFailed =>
    match dpaKind a with
    | .host p =>
      if write then s.inc (HIF_DROPPED_WR.COUNT p.num)
      else if s.portUp p then s.endTimeout p
      else s.inc (HIF_FAILED_RD.COUNT p.num)
    | _ => s
  | _ => s

/-- A device write: discarded where the access fails. -/
def State.devWrite (s : State) (r : Report) (a : Nat) (bs : Bytes) : State :=
  let s' := s.noteAccess true r a bs.length
  if s.storeStatus a bs.length = .ok then s'.setBytes a bs else s'

def State.devWriteWords (s : State) (r : Report) (a : Nat) (ws : List Word) : State :=
  let s' := s.noteAccess true r a (8 * ws.length)
  if s.storeStatus a (8 * ws.length) = .ok then s'.setWords a ws else s'

/-! ## Commit requests (R39) -/

/-- A commit request to a block instance: SHADOW_PENDING becomes 1, or stays 1. One to a block that is not READY has no effect
(R431). -/
def State.requestCommit (s : State) (b : Blk) (inst : Nat) : State :=
  if s.on (PREFIX_STATUS.READY (blockBase b inst)) then s.wr (PREFIX_STATUS.SHADOW_PENDING (blockBase b inst)) 1 else s

end Sys2Proof.Machine
end

