-- ==== Sys2Proof/Machine/Operands.lean ====
section
/-! DEFINITION. The operand forms of Larty instructions: the instruction word, the register files, guards, the checks
that make an instruction fault, tile descriptors, and the issue of one instruction by a context. -/

namespace Sys2Proof.Machine

/-! ## The instruction word (R59) -/

/-- The word of an instruction (Table 3-5). -/
def encodeWord (op : BitVec 8) (f : LFields) : Word :=
  (op ++ f.d ++ f.a ++ f.b ++ BitVec.ofBool f.g ++ BitVec.ofBool f.n ++ f.p ++ f.imm : BitVec 64)

/-- The opcode and the fields of a word (Table 3-5). -/
def decodeOp (w : Word) : BitVec 8 := w.extractLsb' 56 8

def decodeFields (w : Word) : LFields where
  d := w.extractLsb' 50 6
  a := w.extractLsb' 44 6
  b := w.extractLsb' 38 6
  g := w.getLsbD 37
  n := w.getLsbD 36
  p := w.extractLsb' 33 3
  imm := w.extractLsb' 0 33

/-- A field of IMM. -/
def LFields.im (f : LFields) (lo len : Nat) : Nat := f.imm.toNat / 2 ^ lo % 2 ^ len

/-- A field of IMM as two's complement. -/
def LFields.ims (f : LFields) (lo len : Nat) : Int :=
  if f.im lo len < 2 ^ (len - 1) then (f.im lo len : Int) else (f.im lo len : Int) - (2 ^ len : Nat)

/-- The file a register field names (R59). -/
inductive File where
  | none | g | p | t | k | c
  deriving DecidableEq, Repr

/-- Registers a file holds (Table 3-2). An unused field admits 0 alone (R61). -/
def File.size : File → Nat
  | .none => 1
  | .g => 32
  | .p => 8
  | .t => 16
  | .k => 16
  | .c => 16

/-- What an opcode makes of the word's fields: the files of d, a and b, and the IMM bits it defines (R59, R61). -/
structure OpForm where
  d : File := .none
  a : File := .none
  b : File := .none
  immBits : Nat := 0
  deriving DecidableEq, Repr

def immField (lo len : Nat) : Nat := (2 ^ len - 1) * 2 ^ lo

/-- The forms of Tables 3-6 to 3-18. An opcode that no table lists is reserved (R83). -/
def opForm (op : Nat) : Option OpForm :=
  if op = 0x00 then some {}
  else if op = 0x01 then some { immBits := immField 0 32 }
  else if op = 0x02 then some { d := .g, immBits := immField 0 32 }
  else if op = 0x03 then some { a := .g }
  else if op = 0x04 then some {}
  else if op = 0x05 then some { d := .g }
  else if op = 0x06 then some { d := .g }
  else if op = 0x07 then some {}
  else if op = 0x08 then some { d := .k, a := .g, immBits := immField 0 11 }
  else if op = 0x09 then some {}
  else if op ≤ 0x14 ∧ 0x10 ≤ op then some { d := .g, a := .g, b := .g }
  else if op ≤ 0x17 ∧ 0x15 ≤ op then some { d := .g, a := .g, b := .g, immBits := immField 0 7 }
  else if op = 0x18 then some { d := .g, a := .g, b := .g }
  else if op = 0x19 then some { d := .g, a := .g, immBits := immField 0 33 }
  else if op = 0x1A ∨ op = 0x1B then some { d := .g, immBits := immField 0 32 }
  else if op = 0x1C then some { d := .p, a := .g, b := .g, immBits := immField 0 3 }
  else if op = 0x1D then some { d := .p, a := .g, immBits := immField 0 33 }
  else if op = 0x1E then some { d := .p, a := .p, b := .p, immBits := immField 0 4 }
  else if op = 0x1F then some { d := .t, a := .g, immBits := immField 0 2 }
  else if op = 0x20 then some { d := .g, a := .g, immBits := immField 0 33 }
  else if op = 0x21 then some { a := .g, b := .g, immBits := immField 0 33 }
  else if op = 0x22 then some { d := .t, a := .g, immBits := immField 0 33 }
  else if op = 0x23 then some { a := .g, b := .t, immBits := immField 0 33 }
  else if op = 0x24 ∨ op = 0x25 then some { d := .g, a := .g, b := .g, immBits := immField 0 33 }
  else if op = 0x26 then some {}
  else if op = 0x30 ∨ op = 0x31 then some { d := .g, a := .g, b := .g, immBits := immField 0 5 }
  else if op = 0x32 ∨ op = 0x33 then some { d := .g, a := .g, b := .g, immBits := immField 0 3 }
  else if op = 0x34 then some { a := .g, immBits := immField 0 3 }
  else if op = 0x35 then some { d := .k, a := .g, immBits := immField 0 3 }
  else if op = 0x36 then some { a := .g, b := .g, immBits := immField 0 3 }
  else if op = 0x37 then some { d := .g, a := .g, b := .g, immBits := immField 0 15 }
  else if op = 0x40 ∨ op = 0x41 then some { b := .g, immBits := immField 0 29 }
  else if op = 0x42 then some { d := .k, immBits := immField 0 19 }
  else if op = 0x43 then some { d := .c, immBits := immField 0 19 }
  else if op = 0x44 then some { d := .k, immBits := immField 0 31 }
  else if op = 0x45 then some { d := .c, immBits := immField 0 31 }
  else if op = 0x46 then some { d := .g, a := .k }
  else if op = 0x47 then some { d := .g, a := .c }
  else if op = 0x48 then some { d := .k, a := .g }
  else if op = 0x49 then some { d := .c, a := .g }
  else if op = 0x50 then some { d := .t, a := .t, b := .t, immBits := immField 0 5 }
  else if op = 0x51 then some { d := .t, a := .t, immBits := immField 0 4 }
  else if op = 0x52 then some { d := .t, a := .t, immBits := immField 0 8 }
  else if op = 0x53 then some { d := .t, a := .t, b := .t, immBits := immField 0 8 }
  else if op = 0x54 ∨ op = 0x55 then some { d := .t, a := .t, immBits := immField 0 8 }
  else if op = 0x56 then some { immBits := immField 0 16 }
  else if op = 0x60 then some { d := .t, a := .t, b := .g, immBits := immField 0 5 }
  else if op = 0x61 then some { d := .t, a := .t, b := .t }
  else if op = 0x62 then some { a := .g, immBits := immField 0 3 }
  else if op = 0x63 then some { immBits := immField 0 31 }
  else if op = 0x70 then some { d := .k, a := .g, b := .g, immBits := immField 0 33 }
  else if op = 0x71 then some { d := .k, a := .g, immBits := immField 0 5 }
  else if op = 0x72 then some { d := .k, a := .g, b := .g, immBits := immField 0 3 }
  else if op = 0x80 then some { d := .g, a := .g, immBits := immField 0 4 }
  else if op = 0x81 then some { a := .g, b := .g, immBits := immField 0 7 }
  else if op = 0x82 then some { a := .g, immBits := immField 0 11 }
  else if op = 0x83 then some { d := .g, a := .g, immBits := immField 0 3 }
  else if op = 0x84 then some { a := .g, b := .g, immBits := immField 0 3 }
  else if op = 0x85 then some { a := .g, immBits := immField 0 3 }
  else if op = 0x86 then some { a := .g, b := .g }
  else if op = 0x90 then some { a := .g, immBits := immField 0 18 }
  else if op = 0x91 then some { a := .g, immBits := immField 0 16 }
  else if op = 0x92 then some { a := .g, immBits := immField 0 10 }
  else if op = 0xA0 then some { immBits := immField 0 11 }
  else if op = 0xA1 then some { a := .g, b := .g }
  else if op = 0xA2 then some { d := .g, a := .g }
  else none

/-- The instruction classes a unit supports (R51, Table 3-1). -/
def UnitKind.classes : UnitKind → List Nat
  | .gal => [0x0, 0x1, 0x4, 0x5, 0x9, 0xA]
  | .nb => [0x0, 0x1, 0x4, 0x6, 0x9]
  | .hel => [0x0, 0x1, 0x3, 0x4, 0x7, 0x9]
  | .nwl => [0x0, 0x1, 0x2, 0x3, 0x4, 0x7, 0x8, 0x9, 0xA]

def UnitKind.supports (k : UnitKind) (op : Nat) : Bool := k.classes.contains (op / 16)

/-- The rules of R60 and R61 on the fields of a word. -/
def fieldsLegal (fm : OpForm) (f : LFields) : Bool :=
  (f.g || (!f.n && f.p == 0)) && decide (f.d.toNat < fm.d.size) && decide (f.a.toNat < fm.a.size) &&
  decide (f.b.toNat < fm.b.size) && decide (f.imm.toNat &&& (2 ^ 33 - 1 - fm.immBits) = 0)

/-- Whether an instruction of the unit is legal by R60, R61, R62 (reserved opcodes, unsupported classes). -/
def wordLegal (k : UnitKind) (op : BitVec 8) (f : LFields) : Bool :=
  match opForm op.toNat with
  | none => false
  | some fm => k.supports op.toNat && fieldsLegal fm f

/-! ## Register files (R54, R55) -/

def State.gReg (s : State) (x : LCtx) (n : Nat) : Word :=
  if n = 0 then 0 else Tab.get (fun _ => 0) s.larty.g (x.key * 32 + n)

def State.pReg (s : State) (x : LCtx) (n : Nat) : Bool :=
  if n = 0 then true else Tab.get (fun _ => false) s.larty.p (x.key * 8 + n)

def State.tReg (s : State) (x : LCtx) (n : Nat) : Desc := Tab.get (fun _ => 0) s.larty.t (x.key * 16 + n)

def State.kReg (s : State) (unit n : Nat) : BitVec 32 := Tab.get (fun _ => 0) s.larty.k (unit * 16 + n)

def State.cReg (s : State) (unit n : Nat) : BitVec 32 := Tab.get (fun _ => 0) s.larty.c (unit * 16 + n)

/-- Writes to g0 are ignored (R55). -/
def State.setG (s : State) (x : LCtx) (n : Nat) (w : Word) : State :=
  if n = 0 then s
  else { s with larty := { s.larty with g := Tab.put (fun _ => 0) s.larty.g (x.key * 32 + n) w } }

/-- Writes to p0 are ignored (R55). -/
def State.setP (s : State) (x : LCtx) (n : Nat) (b : Bool) : State :=
  if n = 0 then s
  else { s with larty := { s.larty with p := Tab.put (fun _ => false) s.larty.p (x.key * 8 + n) b } }

def State.setT (s : State) (x : LCtx) (n : Nat) (v : Desc) : State :=
  { s with larty := { s.larty with t := Tab.put (fun _ => 0) s.larty.t (x.key * 16 + n) v } }

def State.setK (s : State) (unit n : Nat) (v : BitVec 32) : State :=
  { s with larty := { s.larty with k := Tab.put (fun _ => 0) s.larty.k (unit * 16 + n) v } }

def State.setC (s : State) (unit n : Nat) (v : BitVec 32) : State :=
  { s with larty := { s.larty with c := Tab.put (fun _ => 0) s.larty.c (unit * 16 + n) v } }

/-- A counter of either kind. -/
def State.counter (s : State) (credit : Bool) (unit n : Nat) : Nat :=
  if credit then (s.cReg unit n).toNat else (s.kReg unit n).toNat

def State.setCounter (s : State) (credit : Bool) (unit n v : Nat) : State :=
  if credit then s.setC unit n (BitVec.ofNat 32 v) else s.setK unit n (BitVec.ofNat 32 v)

/-! ## Contexts and slices (R51 to R53) -/

def State.ctx (s : State) (x : LCtx) : Ctx := Tab.get (fun _ => {}) s.larty.ctxs x.key

def State.setCtx (s : State) (x : LCtx) (c : Ctx) : State :=
  { s with larty := { s.larty with ctxs := Tab.put (fun _ => {}) s.larty.ctxs x.key c } }

def State.modCtx (s : State) (x : LCtx) (f : Ctx → Ctx) : State := s.setCtx x (f (s.ctx x))

def State.pc (s : State) (x : LCtx) : Nat := (s.ctx x).pc.toNat

def State.setPc (s : State) (x : LCtx) (n : Nat) : State := s.modCtx x (fun c => { c with pc := BitVec.ofNat 16 n })

def State.slice (s : State) (unit : Nat) : Slice := Tab.get (fun _ => {}) s.larty.slices unit

def State.setSlice (s : State) (unit : Nat) (v : Slice) : State :=
  { s with larty := { s.larty with slices := Tab.put (fun _ => {}) s.larty.slices unit v } }

def State.closeSlice (s : State) (unit : Nat) : State := s.setSlice unit {}

/-- Note a condition of Table 2-2a for the slice a unit has open. -/
def State.markSlice (s : State) (unit : Nat) (f : Slice → Slice) : State :=
  if (s.slice unit).isOpen then s.setSlice unit (f (s.slice unit)) else s

/-- A critical context leaves its slice; a background context has none (R52, R53). -/
def State.leaveSlice (s : State) (x : LCtx) : State := if x.critical then s.closeSlice x.unit else s

def State.installedImage (s : State) (unit : Nat) : Image := Tab.get (fun _ => {}) s.larty.installed unit

def State.workWord (s : State) (unit n : Nat) : Word := Tab.get (fun _ => 0) s.larty.work (unit * 65536 + n)

/-- A context issues only while it is RUNNING, a critical context only inside its slice. One whose debug stop waits for an access
issues nothing after that access. -/
def State.canIssue (s : State) (x : LCtx) : Bool :=
  (!(s.ctx x).stopPending || (s.ctx x).wait == .access) &&
  (s.ctx x).state == .running && (!x.critical || (s.slice x.unit).isOpen)

/-- The budget B of a meridian length (Table 2-1), and the meridian's cycles. -/
def lenBudget (len : Nat) : Nat := if len = 0 then 7500 else if len = 1 then 15600 else 31800
def lenCycles (len : Nat) : Nat := if len = 0 then 8100 else if len = 1 then 16200 else 32400

/-- The length in force in the current meridian: the live LEN acts from MER_SWITCH_AT (R44); until then the length it
replaces stays in force. -/
def State.merLen (s : State) : Nat := s.merp.lenNow

/-! ## Local stores and the partition of a context (R51, R66, R85) -/

/-- Bytes of a unit's local store: a newel core's, or the heliostat sequencer's staging store (Table 3-1). -/
def UnitKind.localBytes : UnitKind → Nat
  | .hel => 131072
  | .nwl => 524288
  | _ => 0

/-- What a byte that no program has written reads as: 0, or a free value once a spare core has taken the logical number, since
the spec does not say that the spare's local store holds what the failed core's did (R452). -/
def State.localDefault (s : State) (k : Nat) : Byte :=
  let n := Tab.get (fun _ => 0) s.larty.localFill (k / 1048576)
  if n = 0 then 0 else Sys2Proof.Config.freeByte (n - 1) (k % 1048576)

def State.localByte (s : State) (unit off : Nat) : Byte :=
  Tab.get s.localDefault s.larty.localStore (unit * 1048576 + off)

/-- The unit's local store comes to hold free values. -/
def State.freeLocal (s : State) (unit : Nat) : State :=
  { s with freeCtr := s.freeCtr + 1,
           larty := { s.larty with
             localFill := Tab.put (fun _ => 0) s.larty.localFill unit (s.freeCtr + 1),
             localStore := s.larty.localStore.filter (fun e => e.1 / 1048576 != unit) } }

def State.localBytes (s : State) (unit off n : Nat) : Bytes := (List.range n).map (fun i => s.localByte unit (off + i))

def State.setLocal (s : State) (unit off : Nat) : Bytes → State
  | [] => s
  | b :: bs =>
    State.setLocal { s with larty := { s.larty with
      localStore := Tab.put s.localDefault s.larty.localStore (unit * 1048576 + off) b } } unit (off + 1) bs

/-- The range lies in the unit's local store. -/
def localOk (x : LCtx) (off n : Nat) : Bool := decide (off + n ≤ x.kind.localBytes)

/-- The 8-byte words at a local address. -/
def State.localWords (s : State) (unit off n : Nat) : List Word :=
  (List.range n).map (fun i => BitVec.ofNat 64 (leNat (s.localBytes unit (off + 8 * i) 8)))

/-- The partition set for a newel context in NWL_C_PART (R85). -/
def State.ctxPart (s : State) (x : LCtx) : Option Nat :=
  match x with
  | .nwl c i =>
    let w := s.liveReg (NWL_C_PART.PART0 c.val).off
    if getBit w (32 + i.val) then some (getBits w (6 * i.val) 6) else none
  | _ => none

/-! ## Instruction faults (R62 to R64) -/

/-- The block instance a unit belongs to. -/
def unitBlk (u : Nat) : Blk × Nat :=
  match unitKind u with
  | some .gal => (.GAL, u)
  | some .nb => (.NBU, u - 0x10)
  | some .hel => (.HEL, 0)
  | _ => (.NWL, 0)

/-- The unit's block and instance, as a fault record names them (Table 3-17). -/
def LCtx.block : LCtx → Nat × Nat
  | .gal g => (Blk.GAL.code, g.val)
  | .nb h => (Blk.NBU.code, h.val)
  | .hel => (Blk.HEL.code, 0)
  | .nwl _ _ => (Blk.NWL.code, 0)

/-- A faulting instruction has no effect: its context is FAULTED, a critical context's slice closes, a fault record is
written, and the NWL block shows a newel core's fault (R64, Table 3-20). -/
def State.instrFault (s : State) (x : LCtx) (word : Word) (st : Status) : State :=
  let pc := s.pc x
  let s := s.modCtx x (fun c => { c with state := .faulted, wait := .none })
  let s := s.leaveSlice x
  let s := match x with
    | .nwl c _ =>
      let s := s.inc (NWL_C_FAULTS.COUNT c.val)
      let s := s.wr (NWL_C_LAST_FAULT.PC c.val) pc
      let s := s.wr (NWL_C_LAST_FAULT.CTX c.val) x.ctx
      let s := s.wr (NWL_C_LAST_FAULT.STATUS c.val) st.code
      s.wr (NWL_C_LAST_FAULT.MERIDIAN c.val) s.mer32
    | _ => s
  s.report { cls := 0x01, status := st.code, sev := 3, blk := x.block.1, inst := x.block.2, unit := x.unit,
             ctx := x.ctx, d0 := pc, d1 := word.toNat }

/-- The guard (R60). -/
def State.guard (s : State) (x : LCtx) (f : LFields) : Bool := !f.g || (s.pReg x f.p.toNat != f.n)

/-- One context issues one instruction (R59 to R64). Nothing issues unless the context can issue and the word at its PC
is this instruction. A fetch at or past CODE_WORDS faults with a word of 0. `fault` is the status of an operand fault of
the opcode's own rules, checked whatever the guard holds. `eff` is the effect, made with the PC already advanced. -/
def State.issue (s : State) (x : LCtx) (op : BitVec 8) (f : LFields) (fault : Option Status) (eff : State → State) :
    State :=
  if !s.canIssue x then s
  else if (s.installedImage x.unit).codeWords ≤ s.pc x then s.instrFault x 0 .badLength
  else if s.workWord x.unit (s.pc x) ≠ encodeWord op f then s
  else if !wordLegal x.kind op f then s.instrFault x (encodeWord op f) .badLength
  else match fault with
    | some st => s.instrFault x (encodeWord op f) st
    | none =>
      let s1 := s.setPc x (s.pc x + 1)
      if s.guard x f then eff s1 else s1

/-- Issue an instruction that waits unissued while `wait` holds: the state stays as it was (R73, R76). -/
def State.issueOrWait (s : State) (x : LCtx) (op : BitVec 8) (f : LFields) (fault : Option Status) (wait : Bool)
    (eff : State → State) : State :=
  s.issue x op f fault (fun t => if wait then s else eff t)

/-- A fault of BAD_LENGTH where a condition is broken. -/
def faultUnless (ok : Bool) : Option Status := if ok then none else some .badLength

/-! ## Tile descriptors (R57, R58) -/

def descWord (d : Desc) (i : Nat) : Word := (d >>> (64 * i)).setWidth 64

def descSetWord (d : Desc) (i : Nat) (w : Word) : Desc :=
  (d &&& ~~~((lowMask 64).setWidth 256 <<< (64 * i))) ||| (w.setWidth 256 <<< (64 * i))

def descOfWords (w0 w1 w2 w3 : Word) : Desc := (w3 ++ w2 ++ w1 ++ w0 : BitVec 256)

/-- A tile descriptor's fields (Table 3-3). -/
structure Tile where
  base : Nat
  loc : Nat
  rows : Nat
  cols : Nat
  fmt : Nat
  comp : Bool
  ctab : Nat
  trans : Bool
  stride : Nat
  scale : Nat
  reservedZero : Bool
  deriving DecidableEq, Repr

def descTile (d : Desc) : Tile where
  base := getBits (descWord d 0) 0 57
  loc := getBits (descWord d 0) 61 3
  rows := getBits (descWord d 1) 0 16
  cols := getBits (descWord d 1) 16 16
  fmt := getBits (descWord d 1) 32 4
  comp := getBit (descWord d 1) 36
  ctab := getBits (descWord d 1) 37 4
  trans := getBit (descWord d 1) 41
  stride := getBits (descWord d 2) 0 40
  scale := getBits (descWord d 3) 0 57
  reservedZero := getBits (descWord d 0) 57 4 == 0 && getBits (descWord d 1) 42 22 == 0 && getBits (descWord d 2) 40 24 == 0 &&
    getBits (descWord d 3) 57 7 == 0

/-- The descriptor conditions of R58. -/
def Tile.legal (t : Tile) : Bool :=
  decide (t.loc < 4) && decide (t.fmt < 12) && t.reservedZero && (!t.comp || decide (t.fmt ≤ 4))

/-- Rows and columns after TRANS. -/
def Tile.r (t : Tile) : Nat := if t.trans then t.cols else t.rows
def Tile.c (t : Tile) : Nat := if t.trans then t.rows else t.cols

def Tile.isEmpty (t : Tile) : Bool := t.rows == 0 || t.cols == 0

end Sys2Proof.Machine
end

