-- ==== Sys2Proof/WellFormed.lean ====
section
/-! DEFINITION. Which commands are well formed: the operand types rule out most ill-formed commands, and the checks
here rule out the rest (a byte string of the wrong length, an index past the end of its table). -/

namespace Sys2Proof

open Sys2Proof.Machine

/-- Whether a command's operands are within what the spec lets the command carry. -/
def Instr.wf (i : Instr) : Bool :=
  match i with
  | .registerWrite _ _ _ _ => true
  | .expertLiveWrite _ _ _ => true
  | .commitRequest _ _ _ => true
  | .d2dBlockReceive _ _ => true
  | .d2dLinkFail _ => true
  | .tokenGiveArrive _ => true
  | .meridianStart => true
  | .drainStart => true
  | .applyPoint => true
  | .ptpMessageReceive _ _ => true
  | .ptpSyncSend _ => true
  | .syncLossTimeout => true
  | .acquireTimeout => true
  | .holdoverTimeout => true
  | .nop _ _ _ => true
  | .br _ _ => true
  | .call _ _ => true
  | .jr _ _ => true
  | .myld _ _ => true
  | .mchk _ _ => true
  | .mcnt _ _ => true
  | .halt _ _ => true
  | .barf _ _ => true
  | .brk _ _ => true
  | .add _ _ => true
  | .sub _ _ => true
  | .and _ _ => true
  | .or _ _ => true
  | .xor _ _ => true
  | .shl _ _ => true
  | .shr _ _ => true
  | .sra _ _ => true
  | .mul _ _ => true
  | .addi _ _ => true
  | .movl _ _ => true
  | .movh _ _ => true
  | .cmp _ _ => true
  | .cmpi _ _ => true
  | .pset _ _ => true
  | .tdset _ _ => true
  | .ld _ _ _ => true
  | .st _ _ => true
  | .ldt _ _ _ => true
  | .stt _ _ => true
  | .aadd _ _ _ => true
  | .acas _ _ _ => true
  | .fencel _ _ => true
  | .rld _ _ => true
  | .rst _ _ => true
  | .radd _ _ => true
  | .rcas _ _ => true
  | .rpost _ _ => true
  | .rfl _ _ => true
  | .rinv _ _ => true
  | .mbox _ _ => true
  | .give _ _ => true
  | .retc _ _ => true
  | .takek _ _ => true
  | .takec _ _ => true
  | .waitk _ _ => true
  | .waitc _ _ => true
  | .waitTakeSuccess _ => true
  | .waitLimitExpired _ => true
  | .rdk _ _ => true
  | .rdc _ _ => true
  | .setk _ _ => true
  | .setc _ _ => true
  | .tmma _ _ => true
  | .tload _ _ => true
  | .tstore _ _ => true
  | .tew _ _ => true
  | .tfn _ _ => true
  | .tred _ _ => true
  | .tsync _ _ => true
  | .bayInstructionComplete _ _ _ _ _ => true
  | .attn _ _ => true
  | .amrg _ _ => true
  | .amode _ _ => true
  | .async _ _ => true
  | .attnSegmentEnd _ _ _ _ _ => true
  | .move _ _ => true
  | .moveComplete _ _ _ => true
  | .migr _ _ => true
  | .park _ _ => true
  | .crd _ _ => true
  | .cwr _ _ => true
  | .cstate _ _ => true
  | .cadmit _ _ => true
  | .ccommit _ _ => true
  | .ctrim _ _ => true
  | .cprog _ _ => true
  | .bell _ _ => true
  | .tmark _ _ => true
  | .tadd _ _ => true
  | .cmt _ _ => true
  | .cfgw _ _ => true
  | .cfgr _ _ => true
  | .progStage _ _ => true
  | .progVerifyDone _ => true
  | .segReq _ _ => true
  | .segGrant _ _ => true
  | .nbStatus _ _ => true
  | .remap _ _ _ => true
  | .sptest _ _ => true
  | .segmentGrantExpiry _ _ => true
  | .boundaryGapEnd _ _ _ _ => true
  | .ordinaryAccess _ _ _ _ _ => true
  | .refreshDue _ _ => true
  | .refreshRateChange _ _ => true
  | .nbuThrottleEnter _ _ _ => true
  | .nbuThrottleExit _ _ _ => true
  | .nbuCriticalEnter _ _ _ => true
  | .nbuCriticalExit _ _ _ => true
  | .nbuSubst _ _ _ => true
  | .pcFaultSubst _ _ _ => true
  | .pcCopyEnd _ _ => true
  | .pcRemapApply _ => true
  | .nbuLostClear _ _ _ => true
  | .galSubst _ _ _ => true
  | .bayUe _ _ => true
  | .baySubstitute _ => true
  | .bayCopyDone _ _ => true
  | .preemptDrainDone _ => true
  | .preemptSaveDone _ _ => true
  | .preemptRestoreDone _ _ => true
  | .galBatchDone _ _ _ => true
  | .galSrSeedWrite _ _ _ _ => true
  | .tagLoadGo _ _ => true
  | .tagLoadDone _ => true
  | .admissionEntry _ => true
  | .batchValidate _ => true
  | .batchDispatch _ => true
  | .batchPreemptRequest _ => true
  | .recordExpiry _ => true
  | .deadlineMissed _ => true
  | .handoverInTimeout _ => true
  | .recordUe _ => true
  | .completionRingDrain _ => true
  | .recordRelease _ _ _ _ => true
  | .ringIndexWrite _ _ _ => true
  | .stwPGrab _ _ => true
  | .groupHomed _ => true
  | .tensorRead _ _ _ _ => true
  | .tensorWrite _ _ _ => true
  | .migrationConfirm _ _ => true
  | .migrationFail _ _ => true
  | .groupExpiry _ _ => true
  | .recPark _ _ _ _ _ => true
  | .recUnpark _ _ _ _ _ => true
  | .recFree _ _ _ _ _ => true
  | .recCommandEnd => true
  | .demotionStart _ => true
  | .keyRotate _ _ => true
  | .keyForceRetire _ _ => true
  | .keyInstallDone _ _ => true
  | .keySweepStep _ _ => true
  | .keySlotEmpty _ => true
  | .almRegister _ _ _ => true
  | .almLoad _ _ _ => true
  | .almEvict _ _ _ => true
  | .almPin _ _ _ => true
  | .almUnpin _ _ _ => true
  | .almAdvance _ _ _ => true
  | .almUnregister _ _ _ => true
  | .almMoveConfirmed _ _ => true
  | .almEvictDone _ => true
  | .adpLoad _ _ _ _ => true
  | .adpRetire _ _ _ => true
  | .adpSlotReady _ => true
  | .adpSlotEmpty _ => true
  | .wrNop => true
  | .wrWrite => true
  | .wrRead => true
  | .wrCas => true
  | .wrFadd => true
  | .wrFlush => true
  | .wrOwnCas => true
  | .wrOwnRead => true
  | .wrOwnMirror => true
  | .wrLayer => true
  | .wrCkpt _ => true
  | .wrRestore => true
  | .wrComplete _ => true
  | .triggerFire _ => true
  | .helTrigCancel _ _ => true
  | .messageComplete _ => true
  | .flushComplete _ => true
  | .handoverClose _ _ => true
  | .ownRetry _ _ => true
  | .helMeasStart _ => true
  | .helMeasStop _ => true
  | .linkBlockReceive _ _ _ _ _ _ => true
  | .linkResendTimeout _ _ => true
  | .linkControlSend _ => true
  | .linkRetrain _ _ => true
  | .linkEnableChange _ => true
  | .lanesLocked _ _ => true
  | .trainingTimeout _ _ _ => true
  | .alignAgree _ _ _ => true
  | .alignTimeout _ => true
  | .laneFail _ _ => true
  | .laneSubstitute _ => true
  | .fabSubst _ _ _ => true
  | .fabRecal _ _ => true
  | .laneRecalDone _ => true
  | .lcInsert _ => true
  | .lcWavelengthLock _ => true
  | .lcWarmTimeout _ => true
  | .lcEjectA _ => true
  | .lcEjectB _ => true
  | .lcReleaseDone _ => true
  | .lcRemove _ => true
  | .lcLoss _ _ => true
  | .ctxCreate _ _ _ => true
  | .ctxClose _ _ => true
  | .ctxQuery _ _ => true
  | .ctxKeyInstall _ _ => true
  | .ctxKeySwitch _ _ => true
  | .ctxPin _ _ => true
  | .ctxUnpin _ _ => true
  | .ctxReset _ _ => true
  | .ctxFetchDone _ _ => true
  | .openPacket _ _ _ => true
  | .openAck _ => true
  | .close _ => true
  | .closeAck _ => true
  | .ack _ _ _ => true
  | .nack _ _ _ _ => true
  | .credit _ _ => true
  | .creditReq _ _ => true
  | .revoke _ => true
  | .revokeAck _ _ => true
  | .keychg _ _ => true
  | .keychgAck _ _ => true
  | .inval _ _ => true
  | .invalAck _ _ => true
  | .cLoad _ _ _ _ _ _ _ => true
  | .cStore _ _ _ _ _ => true
  | .cAdd _ _ _ _ _ _ => true
  | .cCas _ _ _ _ _ _ _ => true
  | .cMbox _ _ _ _ _ => true
  | .cResp _ _ _ _ line => decide (line.length = 0 ∨ line.length = 64)
  | .sWrite _ _ _ _ _ _ _ _ data => decide (1 ≤ data.length) && decide (data.length ≤ 4036)
  | .sRead _ _ _ _ _ => true
  | .sReadData _ _ _ _ data _ => decide (1 ≤ data.length) && decide (data.length ≤ 4036)
  | .sAtom _ _ _ _ _ _ _ _ => true
  | .sOwn _ _ op _ _ _ _ _ _ => op != 3
  | .sResp _ _ _ _ _ => true
  | .sLayer _ _ _ _ _ _ _ _ _ data => decide (1 ≤ data.length) && decide (data.length ≤ 4036)
  | .sFlush _ _ _ => true
  | .packetResendTimeout _ _ => true
  | .sResponseTimeout _ _ => true
  | .idleRevokeTimeout _ => true
  | .ackSend _ => true
  | .rgnAdd _ _ _ _ => true
  | .rgnRemove _ _ _ => true
  | .rlcFlush _ _ => true
  | .wheelSlot => true
  | .bucketFill => true
  | .portBlockStart _ _ => true
  | .bar2Access _ _ _ _ _ _ _ => true
  | .hostPortLinkUp _ _ _ => true
  | .hostPortLinkDown _ => true
  | .pfFlr _ => true
  | .vfFlr _ _ => true
  | .hifHeartbeat _ _ => true
  | .heartbeatTimeout _ => true
  | .rebind _ _ => true
  | .rebindAll _ => true
  | .takePrimary _ => true
  | .givePrimary _ => true
  | .rebindApply => true
  | .msixSend => true
  | .msixHeldRelease _ => true
  | .doeObject _ _ _ => true
  | .doeAbort _ => true
  | .doorbellRing _ _ _ => true
  | .pendingWordClear _ _ _ _ => true
  | .targetIdleWrite _ _ _ => true
  | .moderationTimerExpire _ => true
  | .deliveryUnblock _ => true
  | .roleSet _ _ _ => true
  | .roleCancel _ _ => true
  | .roleDrainComplete _ => true
  | .roleDrainLimit _ => true
  | .mapLoad _ _ => true
  | .mapSweep _ _ => true
  | .mapSwitch => true
  | .mapRetire => true
  | .anchCopySweepEnd => true
  | .vestibuleBoot _ => true
  | .stageFw _ _ => true
  | .activate _ _ => true
  | .liveActivationEnd => true
  | .commitSvn _ _ => true
  | .enroll _ _ _ _ => true
  | .debugEnable _ => true
  | .debugDisable _ => true
  | .logRead _ => true
  | .getVersion _ => true
  | .getCapabilities _ => true
  | .negotiateAlgorithms _ => true
  | .getDigests _ => true
  | .getCertificate _ _ => true
  | .challenge _ _ => true
  | .getMeasurements _ _ _ => true
  | .keyExchange _ => true
  | .spdmFinish _ _ _ _ => true
  | .spdmHeartbeat _ _ => true
  | .keyUpdate _ _ => true
  | .endSession _ _ => true
  | .takeOwnership _ _ _ => true
  | .fabricRoot _ _ _ _ => true
  | .fabricRootActivate => true
  | .inputValid => true
  | .inputInvalid => true
  | .inputOutOfRange _ => true
  | .railPowerGood => true
  | .railTimeout => true
  | .railLoss _ => true
  | .powerRetry => true
  | .pwrDis _ => true
  | .thermalTrip _ _ => true
  | .powerOverWarn _ => true
  | .phaseLost _ => true
  | .resetContext _ _ _ => true
  | .resetPartition _ _ => true
  | .resetWarm _ _ _ => true
  | .resetCold _ _ => true
  | .contextResetApply _ => true
  | .partitionResetApply _ => true
  | .blockReady _ _ => true
  | .faultReport r => r.legal
  | .faultRingDrain => true
  | .dieTempLimit _ => true
  | .healthQuarantine _ => true
  | .healthRelease _ => true
  | .healthClear _ => true
  | .fltNwlSubst _ _ => true
  | .newelSubstitute => true
  | .selftestPassStart _ _ => true
  | .selftestPassEnd _ _ _ => true
  | .samplePass => true
  | .traceDrain => true
  | .dbgRead _ => true
  | .dbgWrite _ => true
  | .dbgAccessDone _ _ => true
  | .dbgStop _ _ _ => true
  | .dbgStep _ _ _ _ => true
  | .dbgResume _ _ _ => true
  | .stopPendingComplete _ => true
  | .phoRegDataAccess _ _ => true
  | .phoClear _ => true
  | .setEndpointId _ _ => true
  | .getEndpointId _ => true
  | .getMctpVersionSupport _ => true
  | .getMessageTypeSupport _ => true
  | .getEndpointUuid _ => true
  | .getTid _ => true
  | .getPldmVersion _ => true
  | .getPldmTypes _ => true
  | .getPldmCommands _ _ => true
  | .getSensorReading _ _ => true
  | .getStateSensorReadings _ _ => true
  | .getPdr _ _ => true
  | .getPdrRepositoryInfo _ => true
  | .setEventReceiver _ _ => true
  | .platformEventMessage _ => true
  | .queryDeviceIdentifiers _ => true
  | .getFirmwareParameters _ => true
  | .requestUpdate _ _ => true
  | .passComponentTable _ _ _ => true
  | .updateComponent _ _ _ => true
  | .requestFirmwareDataResp _ _ => true
  | .transferComplete _ => true
  | .verifyComplete _ _ => true
  | .applyComplete _ _ => true
  | .activateFirmware _ => true
  | .getStatus _ => true
  | .cancelUpdateComponent _ => true
  | .cancelUpdate _ => true
  | .vendorReset _ _ _ _ _ => true
  | .faultLast _ => true
  | .j7DebugRead _ _ => true
  | .j7DebugWrite _ _ _ => true
  | .connKeyInstallDone _ => true
  | .busyRetryExpiry _ => true
  | .mapLoadDone _ => true
  | .stageFwDone _ => true
  | .newelCoreUe _ => true
  | .pcieCompletionTimeout _ => true
  | .configSpaceWrite _ _ _ => true
  | .ptpDelayReqSend _ => true
  | .ptpAnnounceSend _ => true

end Sys2Proof
end

