-- ==== Sys2Proof/Decode.lean ====
section
/-! DEFINITION. The command that a word of the opcode table spells: no row of the table gives bits, so no word spells
one. The command that a Larty instruction word stands for, and the word of a Larty command (R59, Tables 3-5 to 3-18). -/

namespace Sys2Proof

open Sys2Proof.Machine

/-- No row of spec/opcode_table.json gives bits. -/
def decodeTableWord (_nbits _w : Nat) : Option Instr := none

/-- The command that an instruction word of a context stands for (R59, Tables 3-6 to 3-18): NOP stands for opcode 0x00 and
for every reserved opcode (R83). `good` is the verdict that a load from an encrypted home carries. -/
def lartyInstr (x : LCtx) (w : Word) (good : Bool) : Instr :=
  let f := decodeFields w
  match (decodeOp w).toNat with
  | 0x01 => .br x f
  | 0x02 => .call x f
  | 0x03 => .jr x f
  | 0x04 => .myld x f
  | 0x05 => .mchk x f
  | 0x06 => .mcnt x f
  | 0x07 => .halt x f
  | 0x08 => .barf x f
  | 0x09 => .brk x f
  | 0x10 => .add x f
  | 0x11 => .sub x f
  | 0x12 => .and x f
  | 0x13 => .or x f
  | 0x14 => .xor x f
  | 0x15 => .shl x f
  | 0x16 => .shr x f
  | 0x17 => .sra x f
  | 0x18 => .mul x f
  | 0x19 => .addi x f
  | 0x1A => .movl x f
  | 0x1B => .movh x f
  | 0x1C => .cmp x f
  | 0x1D => .cmpi x f
  | 0x1E => .pset x f
  | 0x1F => .tdset x f
  | 0x20 => .ld x f good
  | 0x21 => .st x f
  | 0x22 => .ldt x f good
  | 0x23 => .stt x f
  | 0x24 => .aadd x f good
  | 0x25 => .acas x f good
  | 0x26 => .fencel x f
  | 0x30 => .rld x f
  | 0x31 => .rst x f
  | 0x32 => .radd x f
  | 0x33 => .rcas x f
  | 0x34 => .rpost x f
  | 0x35 => .rfl x f
  | 0x36 => .rinv x f
  | 0x37 => .mbox x f
  | 0x40 => .give x f
  | 0x41 => .retc x f
  | 0x42 => .takek x f
  | 0x43 => .takec x f
  | 0x44 => .waitk x f
  | 0x45 => .waitc x f
  | 0x46 => .rdk x f
  | 0x47 => .rdc x f
  | 0x48 => .setk x f
  | 0x49 => .setc x f
  | 0x50 => .tmma x f
  | 0x51 => .tload x f
  | 0x52 => .tstore x f
  | 0x53 => .tew x f
  | 0x54 => .tfn x f
  | 0x55 => .tred x f
  | 0x56 => .tsync x f
  | 0x60 => .attn x f
  | 0x61 => .amrg x f
  | 0x62 => .amode x f
  | 0x63 => .async x f
  | 0x70 => .move x f
  | 0x71 => .migr x f
  | 0x72 => .park x f
  | 0x80 => .crd x f
  | 0x81 => .cwr x f
  | 0x82 => .cstate x f
  | 0x83 => .cadmit x f
  | 0x84 => .ccommit x f
  | 0x85 => .ctrim x f
  | 0x86 => .cprog x f
  | 0x90 => .bell x f
  | 0x91 => .tmark x f
  | 0x92 => .tadd x f
  | 0xA0 => .cmt x f
  | 0xA1 => .cfgw x f
  | 0xA2 => .cfgr x f
  | _ => .nop x (decodeOp w) f

/-- The context, the opcode and the fields of a Larty command. -/
def Instr.larty (c : Instr) : Option (LCtx × BitVec 8 × LFields) :=
  match c with
  | .nop x op f => some (x, op, f)
  | .br x f => some (x, 0x01, f)
  | .call x f => some (x, 0x02, f)
  | .jr x f => some (x, 0x03, f)
  | .myld x f => some (x, 0x04, f)
  | .mchk x f => some (x, 0x05, f)
  | .mcnt x f => some (x, 0x06, f)
  | .halt x f => some (x, 0x07, f)
  | .barf x f => some (x, 0x08, f)
  | .brk x f => some (x, 0x09, f)
  | .add x f => some (x, 0x10, f)
  | .sub x f => some (x, 0x11, f)
  | .and x f => some (x, 0x12, f)
  | .or x f => some (x, 0x13, f)
  | .xor x f => some (x, 0x14, f)
  | .shl x f => some (x, 0x15, f)
  | .shr x f => some (x, 0x16, f)
  | .sra x f => some (x, 0x17, f)
  | .mul x f => some (x, 0x18, f)
  | .addi x f => some (x, 0x19, f)
  | .movl x f => some (x, 0x1A, f)
  | .movh x f => some (x, 0x1B, f)
  | .cmp x f => some (x, 0x1C, f)
  | .cmpi x f => some (x, 0x1D, f)
  | .pset x f => some (x, 0x1E, f)
  | .tdset x f => some (x, 0x1F, f)
  | .ld x f _ => some (x, 0x20, f)
  | .st x f => some (x, 0x21, f)
  | .ldt x f _ => some (x, 0x22, f)
  | .stt x f => some (x, 0x23, f)
  | .aadd x f _ => some (x, 0x24, f)
  | .acas x f _ => some (x, 0x25, f)
  | .fencel x f => some (x, 0x26, f)
  | .rld x f => some (x, 0x30, f)
  | .rst x f => some (x, 0x31, f)
  | .radd x f => some (x, 0x32, f)
  | .rcas x f => some (x, 0x33, f)
  | .rpost x f => some (x, 0x34, f)
  | .rfl x f => some (x, 0x35, f)
  | .rinv x f => some (x, 0x36, f)
  | .mbox x f => some (x, 0x37, f)
  | .give x f => some (x, 0x40, f)
  | .retc x f => some (x, 0x41, f)
  | .takek x f => some (x, 0x42, f)
  | .takec x f => some (x, 0x43, f)
  | .waitk x f => some (x, 0x44, f)
  | .waitc x f => some (x, 0x45, f)
  | .rdk x f => some (x, 0x46, f)
  | .rdc x f => some (x, 0x47, f)
  | .setk x f => some (x, 0x48, f)
  | .setc x f => some (x, 0x49, f)
  | .tmma x f => some (x, 0x50, f)
  | .tload x f => some (x, 0x51, f)
  | .tstore x f => some (x, 0x52, f)
  | .tew x f => some (x, 0x53, f)
  | .tfn x f => some (x, 0x54, f)
  | .tred x f => some (x, 0x55, f)
  | .tsync x f => some (x, 0x56, f)
  | .attn x f => some (x, 0x60, f)
  | .amrg x f => some (x, 0x61, f)
  | .amode x f => some (x, 0x62, f)
  | .async x f => some (x, 0x63, f)
  | .move x f => some (x, 0x70, f)
  | .migr x f => some (x, 0x71, f)
  | .park x f => some (x, 0x72, f)
  | .crd x f => some (x, 0x80, f)
  | .cwr x f => some (x, 0x81, f)
  | .cstate x f => some (x, 0x82, f)
  | .cadmit x f => some (x, 0x83, f)
  | .ccommit x f => some (x, 0x84, f)
  | .ctrim x f => some (x, 0x85, f)
  | .cprog x f => some (x, 0x86, f)
  | .bell x f => some (x, 0x90, f)
  | .tmark x f => some (x, 0x91, f)
  | .tadd x f => some (x, 0x92, f)
  | .cmt x f => some (x, 0xA0, f)
  | .cfgw x f => some (x, 0xA1, f)
  | .cfgr x f => some (x, 0xA2, f)
  | _ => none

end Sys2Proof
end

