-- ==== Sys2Proof/Machine/Records.lean ====
section
/-! DEFINITION. Catalogue records as the words they are in memory (R162, Table 8-1), and the changes of state every unit
makes through the catalogue (R163 to R170). -/

namespace Sys2Proof.Machine

/-- Request states (Table 8-2). -/
inductive ReqState where
  | free | admitted | prefill | handoverOut | handoverIn | decode | paused | parked | done | failed
  deriving DecidableEq, Repr

def ReqState.code : ReqState → Nat
  | .free => 0
  | .admitted => 1
  | .prefill => 2
  | .handoverOut => 3
  | .handoverIn => 4
  | .decode => 5
  | .paused => 6
  | .parked => 7
  | .done => 8
  | .failed => 9

/-- A field of a record: its word, its lowest bit and its width (Table 8-1). -/
structure RecField where
  w : Nat
  lo : Nat
  len : Nat
  deriving DecidableEq, Repr

def Rec.STATE : RecField := ⟨0, 0, 4⟩
def Rec.BE : RecField := ⟨0, 4, 1⟩
def Rec.LEVEL : RecField := ⟨0, 5, 2⟩
def Rec.IN_BATCH : RecField := ⟨0, 7, 1⟩
def Rec.PART : RecField := ⟨0, 8, 6⟩
def Rec.EXPIRED : RecField := ⟨0, 14, 1⟩
def Rec.DL_MISSED : RecField := ⟨0, 15, 1⟩
def Rec.PREEMPTS : RecField := ⟨0, 16, 8⟩
def Rec.LAST_STATUS : RecField := ⟨0, 24, 8⟩
def Rec.GEN : RecField := ⟨0, 32, 16⟩
def Rec.BATCH_SEQ : RecField := ⟨0, 48, 16⟩
def Rec.REQ_ID : RecField := ⟨1, 0, 64⟩
def Rec.PROMPT_LEN : RecField := ⟨2, 0, 21⟩
def Rec.MAX_LEN : RecField := ⟨2, 32, 21⟩
def Rec.COMMITTED : RecField := ⟨3, 0, 21⟩
def Rec.TENTATIVE : RecField := ⟨3, 24, 4⟩
def Rec.PL_LEN : RecField := ⟨3, 32, 17⟩
def Rec.PL_ROOT : RecField := ⟨4, 0, 57⟩
def Rec.MODEL : RecField := ⟨5, 0, 16⟩
def Rec.DRAFT : RecField := ⟨5, 16, 16⟩
def Rec.ADAPTER_SLOT : RecField := ⟨5, 32, 8⟩
def Rec.ADAPTER_VER : RecField := ⟨5, 40, 16⟩
def Rec.DEADLINE : RecField := ⟨6, 0, 32⟩
def Rec.TTL : RecField := ⟨6, 32, 16⟩
def Rec.EXPIRY : RecField := ⟨7, 0, 64⟩
def Rec.OWN_EPOCH : RecField := ⟨8, 0, 32⟩
def Rec.ANCHOR : RecField := ⟨8, 32, 14⟩
def Rec.OWN_ROLE : RecField := ⟨8, 48, 2⟩
def Rec.PEER_NODE : RecField := ⟨9, 0, 14⟩
def Rec.PEER_PART : RecField := ⟨9, 16, 6⟩
def Rec.PEER_RECORD : RecField := ⟨9, 32, 14⟩
def Rec.PROGRESS : RecField := ⟨10, 0, 64⟩
def Rec.P_STATUS : RecField := ⟨10, 0, 8⟩
def Rec.P_LAYERS : RecField := ⟨10, 8, 8⟩
def Rec.P_TOKENS : RecField := ⟨10, 16, 21⟩
def Rec.P_KIB : RecField := ⟨10, 37, 27⟩
def Rec.ADMITTED_AT : RecField := ⟨11, 0, 32⟩
def Rec.CHANGED_AT : RecField := ⟨11, 32, 32⟩
def Rec.HOST_TAG : RecField := ⟨12, 0, 64⟩

/-- Records the catalogue holds. -/
def recordCount : Nat := 16384

def recDpa (i : Nat) : Nat := 0x20000000000 + i * 0x80

def State.recWord (s : State) (i w : Nat) : Word := s.word (recDpa i + 8 * w)

def State.setRecWord (s : State) (i w : Nat) (v : Word) : State := s.setWord (recDpa i + 8 * w) v

def State.recF (s : State) (i : Nat) (f : RecField) : Nat := getBits (s.recWord i f.w) f.lo f.len

def State.setRec (s : State) (i : Nat) (f : RecField) (v : Nat) : State :=
  s.setRecWord i f.w (setBits (s.recWord i f.w) f.lo f.len v)

def State.recState (s : State) (i : Nat) : Nat := s.recF i Rec.STATE

def State.inState (s : State) (i : Nat) (st : ReqState) : Bool := s.recState i == st.code

def State.inStates (s : State) (i : Nat) (sts : List ReqState) : Bool := sts.any (fun st => s.inState i st)

/-- A latency-critical record in ADMITTED counts in LC_WAITING (R173). -/
def State.lcWaits (s : State) (i : Nat) : Bool := s.inState i .admitted && s.recF i Rec.BE == 0

def State.addLcWaiting (s : State) (p : Nat) (up : Bool) : State :=
  let v := s.rd (CAT_P_USE.LC_WAITING p)
  s.wr (CAT_P_USE.LC_WAITING p) (if up then v + 1 else v - 1)

/-- A record has entered FAILED or FREE: the RECORD triggers on it end without firing (R278). -/
def State.noteEnded (s : State) (i : Nat) : State :=
  if s.rd HEL_STATE.ARMED = 0 then s
  else
    ((List.range 1024).filter (fun k =>
      s.on (HEL_TRIG_W8.VALID k) && getBits (s.reg (HEL_TRIG_WR.WR k 7).off) 0 2 == 3 &&
      getBits (s.reg (HEL_TRIG_WR.WR k 7).off) 2 14 == i)).foldl
      (fun s k => { s with hel := { s.hel with trigs := Tab.put (fun _ => {}) s.hel.trigs k { dead := true } } }) s

/-- Change a record's state: CHANGED_AT is written, and LC_WAITING follows (R170). -/
def State.setRecState (s : State) (i : Nat) (st : ReqState) : State :=
  let p := s.recF i Rec.PART
  let was := s.lcWaits i
  let s := s.setRec i Rec.STATE st.code
  let s := s.setRec i Rec.CHANGED_AT s.mer32
  let now := s.lcWaits i
  let s := if st = .failed ∨ st = .free then s.noteEnded i else s
  if was && !now then s.addLcWaiting p false else if now && !was then s.addLcWaiting p true else s

/-- A device-made change of state with its status. -/
def State.moveRec (s : State) (i : Nat) (st : ReqState) (status : Status) : State :=
  (s.setRecState i st).setRec i Rec.LAST_STATUS status.code

/-- The transitions CSTATE may make (Table 8-5). -/
def cstateAllowed (src dst : Nat) : Bool :=
  (src == 1 && (dst == 4 || dst == 5)) ||
  (src == 2 && (dst == 3 || dst == 5)) ||
  (src == 5 && (dst == 6 || dst == 3 || dst == 8)) ||
  (src == 6 && (dst == 5 || dst == 3 || dst == 8)) ||
  (src == 7 && dst == 3) ||
  (decide (1 ≤ src) && decide (src ≤ 7) && dst == 9) ||
  ((src == 8 || src == 9) && dst == 0)

/-- Release to FREE: GEN rises by 1, every other word and field becomes 0, and the record leaves its partition's use
(Table 8-5). -/
def State.releaseRec (s : State) (i : Nat) : State :=
  let p := s.recF i Rec.PART
  let gen := (s.recF i Rec.GEN + 1) % 65536
  let s := if s.lcWaits i then s.addLcWaiting p false else s
  let s := s.setWords (recDpa i) (setBits 0 32 16 gen :: List.replicate 15 0)
  let s := s.noteEnded i
  let s := s.wr (CAT_P_USE.IN_USE p) (s.rd (CAT_P_USE.IN_USE p) - 1)
  s.wr CAT_FREE.FREE (s.rd CAT_FREE.FREE + 1)

/-- A record counts, or no longer counts, in IN_USE and FREE and, in ADMITTED, in LC_WAITING (Table 8-14). -/
def State.countRec (s : State) (i : Nat) (up : Bool) : State :=
  if s.inState i .free then s
  else
    let p := s.recF i Rec.PART
    let step (v : Nat) (more : Bool) : Nat := if more then v + 1 else v - 1
    let s' := s.wr (CAT_P_USE.IN_USE p) (step (s.rd (CAT_P_USE.IN_USE p)) up)
    let s' := s'.wr CAT_FREE.FREE (step (s'.rd CAT_FREE.FREE) (!up))
    if s.lcWaits i then s'.addLcWaiting p up else s'

/-- The debug path writes a word of a record: the counts of records follow what the word now says (R461). -/
def State.pokeRec (s : State) (a : Nat) (v : Word) : State :=
  let i := (a - recDpa 0) / 0x80
  ((s.countRec i false).setWord a v).countRec i true

/-- Meridians in a time of so many microseconds at the length in force: rounded up (R167). -/
def merLenUs (len : Nat) : Nat := if len = 0 then 3 else if len = 1 then 6 else 12

def State.expiryAt (s : State) (ttl : Nat) : Nat :=
  if ttl = 0 then 0 else (s.mer + (ttl * 1000000 + merLenUs s.merLen - 1) / merLenUs s.merLen) % 2 ^ 64

/-- A deadline has passed (R168). -/
def State.deadlinePassed (s : State) (d : Nat) : Bool := decide ((s.mer32 + 2 ^ 32 - d) % 2 ^ 32 < 2 ^ 31)

/-- The role of a partition (R390): 0 IDLE, 1 PROMPT, 2 GENERATE, 3 CACHE, 4 MERGED. -/
def State.role (s : State) (p : Nat) : Nat := s.rd (PRT_ROLE.ROLE p)

end Sys2Proof.Machine
end

