-- ==== Sys2Proof/Machine/Authority.lean ====
section
/-! DEFINITION. Who may write what (R82, R362, R363), and the per-agent result registers. -/

namespace Sys2Proof.Machine

/-- A re-bind of the partition is pending (R370). -/
def State.rebindPending (s : State) (p : Nat) : Bool := bitOf (s.rd (HIF_BIND_PENDING.MASK 0)) p

/-- The agent may write a location of partition p (R362, R363, R82). -/
def State.mayWritePart (s : State) (a : Agent) (p : Nat) : Bool :=
  match a with
  | .pf x => decide (s.portOf p = x) && !s.rebindPending p
  | .vf x v => s.vfPart x v == some p
  | .newel _ _ => true
  | .gallery _ => false
  | .j7 => false

/-- The agent may write a location of partition p that no virtual function may write (R362, Table 17-3). -/
def State.mayWritePartPf (s : State) (a : Agent) (p : Nat) : Bool :=
  match a with
  | .vf _ _ => false
  | _ => s.mayWritePart a p

/-- The agent may write a location that concerns the whole device. -/
def State.mayWriteDevice (s : State) (a : Agent) : Bool :=
  match a with
  | .pf x => decide (s.primary = x)
  | .newel _ _ => true
  | _ => false

/-- The agent may write the registers of a gallery's own block (R82, R362). -/
def State.mayWriteGal (s : State) (a : Agent) (g : Nat) : Bool :=
  match a with
  | .gallery x => x.val == g
  | _ => s.mayWriteDevice a

/-- The expert page of a block instance is open to writes but for IDLE (R42). -/
def State.expertOpen (s : State) (b : Blk) (inst : Nat) : Bool := s.rd (PREFIX_XPT.KEY (blockBase b inst)) == 0xE1

/-- The block instance is READY (R431). -/
def State.ready (s : State) (b : Blk) (inst : Nat) : Bool := s.on (PREFIX_STATUS.READY (blockBase b inst))

/-- A register write reaches a block that is not READY: it is refused and counted (R431). -/
def State.whenReady (s : State) (b : Blk) (inst : Nat) (eff : State → State) : State :=
  if s.ready b inst then eff s else s.countRefused b inst

/-- A write of a device-wide register, through whichever instance of the block is READY; with none READY it is refused and
counted in instance 0 (R431). -/
def State.whenAnyReady (s : State) (b : Blk) (eff : State → State) : State :=
  if (List.range (blockInsts b)).any (fun i => s.ready b i) then eff s else s.countRefused b 0

/-- A write that the rules refuse is discarded and counted: in HIF_PART_REFUSED of a function's port, or in the target
block's PREFIX_REFUSED for a Larty unit (R82, R362). -/
def State.refuseWrite (s : State) (a : Agent) (b : Blk) (inst : Nat) : State :=
  match a.port with
  | some x => s.inc (HIF_PART_REFUSED.COUNT x.num)
  | none => s.countRefused b inst

/-- The partition an agent's command acts for: a virtual function's own, else the one named (R234, R258, R342). -/
def State.actingPart (s : State) (a : Agent) (p : Nat) : Option Nat :=
  match a with
  | .vf x v => s.vfPart x v
  | _ => some p

/-- The block sets SHADOW_PENDING when it takes a commit request. -/
def State.shadowPending (s : State) (b : Blk) (inst : Nat) : Bool :=
  s.on (PREFIX_STATUS.SHADOW_PENDING (blockBase b inst))

/-- The time of a landing: from cycle B to the end of the meridian (R35). -/
def State.inLanding (s : State) : Bool := s.on MER_PHASE.LANDING

end Sys2Proof.Machine
end

