-- ==== Sys2Proof/Machine/Translate.lean ====
section
/-! DEFINITION. Tensor addresses: spaces, translation entries and page-group entries as they lie in memory, homes and
frames in the four tiers, encrypted homes, and the reads and writes every unit makes by tensor address (R17, R18, R240
to R249, R261, R264). -/

namespace Sys2Proof.Machine

/-! ## Grants (R387) -/

def State.pcGranted (s : State) (p stack pc : Nat) : Bool :=
  let w := s.liveReg (PRT_PCS.STACK_EVEN p (stack / 2)).off
  decide (pc < 31) && getBit w (32 * (stack % 2) + pc)

def State.bayGranted (s : State) (p bay : Nat) : Bool := getBit (s.liveReg (PRT_BAYS.BAYS p (bay / 64)).off) (bay % 64)

/-- The partition that owns a logical bay. -/
def State.bayOwner (s : State) (bay : Nat) : Option Nat := firstBelow 64 (fun p => s.bayGranted p bay)

/-- The pseudo-channels of a partition, as stack * 32 + pc, ascending. -/
def State.grantedPcs (s : State) (p : Nat) : List Nat :=
  (List.range 256).filter (fun i => s.pcGranted p (i / 32) (i % 32))

/-! ## Frames (R240, R241) -/

/-- The key a home address has in the frame table: T3 addresses lie in another space. -/
def homeKey (tier home : Nat) : Nat := if tier = 3 then 2 ^ 64 + home else home

def State.frameOwner (s : State) (tier home : Nat) : Nat := Tab.get (fun _ => 0) s.stw.frames (homeKey tier home)

def State.setFrame (s : State) (tier home : Nat) (p : Option Nat) : State :=
  let v := match p with
    | some q => q + 1
    | none => 0
  { s with stw := { s.stw with frames := Tab.put (fun _ => 0) s.stw.frames (homeKey tier home) v } }

/-- Frames in use whose address lies in a range. -/
def State.usedIn (s : State) (lo hi : Nat) : Nat :=
  (s.stw.frames.filter (fun e => decide (lo ≤ e.1) && decide (e.1 < hi))).length

/-- 8 KiB frames of one pseudo-channel. -/
def pcFrames : Nat := 147456

/-- Frames of a pseudo-channel below the direct reserve of a partition (R241). -/
def State.poolFrames (s : State) (p : Nat) : Nat := pcFrames - s.rd (STW_P_T1R.DIRECT_FRAMES p)

/-- Free T1 frames of a partition on a pseudo-channel. -/
def State.freeOn (s : State) (p i : Nat) : Nat :=
  let base := hbmDpa (i / 32) (i % 32) 0
  s.poolFrames p - s.usedIn base (base + 8192 * s.poolFrames p)

/-- An address lies in the direct reserve of a partition (R241). -/
def State.inReserve (s : State) (p a : Nat) : Bool :=
  decide (dpaKind a = .hbm) && s.pcGranted p (dpaStack a) (dpaPc a) &&
  decide (8192 * s.poolFrames p ≤ a % stackSpan % pcSpan)

/-- The galleries whose bay index 0 a partition owns. -/
def State.galleriesOf (s : State) (p : Nat) : List Nat := (List.range 16).filter (fun g => s.bayOwner (16 * g) == some p)

def galleryBase (g : Nat) : Nat := 0x10000000000 + g * 0x2000000

/-- The extents of a partition in T2 and T3: base and frames. -/
def State.t2Extents (s : State) (p : Nat) : List (Nat × Nat) :=
  (List.range 8).map (fun e => (s.rd (STW_P_T2_W0.DPA p e), s.rd (STW_P_T2_W1.FRAMES p e)))

def State.t3Extents (s : State) (p : Nat) : List (Nat × Nat) :=
  (List.range 4).map (fun e => (s.rd (STW_P_T3_W0.GFA p e), s.rd (STW_P_T3_W2.FRAMES p e)))

/-- A frame's address names a frame of the partition in the tier (Table 12-1). -/
def State.frameOf (s : State) (p tier home : Nat) : Bool :=
  if tier = 0 then
    (s.galleriesOf p).any (fun g =>
      decide (galleryBase g + s.rd (GAL_STORE.T0_BASE g) ≤ home) && decide (home + 8192 ≤ galleryBase g + 0x2000000) &&
      decide ((home - galleryBase g) % 8192 = 0))
  else if tier = 1 then
    decide (dpaKind home = .hbm) && s.pcGranted p (dpaStack home) (dpaPc home) &&
    decide (home % stackSpan % pcSpan % 8192 = 0) && decide (home % stackSpan % pcSpan / 8192 < s.poolFrames p)
  else
    (if tier = 2 then s.t2Extents p else s.t3Extents p).any (fun e =>
      decide (e.1 ≤ home) && decide (home < e.1 + 8192 * e.2) && decide ((home - e.1) % 8192 = 0))

def State.frameFree (s : State) (p tier home : Nat) : Bool := s.frameOf p tier home && s.frameOwner tier home == 0

/-- A list of distinct free frames of the tier. -/
def State.framesFree (s : State) (p tier : Nat) (homes : List Nat) : Bool :=
  homes.all (fun h => s.frameFree p tier h) && decide homes.Nodup

/-- Frames the running migrations will take in a tier. -/
def State.reserved (s : State) (p tier : Nat) : Nat :=
  (s.stw.migs.filter (fun m => m.part == p && m.tier == tier)).foldl (fun n m => n + m.count) 0

/-- Frames of a partition in a tier, and how many are free. -/
def State.tierFrames (s : State) (p tier : Nat) : Nat :=
  if tier = 0 then ((s.galleriesOf p).map (fun g => (0x2000000 - s.rd (GAL_STORE.T0_BASE g)) / 8192)).sum
  else if tier = 1 then (s.grantedPcs p).length * s.poolFrames p
  else ((if tier = 2 then s.t2Extents p else s.t3Extents p).map (fun e => e.2)).sum

def State.tierUsed (s : State) (p tier : Nat) : Nat :=
  if tier = 0 then
    ((s.galleriesOf p).map (fun g => s.usedIn (galleryBase g) (galleryBase g + 0x2000000))).sum
  else if tier = 1 then
    ((s.grantedPcs p).map (fun i =>
      s.usedIn (hbmDpa (i / 32) (i % 32) 0) (hbmDpa (i / 32) (i % 32) (8192 * s.poolFrames p)))).sum
  else
    ((if tier = 2 then s.t2Extents p else s.t3Extents p).map
      (fun e => s.usedIn (homeKey tier e.1) (homeKey tier e.1 + 8192 * e.2))).sum

def State.tierFree (s : State) (p tier : Nat) : Nat := s.tierFrames p tier - s.tierUsed p tier

/-! ## Spaces, translation entries and groups (R241, R242, R246) -/

def taSpace (ta : Nat) : Nat := ta / 2 ^ 53 % 16
def taOff (ta : Nat) : Nat := ta % 2 ^ 53
def tensorAddr (space off : Nat) : Nat := space * 2 ^ 53 + off

def directSpace (sp : Nat) : Bool := sp == 2 || sp == 3

def State.spaceUnits (s : State) (p sp : Nat) : Nat := s.rd (STW_P_SPACE.UNITS p sp)
def State.spaceMap (s : State) (p sp : Nat) : Nat := s.rd (STW_P_MAP.DPA p sp)

/-- The DPA of a unit's translation entry. -/
def State.entryDpa (s : State) (p sp u : Nat) : Nat := s.spaceMap p sp + 16 * u

/-- A translation entry (Table 12-2). -/
structure TEntry where
  tier : Nat := 0
  homed : Bool := false
  transit : Bool := false
  ro : Bool := false
  enc : Bool := false
  gone : Bool := false
  kgen : Nat := 0
  tag0 : Nat := 0
  tag1 : Nat := 0
  home : Nat := 0
  deriving DecidableEq, Repr

def TEntry.words (e : TEntry) : List Word :=
  [setBits (setBits (setBits (setBits (setBits (setBits (setBits (setBits (setBits 0 0 2 e.tier) 2 1 (b01 e.homed))
    3 1 (b01 e.transit)) 4 1 (b01 e.ro)) 5 1 (b01 e.enc)) 6 1 (b01 e.gone)) 8 8 e.kgen) 16 16 e.tag0) 32 16 e.tag1,
   BitVec.ofNat 64 e.home]

def State.entry (s : State) (p sp u : Nat) : TEntry :=
  let w := s.word (s.entryDpa p sp u)
  { tier := getBits w 0 2, homed := getBit w 2, transit := getBit w 3, ro := getBit w 4, enc := getBit w 5,
    gone := getBit w 6, kgen := getBits w 8 8, tag0 := getBits w 16 16, tag1 := getBits w 32 16,
    home := (s.word (s.entryDpa p sp u + 8)).toNat }

def State.setEntry (s : State) (p sp u : Nat) (e : TEntry) : State := s.setWords (s.entryDpa p sp u) e.words

def State.groupFrames (s : State) (p : Nat) : Nat := s.rd (STW_P_GROUP.FRAMES p)

/-- Group states (Table 12-3). -/
inductive GroupState where
  | free | allocated | homed | transit
  deriving DecidableEq, Repr

def GroupState.code : GroupState → Nat
  | .free => 0
  | .allocated => 1
  | .homed => 2
  | .transit => 3

def State.groupDpa (s : State) (p g : Nat) : Nat := s.rd (STW_P_GTBL.DPA p) + 16 * g

/-- A field of a group-table entry's w0. -/
def State.groupFld (s : State) (p g lo len : Nat) : Nat := getBits (s.word (s.groupDpa p g)) lo len

def State.setGroupFld (s : State) (p g lo len v : Nat) : State :=
  s.setWord (s.groupDpa p g) (setBits (s.word (s.groupDpa p g)) lo len v)

def State.groupState (s : State) (p g : Nat) : Nat := s.groupFld p g 0 2

def State.setGroupState (s : State) (p g : Nat) (st : GroupState) : State := s.setGroupFld p g 0 2 st.code

def State.groupParked (s : State) (p g : Nat) : Bool := s.groupFld p g 2 1 == 1
def State.groupFreePending (s : State) (p g : Nat) : Bool := s.groupFld p g 3 1 == 1
def State.groupExpiry (s : State) (p g : Nat) : Nat := (s.word (s.groupDpa p g + 8)).toNat

def State.groupCount (s : State) (p : Nat) : Nat := s.spaceUnits p 1 / s.groupFrames p

/-- The group a space 0x1 offset lies in. -/
def State.groupOf (s : State) (p off : Nat) : Nat := off / 8192 / s.groupFrames p

/-! ## Encrypted homes (R261, R262, R264) -/

def State.keyState (s : State) (p slot : Nat) : Nat :=
  if slot = 0 then s.rd (STW_P_KEYSTAT.A_STATE p) else s.rd (STW_P_KEYSTAT.B_STATE p)

def State.keyGen (s : State) (p slot : Nat) : Nat :=
  if slot = 0 then s.rd (STW_P_KEYSTAT.A_GEN p) else s.rd (STW_P_KEYSTAT.B_GEN p)

/-- A slot holds a key in PENDING, ACTIVE and DRAINING (Table 12-7). -/
def State.keyHeld (s : State) (p slot : Nat) : Bool := decide (2 ≤ s.keyState p slot)

/-- The slot that holds a generation. -/
def State.slotOfGen (s : State) (p gen : Nat) : Option Nat :=
  if s.keyHeld p 0 && s.keyGen p 0 == gen then some 0
  else if s.keyHeld p 1 && s.keyGen p 1 == gen then some 1
  else none

/-- The ACTIVE slot. -/
def State.activeSlot (s : State) (p : Nat) : Option Nat :=
  if s.keyState p 0 = 3 then some 0 else if s.keyState p 1 = 3 then some 1 else none

def State.addInUse (s : State) (p slot : Nat) (up : Bool) : State :=
  let f := if slot = 0 then STW_P_INUSE.A p else STW_P_INUSE.B p
  s.wr f (if up then s.rd f + 1 else s.rd f - 1)

/-- Units homed under a generation enter and leave the slot's IN_USE. -/
def State.countGen (s : State) (p gen : Nat) (up : Bool) : State :=
  match s.slotOfGen p gen with
  | some slot => s.addInUse p slot up
  | none => s

def State.keySlot (s : State) (p slot : Nat) : KeySlot := Tab.get (fun _ => {}) s.stw.keys (p * 2 + slot)

def State.setKeySlot (s : State) (p slot : Nat) (k : KeySlot) : State :=
  { s with stw := { s.stw with keys := Tab.put (fun _ => {}) s.stw.keys (p * 2 + slot) k } }

/-- The node's own id. The device-wide PRT registers are held in instance 0 (R403). -/
def State.nodeId (s : State) : Nat := s.rd (PRT_NODE.ID 0)

/-- The nonce of a frame (R261). -/
def State.nonce (s : State) (p slot : Nat) : Nat :=
  s.nodeId * 2 ^ 82 + p * 2 ^ 76 + slot * 2 ^ 75 + (s.keySlot p slot).counter % 2 ^ 75

/-- Where a T2 frame's 32-byte header lies: after the extent's frames (R240). -/
def State.t2Header (s : State) (p home : Nat) : Option Nat :=
  match (s.t2Extents p).find? (fun e => decide (e.1 ≤ home) && decide (home < e.1 + 8192 * e.2)) with
  | some e => some (e.1 + 8192 * e.2 + 32 * ((home - e.1) / 8192))
  | none => none

def State.plainBytes (s : State) (k n : Nat) : Bytes := (List.range n).map (fun i => Tab.get memDefault s.stw.plain (k + i))

def State.setPlain (s : State) (k : Nat) : Bytes → State
  | [] => s
  | b :: bs =>
    State.setPlain { s with stw := { s.stw with plain := Tab.put memDefault s.stw.plain k b } } (k + 1) bs

/-- Seal a frame into T2 or T3 under a slot: the header and the ciphertext go to a T2 home; a T3 home lies at another
node. The write counter advances (R261). -/
def State.seal (s : State) (p slot tier home space : Nat) (data : Bytes) : State :=
  let key := (s.keySlot p slot).keyId
  let nonce := s.nonce p slot
  let gen := s.keyGen p slot
  let hdr := leBytes 12 nonce ++ (List.range 16).map (fun i => Sys2Proof.Config.cipherByte key nonce (8192 + i) 0) ++
    [BitVec.ofNat 8 gen, BitVec.ofNat 8 p, BitVec.ofNat 8 space, 0xA5, 0, 0, 0]
  let cipher := data.mapIdx (fun i b => Sys2Proof.Config.cipherByte key nonce i b)
  let s := s.setPlain (homeKey tier home) data
  let s := s.setKeySlot p slot { s.keySlot p slot with counter := (s.keySlot p slot).counter + 1 }
  if tier = 2 then
    let s := s.setBytes home cipher
    match s.t2Header p home with
    | some h => s.setBytes h (hdr.take 32)
    | none => s
  else s

/-! ## Reads and writes by tensor address (R243) -/

/-- How a tensor-address access of bytes within one unit is answered. -/
inductive TAcc where
  /-- Plain bytes at a DPA. -/
  | plain (dpa : Nat)
  /-- An encrypted home, of a tier, with its generation. -/
  | sealed (tier home gen : Nat)
  /-- The access waits until its group is homed. -/
  | held
  /-- The access completes with a status; `report` says whether a fault record is written. -/
  | fail (st : Status) (report : Bool)
  deriving DecidableEq, Repr

/-- What an access at an address of a partition finds (R241, R243, R245, R248). -/
def State.tensorAt (s : State) (p ta : Nat) : TAcc :=
  let sp := taSpace ta
  let off := taOff ta
  if 6 ≤ sp ∨ s.spaceUnits p sp * 8192 ≤ off then .fail .badLength false
  else if directSpace sp then
    (match s.accessStatus (s.spaceMap p sp + off) 1 with
     | .ok => .plain (s.spaceMap p sp + off)
     | st => .fail st true)
  else
    let e := s.entry p sp (off / 8192)
    if !e.homed then
      (if sp = 1 ∧ s.groupState p (s.groupOf p off) = GroupState.allocated.code then .held else .fail .badLength true)
    else if e.tier = 3 ∨ e.enc then
      (if e.gone ∨ (s.slotOfGen p e.kgen).isNone then .fail .keyGenGone true
       else if e.tier = 2 ∧ s.accessStatus e.home 1 = .linkFailed then .fail .linkFailed true
       else .sealed e.tier (e.home + off % 8192) e.kgen)
    else
      match s.accessStatus e.home 1 with
      | .ok => .plain (e.home + off % 8192)
      | st => .fail st true

/-- The MEMORY record and the registers of a failed access (Table 12-10, R264). -/
def State.noteTensorFail (s : State) (p ta : Nat) (st : Status) (report : Bool) : State :=
  let s := s.wr STW_LAST_ERR.STATUS st.code
  let s := s.wr STW_LAST_ERR.PART p
  let s := s.wr STW_LAST_ERR.MERIDIAN s.mer32
  let s := if st = .keyGenGone then s.inc (STW_P_GEN_GONE.COUNT p) else s
  let s := if st = .linkFailed then s.endTimeout (s.portOf p) else s
  if report then
    s.report { cls := 0x03, status := st.code, sev := 3, part := some p, blk := Blk.STW.code, addr := ta }
  else s

/-- The pieces of a range that lie in one unit each: address and length. -/
def unitPieces : Nat → Nat → Nat → List (Nat × Nat)
  | 0, _, _ => []
  | fuel + 1, ta, n =>
    if n = 0 then []
    else
      let k := min n (8192 - ta % 8192)
      (ta, k) :: unitPieces fuel (ta + k) (n - k)

def piecesOf (ta n : Nat) : List (Nat × Nat) := unitPieces (n / 8192 + 2) ta n

/-- A read's outcome: none while it is held, else the status and the data (none unless OK). -/
structure TRead where
  held : Bool := false
  status : Status := .ok
  data : Bytes := []
  deriving DecidableEq, Repr

/-- Read one piece. `good` is the verdict on an encrypted home: it answered and its header and tag verify (R264). -/
def State.readPiece (s : State) (p ta n : Nat) (good : Bool) : TRead :=
  match s.tensorAt p ta with
  | .plain a => { data := s.bytes a n }
  | .sealed tier home _ =>
    if good then { data := s.plainBytes (homeKey tier home) n } else { status := .uncorrected }
  | .held => { held := true }
  | .fail st _ => { status := st }

/-- A read by tensor address: the statuses of its pieces ranked by R25. -/
def State.readTensor (s : State) (p ta n : Nat) (good : Bool) : TRead :=
  (piecesOf ta n).foldl (fun r x =>
    let q := s.readPiece p x.1 x.2 good
    { held := r.held || q.held, status := r.status.worse q.status, data := r.data ++ q.data }) {}

/-- The records and counters of a read's failed pieces. -/
def State.noteRead (s : State) (p ta n : Nat) (good : Bool) : State :=
  (piecesOf ta n).foldl (fun s x =>
    match s.tensorAt p x.1 with
    | .fail st rep => s.noteTensorFail p x.1 st rep
    | .sealed .. => if good then s else s.noteTensorFail p x.1 .uncorrected true
    | _ => s) s

/-- What a write to one piece does (R243, R250): it lands, waits, or completes with a status. -/
inductive TWrite where
  | land (dpa : Nat)
  /-- The write waits; `start` says that a demand migration of its group is due. -/
  | wait (start : Bool)
  | fail (st : Status) (report : Bool)
  deriving DecidableEq, Repr

def State.writeAt (s : State) (p ta : Nat) : TWrite :=
  let sp := taSpace ta
  let off := taOff ta
  match s.tensorAt p ta with
  | .held => .wait false
  | .fail .keyGenGone _ => .wait true
  | .fail st r => if st = .linkFailed ∧ sp = 1 then .wait true else .fail st r
  | .plain a =>
    if directSpace sp then .land a
    else
      let e := s.entry p sp (off / 8192)
      if e.ro then .fail .badLength true
      else if e.transit then .wait false
      else if 2 ≤ e.tier then .wait true
      else .land a
  | .sealed .. => if (s.entry p sp (off / 8192)).transit then .wait false else .wait true

/-- Set to 0 the tags of every 4 KiB slot of a tagged space that a write touches (R152). -/
def State.clearTensorTags (s : State) (p ta n : Nat) : State :=
  let sp := taSpace ta
  if sp = 0 ∨ sp = 4 ∨ sp = 5 then
    (piecesOf ta n).foldl (fun s x =>
      let u := taOff x.1 / 8192
      let e := s.entry p sp u
      let lo := x.1 % 8192
      let e := if lo < 4096 then { e with tag0 := 0 } else e
      let e := if 4096 < lo + x.2 then { e with tag1 := 0 } else e
      if e.homed then s.setEntry p sp u e else s) s
  else s

/-- Land the bytes of a write whose every piece lands. -/
def State.landWrite (s : State) (p ta : Nat) (data : Bytes) : State :=
  ((piecesOf ta data.length).foldl (fun (acc : State × Bytes) x =>
    match acc.1.writeAt p x.1 with
    | .land a => (acc.1.setBytes a (acc.2.take x.2), acc.2.drop x.2)
    | .fail st r => (acc.1.noteTensorFail p x.1 st r, acc.2.drop x.2)
    | .wait _ => (acc.1, acc.2.drop x.2)) (s, data)).1

/-- Some piece of the write waits. -/
def State.writeWaits (s : State) (p ta n : Nat) : Bool :=
  (piecesOf ta n).any (fun x => match s.writeAt p x.1 with | .wait _ => true | _ => false)

/-- The status a write completes with. -/
def State.writeStatus (s : State) (p ta n : Nat) : Status :=
  (piecesOf ta n).foldl (fun st x => match s.writeAt p x.1 with | .fail f _ => st.worse f | _ => st) .ok

end Sys2Proof.Machine
end

