-- ==== Sys2Proof/Machine/Stairwell.lean ====
section
/-! DEFINITION. The stairwell: homing, migration, parking, expiry, demotion, record commands and page keys (R240 to
R256, R261 to R265). -/

namespace Sys2Proof.Machine

/-! ## Page lists (R191) -/

/-- Entry i of a page list: its VALID bit and the space 0x1 offset of the group. -/
def State.pageEntry (s : State) (p root i : Nat) : Word :=
  BitVec.ofNat 64 (leNat (s.readTensor p (root + 8 * i) 8 true).data)

def pageValid (w : Word) : Bool := getBit w 0

def pageBase (w : Word) : Nat := getBits w 13 40 * 8192

/-- A page-list entry that names a group (Table 9-3). -/
def pageEntryOf (off : Nat) : Word := setBits (setBits 0 0 1 1) 13 40 (off / 8192)

/-- The group entry i of a record names, where it is VALID. -/
def State.recGroup (s : State) (i idx : Nat) : Option Nat :=
  let p := s.recF i Rec.PART
  let w := s.pageEntry p (s.recF i Rec.PL_ROOT) idx
  if pageValid w then some (s.groupOf p (pageBase w)) else none

/-! ## Groups -/

def State.groupFirst (s : State) (p g : Nat) : Nat := g * s.groupFrames p

/-- The units of a group. -/
def State.groupUnits (s : State) (p g : Nat) : List Nat := (List.range (s.groupFrames p)).map (fun i => s.groupFirst p g + i)

def State.groupEntry (s : State) (p g : Nat) : TEntry := s.entry p 1 (s.groupFirst p g)

/-- Unhome one unit: its frame returns to its tier, and it leaves its generation's IN_USE. -/
def State.unhome (s : State) (p sp u : Nat) : State :=
  let e := s.entry p sp u
  let s := if e.homed then s.setFrame e.tier e.home none else s
  let s := if e.homed && e.enc && !e.gone then s.countGen p e.kgen false else s
  s.setEntry p sp u {}

/-- The held writes of a unit's group complete with BAD_LENGTH, its held reads too (R248). -/
def State.failHeld (s : State) (p lo hi : Nat) : State :=
  let bad (q a : Nat) : Bool := q == p && taSpace a == 1 && decide (lo ≤ taOff a) && decide (taOff a < hi)
  let reads := s.stw.heldReads.filter (fun h => bad h.part h.addr)
  let s := { s with stw := { s.stw with
    heldWrites := s.stw.heldWrites.filter (fun h => !bad h.part h.addr),
    heldReads := s.stw.heldReads.filter (fun h => !bad h.part h.addr) } }
  reads.foldl (fun s h => s.emit (.tensor h.part h.addr Status.badLength.code [])) s

/-- Free a group (R249): a group in TRANSIT waits for the end of its migration, a FREE group is left. -/
def State.freeGroup (s : State) (p g : Nat) : State :=
  if s.groupState p g = GroupState.free.code then s
  else if s.groupState p g = GroupState.transit.code then s.setGroupFld p g 3 1 1
  else
    let s := (s.groupUnits p g).foldl (fun s u => s.unhome p 1 u) s
    let s := s.failHeld p (s.groupFirst p g * 8192) ((s.groupFirst p g + s.groupFrames p) * 8192)
    let s := s.setGroupState p g .free
    let s := s.setGroupFld p g 2 2 0
    let s := s.setGroupFld p g 32 32 0
    s.setWord (s.groupDpa p g + 8) 0

/-- Release the accesses held for units of a space: the writes land, the reads are answered (R248, R250). -/
def State.releaseHeld (s : State) (p sp lo hi : Nat) : State :=
  let mine (q a : Nat) : Bool := q == p && taSpace a == sp && decide (lo ≤ taOff a) && decide (taOff a < hi)
  let ws := s.stw.heldWrites.filter (fun h => mine h.part h.addr)
  let rs := s.stw.heldReads.filter (fun h => mine h.part h.addr)
  let s := { s with stw := { s.stw with
    heldWrites := s.stw.heldWrites.filter (fun h => !mine h.part h.addr),
    heldReads := s.stw.heldReads.filter (fun h => !mine h.part h.addr) } }
  let s := ws.foldl (fun s h => (s.landWrite h.part h.addr h.data).clearTensorTags h.part h.addr h.data.length) s
  rs.foldl (fun s h =>
    let r := s.readTensor h.part h.addr h.len true
    s.emit (.tensor h.part h.addr r.status.code (if r.status = .ok then r.data else []))) s

/-! ## Placement (R197, R248) -/

/-- Groups of the partition homed on a pseudo-channel. -/
def State.groupsOn (s : State) (p i : Nat) : Nat :=
  countBelow (s.groupCount p) (fun g =>
    decide (2 ≤ s.groupState p g) && (s.groupEntry p g).tier == 1 &&
    decide (dpaStack (s.groupEntry p g).home = i / 32) && decide (dpaPc (s.groupEntry p g).home = i % 32))

/-- The pseudo-channels R197 considers. -/
def State.considered (s : State) (p : Nat) : List Nat :=
  (s.grantedPcs p).filter (fun i => bitOf (s.rd (NBU_CM.SET (i / 32))) (i % 32) && decide (s.groupFrames p ≤ s.freeOn p i))

/-- The pseudo-channel a T1-homed group lies on. -/
def State.groupPc (s : State) (p g : Nat) : Option Nat :=
  let e := s.groupEntry p g
  if decide (2 ≤ s.groupState p g) && e.tier == 1 then some (dpaStack e.home * 32 + dpaPc e.home) else none

/-- The run of consecutive groups of a record's list, ending at index idx, that lie on a pseudo-channel. -/
def State.runOn (s : State) (r i : Nat) : Nat → Nat
  | 0 => if (s.recGroup r 0).bind (s.groupPc (s.recF r Rec.PART)) = some i then 1 else 0
  | idx + 1 =>
    if (s.recGroup r (idx + 1)).bind (s.groupPc (s.recF r Rec.PART)) = some i then 1 + s.runOn r i idx else 0

/-- The first of a list with the least value. -/
def argmin (f : Nat → Nat) : List Nat → Option Nat
  | [] => none
  | x :: xs =>
    match argmin f xs with
    | none => some x
    | some y => if f x ≤ f y then some x else some y

/-- R248, second bullet: the granted pseudo-channel with the most free frames. -/
def State.roomiestPc (s : State) (p : Nat) : Option Nat := argmin (fun i => pcFrames - s.freeOn p i) (s.grantedPcs p)

/-- Where a group is placed, and whether R197 found no considered pseudo-channel. `pred` is the index before the
group's in its list, where the list is known. -/
def State.placement (s : State) (p : Nat) (pred : Option (Nat × Nat)) : Option Nat × Bool :=
  if s.role p = 2 ∨ s.role p = 4 then
    let cs := s.considered p
    if cs.isEmpty then (s.roomiestPc p, true)
    else
      let join := match pred with
        | some (r, idx) =>
          match (s.recGroup r idx).bind (s.groupPc p) with
          | some i => if cs.contains i && decide (s.runOn r i idx < s.rd (STW_P_POLICY.RUN_GROUPS p)) then some i else none
          | none => none
        | none => none
      match join with
      | some i => (some i, false)
      | none => (argmin (s.groupsOn p) cs, false)
  else (s.roomiestPc p, false)

/-- Home the units of a group at the given frames. -/
def State.homeUnits (s : State) (p sp first tier : Nat) (homes : List Nat) : State :=
  (homes.zip (List.range homes.length)).foldl (fun s x =>
    (s.setFrame tier x.1 (some p)).setEntry p sp (first + x.2) { tier := tier, homed := true, home := x.1 }) s

/-- The stairwell homes the first group passed to it (R248), at frames the placement rule allows, or refuses it where
the chosen pseudo-channel has too few. `frames` is the stairwell's choice of frames on that pseudo-channel, which the
spec leaves open; a choice that the rule does not allow is not made. -/
def doGroupHomed (frames : List Nat) (s : State) : State :=
  match s.stw.homing with
  | [] => s
  | (p, r, idx) :: rest =>
    let s1 := { s with stw := { s.stw with homing := rest } }
    match s.recGroup r idx with
    | none => s1
    | some g =>
      if s.groupState p g ≠ GroupState.allocated.code then s1
      else
        let pl := s.placement p (if idx = 0 then none else some (r, idx - 1))
        let room := match pl.1 with
          | some i => decide (s.groupFrames p ≤ s.freeOn p i)
          | none => false
        if !room then
          let s := s1.failHeld p (s.groupFirst p g * 8192) ((s.groupFirst p g + s.groupFrames p) * 8192)
          let s := s.setRec r Rec.LAST_STATUS Status.refusedFull.code
          s.inc (STW_P_HOME_REFUSED.COUNT p)
        else
          let onPc := frames.all (fun h => pl.1 == some (dpaStack h * 32 + dpaPc h))
          if frames.length = s.groupFrames p ∧ onPc ∧ s.framesFree p 1 frames then
            let s := s1.homeUnits p 1 (s1.groupFirst p g) 1 frames
            let s := s.setGroupState p g .homed
            let s := if pl.2 then s.inc (STW_P_CM_MISSED.COUNT p) else s
            s.releaseHeld p 1 (s.groupFirst p g * 8192) ((s.groupFirst p g + s.groupFrames p) * 8192)
          else s

/-- A read of STW_P_GRAB allocates the FREE group with the lowest number and returns its base; with none FREE it returns
0 (R247). The value goes to the reading agent's copy. -/
def doStwPGrab (a : Agent) (p : Fin 64) (s : State) : State :=
  match firstBelow (s.groupCount p) (fun g => s.groupState p g == GroupState.free.code) with
  | some g =>
    let s := s.setGroupState p g .allocated
    s.setPriv (STW_P_GRAB.ENTRY p).off a.code (pageEntryOf (s.groupFirst p g * 8192))
  | none => (s.setPriv (STW_P_GRAB.ENTRY p).off a.code 0).inc (STW_P_HOME_REFUSED.COUNT p)

/-! ## Migrations (R250 to R252) -/

/-- Set TRANSIT on the units of a migration. -/
def State.setTransit (s : State) (p sp first count : Nat) (b : Bool) : State :=
  (List.range count).foldl (fun s i =>
    let e := s.entry p sp (first + i)
    if e.homed then s.setEntry p sp (first + i) { e with transit := b } else s) s

/-- A migration starts: its units enter TRANSIT (R250, step 1). -/
def State.startMigration (s : State) (m : Migration) : State :=
  let s := s.setTransit m.part m.space m.first m.count true
  let s := if m.space = 1 then s.setGroupState m.part (m.first / s.groupFrames m.part) .transit else s
  { s with stw := { s.stw with migs := s.stw.migs ++ [m] } }

/-- What a group's move to a tier meets before it starts (R252), ranked by R25. -/
def State.moveStatus (s : State) (p g tier : Nat) : Status :=
  let e := s.groupEntry p g
  let policy := s.tierFrames p tier == 0 || (decide (2 ≤ tier) && (s.activeSlot p).isNone)
  let full := decide (0 < s.tierFrames p tier) && decide (s.tierFree p tier < s.reserved p tier + s.groupFrames p)
  let gone := e.enc && (e.gone || (s.slotOfGen p e.kgen).isNone)
  ((if policy then Status.refusedPolicy else .ok).worse (if full then .refusedFull else .ok)).worse
    (if gone then .keyGenGone else .ok)

/-- The unit and counter a MIGR or PARK gives its token to. -/
def MigKind.token : MigKind → Option (Nat × Nat)
  | .migr u c => some (u, c)
  | .park u c _ => some (u, c)
  | _ => none

/-- The end of a MIGR or PARK: the token on every outcome, STW_MIG_STATUS of the unit, and the group's LAST_STATUS
(R252). -/
def State.endMove (s : State) (p base : Nat) (kind : MigKind) (st : Status) (group : Option Nat) : State :=
  let s := match group with
    | some g => s.setGroupFld p g 8 8 st.code
    | none => s
  match kind.token with
  | none => s
  | some (u, c) =>
    let s := s.wr (STW_MIG_STATUS.STATUS u) st.code
    let s := s.wr (STW_MIG_STATUS.UNIT u) (base / 8192)
    s.issueGive { unit := u, credit := false, ctr := c, count := 1, giver := 0xFF }

/-- Park a group where it is: PARKED, PARKED_AT and EXPIRY (R253). -/
def State.markParked (s : State) (p g ttl : Nat) : State :=
  let s := s.setGroupFld p g 2 1 1
  let s := s.setGroupFld p g 32 32 s.mer32
  s.setWord (s.groupDpa p g + 8) (BitVec.ofNat 64 (s.expiryAt ttl))

/-- A completed MIGR clears PARKED and EXPIRY (R252). -/
def State.clearParked (s : State) (p g : Nat) : State :=
  (s.setGroupFld p g 2 1 0).setWord (s.groupDpa p g + 8) 0

/-- A group of a GENERATE or MERGED partition in T1 outside the compute-mode set (R252, the exception). -/
def State.outsideCm (s : State) (p g : Nat) : Bool :=
  (s.role p == 2 || s.role p == 4) &&
  match s.groupPc p g with
  | some i => !bitOf (s.rd (NBU_CM.SET (i / 32))) (i % 32)
  | none => false

/-- The stairwell decides a MIGR or PARK of the group whose base is the tensor address (R252, R253). -/
def State.decideMove (s : State) (r : MoveReq) : State :=
  let p := r.part
  let off := taOff r.base
  let g := s.groupOf p off
  let isBase := taSpace r.base == 1 && off % (s.groupFrames p * 8192) == 0 && decide (off < s.spaceUnits p 1 * 8192)
  if !isBase || decide (s.groupState p g < 2) then s.endMove p r.base r.kind .badLength none
  else if s.groupState p g = 3 then { s with stw := { s.stw with moveReqs := s.stw.moveReqs ++ [r] } }
  else
    let home := (s.groupEntry p g).tier
    let m : Migration := { part := p, space := 1, first := s.groupFirst p g, count := s.groupFrames p,
                           tier := r.tier, kind := r.kind }
    match r.kind with
    | .park _ _ ttl =>
      if r.tier ≤ home then (s.markParked p g ttl).endMove p r.base r.kind .ok (some g)
      else
        let st := s.moveStatus p g r.tier
        if st = .ok then s.startMigration m else s.endMove p r.base r.kind st (some g)
    | _ =>
      if home = r.tier then
        if r.tier = 1 ∧ s.outsideCm p g then
          (if (s.considered p).isEmpty then s.endMove p r.base r.kind .refusedFull (some g) else s.startMigration m)
        else (s.clearParked p g).endMove p r.base r.kind .ok (some g)
      else
        let st := s.moveStatus p g r.tier
        if st = .ok then s.startMigration m else s.endMove p r.base r.kind st (some g)

/-- The space an almanac entry's kind lies in. -/
def kindSpace (k : Nat) : Nat := if k = 0 then 0 else if k = 1 then 5 else 4

/-- The almanac entry that holds a read-only unit. -/
def State.almOf (s : State) (p sp u : Nat) : Option Nat :=
  firstBelow 4096 (fun e =>
    s.rd (ALM_E_W0.STATE e) != 0 && s.rd (ALM_E_W0.PART e) == p && kindSpace (s.rd (ALM_E_W0.KIND e)) == sp &&
    decide (s.rd (ALM_E_W1.BASE e) / 8192 ≤ u) && decide (u < s.rd (ALM_E_W1.BASE e) / 8192 + s.rd (ALM_E_W2.UNITS e)))

/-- The backing frame of a read-only unit (R257). -/
def State.backing (s : State) (e u : Nat) : Nat :=
  s.rd (ALM_E_W3.SOURCE e) + (u - s.rd (ALM_E_W1.BASE e) / 8192) * 8192

/-- The tier a DPA lies in. -/
def dpaTier (a : Nat) : Nat :=
  match dpaKind a with
  | .hbm => 1
  | .host _ => 2
  | _ => 0

/-- The new home a migration gives a unit: a read-only unit moved into the tier of its backing frame returns to it
(R250). -/
def State.newHome (s : State) (m : Migration) (u given : Nat) : Nat × Bool :=
  match (if (s.entry m.part m.space u).ro then s.almOf m.part m.space u else none) with
  | some e => if dpaTier (s.backing e u) = m.tier then (s.backing e u, true) else (given, false)
  | none => (given, false)

/-- The plain bytes of a home. -/
def State.homeBytes (s : State) (e : TEntry) : Bytes :=
  if e.enc then s.plainBytes (homeKey e.tier e.home) 8192 else s.bytes e.home 8192

/-- One unit takes its new home: it is copied (decrypted and encrypted as the tiers need), its entry names the new home,
and the old frame is freed (R250, R261). -/
def State.moveUnit (s : State) (m : Migration) (u given : Nat) : State :=
  let e := s.entry m.part m.space u
  let (dst, isBacking) := s.newHome m u given
  let data := s.homeBytes e
  let oldBacking := match (if e.ro then s.almOf m.part m.space u else none) with
    | some x => s.backing x u == e.home
    | none => false
  let sealTo := if decide (2 ≤ m.tier) && !e.ro then s.activeSlot m.part else none
  let s := match sealTo with
    | some slot => s.seal m.part slot m.tier dst m.space data
    | none => if isBacking then s else s.setBytes dst data
  let s := if oldBacking then s else s.setFrame e.tier e.home none
  let s := s.setFrame m.tier dst (some m.part)
  let s := if e.enc then s.countGen m.part e.kgen false else s
  let gen := match sealTo with
    | some slot => s.keyGen m.part slot
    | none => 0
  let s := if sealTo.isSome then s.countGen m.part gen true else s
  s.setEntry m.part m.space u
    { e with tier := m.tier, home := dst, transit := false, enc := sealTo.isSome, gone := false, kgen := gen }

/-- The migration is one of an almanac entry. -/
def MigKind.entry : MigKind → Option Nat
  | .almLoad e => some e
  | .almAdvance e _ => some e
  | .almEvict e => some e
  | _ => none

/-- Moves of an entry that run stop, and its units keep their homes. -/
def State.cancelAlmMoves (s : State) (e : Nat) : State :=
  let ms := s.stw.migs.filter (fun m => m.kind.entry == some e)
  let s := ms.foldl (fun s m => s.setTransit m.part m.space m.first m.count false) s
  { s with stw := { s.stw with
      migs := s.stw.migs.filter (fun m => m.kind.entry != some e),
      advances := s.stw.advances.filter (fun x => x.1 != e) } }

/-- An entry's return to its backing frames starts (R258). -/
def State.startEvict (s : State) (e : Nat) : State :=
  ((s.cancelAlmMoves e).wr (ALM_E_W0.STATE e) 4).inc ALM_EVICTIONS.COUNT

/-- The group of a migration of space 0x1. -/
def State.migGroup (s : State) (m : Migration) : Option Nat :=
  if m.space = 1 then some (m.first / s.groupFrames m.part) else none

/-- A record command's walk stops moving. -/
def State.recCmdResume (s : State) (p : Nat) (st : Status) : State :=
  match s.stw.recCmds with
  | c :: cs =>
    if c.moving && c.part == p then
      let c := { c with moving := false, status := if st = .ok then none else some st,
                        index := if st = .ok then c.index + 1 else c.index }
      { s with stw := { s.stw with recCmds := c :: cs } }
    else s
  | [] => s

/-- What the end of a migration leaves: HOMED or FREE, the marks of its kind, its token and status (Table 12-4, R252,
R253). A load of an almanac entry that fails leaves it ABSENT (Table 12-6). -/
def State.endMigration (s : State) (m : Migration) (st : Status) : State :=
  let s := match s.migGroup m with
    | none => s
    | some g =>
      let s := s.setGroupState m.part g .homed
      let s := match m.kind with
        | .park _ _ ttl => if st = Status.ok then s.markParked m.part g ttl else s
        | .recPark => if st = Status.ok then s.markParked m.part g 0 else s
        | .migr .. => if st = Status.ok then s.clearParked m.part g else s
        | .recUnpark => if st = Status.ok then s.clearParked m.part g else s
        | .demand => if st = Status.ok then s.clearParked m.part g else s
        | _ => s
      let s := s.endMove m.part (tensorAddr 1 (m.first * 8192)) m.kind st (some g)
      if s.groupFreePending m.part g then (s.setGroupFld m.part g 3 1 0).freeGroup m.part g else s
  match m.kind with
  | .recPark => s.recCmdResume m.part st
  | .recUnpark => s.recCmdResume m.part st
  | .almLoad e => (s.wr (ALM_E_W0.STATE e) 1).wr (ALM_E_W7.LAST_STATUS e) st.code
  | .almAdvance e _ => s.wr (ALM_E_W7.LAST_STATUS e) st.code
  | _ => s

/-- The requests that waited for the end of a migration are decided again. -/
def State.retryMoves (s : State) : State :=
  let rs := s.stw.moveReqs
  rs.foldl State.decideMove { s with stw := { s.stw with moveReqs := [] } }

/-! ## Record commands (R254, R255) -/

/-- What the front record command meets before its walk starts. -/
def State.recCmdLegal (s : State) (c : RecCmd) : Bool :=
  s.recF c.record Rec.GEN == c.gen && s.recF c.record Rec.PART == c.part && !s.inState c.record .free &&
  (if c.op = 1 then s.inState c.record .paused
   else if c.op = 2 then s.inState c.record .parked && decide (c.tier ≤ 1)
   else s.inStates c.record [.done, .failed] && s.recF c.record Rec.IN_BATCH == 0)

def State.setFrontCmd (s : State) (c : RecCmd) : State :=
  { s with stw := { s.stw with recCmds := c :: s.stw.recCmds.tail } }

/-- The tier a PARK or UNPARK command moves to. -/
def State.recCmdTier (s : State) (c : RecCmd) : Nat :=
  if c.op = 1 ∧ c.tier = 0 then s.rd (STW_P_POLICY.PARK_TIER c.part) else c.tier

/-- One group of the walk. -/
def State.recCmdGroup (s : State) (c : RecCmd) (g : Nat) : State :=
  let next := { c with index := c.index + 1 }
  let st := s.groupState c.part g
  if c.op = 3 then (s.freeGroup c.part g).setFrontCmd next
  else if st < 2 then s.setFrontCmd { c with status := some .badLength }
  else if st = 3 then s
  else
    let tier := s.recCmdTier c
    let home := (s.groupEntry c.part g).tier
    if c.op = 1 ∧ tier ≤ home then (s.markParked c.part g 0).setFrontCmd next
    else if c.op = 2 ∧ tier = home then (s.clearParked c.part g).setFrontCmd next
    else
      let m := s.moveStatus c.part g tier
      if m = .ok then
        (s.startMigration { part := c.part, space := 1, first := s.groupFirst c.part g, count := s.groupFrames c.part,
                            tier := tier, kind := if c.op = 1 then .recPark else .recUnpark }).setFrontCmd
          { c with moving := true }
      else s.setFrontCmd { c with status := some m }

/-- The front record command walks its page list until a group moves or the walk ends (R254). -/
def State.walkRecCmd : Nat → State → State
  | 0, s => s
  | fuel + 1, s =>
    match s.stw.recCmds with
    | [] => s
    | c :: _ =>
      if c.moving || c.status.isSome then s
      else if !c.started then
        if s.recCmdLegal c then State.walkRecCmd fuel (s.setFrontCmd { c with started := true })
        else s.setFrontCmd { c with started := true, status := some .refusedPolicy }
      else if s.recF c.record Rec.PL_LEN ≤ c.index then s.setFrontCmd { c with status := some .ok }
      else
        match s.recGroup c.record c.index with
        | none => State.walkRecCmd fuel (s.setFrontCmd { c with index := c.index + 1 })
        | some g => State.walkRecCmd fuel (s.recCmdGroup c g)

def State.runRecCmds (s : State) : State := State.walkRecCmd 65540 s

/-- A write of STW_P_REC with a non-zero OP (R254): it enters the queue of 64, or is refused and counted. -/
def State.enterRecCmd (s : State) (a : Agent) (p : Fin 64) (record : Fin 16384) (gen : BitVec 16) (op : Nat)
    (tier : Fin 4) : State :=
  if !s.mayWritePart a p then (s.refuseWrite a .STW 0).wrPriv a.code (STW_P_REC_RESULT.STATUS p) Status.refusedPolicy.code
  else if 64 ≤ s.stw.recCmds.length then s.countRefused .STW 0
  else
    let s := s.wrPriv a.code (STW_P_REC_RESULT.BUSY p) 1
    let s := s.wrPriv a.code (STW_P_REC_RESULT.RECORD p) record
    let c : RecCmd := { agent := a.code, part := p, record := record, gen := gen.toNat, op := op, tier := tier }
    State.runRecCmds { s with stw := { s.stw with recCmds := s.stw.recCmds ++ [c] } }

def doRecPark (a : Agent) (p : Fin 64) (record : Fin 16384) (gen : BitVec 16) (tier : Fin 4) (s : State) : State :=
  s.enterRecCmd a p record gen 1 tier

def doRecUnpark (a : Agent) (p : Fin 64) (record : Fin 16384) (gen : BitVec 16) (tier : Fin 4) (s : State) : State :=
  s.enterRecCmd a p record gen 2 tier

def doRecFree (a : Agent) (p : Fin 64) (record : Fin 16384) (gen : BitVec 16) (tier : Fin 4) (s : State) : State :=
  s.enterRecCmd a p record gen 3 tier

/-- The final state change of a record command and the status it ends with (R255). -/
def State.finishRecCmd (s : State) (c : RecCmd) (st : Status) : State × Status :=
  if st ≠ .ok then ((if st = .refusedPolicy then s else s.setRec c.record Rec.LAST_STATUS st.code), st)
  else if c.op = 3 then (s, .ok)
  else
    let src := if c.op = 1 then ReqState.paused else .parked
    let dst := if c.op = 1 then ReqState.parked else .paused
    if s.recF c.record Rec.GEN = c.gen ∧ s.inState c.record src then (s.setRecState c.record dst, .ok)
    else if s.recF c.record Rec.EXPIRED = 1 ∨ s.recF c.record Rec.GEN ≠ c.gen then (s, .abandoned)
    else (s, .partialDone)

/-- The front record command ends: the record's state, the agent's STW_P_REC_RESULT and the doorbell (R254, R255). -/
def doRecCommandEnd (s : State) : State :=
  match s.stw.recCmds with
  | [] => s
  | c :: cs =>
    match c.status with
    | none => s
    | some st =>
      let (s, st) := s.finishRecCmd c st
      let s := s.wrPriv c.agent (STW_P_REC_RESULT.STATUS c.part) st.code
      let s := s.wrPriv c.agent (STW_P_REC_RESULT.BUSY c.part) 0
      let s := s.wrPriv c.agent (STW_P_REC_RESULT.RECORD c.part) c.record
      let s := { s with stw := { s.stw with recCmds := cs } }
      let s := s.bellIf (s.on (STW_P_NOTIFY.EN c.part)) c.part (s.rd (STW_P_NOTIFY.DB_SOURCE c.part))
      s.runRecCmds

/-! ## The end of a migration (R250, R251) -/

/-- The i-th running migration is confirmed: in one change every entry names its new home, held writes are released and
the old frames are freed (R250). `frames` is the stairwell's choice of free frames of the target tier, which the spec
leaves open where no rule places them. The moves of an almanac entry are confirmed by ALM_MOVE_CONFIRMED. -/
def doMigrationConfirm (i : Nat) (frames : List Nat) (s : State) : State :=
  match s.stw.migs[i]? with
  | none => s
  | some m =>
    let onCm : Bool := match m.kind with
      | .migr .. =>
        if m.tier == 1 && (s.role m.part == 2 || s.role m.part == 4) && !(s.considered m.part).isEmpty then
          frames.all (fun h => argmin (s.groupsOn m.part) (s.considered m.part) == some (dpaStack h * 32 + dpaPc h))
        else true
      | _ => true
    if frames.length = m.count ∧ onCm ∧ s.framesFree m.part m.tier frames ∧ m.kind.entry = none then
      let s := { s with stw := { s.stw with migs := s.stw.migs.eraseIdx i } }
      let s := (frames.zip (List.range m.count)).foldl (fun s x => s.moveUnit m (m.first + x.2) x.1) s
      let s := s.inc (STW_P_MIGRATIONS.COUNT m.part)
      let s := s.releaseHeld m.part m.space (m.first * 8192) ((m.first + m.count) * 8192)
      ((s.endMigration m .ok).retryMoves).runRecCmds
    else s

/-- The i-th running migration fails (R251): every unit keeps its old home and held writes go there. `read` says whether
an uncorrectable read or a failed write ended it; a failed write reports LINK_FAILED in T2 and T3, else UNCORRECTED. -/
def doMigrationFail (i : Nat) (read : Bool) (s : State) : State :=
  match s.stw.migs[i]? with
  | none => s
  | some m =>
    let st : Status := if read || decide (m.tier < 2) then .uncorrected else .linkFailed
    let s := { s with stw := { s.stw with migs := s.stw.migs.eraseIdx i } }
    let s := s.setTransit m.part m.space m.first m.count false
    let s := s.inc (STW_P_MIG_FAILED.COUNT m.part)
    let s := s.wr STW_LAST_ERR.STATUS st.code
    let s := s.wr STW_LAST_ERR.PART m.part
    let s := s.wr STW_LAST_ERR.MERIDIAN s.mer32
    let s := if read then s.noteUe else s
    let s := s.report { cls := 0x03, status := st.code, sev := 3, part := some m.part, blk := Blk.STW.code,
                        addr := tensorAddr m.space (m.first * 8192) }
    let s := s.releaseHeld m.part m.space (m.first * 8192) ((m.first + m.count) * 8192)
    ((s.endMigration m st).retryMoves).runRecCmds

/-! ## Accesses by tensor address (R243) -/

/-- A tensor-address read of a unit that the host of the command names by its partition: it is answered, or held until
its group is homed. `good` is the verdict on an encrypted home (R264). -/
def doTensorRead (p : Fin 64) (ta : BitVec 57) (len : Nat) (good : Bool) (s : State) : State :=
  let r := s.readTensor p ta.toNat len good
  if r.held then
    { s with stw := { s.stw with heldReads := s.stw.heldReads ++ [{ part := p, addr := ta.toNat, len := len }] } }
  else
    (s.noteRead p ta.toNat len good).emit
      (.tensor p ta.toNat r.status.code (if r.status = .ok then r.data else []))

/-- A demand migration of the group an address lies in, to T1 (R243). -/
def State.demandMove (s : State) (p ta : Nat) : State :=
  let g := s.groupOf p (taOff ta)
  if taSpace ta = 1 ∧ s.groupState p g = GroupState.homed.code then
    s.startMigration { part := p, space := 1, first := s.groupFirst p g, count := s.groupFrames p, tier := 1,
                       kind := .demand }
  else s

/-- The demand migrations a waiting write starts. -/
def State.startDemand (s : State) (p ta n : Nat) : State :=
  (piecesOf ta n).foldl (fun s x =>
    match s.writeAt p x.1 with
    | .wait true => s.demandMove p x.1
    | _ => s) s

/-- A tensor-address write lands at its home, waits for a home or the end of a transit, or is dropped (R243). -/
def State.tensorWrite (s : State) (p ta : Nat) (data : Bytes) : State :=
  if s.writeWaits p ta data.length then
    let s := s.startDemand p ta data.length
    { s with stw := { s.stw with heldWrites := s.stw.heldWrites ++ [{ part := p, addr := ta, data := data }] } }
  else (s.landWrite p ta data).clearTensorTags p ta data.length

def doTensorWrite (p : Fin 64) (ta : BitVec 57) (data : Bytes) (s : State) : State := s.tensorWrite p ta.toNat data

/-! ## Expiry and demotion (R253, R256) -/

/-- At a landing a parked group whose EXPIRY has passed is freed (R253, Table 12-4). -/
def doGroupExpiry (p : Fin 64) (g : Nat) (s : State) : State :=
  if s.inLanding ∧ g < s.groupCount p ∧ s.groupState p g = GroupState.homed.code ∧ s.groupParked p g ∧
      s.groupExpiry p g ≠ 0 ∧ s.groupExpiry p g ≤ s.mer then
    (s.freeGroup p g).inc (STW_P_EXPIRED.COUNT p)
  else s

/-- Parked groups homed in T1, oldest PARKED_AT first. -/
def State.nextDemotion (s : State) (p : Nat) : Option Nat :=
  argmin (fun g => s.groupFld p g 32 32)
    ((List.range (s.groupCount p)).filter (fun g =>
      s.groupState p g == 2 && s.groupParked p g && (s.groupEntry p g).tier == 1))

/-- RESIDENT almanac entries with no pins and WIN_TIER T1, least recent LAST_USE first. -/
def State.nextAlmDemotion (s : State) (p : Nat) : Option Nat :=
  argmin (fun e => s.rd (ALM_E_W6.LAST_USE e))
    ((List.range 4096).filter (fun e =>
      s.rd (ALM_E_W0.STATE e) == 3 && s.rd (ALM_E_W0.PART e) == p && s.rd (ALM_E_W0.PINS e) == 0 &&
      s.rd (ALM_E_W0.WIN_TIER e) == 1))

/-- The next demotion while HIGH is not reached, with the frames then on their way out of T1: `planned` already are (R256). -/
def State.demoteOne (s : State) (p planned : Nat) : Option (State × Nat) :=
  if s.rd (STW_P_T1.HIGH p) ≤ s.tierFree p 1 + planned then none
  else
    match s.nextDemotion p with
    | some g =>
      let pt := s.rd (STW_P_POLICY.PARK_TIER p)
      let tier := if pt = 1 then 2 else pt
      let m : Migration := { part := p, space := 1, first := s.groupFirst p g, count := s.groupFrames p, tier := tier,
                             kind := .demotion }
      if s.moveStatus p g tier = .ok then
        let t := s.startMigration m
        some (t.inc (STW_P_DEMOTED.COUNT p), planned + t.groupFrames p)
      else none
    | none =>
      (s.nextAlmDemotion p).map (fun e =>
        ((s.startEvict e).inc (STW_P_DEMOTED.COUNT p), planned + s.rd (ALM_E_W7.RESIDENT e)))

/-- Demote until HIGH is reached. -/
def State.demote (p : Nat) : Nat → Nat → State → State
  | 0, _, s => s
  | fuel + 1, planned, s =>
    match s.demoteOne p planned with
    | some x => State.demote p fuel x.2 x.1
    | none => s

/-- Free T1 frames have fallen below LOW: demotion starts (R256). -/
def doDemotionStart (p : Fin 64) (s : State) : State :=
  if s.tierFree p 1 < s.rd (STW_P_T1.LOW p) then
    State.demote p (s.groupCount p + 4097) 0 s
  else s

/-! ## Page keys (R262, R263) -/

/-- A key command's outcome. -/
def State.keyStatus (s : State) (p : Nat) (st : Status) : State := s.wr (STW_P_KEYSTAT.LAST_STATUS p) st.code

def State.refuseKey (s : State) (p : Nat) : State := (s.keyStatus p .refusedPolicy).countRefused .STW 0

def State.setKeyState (s : State) (p slot st : Nat) : State :=
  if slot = 0 then s.wr (STW_P_KEYSTAT.A_STATE p) st else s.wr (STW_P_KEYSTAT.B_STATE p) st

def State.setKeyGen (s : State) (p slot g : Nat) : State :=
  if slot = 0 then s.wr (STW_P_KEYSTAT.A_GEN p) g else s.wr (STW_P_KEYSTAT.B_GEN p) g

def State.lastGen (s : State) (p : Nat) : Nat := Tab.get (fun _ => 0) s.stw.lastGen p

/-- Generations are the last issued plus 1 modulo 256, skipping 0 (R262). -/
def State.nextGen (s : State) (p : Nat) : Nat := if (s.lastGen p + 1) % 256 = 0 then 1 else (s.lastGen p + 1) % 256

/-- The EMPTY slot a ROTATE installs into: the other slot must be EMPTY or ACTIVE (Table 12-7). With both EMPTY, slot A
(DEDUCED, log 30). -/
def State.rotateSlot (s : State) (p : Nat) : Option Nat :=
  let a := s.keyState p 0
  let b := s.keyState p 1
  if a = 0 ∧ (b = 0 ∨ b = 3) then some 0 else if b = 0 ∧ a = 3 then some 1 else none

def doKeyRotate (a : Agent) (p : Fin 64) (s : State) : State :=
  if !s.mayWritePartPf a p then s.refuseWrite a .STW 0
  else
    match s.rotateSlot p with
    | none => s.refuseKey p
    | some slot =>
      let g := s.nextGen p
      let s := { s with stw := { s.stw with lastGen := Tab.put (fun _ => 0) s.stw.lastGen p g } }
      ((s.setKeyState p slot 1).setKeyGen p slot g).keyStatus p .ok

/-- The vestibule has derived the key: the slot becomes PENDING, with the key identifier its DRBG drew (R262). While the
vestibule restarts, key installs wait (R418). -/
def doKeyInstallDone (p : Fin 64) (keyId : Word) (s : State) : State :=
  let slot := if s.keyState p 0 = 1 then some 0 else if s.keyState p 1 = 1 then some 1 else none
  match slot with
  | none => s
  | some x => if s.on VES_STATE.RESTARTING then s else (s.setKeyState p x 2).setKeySlot p x { keyId := keyId, counter := 0 }

/-- The units homed in T2 or T3 under a generation, in tensor-address order, from a space on. -/
def State.sealedUnits (s : State) (p gen : Nat) : List (Nat × Nat) :=
  [0, 1, 4, 5].flatMap (fun sp =>
    ((List.range (s.spaceUnits p sp)).filter (fun u =>
      let e := s.entry p sp u
      e.homed && e.enc && !e.gone && decide (2 ≤ e.tier) && e.kgen == gen)).map (fun u => (sp, u)))

/-- The DRAINING slot. -/
def State.drainingSlot (s : State) (p : Nat) : Option Nat :=
  if s.keyState p 0 = 4 then some 0 else if s.keyState p 1 = 4 then some 1 else none

/-- FORCE_RETIRE: the sweep stops, and every entry still under the generation is GONE and leaves IN_USE (Table 12-7). -/
def doKeyForceRetire (a : Agent) (p : Fin 64) (s : State) : State :=
  if !s.mayWritePartPf a p then s.refuseWrite a .STW 0
  else
    match s.drainingSlot p with
    | none => s.refuseKey p
    | some slot =>
      let us := s.sealedUnits p (s.keyGen p slot)
      let s := us.foldl (fun s x =>
        (s.setEntry p x.1 x.2 { s.entry p x.1 x.2 with gone := true }).addInUse p slot false) s
      (s.wr (STW_P_KEYSTAT.SWEEPING p) 0).keyStatus p .ok

/-- A unit's home can be reached: T2 through a port that is UP, T3 as the fabric answers. -/
def State.reachable (s : State) (e : TEntry) (t3 : Bool) : Bool :=
  if e.tier = 3 then t3 else decide (s.storeStatus e.home 8192 = .ok)

/-- Re-encrypt one unit in place under the ACTIVE key (R263). -/
def State.resealUnit (s : State) (p sp u active : Nat) : State :=
  let e := s.entry p sp u
  let data := s.homeBytes e
  let s := s.seal p active e.tier e.home sp data
  let s := s.countGen p e.kgen false
  let s := s.addInUse p active true
  let s := s.setEntry p sp u { e with kgen := s.keyGen p active }
  s.addMod (STW_P_SWEEP_POS.DONE p) 1

/-- The sweep's units of one meridian: up to n, held at the first that cannot be reached. -/
def State.sweepUnits (p active : Nat) (t3 : Bool) : List (Nat × Nat) → State → State
  | [], s => s
  | x :: xs, s =>
    if s.reachable (s.entry p x.1 x.2) t3 then State.sweepUnits p active t3 xs (s.resealUnit p x.1 x.2 active) else s

/-- One meridian of a partition's sweep (R263). `t3` says whether the lending nodes answer. -/
def doKeySweepStep (p : Fin 64) (t3 : Bool) (s : State) : State :=
  match s.drainingSlot p, s.activeSlot p with
  | some slot, some active =>
    if s.on (STW_P_KEYSTAT.SWEEPING p) then
      let gen := s.keyGen p slot
      let s := State.sweepUnits p active t3 ((s.sealedUnits p gen).take (s.rd (STW_P_SWEEP.FRAMES p))) s
      if (s.sealedUnits p gen).isEmpty then s.wr (STW_P_KEYSTAT.SWEEPING p) 0 else s
    else s
  | _, _ => s

/-- At a landing with the sweep done and IN_USE 0, a DRAINING slot's key is erased and the slot is EMPTY; its doorbell
rings (Table 12-7). -/
def doKeySlotEmpty (p : Fin 64) (s : State) : State :=
  match s.drainingSlot p with
  | none => s
  | some slot =>
    let inUse := if slot = 0 then s.rd (STW_P_INUSE.A p) else s.rd (STW_P_INUSE.B p)
    if s.inLanding ∧ !s.on (STW_P_KEYSTAT.SWEEPING p) ∧ inUse = 0 then
      let s := (s.setKeyState p slot 0).setKeySlot p slot {}
      s.bellIf (s.on (STW_P_NOTIFY.EN p)) p (s.rd (STW_P_NOTIFY.DB_SOURCE p))
    else s

/-- The apply point of a committed SWITCH (R262): the PENDING slot is ACTIVE, an ACTIVE one is DRAINING and its sweep
starts, WRITE_SLOT names the new slot. With no slot PENDING the SWITCH is refused and counted. The field clears in both
copies. -/
def State.keySwitch (s : State) (p : Nat) : State :=
  let s := s.wr (STW_P_KEYSW.SWITCH p) 0
  let slot := if s.keyState p 0 = 2 then some 0 else if s.keyState p 1 = 2 then some 1 else none
  match slot with
  | none => s.countRefused .STW 0
  | some x =>
    let other := 1 - x
    let draining := s.keyState p other == 3
    let s := if draining then s.setKeyState p other 4 else s
    let s := s.setKeyState p x 3
    let s := s.wr (STW_P_KEYSTAT.WRITE_SLOT p) x
    if draining then (s.wr (STW_P_KEYSTAT.SWEEPING p) 1).wr (STW_P_SWEEP_POS.DONE p) 0 else s

def execGroupHomed (frames : List Nat) (s : State) : Host.Outcome State Fault Refusal := .next (doGroupHomed frames s)
def execStwPGrab (a : Agent) (p : Fin 64) (s : State) : Host.Outcome State Fault Refusal := .next (doStwPGrab a p s)
def execRecPark (a : Agent) (p : Fin 64) (record : Fin 16384) (gen : BitVec 16) (tier : Fin 4) (s : State) : Host.Outcome State Fault Refusal :=
  .next (s.whenReady .STW 0 (doRecPark a p record gen tier))
def execRecUnpark (a : Agent) (p : Fin 64) (record : Fin 16384) (gen : BitVec 16) (tier : Fin 4) (s : State) : Host.Outcome State Fault Refusal :=
  .next (s.whenReady .STW 0 (doRecUnpark a p record gen tier))
def execRecFree (a : Agent) (p : Fin 64) (record : Fin 16384) (gen : BitVec 16) (tier : Fin 4) (s : State) : Host.Outcome State Fault Refusal :=
  .next (s.whenReady .STW 0 (doRecFree a p record gen tier))
def execRecCommandEnd (s : State) : Host.Outcome State Fault Refusal := .next (doRecCommandEnd s)
def execMigrationConfirm (i : Nat) (frames : List Nat) (s : State) : Host.Outcome State Fault Refusal := .next (doMigrationConfirm i frames s)
def execMigrationFail (i : Nat) (read : Bool) (s : State) : Host.Outcome State Fault Refusal := .next (doMigrationFail i read s)
def execTensorRead (p : Fin 64) (ta : BitVec 57) (len : Nat) (good : Bool) (s : State) : Host.Outcome State Fault Refusal := .next (doTensorRead p ta len good s)
def execTensorWrite (p : Fin 64) (ta : BitVec 57) (data : Bytes) (s : State) : Host.Outcome State Fault Refusal := .next (doTensorWrite p ta data s)
def execGroupExpiry (p : Fin 64) (g : Nat) (s : State) : Host.Outcome State Fault Refusal := .next (doGroupExpiry p g s)
def execDemotionStart (p : Fin 64) (s : State) : Host.Outcome State Fault Refusal := .next (doDemotionStart p s)
def execKeyRotate (a : Agent) (p : Fin 64) (s : State) : Host.Outcome State Fault Refusal :=
  .next (s.whenReady .STW 0 (doKeyRotate a p))
def execKeyForceRetire (a : Agent) (p : Fin 64) (s : State) : Host.Outcome State Fault Refusal :=
  .next (s.whenReady .STW 0 (doKeyForceRetire a p))
def execKeyInstallDone (p : Fin 64) (keyId : Word) (s : State) : Host.Outcome State Fault Refusal := .next (doKeyInstallDone p keyId s)
def execKeySweepStep (p : Fin 64) (t3 : Bool) (s : State) : Host.Outcome State Fault Refusal := .next (doKeySweepStep p t3 s)
def execKeySlotEmpty (p : Fin 64) (s : State) : Host.Outcome State Fault Refusal := .next (doKeySlotEmpty p s)

end Sys2Proof.Machine
end

