-- ==== Sys2Proof/Machine/Almanac.lean ====
section
/-! DEFINITION. The almanac and its adapter slots (R232 to R239, R257 to R260). -/

namespace Sys2Proof.Machine

/-! ## Entries (Table 12-5) -/

def State.almState (s : State) (e : Nat) : Nat := s.rd (ALM_E_W0.STATE e)
def State.almPart (s : State) (e : Nat) : Nat := s.rd (ALM_E_W0.PART e)
def State.almSpace (s : State) (e : Nat) : Nat := kindSpace (s.rd (ALM_E_W0.KIND e))
def State.almFirst (s : State) (e : Nat) : Nat := s.rd (ALM_E_W1.BASE e) / 8192
def State.almUnits (s : State) (e : Nat) : Nat := s.rd (ALM_E_W2.UNITS e)
def State.almWindow (s : State) (e : Nat) : Nat := s.rd (ALM_E_W2.WINDOW e)
def State.almTier (s : State) (e : Nat) : Nat := s.rd (ALM_E_W0.WIN_TIER e)
def State.layerUnits (s : State) (e : Nat) : Nat := s.almUnits e / s.rd (ALM_E_W2.LAYERS e)

/-- Units that a LOAD moves: the whole entry, or WINDOW layers. -/
def State.loadUnits (s : State) (e : Nat) : Nat :=
  if s.almWindow e = 0 then s.almUnits e else s.almWindow e * s.layerUnits e

/-- A move into the tier of the backing frames takes no frames (R250). -/
def State.almBacked (s : State) (e : Nat) : Bool := dpaTier (s.rd (ALM_E_W3.SOURCE e)) == s.almTier e

/-- Frames of the entry homed in WIN_TIER. -/
def State.countResident (s : State) (e : Nat) : State :=
  s.wr (ALM_E_W7.RESIDENT e) (countBelow (s.almUnits e) (fun i =>
    (s.entry (s.almPart e) (s.almSpace e) (s.almFirst e + i)).tier == s.almTier e))

/-- Units return to their backing frames, at once and with nothing written (R258, R259). -/
def State.toBacking (s : State) (e first count : Nat) : State :=
  let p := s.almPart e
  let sp := s.almSpace e
  ((List.range count).foldl (fun s i =>
    let u := first + i
    let t := s.entry p sp u
    let b := s.backing e u
    let s := if t.home = b then s else s.setFrame t.tier t.home none
    s.setEntry p sp u { t with tier := dpaTier b, home := b, transit := false }) s).countResident e

/-! ## Commands (R257 to R259) -/

/-- The outcome of an almanac command, in the agent's copy of ALM_RESULT. -/
def State.almResult (s : State) (a e : Nat) (st : Status) : State :=
  let s := s.wrPriv a ALM_RESULT.STATUS st.code
  let s := s.wrPriv a ALM_RESULT.ENTRY e
  s.wrPriv a ALM_RESULT.SEQ (s.rdPriv a ALM_RESULT.SEQ + 1)

/-- LAST_STATUS of the entry that the command named, where the entry is the partition's. -/
def State.almLast (s : State) (p e : Nat) (st : Status) : State :=
  if s.almState e ≠ 0 ∧ s.almPart e = p then s.wr (ALM_E_W7.LAST_STATUS e) st.code else s

/-- Decide a command for the partition the agent acts for (R258, R362). -/
def State.almCommand (s : State) (a : Agent) (e p : Nat) (f : Nat → State × Status) : State :=
  match s.actingPart a p with
  | none => s.refuseWrite a .ALM 0
  | some q =>
    if !s.mayWritePart a q then (s.refuseWrite a .ALM 0).almResult a.code e .refusedPolicy
    else
      let r := f q
      (r.1.almLast q e r.2).almResult a.code e r.2

/-- The descriptor of REGISTER (Table 12-5), and the checks of R257. A KIND above 2, a BASE that is not 8 KiB aligned
and a WIN_TIER above T1 have no meaning in the spec and give BAD_LENGTH too (DEDUCED, log 13). -/
def State.registerBad (s : State) (p : Nat) (ws : List Word) : Bool :=
  let w (i : Nat) : Word := ws.getD i 0
  let kind := getBits (w 0) 4 3
  let base := getBits (w 1) 0 53
  let units := getBits (w 2) 0 32
  let layers := getBits (w 2) 32 16
  let window := getBits (w 2) 48 16
  let src := getBits (w 3) 0 48
  let inOne := (List.range units).all (fun i => s.inReserve p (src + 8192 * i) && s.inReserve p (src + 8192 * i + 8191)) ||
    (s.t2Extents p).any (fun x => decide (x.1 ≤ src) && decide (src + 8192 * units ≤ x.1 + 8192 * x.2))
  units == 0 || decide (s.spaceUnits p (kindSpace kind) < base / 8192 + units) || layers == 0 ||
    (window != 0 && (units % layers != 0 || decide (layers ≤ window))) || !inOne ||
    decide (2 < kind) || base % 8192 != 0 || decide (1 < getBits (w 0) 16 2)

/-- Home a registered entry's units at their backing frames, with RO at 1 and their tags (R257). -/
def State.homeBacking (s : State) (e tags : Nat) : State :=
  let p := s.almPart e
  let sp := s.almSpace e
  (List.range (s.almUnits e)).foldl (fun s i =>
    let u := s.almFirst e + i
    let b := s.backing e u
    let tag (k : Nat) : Nat := if tags = 0 then 0 else s.num (tags + 4 * i + 2 * k) 2
    (s.setFrame (dpaTier b) b (some p)).setEntry p sp u
      { tier := dpaTier b, homed := true, ro := true, tag0 := tag 0, tag1 := tag 1, home := b }) s

/-- The entry's words from the descriptor, its device fields at 0. -/
def State.writeAlmEntry (s : State) (e p : Nat) (ws : List Word) : State :=
  let w (i : Nat) : Word := ws.getD i 0
  let s := s.setReg (ALM_E_W0.STATE e).off 0
  let s := s.wr (ALM_E_W0.STATE e) 1
  let s := s.wr (ALM_E_W0.KIND e) (getBits (w 0) 4 3)
  let s := s.wr (ALM_E_W0.PART e) p
  let s := s.wr (ALM_E_W0.WIN_TIER e) (getBits (w 0) 16 2)
  let s := s.wr (ALM_E_W1.BASE e) (getBits (w 1) 0 53)
  let s := s.setReg (ALM_E_W2.UNITS e).off (w 2)
  let s := s.wr (ALM_E_W3.SOURCE e) (getBits (w 3) 0 48)
  let s := s.wr (ALM_E_W4.TAGS e) (getBits (w 4) 0 48)
  let s := s.setReg (ALM_E_W5.UNIT e).off (BitVec.ofNat 64 (getBits (w 5) 0 13))
  let s := s.setReg (ALM_E_W6.LAST_USE e).off 0
  s.setReg (ALM_E_W7.RESIDENT e).off 0

/-- REGISTER of the descriptor at ALM_CMD_ARG (R257). -/
def State.almRegister (s : State) (a : Agent) (e p : Nat) : State × Status :=
  let d := s.rdPriv a.code ALM_CMD_ARG.ARG
  let ws := s.words d 8
  let first := getBits (ws.getD 1 0) 0 53 / 8192
  let sp := kindSpace (getBits (ws.getD 0 0) 4 3)
  let units := getBits (ws.getD 2 0) 0 32
  let tags := getBits (ws.getD 4 0) 0 48
  let acc := (s.accessStatus d 64).worse (if tags = 0 then .ok else s.accessStatus tags (4 * units))
  if s.accessStatus d 64 ≠ .ok then (s, s.accessStatus d 64)
  else if s.registerBad p ws then (s, .badLength)
  else if acc ≠ .ok then (s, acc)
  else if s.almState e ≠ 0 ∨ !(allBelow units (fun i => !(s.entry p sp (first + i)).homed)) then (s, .refusedPolicy)
  else (((s.writeAlmEntry e p ws).homeBacking e tags).countResident e, .ok)

def doAlmRegister (a : Agent) (e : Fin 4096) (p : Fin 64) (s : State) : State :=
  s.almCommand a e p (fun q => s.almRegister a e q)

/-- The entry is the partition's and in one of the states the command is allowed in. -/
def State.almIn (s : State) (e p : Nat) (sts : List Nat) : Bool :=
  s.almState e != 0 && s.almPart e == p && sts.contains (s.almState e)

/-- A LOAD of an ABSENT entry: its units, or its first WINDOW layers, start to move to WIN_TIER (Table 12-6). -/
def State.almLoad (s : State) (e p : Nat) : State × Status :=
  if !s.almIn e p [1] then (s, .refusedPolicy)
  else if !s.almBacked e ∧ s.tierFree p (s.almTier e) < s.reserved p (s.almTier e) + s.loadUnits e then (s, .refusedFull)
  else
    let s := (s.wr (ALM_E_W0.STATE e) 2).wr (ALM_E_W5.WIN_FIRST e) 0
    (s.startMigration { part := p, space := s.almSpace e, first := s.almFirst e, count := s.loadUnits e,
                        tier := s.almTier e, kind := .almLoad e }, .ok)

def doAlmLoad (a : Agent) (e : Fin 4096) (p : Fin 64) (s : State) : State := s.almCommand a e p (fun q => s.almLoad e q)

/-- EVICT with PINS 0 (Table 12-6). -/
def doAlmEvict (a : Agent) (e : Fin 4096) (p : Fin 64) (s : State) : State :=
  s.almCommand a e p (fun q =>
    if s.almIn e q [2, 3] ∧ s.rd (ALM_E_W0.PINS e) = 0 then (s.startEvict e, .ok) else (s, .refusedPolicy))

/-- PIN: refused at 65,535. -/
def State.almPin (s : State) (e p : Nat) : State × Status :=
  if s.almIn e p [1, 2, 3, 4] ∧ s.rd (ALM_E_W0.PINS e) < 65535 then
    (s.wr (ALM_E_W0.PINS e) (s.rd (ALM_E_W0.PINS e) + 1), .ok)
  else (s, .refusedPolicy)

def doAlmPin (a : Agent) (e : Fin 4096) (p : Fin 64) (s : State) : State := s.almCommand a e p (fun q => s.almPin e q)

/-- UNPIN: refused at 0. -/
def State.almUnpin (s : State) (e p : Nat) : State × Status :=
  if s.almIn e p [1, 2, 3, 4] ∧ 0 < s.rd (ALM_E_W0.PINS e) then
    (s.wr (ALM_E_W0.PINS e) (s.rd (ALM_E_W0.PINS e) - 1), .ok)
  else (s, .refusedPolicy)

def doAlmUnpin (a : Agent) (e : Fin 4096) (p : Fin 64) (s : State) : State := s.almCommand a e p (fun q => s.almUnpin e q)

/-- UNREGISTER of an ABSENT entry with PINS 0: its units are unhomed. -/
def doAlmUnregister (a : Agent) (e : Fin 4096) (p : Fin 64) (s : State) : State :=
  s.almCommand a e p (fun q =>
    if s.almIn e q [1] ∧ s.rd (ALM_E_W0.PINS e) = 0 then
      let s1 := (List.range (s.almUnits e)).foldl (fun t i => t.unhome q (s.almSpace e) (s.almFirst e + i)) s
      ((List.range 8).foldl (fun t i => t.setReg ((ALM_E_W0.STATE e).off + 8 * i) 0) s1, .ok)
    else (s, .refusedPolicy))

/-- An ADVANCE of the entry runs. -/
def State.advancing (s : State) (e : Nat) : Bool :=
  s.stw.migs.any (fun m => match m.kind with | .almAdvance x _ => x == e | _ => false)

/-- Decide an ADVANCE (R259). -/
def State.almAdvance (s : State) (e p layer : Nat) : State × Status :=
  let win := s.rd (ALM_E_W5.WIN_FIRST e)
  let layers := s.rd (ALM_E_W2.LAYERS e)
  if !s.almIn e p [3] ∨ s.almWindow e = 0 ∨ layer ≠ win then (s, .refusedPolicy)
  else
    let n := s.layerUnits e
    let s := s.toBacking e (s.almFirst e + win * n) n
    let next := (win + s.almWindow e) % layers
    let s := s.wr (ALM_E_W5.WIN_FIRST e) ((win + 1) % layers)
    (s.startMigration { part := p, space := s.almSpace e, first := s.almFirst e + next * n, count := n,
                        tier := s.almTier e, kind := .almAdvance e next }, .ok)

/-- ADVANCE of the layer in ALM_CMD_ARG[15:0]; behind another ADVANCE of the entry it waits, undecided (R259). -/
def doAlmAdvance (a : Agent) (e : Fin 4096) (p : Fin 64) (s : State) : State :=
  let layer := s.rdPriv a.code ALM_CMD_ARG.ARG % 65536
  match s.actingPart a p with
  | none => s.refuseWrite a .ALM 0
  | some q =>
    if !s.mayWritePart a q then (s.refuseWrite a .ALM 0).almResult a.code e .refusedPolicy
    else if s.almState e = 3 ∧ s.almPart e = q ∧ s.advancing e then
      { s with stw := { s.stw with advances := s.stw.advances ++ [(e.val, layer, a.code)] } }
    else
      let r := s.almAdvance e q layer
      (r.1.almLast q e r.2).almResult a.code e r.2

/-- The ADVANCEs that waited behind one of the entry are decided, up to one that starts. -/
def State.nextAdvance (e : Nat) : Nat → State → State
  | 0, s => s
  | fuel + 1, s =>
    if s.advancing e then s
    else
      match s.stw.advances.find? (fun x => x.1 == e) with
      | none => s
      | some x =>
        let s := { s with stw := { s.stw with advances := s.stw.advances.erase x } }
        let p := s.almPart e
        let r := s.almAdvance e p x.2.1
        State.nextAdvance e fuel ((r.1.almLast p e r.2).almResult x.2.2 e r.2)

/-- The entry's residency token (Table 12-6). -/
def State.almToken (s : State) (e : Nat) : State :=
  if s.on (ALM_E_W5.NOTIFY_EN e) then (s.giveFromBlock .ALM (s.rd (ALM_E_W5.UNIT e)) (s.rd (ALM_E_W5.CTR e))).settleReports
  else s

/-- Every move of the entry's load, or of its new window layer, is confirmed (R250, R258, R259). `frames` is the choice
of free frames of WIN_TIER, which the spec leaves open; none where the units return to their backing frames. -/
def doAlmMoveConfirmed (e : Fin 4096) (frames : List Nat) (s : State) : State :=
  match s.stw.migs.find? (fun m => m.kind.entry == some e.val) with
  | none => s
  | some m =>
    if frames.length = (if s.almBacked e then 0 else m.count) ∧ s.framesFree m.part m.tier frames then
      let s := { s with stw := { s.stw with migs := s.stw.migs.erase m } }
      let s := (List.range m.count).foldl (fun s i => s.moveUnit m (m.first + i) (frames.getD i 0)) s
      let s := (s.countResident e).inc (STW_P_MIGRATIONS.COUNT m.part)
      let s := s.wr (ALM_E_W7.LAST_STATUS e) Status.ok.code
      match m.kind with
      | .almLoad _ => ((s.wr (ALM_E_W0.STATE e) 3).inc ALM_LOADS.COUNT).almToken e
      | _ =>
        let s := (s.inc ALM_ADVANCES.COUNT).wr (ALM_E_W6.LAST_USE e) s.mer
        State.nextAdvance e (s.stw.advances.length + 1) (s.almToken e)
    else s

/-- Every unit of an EVICTING entry is at its backing frame: ABSENT (Table 12-6). -/
def doAlmEvictDone (e : Fin 4096) (s : State) : State :=
  if s.almState e = 4 then (s.toBacking e (s.almFirst e) (s.almUnits e)).wr (ALM_E_W0.STATE e) 1 else s

/-! ## Adapter slots (R232 to R237) -/

def State.adpState (s : State) (i : Nat) : Nat := s.rd (ALM_ADP_W0.STATE i)

def State.setAdpState (s : State) (i st : Nat) : State :=
  (s.wr (ALM_ADP_W0.STATE i) st).wr (ALM_ADP_W1.CHANGED_AT i) s.mer32

/-- The doorbell of a change to READY or EMPTY (R237). -/
def State.adpBell (s : State) (p : Nat) : State := s.bellIf (s.on ALM_ADP_NOTIFY.EN) p (s.rd ALM_ADP_NOTIFY.DB_SOURCE)

/-- The outcome of an adapter command, in the agent's copy of ALM_ADP_RESULT (R363). -/
def State.adpResult (s : State) (a i : Nat) (st : Status) (ver : Nat) : State :=
  let s := s.wrPriv a ALM_ADP_RESULT.STATUS st.code
  let s := s.wrPriv a ALM_ADP_RESULT.SLOT i
  let s := s.wrPriv a ALM_ADP_RESULT.VERSION ver
  s.wrPriv a ALM_ADP_RESULT.SEQ (s.rdPriv a ALM_ADP_RESULT.SEQ + 1)

/-- A refused adapter command changes no slot and is counted in PREFIX_REFUSED (R234); one that R486 decides with BAD_LENGTH is
not counted. -/
def State.adpRefuse (s : State) (a i : Nat) (st : Status) : State := (s.countRefused .ALM 0).adpResult a i st 0

/-- Decide an adapter command for the partition the agent acts for. -/
def State.adpCommand (s : State) (a : Agent) (i p : Nat) (f : Nat → State) : State :=
  match s.actingPart a p with
  | none => s.refuseWrite a .ALM 0
  | some q => if !s.mayWritePart a q then (s.refuseWrite a .ALM 0).adpResult a.code i .refusedPolicy 0 else f q

/-- The entry backs a slot that is not EMPTY. -/
def State.adpBacks (s : State) (e : Nat) : Bool :=
  (firstBelow 256 (fun i => s.adpState i != 0 && s.rd (ALM_ADP_W0.ALM_ENTRY i) == e)).isSome

/-- LOAD of a slot (R233, R234): the slot takes a version and a pin, and an ABSENT entry is loaded. -/
def doAdpLoad (a : Agent) (slot : Fin 256) (p : Fin 64) (entry : BitVec 16) (s : State) : State :=
  s.adpCommand a slot p (fun q =>
    let e := entry.toNat
    if 4096 ≤ e then s.adpResult a.code slot .badLength 0
    else if s.adpState slot ≠ 0 ∨ s.almState e = 0 ∨ s.rd (ALM_E_W0.KIND e) ≠ 2 ∨ s.almPart e ≠ q ∨ s.adpBacks e ∨
        s.rd (ALM_E_W0.PINS e) = 65535 then s.adpRefuse a.code slot .refusedPolicy
    else
      let ver := s.rd ALM_ADP_NEXTVER.VERSION
      let s := s.wr ALM_ADP_NEXTVER.VERSION (if ver = 65535 then 1 else ver + 1)
      let s := s.wr (ALM_ADP_W0.PART slot) q
      let s := s.wr (ALM_ADP_W0.VERSION slot) ver
      let s := s.wr (ALM_ADP_W0.ALM_ENTRY slot) e
      let s := s.wr (ALM_ADP_W0.REFS slot) 0
      let s := s.setAdpState slot 1
      let s := (s.almPin e q).1
      let s := if s.almState e = 1 then
          let r := s.almLoad e q
          r.1.almLast q e r.2
        else s
      (s.inc ALM_ADP_LOADS.COUNT).adpResult a.code slot .ok ver)

/-- RETIRE of a LOADING or READY slot of the partition (R234). -/
def doAdpRetire (a : Agent) (slot : Fin 256) (p : Fin 64) (s : State) : State :=
  s.adpCommand a slot p (fun q =>
    if (s.adpState slot = 1 ∨ s.adpState slot = 2) ∧ s.rd (ALM_ADP_W0.PART slot) = q then
      (s.setAdpState slot 3).adpResult a.code slot .ok 0
    else s.adpRefuse a.code slot .refusedPolicy)

/-- Every frame of the entry is homed in T0 or T1. -/
def State.almInMemory (s : State) (e : Nat) : Bool :=
  allBelow (s.almUnits e) (fun i =>
    let t := s.entry (s.almPart e) (s.almSpace e) (s.almFirst e + i)
    t.homed && decide (t.tier ≤ 1))

/-- A LOADING slot at a landing with every frame in T0 or T1 (Table 11-4). -/
def doAdpSlotReady (slot : Fin 256) (s : State) : State :=
  if s.inLanding ∧ s.adpState slot = 1 ∧ s.almInMemory (s.rd (ALM_ADP_W0.ALM_ENTRY slot)) then
    (s.setAdpState slot 2).adpBell (s.rd (ALM_ADP_W0.PART slot))
  else s

/-- A RETIRING slot at a landing with REFS 0 releases its pin and is EMPTY (Table 11-4). -/
def doAdpSlotEmpty (slot : Fin 256) (s : State) : State :=
  if s.inLanding ∧ s.adpState slot = 3 ∧ s.rd (ALM_ADP_W0.REFS slot) = 0 then
    let p := s.rd (ALM_ADP_W0.PART slot)
    let e := s.rd (ALM_ADP_W0.ALM_ENTRY slot)
    let s := s.wr (ALM_E_W0.PINS e) (s.rd (ALM_E_W0.PINS e) - 1)
    let s := s.wr (ALM_ADP_W0.VERSION slot) 0
    let s := s.wr (ALM_ADP_W0.ALM_ENTRY slot) 0
    let s := s.wr (ALM_ADP_W0.PART slot) 0
    ((s.setAdpState slot 0).inc ALM_ADP_RETIRED.COUNT).adpBell p
  else s

/-- Records that are not FREE and whose own handle is the slot's (R236): what ALM_ADP_W1.NAMED reads. -/
def State.adpNamed (s : State) (slot : Nat) : Nat :=
  let ver := s.rd (ALM_ADP_W0.VERSION slot)
  if ver = 0 then 0
  else countBelow recordCount (fun r =>
    !s.inState r .free && s.recF r Rec.ADAPTER_VER == ver && s.recF r Rec.ADAPTER_SLOT == slot)

def execAlmRegister (a : Agent) (e : Fin 4096) (p : Fin 64) (s : State) : Host.Outcome State Fault Refusal :=
  .next (s.whenReady .ALM 0 (doAlmRegister a e p))
def execAlmLoad (a : Agent) (e : Fin 4096) (p : Fin 64) (s : State) : Host.Outcome State Fault Refusal :=
  .next (s.whenReady .ALM 0 (doAlmLoad a e p))
def execAlmEvict (a : Agent) (e : Fin 4096) (p : Fin 64) (s : State) : Host.Outcome State Fault Refusal :=
  .next (s.whenReady .ALM 0 (doAlmEvict a e p))
def execAlmPin (a : Agent) (e : Fin 4096) (p : Fin 64) (s : State) : Host.Outcome State Fault Refusal :=
  .next (s.whenReady .ALM 0 (doAlmPin a e p))
def execAlmUnpin (a : Agent) (e : Fin 4096) (p : Fin 64) (s : State) : Host.Outcome State Fault Refusal :=
  .next (s.whenReady .ALM 0 (doAlmUnpin a e p))
def execAlmUnregister (a : Agent) (e : Fin 4096) (p : Fin 64) (s : State) : Host.Outcome State Fault Refusal :=
  .next (s.whenReady .ALM 0 (doAlmUnregister a e p))
def execAlmAdvance (a : Agent) (e : Fin 4096) (p : Fin 64) (s : State) : Host.Outcome State Fault Refusal :=
  .next (s.whenReady .ALM 0 (doAlmAdvance a e p))
def execAlmMoveConfirmed (e : Fin 4096) (frames : List Nat) (s : State) : Host.Outcome State Fault Refusal := .next (doAlmMoveConfirmed e frames s)
def execAlmEvictDone (e : Fin 4096) (s : State) : Host.Outcome State Fault Refusal := .next (doAlmEvictDone e s)
def execAdpLoad (a : Agent) (slot : Fin 256) (p : Fin 64) (entry : BitVec 16) (s : State) : Host.Outcome State Fault Refusal :=
  .next (s.whenReady .ALM 0 (doAdpLoad a slot p entry))
def execAdpRetire (a : Agent) (slot : Fin 256) (p : Fin 64) (s : State) : Host.Outcome State Fault Refusal :=
  .next (s.whenReady .ALM 0 (doAdpRetire a slot p))
def execAdpSlotReady (slot : Fin 256) (s : State) : Host.Outcome State Fault Refusal := .next (doAdpSlotReady slot s)
def execAdpSlotEmpty (slot : Fin 256) (s : State) : Host.Outcome State Fault Refusal := .next (doAdpSlotEmpty slot s)

end Sys2Proof.Machine
end

