-- ==== Sys2Proof/Machine/Maps.lean ====
section
/-! DEFINITION. The system map as its image is laid out (R393), and what the current map governs (R397, R398). -/

namespace Sys2Proof.Machine

/-- Bytes of a map image. -/
def mapBytes : Nat := 0x48000

/-- A little-endian number of an image. -/
def mapNum (t : Tab Byte) (off n : Nat) : Nat :=
  leNat ((List.range n).map (fun i => Tab.get memDefault t (off + i)))

def mapWord (t : Tab Byte) (off : Nat) : Word := BitVec.ofNat 64 (mapNum t off 8)

/-- Header words (Table 19-6). -/
def mapEpoch (t : Tab Byte) : Nat := getBits (mapWord t 0) 32 16
def mapSlots (t : Tab Byte) : Nat := getBits (mapWord t 0) 48 13
def mapSwitchAt (t : Tab Byte) : Nat := (mapWord t 8).toNat
def mapBarPart (t : Tab Byte) : Nat := getBits (mapWord t 16) 0 6
def mapBarKey (t : Tab Byte) : Nat := getBits (mapWord t 16) 32 32
def mapBarOffset (t : Tab Byte) : Nat := getBits (mapWord t 24) 0 44

/-- A node entry (Table 19-7). -/
def nodeW0 (t : Tab Byte) (n : Nat) : Word := mapWord t (0x8000 + 16 * n)
def nodeW1 (t : Tab Byte) (n : Nat) : Word := mapWord t (0x8008 + 16 * n)
def nodeValid (t : Tab Byte) (n : Nat) : Bool := getBit (nodeW0 t n) 0
def nodeAlive (t : Tab Byte) (n : Nat) : Bool := getBit (nodeW0 t n) 1
def nodePorts (t : Tab Byte) (n : Nat) : Nat := getBits (nodeW0 t n) 2 4
def nodeStages (t : Tab Byte) (n : Nat) : Nat := getBits (nodeW0 t n) 8 4
def nodeRack (t : Tab Byte) (n : Nat) : Nat := getBits (nodeW0 t n) 16 16
def nodeAnchPart (t : Tab Byte) (n : Nat) : Nat := getBits (nodeW0 t n) 32 6
def nodeMember (t : Tab Byte) (n slot : Nat) : Bool := getBit (nodeW1 t n) slot
def nodeUsable (t : Tab Byte) (n : Nat) : Bool := nodeValid t n && nodeAlive t n

/-- An anchor slot and a barrier entry (Table 19-8). -/
def anchorSlot (t : Tab Byte) (i : Nat) : Word := BitVec.ofNat 64 (mapNum t (0x1000 + 4 * i) 4)
def anchorNode (t : Tab Byte) (i : Nat) : Nat := getBits (anchorSlot t i) 0 14
def anchorCopyTo (t : Tab Byte) (i : Nat) : Nat := getBits (anchorSlot t i) 16 14
def anchorCopy (t : Tab Byte) (i : Nat) : Bool := getBit (anchorSlot t i) 30
def barrierEntry (t : Tab Byte) (i : Nat) : Word := mapWord t (0x100 + 8 * i)
def barrierRoot (t : Tab Byte) (i : Nat) : Nat := getBits (barrierEntry t i) 0 14
def barrierValid (t : Tab Byte) (i : Nat) : Bool := getBit (barrierEntry t i) 14
def barrierLocal (t : Tab Byte) (i : Nat) : Nat := getBits (barrierEntry t i) 16 8

/-- A map is current: its epoch is not 0. -/
def State.mapCurrent (s : State) : Bool := s.rd (PRT_MAP_STATUS.CUR_EPOCH 0) != 0
def State.curEpoch (s : State) : Nat := s.rd (PRT_MAP_STATUS.CUR_EPOCH 0)
def State.prevEpoch (s : State) : Nat := s.rd (PRT_MAP_STATUS.PREV_EPOCH 0)
def State.prevMap (s : State) : Bool := s.on (PRT_MAP_STATUS.PREV_VALID 0)

/-- A packet may go to the node (R397): its entry is VALID, ALIVE and has ports. -/
def State.nodeReachable (s : State) (n : Nat) : Bool := nodeUsable s.prt.cur n && nodePorts s.prt.cur n != 0

/-- At most one switch stage: a gallery domain (Table 19-9). -/
def State.nodeNear (s : State) (n : Nat) : Bool := decide (nodeStages s.prt.cur n ≤ 1)

/-- The anchor slot of a request (R398). -/
def anchorIndex (slots : Nat) (req : Word) : Nat :=
  ((getBits req 32 32 ^^^ getBits req 0 32) * 0x85EBCA6B % 2 ^ 32) * slots / 2 ^ 32

/-- The anchor node of a request under a map, where the map has anchors. -/
def anchorOf (t : Tab Byte) (req : Word) : Option Nat :=
  if mapSlots t = 0 then none else some (anchorNode t (anchorIndex (mapSlots t) req))

/-- The mirror: the node of the first later slot, taken cyclically, that names another node. -/
def mirrorOf (t : Tab Byte) (req : Word) : Option Nat :=
  let n := mapSlots t
  let i := anchorIndex n req
  (firstBelow n (fun k => anchorNode t ((i + k) % n) != anchorNode t i)).map (fun k => anchorNode t ((i + k) % n))

/-- The members of a barrier slot (R401). -/
def barrierMembers (t : Tab Byte) (slot : Nat) : List Nat := (List.range 16384).filter (fun n => nodeMember t n slot)

end Sys2Proof.Machine
end

