-- ==== Sys2Proof/Machine/Catalogue.lean ====
section
/-! DEFINITION. The catalogue of requests: the class 0x8 instructions, admission, completion records, batches and their
dispatch, pre-emption and slot returns, and the rings of host software (R162 to R187). -/

namespace Sys2Proof.Machine

/-! ## Rings (R187) -/

def catHead (p r : Nat) : FieldRef := if r < 3 then CAT_P_HEAD.INDEX p r else CAT_P_HEAD3.INDEX p
def catTail (p r : Nat) : FieldRef := if r < 3 then CAT_P_TAIL.INDEX p r else CAT_P_TAIL3.INDEX p

/-- Entries of a ring of the catalogue. -/
def State.catCount (s : State) (p r : Nat) : Nat := ringCount (s.rd (catTail p r)) (s.rd (catHead p r))

def State.catSize (s : State) (p r : Nat) : Nat := s.rd (CAT_P_SIZE.ENTRIES p r)

/-- A submission ring holds an entry; a ring of SIZE 0 is not in use (R185). -/
def State.catHas (s : State) (p r : Nat) : Bool := s.catSize p r != 0 && s.catCount p r != 0 && s.atr.warm.isNone

/-- The DPA of entry k of a ring. -/
def ringSlot (base size k esize : Nat) : Nat := base + k % size * esize

/-! ## Completion records (R175, R176) -/

/-- The completion ring has a free entry. -/
def State.cqRoom (s : State) (p : Nat) : Bool := s.catSize p 3 != 0 && decide (s.catCount p 3 < s.catSize p 3)

/-- No completion record of the partition waits. -/
def State.cqClear (s : State) (p : Nat) : Bool := s.cat.waiting.all (fun x => x.1 != p)

/-- Completion record words (Table 8-8). -/
def catRecordWords (status kind reason part index gen : Nat) (tag progress : Word) (retry mer : Nat) : List Word :=
  [setBits (setBits (setBits (setBits (setBits (setBits 0 0 8 status) 8 8 kind) 16 8 reason) 24 6 part) 32 16 index)
    48 16 gen, tag, progress, setBits (setBits 0 0 32 retry) 32 32 mer]

/-- Write a completion record and ring the partition's doorbell. w3[63:32] is the meridian of the write. -/
def State.writeCompletion (s : State) (p : Nat) (ws : List Word) : State :=
  let a := ringSlot (s.rd (CAT_P_BASE.DPA p 3)) (s.catSize p 3) (s.rd (catTail p 3)) 32
  let ws := ws.set 3 (setBits (ws.getD 3 0) 32 32 s.mer32)
  let s := s.devWriteWords (memReport Blk.CAT.code 0 0xFF (some p) a) a ws
  let s := s.addMod (catTail p 3) 1
  s.bell p (s.rd (CAT_P_NOTIFY.DB_SOURCE p))

/-- CQ_STALL counts a meridian in which a record waited, once. -/
def State.countStall (s : State) (p : Nat) : State :=
  if Tab.get (fun _ => 0) s.cat.stalled p = s.mer + 1 then s
  else
    State.inc { s with cat := { s.cat with stalled := Tab.put (fun _ => 0) s.cat.stalled p (s.mer + 1) } }
      (CAT_P_CQ_STALL.COUNT p)

/-- A completion record is written, or waits in order for ring space; it is never dropped (R176). -/
def State.complete (s : State) (p : Nat) (ws : List Word) : State :=
  if s.cqRoom p && s.cqClear p then s.writeCompletion p ws
  else State.countStall { s with cat := { s.cat with waiting := s.cat.waiting ++ [(p, ws)] } } p

/-- Waiting records of a partition are written in order while there is room. -/
def State.drainCompletions (p : Nat) : Nat → State → State
  | 0, s => s
  | fuel + 1, s =>
    match s.cat.waiting.find? (fun x => x.1 == p) with
    | none => s
    | some x =>
      if s.cqRoom p then
        State.drainCompletions p fuel
          (State.writeCompletion { s with cat := { s.cat with waiting := s.cat.waiting.erase x } } p x.2)
      else s

def doCompletionRingDrain (p : Fin 64) (s : State) : State := State.drainCompletions p s.cat.waiting.length s

/-- A completion record of a record: kind 3 or 4. -/
def State.completeRecord (s : State) (i kind status : Nat) : State :=
  s.complete (s.recF i Rec.PART)
    (catRecordWords status kind 0 (s.recF i Rec.PART) i (s.recF i Rec.GEN) (s.recWord i 12) (s.recWord i 10) 0 0)

/-- A device-made change to FAILED: its status, the fault record, the completion record of kind 4 (Table 8-5, R175). -/
def State.failRecord (s : State) (i : Nat) (st : Status) : State :=
  let p := s.recF i Rec.PART
  let s := s.moveRec i .failed st
  let s := s.report { cls := 0x0B, status := st.code, sev := 3, part := some p, blk := Blk.CAT.code,
                      d0 := i, d1 := (s.recWord i 10).toNat }
  s.completeRecord i 4 st.code

/-! ## Admission (R171 to R174) -/

/-- Reserved bits, lengths and PL_ROOT of Table 8-6. -/
def admissionLegal (ws : List Word) : Bool :=
  let w (i : Nat) : Word := ws.getD i 0
  let prompt := getBits (w 2) 0 21
  let maxLen := getBits (w 2) 32 21
  let root := getBits (w 3) 0 57
  getBits (w 0) 3 61 == 0 && getBits (w 2) 21 11 == 0 && getBits (w 2) 53 11 == 0 && getBits (w 3) 57 7 == 0 &&
  getBits (w 4) 56 8 == 0 && getBits (w 5) 48 16 == 0 && getBits (w 6) 14 2 == 0 && getBits (w 6) 22 10 == 0 &&
  getBits (w 6) 46 18 == 0 && decide (prompt ≤ 1048576) && decide (maxLen ≤ 1048576) &&
  (maxLen == 0 || decide (prompt ≤ maxLen)) &&
  (if prompt = 0 then root == 0 else taSpace root == 3 && root % 8 == 0)

/-- The outcome of an admission: the status, its REASON, RETRY_AT, and the record of an admitted request. -/
structure Admission where
  status : Status
  reason : Nat := 0
  retry : Nat := 0
  record : Nat := 0
  deriving DecidableEq, Repr

def State.admits (s : State) (p : Nat) : Nat := Tab.get (fun _ => 0) s.cat.admits p

/-- Checks 2 to 8 of Table 8-7, in order. -/
def State.admissionCheck (s : State) (p : Nat) (be : Bool) : Admission :=
  match firstBelow recordCount (fun i => s.inState i .free) with
  | none => { status := .refusedFull }
  | some i =>
    if s.role p = 0 then { status := .refusedPolicy, reason := 5 }
    else if s.on (PRT_ROLE.DRAINING p) then { status := .refusedPolicy, reason := 6 }
    else if s.rd (CAT_P_QUOTA.QUOTA p) ≤ s.rd (CAT_P_USE.IN_USE p) then { status := .refusedPolicy, reason := 1 }
    else if be && decide (s.rd CAT_FREE.FREE ≤ s.rd CAT_RESERVE.RESERVE) then { status := .refusedPolicy, reason := 2 }
    else if s.rd (CAT_P_ADMIT.RATE p) ≤ s.admits p then
      { status := .deferred, reason := 3, retry := (s.mer + 1) % 2 ^ 32 }
    else if be && s.rd (CAT_P_ADMIT.BE_PRESSURE p) != 0 &&
        decide (s.rd (CAT_P_ADMIT.BE_PRESSURE p) ≤ s.rd (CAT_P_USE.LC_WAITING p)) then
      { status := .deferred, reason := 4, retry := (s.mer + s.rd (CAT_P_ADMIT.BE_BACKOFF p)) % 2 ^ 32 }
    else { status := .ok, record := i }

/-- Write the record of an admitted request (Table 8-5, R162). ANCHOR is the request's anchor under the current map
(DEDUCED, log 14). -/
def State.admitRecord (s : State) (p i : Nat) (ws : List Word) : State :=
  let w (k : Nat) : Word := ws.getD k 0
  let maxLen := getBits (w 2) 32 21
  let dl := getBits (w 5) 0 32
  let ttl := getBits (w 5) 32 16
  let w0 := setBits (setBits (setBits (setBits (setBits 0 0 4 ReqState.admitted.code) 4 1 (getBits (w 0) 0 1))
    5 2 (getBits (w 0) 1 2)) 8 6 p) 32 16 (s.recF i Rec.GEN)
  let anchor := if s.mapCurrent then (anchorOf s.prt.cur (w 1)).getD 0 else 0
  let words : List Word :=
    [w0, w 1, setBits (w 2) 32 21 (if maxLen = 0 then 1048576 else maxLen), 0, w 3, w 4,
     setBits (setBits 0 0 32 dl) 32 16 ttl, BitVec.ofNat 64 (s.expiryAt ttl), setBits 0 32 14 anchor, w 6, 0,
     setBits (setBits 0 0 32 s.mer32) 32 32 s.mer32, w 7, 0, 0, 0]
  let s := s.setWords (recDpa i) words
  let s := s.wr (CAT_P_USE.IN_USE p) (s.rd (CAT_P_USE.IN_USE p) + 1)
  let s := s.wr CAT_FREE.FREE (s.rd CAT_FREE.FREE - 1)
  let s := if s.lcWaits i then s.addLcWaiting p true else s
  { s with cat := { s.cat with admits := Tab.put (fun _ => 0) s.cat.admits p (s.admits p + 1) } }

/-- CAT_BAD and CAT_LAST_BAD of an entry or descriptor ended with BAD_LENGTH or UNCORRECTED. -/
def State.noteBad (s : State) (p source index : Nat) (st : Status) : State :=
  let s := s.inc CAT_BAD.COUNT
  let s := s.wr CAT_LAST_BAD.STATUS st.code
  let s := s.wr CAT_LAST_BAD.PART p
  let s := s.wr CAT_LAST_BAD.SOURCE source
  s.wr CAT_LAST_BAD.INDEX index

/-- The partition's counter of an outcome. -/
def State.countOutcome (s : State) (p : Nat) (st : Status) : State :=
  match st with
  | .ok => s.inc (CAT_P_ADMITTED.COUNT p)
  | .refusedFull => s.inc (CAT_P_REF_FULL.COUNT p)
  | .refusedPolicy => s.inc (CAT_P_REF_POLICY.COUNT p)
  | .deferred => s.inc (CAT_P_DEFERRED.COUNT p)
  | _ => s

/-- Decide one admission request (R173). -/
def State.admitWords (s : State) (p source index : Nat) (ws : List Word) : State × Admission :=
  if !admissionLegal ws then (s.noteBad p source index .badLength, { status := .badLength })
  else
    let r := s.admissionCheck p (getBit (ws.getD 0 0) 0)
    let s := if r.status = .ok then s.admitRecord p r.record ws else s
    (s.countOutcome p r.status, r)

/-- The completion record of a ring admission. -/
def State.completeAdmission (s : State) (p : Nat) (r : Admission) (tag : Word) : State :=
  let gen := if r.status = .ok then s.recF r.record Rec.GEN else 0
  s.complete p (catRecordWords r.status.code 1 r.reason p r.record gen tag 0 r.retry 0)

/-- The catalogue takes the first entry of the partition's LC ring, or else of its BE ring, decides it and writes its
completion record (R172, R173). It takes none while the completion ring is full or a record waits, and none from a ring
whose memory cannot be reached. -/
def doAdmissionEntry (p : Fin 64) (s : State) : State :=
  let r := if s.catHas p 0 then 0 else 1
  let k := s.rd (catHead p r)
  let a := ringSlot (s.rd (CAT_P_BASE.DPA p r)) (s.catSize p r) k 64
  if !s.catHas p r || !s.cqRoom p || !s.cqClear p then s
  else
    match s.storeStatus a 64 with
    | .ok =>
      let ws := s.words a 8
      let d := (s.addMod (catHead p r) 1).admitWords p r k ws
      d.1.completeAdmission p d.2 (ws.getD 7 0)
    | .uncorrected =>
      let s := (s.addMod (catHead p r) 1).report (memReport Blk.CAT.code 0 0xFF (some p.val) a)
      (s.noteBad p r k .uncorrected).completeAdmission p { status := .uncorrected } 0
    | _ => s

/-! ## Class 0x8 instructions (R80, R165, R166, R169, R174) -/

/-- An index of 16,384 or more is an instruction fault. -/
def State.recIndexOk (s : State) (x : LCtx) (f : LFields) : Bool := decide ((s.gReg x f.a.toNat).toNat < recordCount)

def State.recIndex (s : State) (x : LCtx) (f : LFields) : Nat := (s.gReg x f.a.toNat).toNat

def doCrd (x : LCtx) (f : LFields) (s : State) : State :=
  s.issue x 0x80 f (faultUnless (s.recIndexOk x f)) (fun t => t.setG x f.d.toNat (t.recWord (s.recIndex x f) (f.im 0 4)))

/-- A record is in a state from ADMITTED to PARKED. -/
def State.recLive (s : State) (i : Nat) : Bool := decide (1 ≤ s.recState i) && decide (s.recState i ≤ 7)

/-- The rules of Table 8-3 on a CWR of word w with value v. -/
def State.cwrLegal (s : State) (i w : Nat) (v : Word) : Bool :=
  if w = 3 then
    s.inStates i [.admitted, .prefill, .handoverIn, .decode] && getBits v 21 3 == 0 && getBits v 28 4 == 0 &&
    getBits v 49 15 == 0 && decide (getBits v 24 4 ≤ 8) && decide (getBits v 32 17 ≤ 65536)
  else if w = 4 then
    s.inStates i [.admitted, .handoverIn, .paused] && getBits v 57 7 == 0 && taSpace v.toNat == 3 && v.toNat % 8 == 0
  else if w = 6 then s.recLive i && getBits v 48 16 == 0
  else if w = 9 then
    s.inStates i [.admitted, .prefill, .decode, .paused, .parked] && getBits v 14 2 == 0 && getBits v 22 10 == 0 &&
    getBits v 46 18 == 0
  else decide (12 ≤ w) && !s.inState i .free

/-- Groups of the entries that a raised PL_LEN takes in go to the stairwell for homing (R248). -/
def State.homeEntries (s : State) (i lo hi : Nat) : State :=
  let p := s.recF i Rec.PART
  let due := (List.range (hi - lo)).filterMap (fun k =>
    match s.recGroup i (lo + k) with
    | some g => if s.groupState p g = GroupState.allocated.code then some (p, i, lo + k) else none
    | none => none)
  { s with stw := { s.stw with homing := s.stw.homing ++ due } }

/-- The write of a program-writable word. -/
def State.cwrWrite (s : State) (i w : Nat) (v : Word) : State :=
  if w = 3 then
    let old := s.recF i Rec.PL_LEN
    let s := s.setRec i Rec.TENTATIVE (getBits v 24 4)
    let s := s.setRec i Rec.PL_LEN (getBits v 32 17)
    s.homeEntries i old (getBits v 32 17)
  else if w = 6 then (s.setRecWord i 6 v).setRecWord i 7 (BitVec.ofNat 64 (s.expiryAt (getBits v 32 16)))
  else s.setRecWord i w v

def doCwr (x : LCtx) (f : LFields) (s : State) : State :=
  s.issue x 0x81 f (faultUnless (s.recIndexOk x f)) (fun t =>
    let i := s.recIndex x f
    let v := s.gReg x f.b.toNat
    if t.cwrLegal i (f.im 0 4) v then (t.cwrWrite i (f.im 0 4) v).setP x (f.im 4 3) true
    else t.setP x (f.im 4 3) false)

/-- A transition by CSTATE (Table 8-5). -/
def State.cstate (s : State) (i dst : Nat) : State :=
  if dst = 0 then s.releaseRec i
  else if dst = 9 then s.moveRec i .failed .partialDone
  else
    let goal := [ReqState.handoverOut, .handoverIn, .decode, .paused, .done].find? (fun st => st.code == dst)
    s.setRecState i (goal.getD .done)

def doCstate (x : LCtx) (f : LFields) (s : State) : State :=
  s.issue x 0x82 f (faultUnless (s.recIndexOk x f)) (fun t =>
    let i := s.recIndex x f
    let src := f.im 0 4
    let dst := f.im 4 4
    if t.recState i = src ∧ cstateAllowed src dst ∧ (dst = 0 → t.recF i Rec.IN_BATCH = 0) then
      (t.cstate i dst).setP x (f.im 8 3) true
    else t.setP x (f.im 8 3) false)

/-- CADMIT of the request at local address ga, in the partition of the context (R174, R85). -/
def doCadmit (x : LCtx) (f : LFields) (s : State) : State :=
  let a := (s.gReg x f.a.toNat).toNat
  s.issue x 0x83 f (faultUnless ((s.ctxPart x).isSome && localOk x a 64)) (fun t =>
    let p := (s.ctxPart x).getD 0
    let r := t.admitWords p 3 0 (t.localWords x.unit a 8)
    let st := r.2.status
    let w := setBits (setBits (setBits (setBits 0 0 14 (if st = Status.ok then r.2.record else 0)) 16 8 st.code) 24 8
      r.2.reason) 32 32 r.2.retry
    (r.1.setG x f.d.toNat w).setP x (f.im 0 3) (st == Status.ok))

def State.recOpen (s : State) (i : Nat) : Bool := !s.inStates i [.free, .done, .failed]

/-- CCOMMIT (R166). -/
def doCcommit (x : LCtx) (f : LFields) (s : State) : State :=
  s.issue x 0x84 f (faultUnless (s.recIndexOk x f)) (fun t =>
    let i := s.recIndex x f
    let n := (s.gReg x f.b.toNat).toNat
    if t.recOpen i ∧ n ≤ t.recF i Rec.TENTATIVE ∧ t.recF i Rec.COMMITTED + n ≤ t.recF i Rec.MAX_LEN then
      let c := t.recF i Rec.COMMITTED + n
      let u := if n = 0 then t
        else (((t.setRec i Rec.COMMITTED c).setRec i Rec.TENTATIVE (t.recF i Rec.TENTATIVE - n)).setRec i Rec.P_TOKENS c).countPart
          (t.recF i Rec.PART) 0 n
      u.setP x (f.im 0 3) true
    else t.setP x (f.im 0 3) false)

/-- Free the groups of page-list entries lo to hi - 1 and write the entries to 0 (R195). -/
def State.trimEntries (s : State) (i lo hi : Nat) : State :=
  let p := s.recF i Rec.PART
  let root := s.recF i Rec.PL_ROOT
  (List.range (hi - lo)).foldl (fun s k =>
    let s := match s.recGroup i (lo + k) with
      | some g => s.freeGroup p g
      | none => s
    s.landWrite p (root + 8 * (lo + k)) (leBytes 8 0)) s

/-- CTRIM (R166, R195). -/
def doCtrim (x : LCtx) (f : LFields) (s : State) : State :=
  s.issue x 0x85 f (faultUnless (s.recIndexOk x f)) (fun t =>
    let i := s.recIndex x f
    if t.recOpen i then
      let keep := (t.recF i Rec.COMMITTED + 15) / 16
      let u := t.trimEntries i keep (t.recF i Rec.PL_LEN)
      let u := (u.countPart (t.recF i Rec.PART) 1 (t.recF i Rec.TENTATIVE)).countPart (t.recF i Rec.PART) 2 1
      ((u.setRec i Rec.TENTATIVE 0).setRec i Rec.PL_LEN keep).setP x (f.im 0 3) true
    else t.setP x (f.im 0 3) false)

def doCprog (x : LCtx) (f : LFields) (s : State) : State :=
  s.issue x 0x86 f (faultUnless (s.recIndexOk x f)) (fun t => t.setRecWord (s.recIndex x f) 10 (s.gReg x f.b.toNat))

/-! ## Batches (R177 to R184) -/

def State.setBatches (s : State) (bs : List Batch) : State := { s with cat := { s.cat with batches := bs } }

/-- Replace a batch, named by its SEQ. -/
def State.putBatch (s : State) (b : Batch) : State :=
  s.setBatches (s.cat.batches.map (fun x => if x.seq = b.seq then b else x))

/-- The counts of batches in the table. -/
def State.countBatches (s : State) (p : Nat) : State :=
  let s := s.wr CAT_FREE.BATCHES s.cat.batches.length
  s.wr (CAT_P_USE.BATCHES p) (s.cat.batches.filter (fun b => b.part == p)).length

/-- What validation finds: a status, its REASON and the offending list entry. -/
structure BatchCheck where
  status : Status := .ok
  reason : Nat := 0
  index : Nat := 0
  deriving DecidableEq, Repr

/-- Reserved fields and lengths of the header (R179). -/
def batchHeaderLegal (ws : List Word) : Bool :=
  let w (i : Nat) : Word := ws.getD i 0
  let kind := getBits (w 0) 16 4
  let draft := getBits (w 0) 24 4
  let steps := getBits (w 0) 32 16
  getBits (w 0) 20 4 == 0 && getBits (w 0) 28 4 == 0 && getBits (w 0) 48 16 == 0 && getBits (w 2) 32 32 == 0 &&
  getBits (w 3) 56 8 == 0 && getBits (w 5) 40 24 == 0 && w 6 == 0 && w 7 == 0 && decide (kind ≤ 1) &&
  decide (getBits (w 0) 0 16 ≤ 4096) && decide (draft ≤ 8) && (kind == 1 || (draft == 0 && steps == 0))

/-- The adapter handle a batch binds for a record: its own, else the header's; none with version 0 (R180). -/
def State.boundHandle (s : State) (i : Nat) (hdr : Word) : Option (Nat × Nat) :=
  if s.recF i Rec.ADAPTER_VER ≠ 0 then some (s.recF i Rec.ADAPTER_SLOT, s.recF i Rec.ADAPTER_VER)
  else if getBits hdr 40 16 ≠ 0 then some (getBits hdr 32 8, getBits hdr 40 16)
  else none

/-- A slot holds a version for a partition: only in READY (R233). -/
def State.handleHeld (s : State) (p : Nat) (h : Nat × Nat) : Bool :=
  s.adpState h.1 == 2 && s.rd (ALM_ADP_W0.PART h.1) == p && s.rd (ALM_ADP_W0.VERSION h.1) == h.2

/-- The checks of one list entry, in the order of R179's bullets. -/
def State.entryCheck (s : State) (p : Nat) (hdr : List Word) (seen : List Nat) (j : Nat) (e : Word) : BatchCheck :=
  let i := getBits e 0 14
  let kind := getBits (hdr.getD 0 0) 16 4
  let draft := getBits (hdr.getD 0 0) 24 4
  let noDraft := s.recF i Rec.DRAFT == 0xFFFF && getBits (hdr.getD 3 0) 16 16 == 0xFFFF
  let want : ReqState := if kind = 0 then .admitted else .decode
  if getBits e 14 2 ≠ 0 ∨ getBits e 32 32 ≠ 0 ∨ (draft ≠ 0 ∧ noDraft) then { status := .badLength, index := j }
  else if s.recF i Rec.PART ≠ p ∨ s.recF i Rec.GEN ≠ getBits e 16 16 ∨ s.recF i Rec.IN_BATCH = 1 ∨ seen.contains i ∨
      !s.inState i want then { status := .refusedPolicy, reason := 7, index := j }
  else
    match s.boundHandle i (hdr.getD 3 0) with
    | some h => if s.handleHeld p h then {} else { status := .refusedPolicy, reason := 8, index := j }
    | none => {}

/-- The list entries in order, each read at its address (DEDUCED, log 112: an entry that cannot be read refuses the batch at that
entry). -/
def State.entriesCheck (s : State) (p a : Nat) (hdr : List Word) : Nat → List Nat → Nat → BatchCheck
  | 0, _, _ => {}
  | n + 1, seen, j =>
    let st := s.accessStatus (a + 64 + 8 * j) 8
    if st ≠ .ok then { status := st, index := j }
    else
      let e := s.word (a + 64 + 8 * j)
      let r := s.entryCheck p hdr seen j e
      if r.status = .ok then s.entriesCheck p a hdr n (getBits e 0 14 :: seen) (j + 1) else r

/-- The check of a batch with a COUNT above 0: the header first, then each list entry in order (R179). -/
def State.batchCheck (s : State) (p a : Nat) (hdr : List Word) : BatchCheck :=
  let count := getBits (hdr.getD 0 0) 0 16
  let kind := getBits (hdr.getD 0 0) 16 4
  let role := s.role p
  if !batchHeaderLegal hdr then { status := .badLength }
  else if (kind = 0 ∧ role ≠ 1 ∧ role ≠ 4) ∨ (kind = 1 ∧ role ≠ 2 ∧ role ≠ 4) then
    { status := .refusedPolicy, reason := 5 }
  else s.entriesCheck p a hdr count [] 0

/-- Bind one record to a batch: its adapter, IN_BATCH and BATCH_SEQ (R180). -/
def State.bindRecord (s : State) (seq : Nat) (hdr : Word) (i : Nat) : State :=
  let s := match s.boundHandle i hdr with
    | some h =>
      let s := s.setRec i Rec.ADAPTER_SLOT h.1
      let s := s.setRec i Rec.ADAPTER_VER h.2
      s.wr (ALM_ADP_W0.REFS h.1) (s.rd (ALM_ADP_W0.REFS h.1) + 1)
    | none => s
  (s.setRec i Rec.IN_BATCH 1).setRec i Rec.BATCH_SEQ seq

/-- The almanac entries a field pair MODEL, DRAFT names. -/
def namedEntries (model draft : Nat) : List Nat := [model, draft].filter (fun e => decide (e < 4096))

/-- The batch that validation makes of a descriptor. -/
def State.makeBatch (s : State) (p a : Nat) (hdr : List Word) : Batch :=
  let recs := (s.words (a + 64) (getBits (hdr.getD 0 0) 0 16)).map (fun e => getBits e 0 14)
  let w3 := hdr.getD 3 0
  let lcs := recs.filter (fun i => s.recF i Rec.BE == 0)
  let slots := recs.filterMap (fun i => (s.boundHandle i w3).map (fun h => h.1))
  let hdrNames := namedEntries (getBits w3 0 16) (getBits w3 16 16) ++
    (if getBits w3 40 16 ≠ 0 then [s.rd (ALM_ADP_W0.ALM_ENTRY (getBits w3 32 8))] else [])
  { part := p, seq := s.cat.nextSeq, dpa := a, tag := hdr.getD 1 0, kind := getBits (hdr.getD 0 0) 16 4,
    recs := recs.map (fun i => (i, s.recF i Rec.ADAPTER_VER == 0 && getBits w3 40 16 != 0)),
    refs := slots, lc := !lcs.isEmpty,
    level := lcs.foldl (fun l i => min l (s.recF i Rec.LEVEL)) 4,
    deadline := getBits (hdr.getD 2 0) 0 32, named := hdrNames,
    used := hdrNames ++ recs.flatMap (fun i => namedEntries (s.recF i Rec.MODEL) (s.recF i Rec.DRAFT)) ++
      slots.map (fun x => s.rd (ALM_ADP_W0.ALM_ENTRY x)),
    waitFrom := s.mer, progress := hdr.getD 4 0 }

/-- A refused or empty batch's completion record and counters. -/
def State.endDescriptor (s : State) (p k : Nat) (r : BatchCheck) (tag : Word) : State :=
  let s := match r.status with
    | .badLength => s.noteBad p 2 k .badLength
    | .uncorrected => s.noteBad p 2 k .uncorrected
    | .refusedPolicy =>
      let s := s.inc (CAT_P_REF_POLICY.COUNT p)
      if r.reason = 8 then s.inc ALM_ADP_BIND_REFUSED.COUNT else s
    | _ => s
  s.complete p (catRecordWords r.status.code 2 r.reason p r.index 0 tag 0 0 0)

/-- Enter a validated batch in the table: bind its records and write its SEQ in the header. -/
def State.enterBatch (s : State) (b : Batch) (hdr : List Word) : State :=
  let s := b.recs.foldl (fun s x => s.bindRecord (b.seq % 65536) (hdr.getD 3 0) x.1) s
  let s := s.setWord (b.dpa + 40) (setBits (setBits (hdr.getD 5 0) 0 32 b.seq) 32 8 0)
  let s := { s with cat := { s.cat with batches := s.cat.batches ++ [b], nextSeq := (s.cat.nextSeq + 1) % 2 ^ 32 } }
  s.countBatches b.part

/-- The catalogue takes the first entry of the partition's batch ring (R178, R179, R180). -/
def doBatchValidate (p : Fin 64) (s : State) : State :=
  let k := s.rd (catHead p 2)
  let slot := ringSlot (s.rd (CAT_P_BASE.DPA p 2)) (s.catSize p 2) k 8
  if !s.catHas p 2 || !s.cqRoom p || !s.cqClear p || decide (256 ≤ s.cat.batches.length) ||
      s.storeStatus slot 8 == .linkFailed then s
  else
    let e := s.word slot
    let a := getBits e 0 48
    let s1 := s.addMod (catHead p 2) 1
    if s.storeStatus slot 8 = .uncorrected then
      (s1.report (memReport Blk.CAT.code 0 0xFF (some p.val) slot)).endDescriptor p k { status := .uncorrected } 0
    else if getBits e 48 16 ≠ 0 ∨ a % 64 ≠ 0 then s1.endDescriptor p k { status := .badLength } 0
    else if s.accessStatus a 64 ≠ .ok then
      (s1.noteAccess false (memReport Blk.CAT.code 0 0xFF (some p.val) a) a 64).endDescriptor p k
        { status := s.accessStatus a 64 } 0
    else
      let hdr := s.words a 8
      if getBits (hdr.getD 0 0) 0 16 = 0 then s1.endDescriptor p k {} (hdr.getD 1 0)
      else
        let r := s.batchCheck p a hdr
        if r.status = .ok then s1.enterBatch (s1.makeBatch p a hdr) hdr
        else if r.status = .uncorrected ∨ r.status = .linkFailed then
          let bad := a + 64 + 8 * r.index
          (s1.noteAccess false (memReport Blk.CAT.code 0 0xFF (some p.val) bad) bad 8).endDescriptor p k r (hdr.getD 1 0)
        else s1.endDescriptor p k r (hdr.getD 1 0)

/-! ## Dispatch (R131, R132, R181) -/

/-- The order of R181 as one number: the lower comes first. -/
def State.batchRank (s : State) (b : Batch) : Nat :=
  let dist := if b.deadline = 0 then 2 ^ 32 else (b.deadline + 2 ^ 32 - s.mer32) % 2 ^ 32
  (((b01 (!b.lc)) * 8 + b.level) * 2 ^ 33 + dist) * 2 ^ 32 + b.seq

/-- The first of a list by a rank. -/
def firstBy {α : Type} (rank : α → Nat) : List α → Option α
  | [] => none
  | x :: xs =>
    match firstBy rank xs with
    | none => some x
    | some y => if rank x ≤ rank y then some x else some y

def State.firstQueued (s : State) (p : Nat) (lcOnly : Bool) : Option Batch :=
  firstBy s.batchRank (s.cat.batches.filter (fun b => b.part == p && b.state == .queued && (b.lc || !lcOnly)))

/-- Galleries of a partition's dispatch group. -/
def State.groupGals (s : State) (p grp : Nat) : List Nat :=
  (s.galleriesOf p).filter (fun g => s.rd (GAL_DISPATCH.GROUP g) == grp)

def State.outstanding (s : State) (g : Nat) : Nat := Tab.get (fun _ => 0) s.cat.outstanding g

def State.setOutstanding (s : State) (g n : Nat) : State :=
  { s with cat := { s.cat with outstanding := Tab.put (fun _ => 0) s.cat.outstanding g n } }

/-- Free slots of a group: those that every gallery of it has free. -/
def State.groupFree (s : State) (p grp : Nat) : Nat :=
  match s.groupGals p grp with
  | [] => 0
  | g :: gs => gs.foldl (fun n x => min n (s.rd (GAL_DISPATCH.SLOTS x) - s.outstanding x))
      (s.rd (GAL_DISPATCH.SLOTS g) - s.outstanding g)

def State.galState (s : State) (g : Nat) : Nat := s.rd (GAL_PREEMPT_STATUS.STATE g)

/-- A group may take a dispatch: a free slot, and no pre-emption of it. -/
def State.groupEligible (s : State) (p grp : Nat) : Bool :=
  decide (0 < s.groupFree p grp) && (s.groupGals p grp).all (fun g => s.galState g == 0) &&
  !(s.cat.preempts.any (fun x => x.part == p && x.group == grp))

/-- Frames of an almanac entry homed in a gallery's store (R133). -/
def State.residentFrames (s : State) (g e : Nat) : Nat :=
  if s.almState e = 0 then 0
  else countBelow (s.almUnits e) (fun i =>
    let t := s.entry (s.almPart e) (s.almSpace e) (s.almFirst e + i)
    t.homed && t.tier == 0 && decide (galleryBase g ≤ t.home) && decide (t.home < galleryBase g + 0x2000000))

/-- The entries GAL_RESIDENT lists: up to 8, those with the most frames, ties to the lowest number (R133). -/
def State.topResident (s : State) (g : Nat) : Nat → List Nat → List Nat
  | 0, _ => []
  | n + 1, es =>
    match firstBy (fun e => 2 ^ 32 - s.residentFrames g e) es with
    | none => []
    | some e => e :: s.topResident g n (es.filter (fun x => x != e))

def State.residentEntries (s : State) (g : Nat) : List Nat :=
  (List.range 4096).filter (fun e => decide (0 < s.residentFrames g e))

def State.residentList (s : State) (g : Nat) : List Nat := s.topResident g 8 (s.residentEntries g)

/-- The group chosen by R132 for a batch. -/
def State.chooseGroup (s : State) (b : Batch) : Option Nat :=
  let es := (List.range 16).filter (fun grp => s.groupEligible b.part grp)
  let pref := es.filter (fun grp => (s.groupGals b.part grp).any (fun g =>
    (s.residentList g).any (fun e => b.named.contains e)))
  firstBy (fun grp => 16 - s.groupFree b.part grp) (if pref.isEmpty then es else pref)

/-- The token and the outstanding slot of one gallery (R131). -/
def State.giveBatch (s : State) (g : Nat) : State :=
  let s := s.issueGive { unit := g, credit := false, ctr := s.rd (GAL_DISPATCH.KCTR g), count := 1, giver := 0xFF }
  s.setOutstanding g (s.outstanding g + 1)

/-- Dispatch a batch to a group (R181). -/
def State.dispatch (s : State) (b : Batch) (grp : Nat) (gals : List Nat) (pre : Bool) : State :=
  let p := b.part
  let s := s.putBatch { b with state := .running, group := grp, gals := gals, preempting := pre,
                               dispatchNo := s.cat.nextDispatch }
  let s := { s with cat := { s.cat with nextDispatch := s.cat.nextDispatch + 1 } }
  let s := if b.kind = 0 then
      b.recs.foldl (fun s x => if s.inState x.1 .admitted then s.setRecState x.1 .prefill else s) s
    else s
  let s := gals.foldl State.giveBatch s
  let s := s.countPart p 3 1
  let e := s.rd (CAT_P_DISP_SEQ.SEQ p) % 8
  let s := s.wr (CAT_P_WIN_W0.DPA p e) b.dpa
  let s := s.wr (CAT_P_WIN_W0.GROUP p e) grp
  let s := s.wr (CAT_P_WIN_W0.PREEMPTING p e) (b01 pre)
  let s := s.wr (CAT_P_WIN_W1.SEQ p e) b.seq
  let s := s.wr (CAT_P_WIN_W1.MERIDIAN p e) s.mer32
  let s := s.addMod (CAT_P_DISP_SEQ.SEQ p) 1
  let s := if s.on (CAT_P_NOTIFY.EN p) then
      (s.giveFromBlock .CAT (s.rd (CAT_P_NOTIFY.UNIT p)) (s.rd (CAT_P_NOTIFY.CTR p))).settleReports
    else s
  b.used.foldl (fun s x => if s.almState x = 0 then s else s.wr (ALM_E_W6.LAST_USE x) s.mer) s

/-- Ask the galleries of a group for pre-emption, or end it: a commit of GAL_PREEMPT.REQ (R182). -/
def State.commitPreempt (s : State) (gals : List Nat) (req : Nat) : State :=
  gals.foldl (fun s g => (s.wrShadow (GAL_PREEMPT.REQ g) req).requestCommit .GAL g) s

def State.dropPreempt (s : State) (x : Preempt) : State :=
  { s with cat := { s.cat with preempts := s.cat.preempts.erase x } }

/-- A running batch of the group is pre-empted: its records and header count it (R182). -/
def State.preemptBatch (s : State) (b : Batch) : State :=
  let s := s.putBatch { b with state := .preempted }
  let s := b.recs.foldl (fun s x => s.setRec x.1 Rec.PREEMPTS (min 255 (s.recF x.1 Rec.PREEMPTS + 1))) s
  let h := s.word (b.dpa + 40)
  s.devWriteWords (memReport Blk.CAT.code 0 0xFF (some b.part) (b.dpa + 40)) (b.dpa + 40)
    [setBits h 32 8 (min 255 (getBits h 32 8 + 1))]

/-- Batches that run on a group. -/
def State.runningOn (s : State) (p grp : Nat) : List Batch :=
  s.cat.batches.filter (fun b => b.part == p && b.group == grp && b.state == .running)

/-- The pre-empting dispatch of R182, step 2: a latency-critical batch goes to a group whose every gallery is in LC. -/
def State.dispatchPreempting (s : State) (x : Preempt) : State :=
  match s.firstQueued x.part true with
  | none => (s.commitPreempt x.gals 0).dropPreempt x
  | some b =>
    let old := s.runningOn x.part x.group
    let s := old.foldl State.preemptBatch s
    let s := if old.isEmpty then s else s.inc (CAT_P_PREEMPTED.COUNT x.part)
    (s.dispatch b x.group x.gals true).dropPreempt x

/-- The catalogue dispatches: to a pre-empted group whose galleries are all in LC, else the first QUEUED batch to a
group with a free slot (R181, R182). -/
def doBatchDispatch (p : Fin 64) (s : State) : State :=
  match s.cat.preempts.find? (fun x => x.part == p.val && x.gals.all (fun g => s.galState g == 3)) with
  | some x => s.dispatchPreempting x
  | none =>
    match s.firstQueued p false with
    | none => s
    | some b =>
      match s.chooseGroup b with
      | none => s
      | some grp => s.dispatch b grp (s.groupGals p grp) false

/-- A group the catalogue may pre-empt (R182). -/
def State.preemptable (s : State) (p grp : Nat) : Bool :=
  let run := s.runningOn p grp
  !run.isEmpty && run.all (fun b => !b.lc) &&
  (s.groupGals p grp).all (fun g => s.rd (GAL_PREEMPT.ENTRY g) != 0 && s.rd (GAL_HBM.RATE g) != 0 && s.galState g == 0)

/-- The number of the newest dispatch to a group, plus 1. -/
def State.newestDispatch (s : State) (p grp : Nat) : Nat :=
  (s.runningOn p grp).foldl (fun n b => max n (b.dispatchNo + 1)) 0

/-- The first QUEUED latency-critical batch has waited PREEMPT_WAIT meridians with no eligible group: the catalogue asks
for pre-emption of one best-effort group (R182). -/
def doBatchPreemptRequest (p : Fin 64) (s : State) : State :=
  match s.firstQueued p true with
  | none => s
  | some b =>
    let waited := decide (s.rd (CAT_P_ADMIT.PREEMPT_WAIT p) ≤ s.mer - b.waitFrom)
    if s.on (CAT_P_ADMIT.PREEMPT_EN p) && waited && (s.chooseGroup b).isNone &&
        s.cat.preempts.all (fun x => x.part != p.val) then
      match firstBy (fun grp => s.cat.nextDispatch + 1 - s.newestDispatch p grp)
          ((List.range 16).filter (fun grp => s.preemptable p grp)) with
      | none => s
      | some grp =>
        let gals := s.groupGals p grp
        let x : Preempt := { part := p, group := grp, gals := gals }
        let s := { s with cat := { s.cat with preempts := s.cat.preempts ++ [x] } }
        s.commitPreempt gals 1
    else s

/-- A gallery refuses the catalogue's request at the apply point: the request ends, and the batch waits again (R182,
step 3). -/
def State.preemptRefused (s : State) (g : Nat) : State :=
  match s.cat.preempts.find? (fun x => x.gals.contains g) with
  | none => s
  | some x =>
    let s := (s.commitPreempt x.gals 0).dropPreempt x
    match s.firstQueued x.part true with
    | some b => s.putBatch { b with waitFrom := s.mer }
    | none => s

/-! ## Slot returns and completion (R131, R183, R184) -/

/-- The progress word of a batch's records: the smallest LAYERS and TOKENS, the sum of KIB (R183). -/
def State.batchProgress (s : State) (b : Batch) (st : Nat) : Word :=
  let layers := b.recs.foldl (fun n x => min n (s.recF x.1 Rec.P_LAYERS)) 255
  let tokens := b.recs.foldl (fun n x => min n (s.recF x.1 Rec.P_TOKENS)) (2 ^ 21 - 1)
  let kib := b.recs.foldl (fun n x => n + s.recF x.1 Rec.P_KIB) 0
  setBits (setBits (setBits (setBits 0 0 8 st) 8 8 layers) 16 21 tokens) 37 27 (min kib (2 ^ 27 - 1))

/-- At a landing the header's PROGRESS follows a running batch's word, with STATUS 0x01, where it changed. -/
def State.batchProgressWrites (s : State) : State :=
  (s.cat.batches.filter (fun b => b.state != .queued)).foldl (fun s b =>
    let w := s.batchProgress b Status.partialDone.code
    if w = b.progress then s
    else
      (s.putBatch { b with progress := w }).devWriteWords (memReport Blk.CAT.code 0 0xFF (some b.part) (b.dpa + 32))
        (b.dpa + 32) [w]) s

/-- A batch is DONE (Table 8-11): its records leave it, its adapter references are released, its completion record is
written. -/
def State.finishBatch (s : State) (b : Batch) (st : Status) : State :=
  let word := s.batchProgress b st.code
  let s := b.recs.foldl (fun s x =>
    let s := s.setRec x.1 Rec.IN_BATCH 0
    if x.2 then (s.setRec x.1 Rec.ADAPTER_SLOT 0).setRec x.1 Rec.ADAPTER_VER 0 else s) s
  let s := b.refs.foldl (fun s i => s.wr (ALM_ADP_W0.REFS i) (s.rd (ALM_ADP_W0.REFS i) - 1)) s
  let s := (s.setBatches (s.cat.batches.filter (fun x => x.seq != b.seq))).countBatches b.part
  let s := if b.preempting then s.commitPreempt b.gals 0 else s
  s.complete b.part (catRecordWords st.code 2 0 b.part 0 0 b.tag word 0 0)

/-- The running batch a return of gallery g is credited to (R183). -/
def State.creditBatch (s : State) (g : Nat) : Option Batch :=
  let lc := s.galState g == 3
  firstBy (fun b => b.dispatchNo) (s.cat.batches.filter (fun b =>
    b.state == .running && b.gals.contains g && !b.credited.contains g && (b.preempting || !lc)))

/-- One returned slot. -/
def State.returnSlot (s : State) (g : Nat) : State :=
  let s := s.setOutstanding g (s.outstanding g - 1)
  match s.creditBatch g with
  | none => s
  | some b =>
    let b := { b with credited := b.credited ++ [g] }
    if b.gals.all (fun x => b.credited.contains x) then (s.putBatch b).finishBatch b b.endStatus else s.putBatch b

def State.returnSlots (g : Nat) : Nat → State → State
  | 0, s => s
  | n + 1, s => State.returnSlots g n (s.returnSlot g)

/-- A write of GAL_BATCH_DONE by the gallery itself, a newel core or the primary PF (R131). A return beyond the gallery's
outstanding slots is discarded whole. -/
def doGalBatchDone (a : Agent) (g : Fin 16) (count : Fin 16) (s : State) : State :=
  if !s.mayWriteGal a g then s.refuseWrite a .GAL g
  else if s.outstanding g < count then s.countRefused .GAL g
  else State.returnSlots g count s

/-! ## Time-driven changes of records (Table 8-5, R167, R168) -/

/-- Free every group of a record's page list. -/
def State.freeRecGroups (s : State) (i : Nat) : State :=
  let p := s.recF i Rec.PART
  (List.range (s.recF i Rec.PL_LEN)).foldl (fun s k =>
    match s.recGroup i k with
    | some g => s.freeGroup p g
    | none => s) s

/-- At a landing a PAUSED or PARKED record whose EXPIRY has passed is DONE (Table 8-5). -/
def doRecordExpiry (i : Fin 16384) (s : State) : State :=
  let at_ := s.recF i Rec.EXPIRY
  if s.inLanding ∧ s.inStates i [.paused, .parked] ∧ at_ ≠ 0 ∧ at_ ≤ s.mer then
    let s := s.setRec i Rec.EXPIRED 1
    let s := s.moveRec i .done .ok
    let s := s.inc (CAT_P_EXPIRED.COUNT (s.recF i Rec.PART))
    let s := s.freeRecGroups i
    s.completeRecord i 3 Status.ok.code
  else s

/-- The first landing that finds a serving record's deadline passed (R168). -/
def doDeadlineMissed (i : Fin 16384) (s : State) : State :=
  let d := s.recF i Rec.DEADLINE
  if s.inLanding ∧ s.inStates i [.admitted, .prefill, .handoverOut, .handoverIn, .decode] ∧ d ≠ 0 ∧
      s.recF i Rec.DL_MISSED = 0 ∧ s.deadlinePassed d then
    (s.setRec i Rec.DL_MISSED 1).inc (CAT_P_DL_MISS.COUNT (s.recF i Rec.PART))
  else s

/-- HANDOVER_IN_LIMIT meridians since a record entered HANDOVER_IN (Table 8-5). -/
def doHandoverInTimeout (i : Fin 16384) (s : State) : State :=
  let lim := s.rd (CAT_P_TIMEOUT.HANDOVER_IN_LIMIT (s.recF i Rec.PART))
  let age := (s.mer32 + 2 ^ 32 - s.recF i Rec.CHANGED_AT) % 2 ^ 32
  if s.inState i .handoverIn ∧ lim ≠ 0 ∧ lim ≤ age then s.failRecord i .linkFailed else s

/-- An uncorrectable error in a record that serves (Table 8-5). -/
def doRecordUe (i : Fin 16384) (s : State) : State :=
  if s.recLive i then s.noteUe.failRecord i .uncorrected else s.noteUe

/-! ## Host writes of the catalogue's registers (R187) -/

/-- CAT_P_RELEASE with GO 1 (Table 8-5, R187). -/
def doRecordRelease (a : Agent) (p : Fin 64) (record : Fin 16384) (gen : BitVec 16) (s : State) : State :=
  if !s.mayWritePart a p then s.refuseWrite a .CAT 0
  else if s.inStates record [.done, .failed] ∧ s.recF record Rec.GEN = gen.toNat ∧ s.recF record Rec.PART = p ∧
      s.recF record Rec.IN_BATCH = 0 then s.releaseRec record
  else s.countRefused .CAT 0

def execCompletionRingDrain (p : Fin 64) (s : State) : Host.Outcome State Fault Refusal := .next (doCompletionRingDrain p s)
def execAdmissionEntry (p : Fin 64) (s : State) : Host.Outcome State Fault Refusal := .next (doAdmissionEntry p s)
def execCrd (x : LCtx) (f : LFields) (s : State) : Host.Outcome State Fault Refusal := .next (doCrd x f s)

def execCwr (x : LCtx) (f : LFields) (s : State) : Host.Outcome State Fault Refusal := .next (doCwr x f s)

def execCstate (x : LCtx) (f : LFields) (s : State) : Host.Outcome State Fault Refusal := .next (doCstate x f s)

def execCadmit (x : LCtx) (f : LFields) (s : State) : Host.Outcome State Fault Refusal := .next (doCadmit x f s)

def execCcommit (x : LCtx) (f : LFields) (s : State) : Host.Outcome State Fault Refusal := .next (doCcommit x f s)

def execCtrim (x : LCtx) (f : LFields) (s : State) : Host.Outcome State Fault Refusal := .next (doCtrim x f s)

def execCprog (x : LCtx) (f : LFields) (s : State) : Host.Outcome State Fault Refusal := .next (doCprog x f s)
def execBatchValidate (p : Fin 64) (s : State) : Host.Outcome State Fault Refusal := .next (doBatchValidate p s)
def execBatchDispatch (p : Fin 64) (s : State) : Host.Outcome State Fault Refusal := .next (doBatchDispatch p s)
def execBatchPreemptRequest (p : Fin 64) (s : State) : Host.Outcome State Fault Refusal := .next (doBatchPreemptRequest p s)
def execGalBatchDone (a : Agent) (g : Fin 16) (count : Fin 16) (s : State) : Host.Outcome State Fault Refusal :=
  .next (s.whenReady .GAL g.val (doGalBatchDone a g count))
def execRecordExpiry (i : Fin 16384) (s : State) : Host.Outcome State Fault Refusal := .next (doRecordExpiry i s)
def execDeadlineMissed (i : Fin 16384) (s : State) : Host.Outcome State Fault Refusal := .next (doDeadlineMissed i s)
def execHandoverInTimeout (i : Fin 16384) (s : State) : Host.Outcome State Fault Refusal := .next (doHandoverInTimeout i s)
def execRecordUe (i : Fin 16384) (s : State) : Host.Outcome State Fault Refusal := .next (doRecordUe i s)
def execRecordRelease (a : Agent) (p : Fin 64) (record : Fin 16384) (gen : BitVec 16) (s : State) : Host.Outcome State Fault Refusal :=
  .next (s.whenReady .CAT 0 (doRecordRelease a p record gen))

end Sys2Proof.Machine
end

