-- ==== Sys2Proof/Machine/Control.lean ====
section
/-! DEFINITION. Class 0x0 instructions but BARF: control, the meridian, and the stop of a context (Table 3-6). -/

namespace Sys2Proof.Machine

/-- NOP, and every reserved opcode: an instruction that uses one is an instruction fault (R62, R83). -/
def doNop (x : LCtx) (op : BitVec 8) (f : LFields) (s : State) : State := s.issue x op f none id

/-- PC plus a signed word offset, where it lies inside the unit's instruction store. -/
def branchTarget (x : LCtx) (pc : Nat) (f : LFields) : Option Nat :=
  let t := (pc : Int) + f.ims 0 32
  if 0 ≤ t ∧ t < x.kind.storeWords then some t.toNat else none

/-- A target outside the instruction store is an instruction fault. -/
def doBr (x : LCtx) (f : LFields) (s : State) : State :=
  s.issue x 0x01 f (faultUnless (branchTarget x (s.pc x) f).isSome)
    (fun t => t.setPc x ((branchTarget x (s.pc x) f).getD 0))

/-- So is a return word outside the store. -/
def doCall (x : LCtx) (f : LFields) (s : State) : State :=
  s.issue x 0x02 f
    (faultUnless ((branchTarget x (s.pc x) f).isSome && decide (s.pc x + 1 < x.kind.storeWords)))
    (fun t => (t.setG x f.d.toNat (BitVec.ofNat 64 (s.pc x + 1))).setPc x ((branchTarget x (s.pc x) f).getD 0))

/-- A target with ga[63:16] not 0 is an instruction fault; one at or beyond CODE_WORDS faults at its fetch (R62). -/
def doJr (x : LCtx) (f : LFields) (s : State) : State :=
  s.issue x 0x03 f (faultUnless (decide ((s.gReg x f.a.toNat).toNat < 65536)))
    (fun t => t.setPc x (s.gReg x f.a.toNat).toNat)

/-- The cycles that R455 measures for the open slice of a unit at its end. -/
def State.measuredSlice (s : State) (unit : Nat) : Nat := (s.slice unit).carried + s.cycle + 1

/-- The cause of a slip: the first row of Table 2-2a that has held during the slice. -/
def State.slipCause (s : State) (unit : Nat) : Nat :=
  let v := s.slice unit
  if v.rateOver then 1 else if v.stack then 2 else if v.bayCopy then 3 else if v.byDebug then 4 else if v.tierWait then 5
  else if v.overCap then 6 else if !(s.installedImage unit).proven then 7 else 0

def slipCounts (cause : Nat) : Bool := cause == 0 || decide (5 ≤ cause)

/-- Late cycles of the slice beyond those counted, and those of its cause that count toward self-late (R37, R446). -/
def State.countLate (s : State) (unit : Nat) : State :=
  let v := s.slice unit
  let late := v.carried + s.cycle - v.budget
  let n := late - v.counted
  let s := s.setSlice unit { v with counted := late }
  if slipCounts (s.slipCause unit) then
    State.add { s with flt := { s.flt with lateSelfNow := s.flt.lateSelfNow + n } } (FLT_U_LATE.COUNT unit) n
  else s

/-- The photometer counts a slice that MYLD ends, and traces it (R455, Table 23-4). -/
def State.countSlice (s : State) (unit : Nat) : State :=
  if (s.slice unit).stepping then s else
  let n := s.measuredSlice unit
  let s := if 0 < (s.slice unit).crossed then s.countLate unit else s
  let s := s.inc (PHO_U_SLICES.COUNT unit)
  let s := s.add (PHO_U_SLICE_SUM.COUNT unit) n
  let s := s.wr (PHO_U_SLICE_MAX.CYCLES unit) (max (s.rd (PHO_U_SLICE_MAX.CYCLES unit)) (min n (2 ^ 32 - 1)))
  s.traceDev 0x0002 unit 0 n

/-- MYLD ends a critical slice, or makes a background context wait for the next meridian start (R52, R53). -/
def doMyld (x : LCtx) (f : LFields) (s : State) : State :=
  s.issue x 0x04 f none (fun t =>
    let t := if x.critical then (t.countSlice x.unit).closeSlice x.unit else t
    t.modCtx x (fun c => { c with state := .waiting, wait := .meridian }))

/-- The remaining slice budget: B minus the cycles elapsed, or 0 once cycle B is reached (R36). -/
def State.remainingBudget (s : State) : Nat := lenBudget s.merLen - s.cycle

def doMchk (x : LCtx) (f : LFields) (s : State) : State :=
  s.issue x 0x05 f none (fun t => t.setG x f.d.toNat (BitVec.ofNat 64 s.remainingBudget))

def doMcnt (x : LCtx) (f : LFields) (s : State) : State :=
  s.issue x 0x06 f none (fun t => t.setG x f.d.toNat (BitVec.ofNat 64 s.mer))

/-- HALT: the context is STOPPED, and a critical context's slice closes as by MYLD. -/
def doHalt (x : LCtx) (f : LFields) (s : State) : State :=
  s.issue x 0x07 f none (fun t =>
    let t := if x.critical then (t.countSlice x.unit).closeSlice x.unit else t
    t.modCtx x (fun c => { c with state := .stopped, wait := .none }))

/-- A context stops for the debug path: its state is DEBUG, a critical context's slice closes (R38, R462), and the stop
is traced (Table 23-4). A wait it was in is abandoned; the instruction runs again from its start. -/
def State.debugStop (s : State) (x : LCtx) : State :=
  let c := s.ctx x
  let again : Bool := match c.wait with
    | .none => false
    | .meridian => false
    | .remote .. => false
    | .access => false
    | _ => true
  let s := s.setCtx x { c with state := .debug, wait := .none, stopPending := false,
                               pc := if again then c.pc - 1 else c.pc }
  (s.leaveSlice x).traceDev 0x0005 x.unit x.ctx (s.pc x)

/-- BRK has the effect of STOP (R462). -/
def doBrk (x : LCtx) (f : LFields) (s : State) : State := s.issue x 0x09 f none (fun t => t.debugStop x)

def execBr (x : LCtx) (f : LFields) (s : State) : Host.Outcome State Fault Refusal := .next (doBr x f s)

def execCall (x : LCtx) (f : LFields) (s : State) : Host.Outcome State Fault Refusal := .next (doCall x f s)

def execJr (x : LCtx) (f : LFields) (s : State) : Host.Outcome State Fault Refusal := .next (doJr x f s)

def execMyld (x : LCtx) (f : LFields) (s : State) : Host.Outcome State Fault Refusal := .next (doMyld x f s)

def execMchk (x : LCtx) (f : LFields) (s : State) : Host.Outcome State Fault Refusal := .next (doMchk x f s)

def execMcnt (x : LCtx) (f : LFields) (s : State) : Host.Outcome State Fault Refusal := .next (doMcnt x f s)

def execHalt (x : LCtx) (f : LFields) (s : State) : Host.Outcome State Fault Refusal := .next (doHalt x f s)

def execBrk (x : LCtx) (f : LFields) (s : State) : Host.Outcome State Fault Refusal := .next (doBrk x f s)

def execNop (x : LCtx) (op : BitVec 8) (f : LFields) (s : State) : Host.Outcome State Fault Refusal :=
  .next (doNop x op f s)

end Sys2Proof.Machine
end

