-- ==== Sys2Proof/Machine/Units.lean ====
section
/-! DEFINITION. What an install or a context reset leaves of a context, spares taken into use, and the memory and table
ranges that several blocks clear (R56, R101, R435, R450). -/

namespace Sys2Proof.Machine

/-- The entry word of a context of an image (Table 4-4). -/
def Image.entry (m : Image) (c : Nat) : BitVec 16 :=
  match c with
  | 0 => m.entryC
  | 1 => m.entryB1
  | 2 => m.entryB2
  | 3 => m.entryB3
  | _ => m.entryB4

/-- Every g, p and t register of the context is 0 (R56). -/
def State.clearRegs (s : State) (x : LCtx) : State :=
  { s with larty := { s.larty with
      g := s.larty.g.filter (fun e => e.1 / 32 != x.key),
      p := s.larty.p.filter (fun e => e.1 / 8 != x.key),
      t := s.larty.t.filter (fun e => e.1 / 16 != x.key) } }

/-- The state a context restarts in: a critical context waits for the next meridian start, a background context runs
where its BG_EN bit is 1 and is IDLE otherwise (R53, R85). -/
def State.restartState (s : State) (x : LCtx) : CtxState × Wait :=
  match x with
  | .nwl c i =>
    if i = 0 then (.waiting, .meridian)
    else if bitOf (s.rd (NWL_C_RUN.BG_EN c.val)) (i.val - 1) then (.running, .none) else (.idle, .none)
  | _ => (.waiting, .meridian)

/-- The stall entry of a newel background context. -/
def stallIndex (unit ctx : Nat) : Nat := 4 * (unit - 0x20) + (ctx - 1)

def State.clearStall (s : State) (unit ctx : Nat) : State := s.setReg (FAB_STALL.NODE 0 (stallIndex unit ctx)).off 0

/-- Set a context as an install does: registers 0, PC at its entry word, any wait dropped (R56, R63, R101, R435). A remote
access it waits for has no one to answer any more: its stall entry ends (R336). -/
def State.restartCtx (s : State) (x : LCtx) : State :=
  let st := s.restartState x
  let s := s.clearRegs x
  let s := if x.kind == .nwl && !x.critical then s.clearStall x.unit x.ctx else s
  let s := s.setCtx x { state := st.1, wait := st.2, pc := (s.installedImage x.unit).entry x.ctx }
  s.leaveSlice x

/-- The contexts of a unit number. -/
def unitCtxs (u : Nat) : List LCtx :=
  if h : u < 16 then [.gal ⟨u, h⟩]
  else if h : u - 16 < 8 ∧ 16 ≤ u then [.nb ⟨u - 16, h.1⟩]
  else if u = 0x18 then [.hel]
  else if h : u - 0x20 < 8 ∧ 0x20 ≤ u then (List.finRange 5).map (fun i => .nwl ⟨u - 0x20, h.1⟩ i)
  else []

/-- Every unit number of Table 3-11. -/
def allUnits : List Nat := List.range 0x19 ++ (List.range 8).map (fun c => 0x20 + c)

/-- One context by unit number and context number. -/
def ctxOf (u c : Nat) : Option LCtx := (unitCtxs u)[c]?

/-! ## Spares (R450, Table 22-6) -/

/-- How many spares of a kind FLT_SPARES shows. -/
def spareField (kind : Nat) : Option FieldRef :=
  match kind with
  | 1 => some FLT_SPARES.BAYS
  | 2 => some FLT_SPARES.PCS
  | 3 => some FLT_SPARES.LANES
  | 4 => some FLT_SPARES.NEWEL
  | 5 => some FLT_SPARES.CARTRIDGES
  | 7 => some FLT_SPARES.PHASES
  | _ => none

/-- One spare of the kind fewer, or more. -/
def State.countSpare (s : State) (kind : Nat) (up : Bool) : State :=
  match spareField kind with
  | none => s
  | some f =>
    let n := if up then s.rd f + 1 else s.rd f - 1
    let s := s.wr f n
    s.wr FLT_SPARES.EMPTY
      (if n = 0 then withBit (s.rd FLT_SPARES.EMPTY) (kind - 1) else withoutBit (s.rd FLT_SPARES.EMPTY) (kind - 1))

/-- The SPARE record of a substitution, of a failed spare or of lost capacity; `to` is 0xFFFF for none. -/
def spareReport (kind sev : Nat) (b : Blk) (inst unit old new : Nat) : Report :=
  { cls := 0x04, sev := sev, blk := b.code, inst := inst, unit := unit, d0 := kind, d1 := old + 65536 * new }

/-- A self-test pass of a kind runs, or has stopped (FLT_SELFTEST). -/
def State.setPass (s : State) (kind : Nat) (on : Bool) : State :=
  let m := s.rd FLT_SELFTEST.RUNNING
  s.wr FLT_SELFTEST.RUNNING (if on then withBit m (kind - 1) else withoutBit m (kind - 1))

/-- A spare is taken into use: one fewer is left, a pass of its kind stops (R451), the health monitor hears of it, and a SPARE
record says so. -/
def State.useSpare (s : State) (kind : Nat) (b : Blk) (inst unit old new : Nat) : State :=
  (((s.countSpare kind false).setPass kind false).noteSub).report (spareReport kind 2 b inst unit old new)

/-- Capacity is lost with no spare left. -/
def State.loseCapacity (s : State) (kind : Nat) (b : Blk) (inst unit old : Nat) : State :=
  s.report (spareReport kind 4 b inst unit old 0xFFFF)

/-! ## Ranges -/

/-- Bytes a to a + n - 1 become 0. -/
def State.zeroRange (s : State) (a n : Nat) : State :=
  { s with mem := s.mem.filter (fun e => decide (e.1 < a) || decide (a + n ≤ e.1)) }

end Sys2Proof.Machine
end

