-- ==== Sys2Proof/Machine/Transport.lean ====
section
/-! DEFINITION. The Rilcy transport's shared operations: contexts and their cache, packets, credit, regions, requests and
messages, and the remote-line cache (R316 to R343). The transport registers are device-wide and held in instance 0. -/

namespace Sys2Proof.Machine

/-! ## Global fabric addresses (R19) -/

def gfaNode (a : Nat) : Nat := a / 2 ^ 50 % 2 ^ 14
def gfaPart (a : Nat) : Nat := a / 2 ^ 44 % 64
def gfaOff (a : Nat) : Nat := a % 2 ^ 44
def gfaOf (node part off : Nat) : Nat := node * 2 ^ 50 + part * 2 ^ 44 + off

/-! ## Contexts (R316, R318) -/

def State.tpc (s : State) (n : Nat) : TpCtx := Tab.get (fun _ => {}) s.tp.ctxs n

def State.setTpc (s : State) (n : Nat) (c : TpCtx) : State :=
  { s with tp := { s.tp with ctxs := Tab.put (fun _ => {}) s.tp.ctxs n c } }

def State.modTpc (s : State) (n : Nat) (f : TpCtx → TpCtx) : State := s.setTpc n (f (s.tpc n))

/-- The partition's OPEN context for a pair of peer node and peer partition. -/
def State.openCtx (s : State) (p node peer : Nat) : Option Nat :=
  (s.tp.ctxs.find? (fun e => e.2.state == 2 && e.2.part == p && e.2.node == node && e.2.peerPart == peer)).map (fun e => e.1)

/-- The context an operation of a partition toward (node, partition) uses: none where it completes with LINK_FAILED at
issue (R316, R397). -/
def State.pathTo (s : State) (p node peer : Nat) : Option Nat :=
  if s.nodeReachable node then s.openCtx p node peer else none

/-- The TRANSPORT record of Table 22-2. -/
def tpReport (st : Status) (part : Option Nat) (unit ctx gfa kind : Nat) : Report :=
  { cls := 0x0A, status := st.code, sev := 3, part := part, blk := Blk.FAB.code, unit := unit, addr := gfa, d0 := ctx,
    d1 := kind }

/-- The doorbell of a partition for context failures and ended commands (Table 15-8). -/
def State.tpBell (s : State) (p : Nat) : State := s.bellIf (s.on (FAB_P_CFG.DB_EN 0 p)) p (s.rd (FAB_P_CFG.DB_SOURCE 0 p))

/-! ## Packets (R322, R323) -/

/-- The kinds that carry credit (Table 15-3). -/
def creditKind (k : Nat) : Bool := [0x10, 0x11, 0x12, 0x13, 0x14, 0x20, 0x21, 0x23, 0x24, 0x26, 0x27].contains k

/-- The kinds the orrery schedules: every other takes the express path (R344, R345). -/
def schedKind (k : Nat) : Bool := creditKind k || k == 0x22

/-- Field widths of a kind part, in packing order (Table 15-3). -/
def kindWidths (k : Nat) : List Nat :=
  if k = 0x01 ∨ k = 0x02 then [16, 1]
  else if k = 0x05 then [32, 64]
  else if k = 0x06 then [32, 8, 16]
  else if k = 0x07 then [32]
  else if k = 0x08 then [18]
  else if k = 0x0A then [32]
  else if k = 0x0B ∨ k = 0x0C then [8]
  else if k = 0x0D ∨ k = 0x0E then [64]
  else if k = 0x10 then [44, 32, 2, 1, 16]
  else if k = 0x11 then [44, 32, 2, 64]
  else if k = 0x12 then [44, 32, 16, 64]
  else if k = 0x13 then [44, 32, 16, 64, 64]
  else if k = 0x14 then [44, 32, 12, 64]
  else if k = 0x15 then [16, 8, 64]
  else if k = 0x20 then [44, 40, 40, 32, 32, 16, 5]
  else if k = 0x21 then [44, 40, 32, 16]
  else if k = 0x22 then [16, 40, 40]
  else if k = 0x23 then [44, 32, 16, 1, 64, 64]
  else if k = 0x24 then [16, 2, 64, 64, 64, 1, 14, 6]
  else if k = 0x25 then [16, 8, 1, 64]
  else if k = 0x26 then [64, 32, 32, 14, 8, 8, 40, 53]
  else if k = 0x27 then [16, 32]
  else []

/-- The kind part: the fields one after another from bit 0. -/
def packFields : List Nat → List Nat → Nat
  | w :: ws, v :: vs => v % 2 ^ w + 2 ^ w * packFields ws vs
  | _, _ => 0

/-- A byte string as 8-byte words. -/
def wordsOf (bs : Bytes) : List Word :=
  (List.range ((bs.length + 7) / 8)).map (fun i => BitVec.ofNat 64 (leNat ((bs.drop (8 * i)).take 8)))

/-- Data bytes a packet of the connection holds at most, and the units it costs (R322, R323). -/
def TpCtx.room (c : TpCtx) : Nat := if c.aes then 4020 else 4036
def TpCtx.units (c : TpCtx) (n : Nat) : Nat := (44 + n + (if c.aes then 16 else 0) + 255) / 256

/-- The generation of the key the context sends under; 0 under the null cipher. -/
def TpCtx.txGen (c : TpCtx) : Nat := if !c.aes then 0 else if c.txSlot = 0 then c.keyA.gen else c.keyB.gen

/-- Bytes of data a packet, or a message in sending, still has. -/
def Send.bytes (x : Send) : Nat := if x.src.isSome then x.left else x.data.length

/-- Bytes the next packet of it carries. -/
def State.nextBytes (s : State) (x : Send) : Nat := min x.bytes (s.tpc x.ctx).room

/-- The fields as they stand for the packet at the offset reached. -/
def Send.fields (x : Send) (upto : Nat) : List Nat :=
  if x.kind = 0x20 then (x.flds.set 0 (x.flds.getD 0 0 + x.off)).set 1 x.off
  else if x.kind = 0x22 then x.flds.set 1 x.off
  else if x.kind = 0x26 then x.flds.set 7 (x.flds.getD 7 0 + x.off)
  else if x.kind = 0x27 then x.flds.set 1 upto
  else x.flds

/-- The words of a packet (Table 15-2, Table 15-3). -/
def packetWords (c : TpCtx) (kind epoch psn : Nat) (resent : Bool) (flds : List Nat) (data : Bytes) : List Word :=
  let k := packFields (kindWidths kind) flds
  [setBits (setBits (setBits (setBits (setBits (setBits 0 0 8 kind) 8 14 c.node) 22 16 epoch) 38 16 c.peerCtx)
     54 8 c.txGen) 62 1 (b01 resent),
   BitVec.ofNat 64 psn, BitVec.ofNat 64 k, BitVec.ofNat 64 (k / 2 ^ 64), BitVec.ofNat 64 (k / 2 ^ 128),
   BitVec.ofNat 64 (k / 2 ^ 192)] ++ wordsOf data

/-- An express packet: a control kind or a response (R345). -/
def State.sendExpress (s : State) (n kind : Nat) (flds : List Nat) : State :=
  { s with tp := { s.tp with express := s.tp.express ++ [{ ctx := n, kind := kind, flds := flds }] } }

/-! ## Credit (R326, R327) -/

/-- Units a partition's contexts hold granted to their peers. -/
def State.outOf (s : State) (p : Nat) : Nat :=
  (s.tp.ctxs.filter (fun e => e.2.part == p)).foldl (fun n e => n + e.2.out) 0

/-- Grant up to u units, within CONN_MAX and the partition's share. -/
def State.grant (s : State) (n u : Nat) : State :=
  let c := s.tpc n
  let v := min u (min (s.rd (FAB_TP_POOL.CONN_MAX 0) - c.out) (s.rd (FAB_P_CFG.CREDIT_SHARE 0 c.part) - s.outOf c.part))
  if v = 0 ∨ c.revoking then s
  else
    let g := (c.rxGranted + v) % 2 ^ 32
    (s.setTpc n { c with out := c.out + v, rxGranted := g }).sendExpress n 0x07 [g]

/-- A receiver revokes a context's credit. -/
def State.revoke (s : State) (n : Nat) : State :=
  if (s.tpc n).revoking ∨ (s.tpc n).out = 0 then s
  else (s.modTpc n (fun c => { c with revoking := true })).sendExpress n 0x09 []

/-- Units the waiting credited packets of a context need. -/
def State.wanted (s : State) (n : Nat) : Nat :=
  (s.tp.sends.filter (fun x => x.ctx == n && creditKind x.kind && !x.paid)).foldl (fun k x =>
    let c := s.tpc n
    k + x.bytes / c.room * c.units c.room + (if x.bytes % c.room = 0 ∧ x.bytes ≠ 0 then 0 else c.units (x.bytes % c.room))) 0

/-- The context's first waiting credited packet lacks credit. -/
def State.lacksCredit (s : State) (n : Nat) : Bool :=
  match s.tp.sends.find? (fun x => x.ctx == n && creditKind x.kind && !x.paid) with
  | some x => decide ((s.tpc n).held < (s.tpc n).units (s.nextBytes x))
  | none => false

/-- CREDIT_REQ when work waits for credit, one at a time. -/
def State.askCredit (s : State) (n : Nat) : State :=
  if s.lacksCredit n && !(s.tpc n).asked then
    (s.modTpc n (fun c => { c with asked := true })).sendExpress n 0x08 [min (s.wanted n) (2 ^ 18 - 1)]
  else s

/-! ## The context cache (R318 to R321) -/

def State.setCached (s : State) (n : Nat) (b : Bool) : State :=
  if (s.tpc n).cached = b then s
  else
    let k := s.rd (FAB_CTX_STATE.CACHED 0)
    (s.modTpc n (fun c => { c with cached := b })).wr (FAB_CTX_STATE.CACHED 0) (if b then k + 1 else k - 1)

/-- The conditions of R319: an unanswered OPEN, CLOSE or INVAL is a request that awaits its response. -/
def State.evictable (s : State) (n : Nat) : Bool :=
  let c := s.tpc n
  c.cached && !c.pinned && c.state != 1 && c.state != 3 && c.out == 0 && c.held == 0 && c.rxSeen.isEmpty && c.offered.isNone && !c.oldLive &&
  s.tp.reqs.all (fun r => r.ctx != n) && s.tp.inMsgs.all (fun m => m.ctx != n) &&
  s.tp.msgs.all (fun m => !(m.inval.isSome && m.ctx == n))

/-- The least recently used cached context that passes a test. -/
def State.leastUsed (s : State) (ok : Nat → Bool) : Option Nat :=
  argmin (fun n => (s.tpc n).lastUse) ((s.tp.ctxs.filter (fun e => e.2.cached && ok e.1)).map (fun e => e.1))

/-- The backing entry of a context (R318). -/
def State.backingAt (s : State) (n : Nat) : Nat :=
  256 * n + (if s.portOf (s.tpc n).part = .HA then s.rd (FAB_CTX_BASE_HA.DPA 0) else s.rd (FAB_CTX_BASE_HB.DPA 0))

/-- Evict a context: its sealed entry, whose bytes the spec does not fix, goes to its backing entry. -/
def State.evict (s : State) (n : Nat) : State :=
  let b := s.freeBytes 256
  let a := b.2.backingAt n
  ((b.2.devWrite (memReport Blk.FAB.code 0 0xFF (some (b.2.tpc n).part) a) a b.1).setCached n false).inc
    (FAB_TP_EVICT.COUNT 0)

/-- Make a frame free: none where no context can be evicted yet. -/
def State.makeFrame (s : State) : Option State :=
  if s.rd (FAB_CTX_STATE.CACHED 0) < 4096 then some s else (s.leastUsed s.evictable).map (fun n => s.evict n)

def State.touch (s : State) (n : Nat) : State :=
  let u := s.tp.uses + 1
  State.modTpc { s with tp := { s.tp with uses := u } } n (fun c => { c with lastUse := u })

/-- With no frame to be had, the least recently used unpinned context gives up the credit it granted and holds (R319). -/
def State.squeeze (s : State) : State :=
  match s.leastUsed (fun n => !(s.tpc n).pinned) with
  | some n =>
    let c := s.tpc n
    let s := if c.held = 0 then s else (s.setTpc n { c with held := 0 }).sendExpress n 0x0A [c.held]
    s.revoke n
  | none => s

/-- A fetch of an uncached context starts (R320, R321). -/
def State.startFetch (s : State) (n : Nat) : State :=
  if (s.tpc n).cached ∨ s.tp.fetching.contains n ∨ (s.tpc n).state = 0 then s
  else
    let s := State.inc { s with tp := { s.tp with fetching := s.tp.fetching ++ [n] } } (FAB_TP_CTX_MISS.COUNT 0)
    if s.rd (FAB_CTX_STATE.CACHED 0) < 4096 ∨ (s.leastUsed s.evictable).isSome then s else s.squeeze

/-- A packet or message waits to be sent; its context is fetched where it is not cached, and credit asked for (R321,
R326). -/
def State.offer (s : State) (x : Send) : State :=
  let s := { s with tp := { s.tp with sends := s.tp.sends ++ [x] } }
  if (s.tpc x.ctx).cached then (s.touch x.ctx).askCredit x.ctx else s.startFetch x.ctx

/-! ## Requests and messages -/

/-- Number a request on its context. -/
def State.newReq (s : State) (r : Req) : State × Nat :=
  let k := (s.tpc r.ctx).nextReq
  let s := s.modTpc r.ctx (fun c => { c with nextReq := (k + 1) % 65536 })
  ({ s with tp := { s.tp with reqs := s.tp.reqs ++ [{ r with req := k }] } }, k)

def State.dropReq (s : State) (r : Req) : State :=
  { s with tp := { s.tp with reqs := s.tp.reqs.filter (fun q => !(q.ctx == r.ctx && q.req == r.req)) } }

def State.findReq (s : State) (n k : Nat) : Option Req := s.tp.reqs.find? (fun q => q.ctx == n && q.req == k)

/-- Note a message or posted write; its id rises with the order of posting. -/
def State.newMsg (s : State) (m : Msg) : State × Nat :=
  let k := s.tp.nextMsg
  ({ s with tp := { s.tp with msgs := s.tp.msgs ++ [{ m with id := k }], nextMsg := k + 1 } }, k)

def State.msgOf (s : State) (k : Nat) : Option Msg := s.tp.msgs.find? (fun m => m.id == k)

def State.modMsg (s : State) (k : Nat) (f : Msg → Msg) : State :=
  { s with tp := { s.tp with msgs := s.tp.msgs.map (fun m => if m.id = k then f m else m) } }

/-- A message fails: what is left of it is not sent, and its packets are not sent again. -/
def State.failMsg (s : State) (k : Nat) (st : Status) : State :=
  if k = 0 then s
  else
    let s := { s with tp := { s.tp with sends := s.tp.sends.filter (fun x => x.msg != k),
                                        sent := s.tp.sent.filter (fun x => x.send.msg != k) } }
    s.modMsg k (fun m => if m.failed.isNone then { m with failed := some st } else m)

/-- The messages a flush covers: issuer unit, issuing context, node, partition, and the first id it does not cover. -/
def Msg.coveredBy (m : Msg) (f : Nat × Option Nat × Nat × Nat × Nat) : Bool :=
  m.unit == f.1 && (f.2.1.isNone || (m.wr && f.2.1 == some m.ictx) || (m.inval.isSome && f.2.1 == some m.ictx)) &&
  m.node == f.2.2.1 && (m.part.isNone || m.part == some f.2.2.2.1) && decide (m.id < f.2.2.2.2)

/-! ## Regions (R324, R325) -/

/-- A permission of a region: 0 RD, 1 WR, 2 ATOM. -/
def rgnPerm (perm p r : Nat) : FieldRef :=
  if perm = 0 then FAB_RGN_W3.RD 0 p r else if perm = 1 then FAB_RGN_W3.WR 0 p r else FAB_RGN_W3.ATOM 0 p r

/-- The region of a partition in which every byte of a range lies, with its key and permission. -/
def State.regionAt (s : State) (p off len key perm : Nat) : Option Nat :=
  firstBelow 256 (fun r =>
    s.on (FAB_RGN_W0.VALID 0 p r) && decide (s.rd (FAB_RGN_W0.BASE 0 p r) ≤ off) &&
    decide (off + len ≤ s.rd (FAB_RGN_W0.BASE 0 p r) + s.rd (FAB_RGN_W1.LEN 0 p r)) &&
    s.rd (FAB_RGN_W3.KEY 0 p r) == key && s.on (rgnPerm perm p r))

/-- Where a fabric offset of a region lies. -/
def State.regionSrc (s : State) (p r off : Nat) : Src :=
  { part := if s.on (FAB_RGN_W2.PHYS 0 p r) then none else some p,
    addr := s.rd (FAB_RGN_W2.TARGET 0 p r) + (off - s.rd (FAB_RGN_W0.BASE 0 p r)) }

/-- Read local memory for the transport. -/
def State.readSrc (s : State) (x : Src) (n : Nat) (good : Bool) : TRead :=
  match x.part with
  | some p => s.readTensor p x.addr n good
  | none =>
    match s.accessStatus x.addr n with
    | .ok => { data := s.bytes x.addr n }
    | st => { status := st }

/-- The records of such a read. -/
def State.noteSrc (s : State) (x : Src) (n : Nat) (good : Bool) : State :=
  match x.part with
  | some p => s.noteRead p x.addr n good
  | none => s.noteAccess false (memReport Blk.FAB.code 0 0xFF none x.addr) x.addr n

/-- Write local memory for the transport. -/
def State.writeSrc (s : State) (x : Src) (data : Bytes) : State :=
  match x.part with
  | some p => s.tensorWrite p x.addr data
  | none => s.devWrite (memReport Blk.FAB.code 0 0xFF none x.addr) x.addr data

/-- The status a write meets. -/
def State.writeSrcStatus (s : State) (x : Src) (n : Nat) : Status :=
  match x.part with
  | some p => s.writeStatus p x.addr n
  | none => s.storeStatus x.addr n

def Src.plus (x : Src) (n : Nat) : Src := { x with addr := x.addr + n }

/-! ## Region commands -/

/-- FAB_TP_RESULT of an agent: the outcome of a decided command. -/
def State.tpResult (s : State) (a : Nat) (st : Status) : State :=
  let s := s.wrPriv a (FAB_TP_RESULT.STATUS 0) st.code
  let s := s.wrPriv a (FAB_TP_RESULT.BUSY 0) 0
  s.wrPriv a (FAB_TP_RESULT.SEQ 0) ((s.rdPriv a (FAB_TP_RESULT.SEQ 0) + 1) % 2 ^ 32)

/-- The bytes of a DPA range lie in the partition's HBM grant. -/
def State.inGrant (s : State) (p a n : Nat) : Bool :=
  rangeHbm a n && (List.range 31).all (fun i =>
    !(decide (dpaPc a ≤ i) && decide (i ≤ dpaPc (a + n - 1))) || s.pcGranted p (dpaStack a) i)

/-- The checks of a region descriptor (R324, R389), ranked by R25. -/
def State.regionCheck (s : State) (p index : Nat) (ws : List Word) : Status :=
  let base := getBits (ws.getD 0 0) 0 44
  let len := getBits (ws.getD 1 0) 0 44
  let tgt := getBits (ws.getD 2 0) 0 57
  let phys := getBit (ws.getD 2 0) 63
  let overlap := (firstBelow 256 (fun r =>
    s.on (FAB_RGN_W0.VALID 0 p r) && decide (base < s.rd (FAB_RGN_W0.BASE 0 p r) + s.rd (FAB_RGN_W1.LEN 0 p r)) &&
    decide (s.rd (FAB_RGN_W0.BASE 0 p r) < base + len))).isSome
  let outside := if phys then !s.inGrant p tgt len
    else decide (6 ≤ taSpace tgt) || decide (s.spaceUnits p (taSpace tgt) * 8192 < taOff tgt + len)
  if len = 0 ∨ len % 64 ≠ 0 ∨ base % 4096 ≠ 0 ∨ 2 ^ 44 < base + len ∨ overlap ∨ outside then .badLength
  else if s.rd (PRT_REGIONS.COUNT p) ≤ index ∨ s.on (FAB_RGN_W0.VALID 0 p index) then .refusedPolicy
  else .ok

/-- A region command of an agent that may write the partition's register. -/
def State.rgnCommand (s : State) (a : Agent) (p : Nat) (eff : State → State × Status) : State :=
  if !s.mayWritePart a p then (s.refuseWrite a .FAB 0).tpResult a.code .refusedPolicy
  else
    let r := eff s
    r.1.tpResult a.code r.2

/-- FAB_P_RGN_CMD ADD. A descriptor address that is not 32-byte aligned gives BAD_LENGTH (DEDUCED, log 20). -/
def doRgnAdd (a : Agent) (p : Fin 64) (index : Fin 256) (desc : BitVec 48) (s : State) : State :=
  s.rgnCommand a p (fun s =>
    let d := desc.toNat
    match s.accessStatus d 32 with
    | .ok =>
      let ws := s.words d 4
      let st := if d % 32 ≠ 0 then Status.badLength else s.regionCheck p index ws
      if st = Status.ok then
        let s := s.setReg (FAB_RGN_W0.BASE 0 p index).off (setBits (ws.getD 0 0) 63 1 1)
        let s := s.setReg (FAB_RGN_W1.LEN 0 p index).off (ws.getD 1 0)
        let s := s.setReg (FAB_RGN_W2.TARGET 0 p index).off (ws.getD 2 0)
        (s.setReg (FAB_RGN_W3.KEY 0 p index).off (ws.getD 3 0), .ok)
      else (s, st)
    | st => (s.noteAccess false (memReport Blk.FAB.code 0 0xFF (some p.val) d) d 32, st))

/-- FAB_P_RGN_CMD REMOVE clears an entry. -/
def doRgnRemove (a : Agent) (p : Fin 64) (index : Fin 256) (s : State) : State :=
  s.rgnCommand a p (fun s =>
    let s := s.setReg (FAB_RGN_W0.BASE 0 p index).off 0
    let s := s.setReg (FAB_RGN_W1.LEN 0 p index).off 0
    let s := s.setReg (FAB_RGN_W2.TARGET 0 p index).off 0
    (s.setReg (FAB_RGN_W3.KEY 0 p index).off 0, .ok))

/-! ## The remote-line cache (R337, R338) -/

def State.setRlc (s : State) (ls : List RlcLine) : State := { s with tp := { s.tp with rlc := ls } }

/-- Drop every copy of a line at this node. -/
def State.dropLine (s : State) (line : Nat) : State := s.setRlc (s.tp.rlc.filter (fun l => l.line != line))

/-- A line filled for the partition under the key. -/
def State.findLine (s : State) (line p key : Nat) : Option RlcLine :=
  s.tp.rlc.find? (fun l => l.line == line && l.part == p && l.key == key)

/-- Fill a line, or use it: it becomes the most recently used, and the least recently used of 131,072 leaves. -/
def State.useLine (s : State) (l : RlcLine) : State :=
  s.setRlc ((l :: s.tp.rlc.filter (fun x => !(x.line == l.line && x.part == l.part && x.key == l.key))).take 131072)

/-- FAB_RLC_CMD: drop every line of a partition. -/
def doRlcFlush (a : Agent) (p : Fin 64) (s : State) : State :=
  if !s.mayWriteDevice a then s.refuseWrite a .FAB 0 else s.setRlc (s.tp.rlc.filter (fun l => l.part != p.val))

def execRgnAdd (a : Agent) (p : Fin 64) (index : Fin 256) (desc : BitVec 48) (s : State) : Host.Outcome State Fault Refusal :=
  .next (s.whenAnyReady .FAB (doRgnAdd a p index desc))
def execRgnRemove (a : Agent) (p : Fin 64) (index : Fin 256) (s : State) : Host.Outcome State Fault Refusal :=
  .next (s.whenAnyReady .FAB (doRgnRemove a p index))
def execRlcFlush (a : Agent) (p : Fin 64) (s : State) : Host.Outcome State Fault Refusal :=
  .next (s.whenAnyReady .FAB (doRlcFlush a p))

end Sys2Proof.Machine
end

