-- ==== Sys2Proof/Machine/HelCore.lean ====
section
/-! DEFINITION. The heliostat engine: its queues, in-flight slots, completion records, trigger slots, flushes and
handover entries (R268 to R278, R287 to R289). -/

namespace Sys2Proof.Machine

/-! ## Completion records (R271) -/

/-- The rings of a partition: 0 work requests, 1 completions. -/
def helHead (p r : Nat) : FieldRef := if r = 0 then HEL_P_HEAD0.INDEX p else HEL_P_HEAD1.INDEX p
def helTail (p r : Nat) : FieldRef := if r = 0 then HEL_P_TAIL0.INDEX p else HEL_P_TAIL1.INDEX p
def State.helSize (s : State) (p r : Nat) : Nat := s.rd (HEL_P_SIZE.ENTRIES p r)
def State.helCount (s : State) (p r : Nat) : Nat := ringCount (s.rd (helTail p r)) (s.rd (helHead p r))

/-- The completion ring has a free entry. -/
def State.helRoom (s : State) (p : Nat) : Bool := s.helSize p 1 != 0 && decide (s.helCount p 1 < s.helSize p 1)

/-- No completion record of the partition waits. -/
def State.helClear (s : State) (p : Nat) : Bool := s.hel.waiting.all (fun x => x.1 != p)

/-- Write a completion record, give the completion token and ring the completion doorbell. -/
def State.helWrite (s : State) (p : Nat) (ws : List Word) : State :=
  let a := ringSlot (s.rd (HEL_P_BASE.DPA p 1)) (s.helSize p 1) (s.rd (helTail p 1)) 32
  let ws := ws.set 3 (setBits (ws.getD 3 0) 32 32 s.mer32)
  let s := s.devWriteWords (memReport Blk.HEL.code 0 0xFF (some p) a) a ws
  let s := s.addMod (helTail p 1) 1
  let s := if s.on (HEL_P_NOTIFY.EN p) then
      (s.giveFromBlock .HEL (s.rd (HEL_P_NOTIFY.UNIT p)) (s.rd (HEL_P_NOTIFY.CTR p))).settleReports
    else s
  s.bellIf (s.on (HEL_P_NOTIFY.DB_EN p)) p (s.rd (HEL_P_NOTIFY.DB_SOURCE p))

/-- A meridian in which a record waits counts once. -/
def State.helStall (s : State) (p : Nat) : State :=
  if Tab.get (fun _ => 0) s.hel.stalled p = s.mer + 1 then s
  else
    State.inc { s with hel := { s.hel with stalled := Tab.put (fun _ => 0) s.hel.stalled p (s.mer + 1) } }
      (HEL_P_CQ_STALL.COUNT p)

/-- A completion record is written, or waits in order; it is never dropped. -/
def State.helComplete (s : State) (p : Nat) (ws : List Word) : State :=
  if s.helRoom p && s.helClear p then s.helWrite p ws
  else State.helStall { s with hel := { s.hel with waiting := s.hel.waiting ++ [(p, ws)] } } p

/-- Waiting records of a partition are written in order while there is room. -/
def State.helDrain (p : Nat) : Nat → State → State
  | 0, s => s
  | fuel + 1, s =>
    match s.hel.waiting.find? (fun x => x.1 == p) with
    | none => s
    | some x =>
      if s.helRoom p then
        State.helDrain p fuel (State.helWrite { s with hel := { s.hel with waiting := s.hel.waiting.erase x } } p x.2)
      else s

/-- Table 13-3, all but MERIDIAN. -/
def helRecord (status op part : Nat) (mf fired : Bool) (unit ctx tag node : Nat) (progress result : Word) : List Word :=
  [setBits (setBits (setBits (setBits (setBits (setBits (setBits 0 0 8 status) 8 8 op) 16 6 part) 22 1 (b01 mf))
     23 1 (b01 fired)) 24 8 unit) 32 32 tag, progress, result, setBits (setBits 0 0 14 node) 16 3 ctx]

/-! ## Fields of a work request (Table 13-1) -/

def wrOp (ws : List Word) : Nat := getBits (ws.getD 0 0) 0 8
def wrSignal (ws : List Word) : Bool := getBit (ws.getD 0 0) 8
def wrFence (ws : List Word) : Bool := getBit (ws.getD 0 0) 9
def wrArm (ws : List Word) : Bool := getBit (ws.getD 0 0) 10
def wrMirror (ws : List Word) : Bool := getBit (ws.getD 0 0) 11
def wrFinal (ws : List Word) : Bool := getBit (ws.getD 0 0) 12
def wrTag (ws : List Word) : Nat := getBits (ws.getD 0 0) 32 32
def wrRemote (ws : List Word) : Nat := (ws.getD 2 0).toNat
def wrNode (ws : List Word) : Nat := gfaNode (wrRemote ws)
def wrPart (ws : List Word) : Nat := gfaPart (wrRemote ws)
def wrKey (ws : List Word) : Nat := getBits (ws.getD 3 0) 0 32
def wrEpoch (ws : List Word) : Nat := getBits (ws.getD 3 0) 32 32
def wrLen (ws : List Word) : Nat := getBits (ws.getD 4 0) 0 40

/-- Where LOCAL lies. -/
def wrLocal (ws : List Word) (p : Nat) : Src :=
  { part := if getBit (ws.getD 1 0) 63 then none else some p, addr := getBits (ws.getD 1 0) 0 57 }

/-- The bits of each word that an operation uses; every other bit must be 0 (R270, Table 13-2, Table 13-8). w7 of an armed
request is its condition. PART is read from the heliostat sequencer alone and is otherwise ignored. -/
def wrMask (op : Nat) : List Nat :=
  let all := 2 ^ 64 - 1
  let w0 := 0x00000000_003F_0700 + 0xFF + 0xFFFFFFFF_00000000
  let localMask := 2 ^ 63 + (2 ^ 57 - 1)
  let path := all - (2 ^ 44 - 1)
  let key := 2 ^ 32 - 1
  let len := 2 ^ 40 - 1
  let rec_ := 0x3FFF * 2 ^ 24
  if op = 0x00 then [w0, 0, 0, 0, 0, 0, 0, 0]
  else if op = 0x01 then [w0, localMask, all, key, len, 31, 0, 0]
  else if op = 0x02 then [w0, localMask, all, key, len, 0, 0, 0]
  else if op = 0x03 then [w0, 0, all, key, 0, all, all, 0]
  else if op = 0x04 then [w0, 0, all, key, 0, all, 0, 0]
  else if op = 0x05 then [w0, 0, path, 0, 0, 0, 0, 0]
  else if op = 0x06 then [w0 + 2 ^ 11, 0, path, 0, all, all, all, 0x7FFF003F3FFF]
  else if op = 0x07 then [w0, 0, path, 0, all, 0, 0, 0x7FFF00000000]
  else if op = 0x08 then [w0, 0, path, 0, all, 0, all, 0]
  else if op = 0x09 then [w0 + 2 ^ 12, 2 ^ 57 - 1, all, all, 2 ^ 52 - 1, key, all, 0]
  else if op = 0x0A ∨ op = 0x0B then [w0, 0, all, key, rec_, len, 0, 0]
  else []

/-- The request breaks no rule on its form: its OP is not reserved, its unused bits are 0, CAS and FADD act on aligned
targets, and the fields of Table 13-13 that give BAD_LENGTH at 0 are not 0. -/
def wrLegal (ws : List Word) : Bool :=
  let op := wrOp ws
  let w (i : Nat) : Word := ws.getD i 0
  decide (op < 0x0C) &&
  (List.range 8).all (fun i =>
    (i == 7 && wrArm ws) || (w i &&& ~~~ BitVec.ofNat 64 ((wrMask op).getD i 0)) == 0) &&
  (!(op == 3 || op == 4) || decide (wrRemote ws % 8 = 0)) &&
  (!(op == 6 || op == 7 || op == 8) || (w 4 != 0 && w 4 != BitVec.ofNat 64 (2 ^ 64 - 1))) &&
  (op != 9 || (wrEpoch ws != 0 && getBits (w 4) 16 8 != 0 &&
    decide (getBits (w 4) 0 8 + getBits (w 4) 8 8 ≤ getBits (w 4) 16 8) && w 6 != 0))

/-! ## In-flight slots (R269, Table 13-12) -/

def State.wr? (s : State) (i : Nat) : Option Wr := (s.hel.wrs.find? (fun e => e.1 == i)).map (fun e => e.2)

def noWr : Wr := { words := [], unit := 0, ictx := 0, part := 0, fired := false, start := 0 }

def State.wrAt (s : State) (i : Nat) : Wr := Tab.get (fun _ => noWr) s.hel.wrs i

def State.setWr (s : State) (i : Nat) (w : Wr) : State :=
  { s with hel := { s.hel with wrs := Tab.put (fun _ => noWr) s.hel.wrs i w } }

def State.modWr (s : State) (i : Nat) (f : Wr → Wr) : State := s.setWr i (f (s.wrAt i))

def State.running (s : State) : Nat := s.hel.wrs.length

/-- The lowest free slot. -/
def State.freeWr (s : State) : Option Nat := firstBelow 256 (fun i => (s.wr? i).isNone)

/-- The work request of a slot ends with a status; its completion follows (WR_COMPLETE). -/
def State.endWrAs (s : State) (i : Nat) (st : Status) : State :=
  if (s.wrAt i).done.isNone && (s.wr? i).isSome then s.modWr i (fun w => { w with done := some st }) else s

/-- Put an entry into a slot and show it in the in-flight table. -/
def State.openWr (s : State) (i : Nat) (w : Wr) : State :=
  let s := s.setWr i w
  let s := s.wr (HEL_STATE.INFLIGHT) s.running
  let s := s.wr (HEL_INFLIGHT_W0.TAG i) (wrTag w.words)
  let s := s.wr (HEL_INFLIGHT_W0.ISSUER i) w.unit
  let s := s.wr (HEL_INFLIGHT_W0.OP i) (wrOp w.words)
  let s := s.wr (HEL_INFLIGHT_W0.PART i) w.part
  let s := s.wr (HEL_INFLIGHT_W0.VALID i) 1
  let s := s.wr (HEL_INFLIGHT_W1.PROGRESS i) 0
  let s := s.wr (HEL_INFLIGHT_W2.SENT i) 0
  s.wr (HEL_INFLIGHT_W3.CONFIRMED i) 0

/-- The slot is free again. -/
def State.closeWr (s : State) (i : Nat) : State :=
  let s := { s with hel := { s.hel with wrs := Tab.erase s.hel.wrs i } }
  let s := s.wr (HEL_STATE.INFLIGHT) s.running
  let s := s.setReg (HEL_INFLIGHT_W0.TAG i).off 0
  let s := s.wr (HEL_INFLIGHT_W1.PROGRESS i) 0
  let s := s.wr (HEL_INFLIGHT_W2.SENT i) 0
  s.wr (HEL_INFLIGHT_W3.CONFIRMED i) 0

/-! ## Queues (R268, R269) -/

/-- An entry at the front of a queue of the engine. -/
structure QEntry where
  unit : Nat
  ictx : Nat
  part : Option Nat
  words : List Word
  fired : Bool
  deriving DecidableEq, Repr

/-- The unit of an issuing unit's queue: 64 the heliostat sequencer, 65 to 72 the newel cores. -/
def queueUnit (q : Nat) : Nat := if q = 64 then 0x18 else 0x20 + (q - 65)

/-- The host ring's next entry, where its memory can be reached. -/
def State.helRingEntry (s : State) (p : Nat) : Option (List Word) :=
  let a := ringSlot (s.rd (HEL_P_BASE.DPA p 0)) (s.helSize p 0) (s.rd (helHead p 0)) 64
  if s.helSize p 0 = 0 ∨ s.helCount p 0 = 0 ∨ s.atr.warm.isSome then none
  else if s.storeStatus a 64 = .ok then some (s.words a 8) else none

/-- The front of a queue: fired requests stand before the entries of their partition's ring. -/
def State.queueFront (s : State) (q : Nat) : Option QEntry :=
  if q < 64 then
    match s.hel.fired.find? (fun e => e.1 == q) with
    | some e => some { unit := 0xFF, ictx := q, part := some q, words := e.2, fired := true }
    | none => (s.helRingEntry q).map (fun ws =>
        { unit := 0xFF, ictx := q, part := some q, words := ws, fired := false })
  else
    (s.hel.posted.find? (fun e => e.unit == queueUnit q)).map (fun e =>
      { unit := e.unit, ictx := e.ctx, part := e.part, words := e.words, fired := false })

def State.popQueue (s : State) (q : Nat) : State :=
  if q < 64 then
    match s.hel.fired.find? (fun e => e.1 == q) with
    | some e => { s with hel := { s.hel with fired := s.hel.fired.erase e } }
    | none => s.addMod (helHead q 0) 1
  else
    match s.hel.posted.find? (fun e => e.unit == queueUnit q) with
    | some e => { s with hel := { s.hel with posted := s.hel.posted.erase e } }
    | none => s

/-- The engine can start an entry: fewer than 256 run, the partition's completion ring has room and nothing waits for it
(R271), and a fenced request finds no earlier one of its issuer running. -/
def State.canStart (s : State) (e : QEntry) : Bool :=
  decide (s.running < 256) &&
  (match e.part with
   | none => true
   | some p => s.helRoom p && s.helClear p) &&
  (!wrFence e.words || s.hel.wrs.all (fun w => !(w.2.unit == e.unit && w.2.ictx == e.ictx)))

/-- The queue served next: the first after the one served last whose front can start. -/
def State.nextQueue (s : State) : Option Nat :=
  (firstBelow 73 (fun k =>
    match s.queueFront ((s.hel.lastQueue + 1 + k) % 73) with
    | some e => s.canStart e
    | none => false)).map (fun k => (s.hel.lastQueue + 1 + k) % 73)

/-! ## Trigger slots (R275 to R278) -/

def State.trig (s : State) (i : Nat) : Trig := Tab.get (fun _ => {}) s.hel.trigs i

def State.setTrig (s : State) (i : Nat) (t : Trig) : State :=
  { s with hel := { s.hel with trigs := Tab.put (fun _ => {}) s.hel.trigs i t } }

def State.trigUsed (s : State) (i : Nat) : Bool := s.on (HEL_TRIG_W8.VALID i)
def State.trigPart (s : State) (i : Nat) : Nat := s.rd (HEL_TRIG_W8.PART i)
def State.trigWord (s : State) (i k : Nat) : Word := s.reg (HEL_TRIG_WR.WR i k).off
def State.trigWords (s : State) (i : Nat) : List Word := (List.range 8).map (fun k => s.trigWord i k)
def State.trigKind (s : State) (i : Nat) : Nat := getBits (s.trigWord i 7) 0 2

/-- The armed slots. -/
def State.armedSlots (s : State) : List Nat := (List.range 1024).filter (fun i => s.trigUsed i)

/-- Mark every armed slot of a kind that passes a test as holding. -/
def State.markTrigs (s : State) (kind : Nat) (ok : Nat → Bool) : State :=
  (s.armedSlots.filter (fun i => s.trigKind i == kind && ok i)).foldl
    (fun s i => s.setTrig i { s.trig i with holds := true }) s

/-- A trigger counter has changed: the COUNTER conditions on it are tested. -/
def State.testCounter (s : State) (p n : Nat) : State :=
  s.markTrigs 2 (fun i => s.trigPart i == p && getBits (s.trigWord i 7) 2 4 == n &&
    decide (getBits (s.trigWord i 7) 32 32 ≤ s.rd (HEL_P_TCTR.VALUE p n)))

/-- A WRITE with CTR_INC has completed: 1 to trigger counter CTR_INC - 1, which stops at its largest value. Values above
16 name no counter. -/
def State.bumpCounter (s : State) (p inc : Nat) : State :=
  if inc = 0 ∨ 16 < inc then s
  else
    let n := inc - 1
    (s.wr (HEL_P_TCTR.VALUE p n) (min (s.rd (HEL_P_TCTR.VALUE p n) + 1) (2 ^ 32 - 1))).testCounter p n

/-- The condition is well formed (Table 13-4). -/
def condLegal (w : Word) : Bool :=
  let k := getBits w 0 2
  if k = 1 then getBits w 16 16 == 0
  else if k = 2 then getBits w 6 10 == 0 && getBits w 16 16 == 0
  else k == 3 && getBits w 16 48 == 0

/-- The condition holds at the arm. -/
def State.holdsAtArm (s : State) (p : Nat) (w : Word) : Bool :=
  let k := getBits w 0 2
  if k = 2 then decide (getBits w 32 32 ≤ s.rd (HEL_P_TCTR.VALUE p (getBits w 2 4)))
  else k == 3 && s.inStates (getBits w 2 14) [.decode, .parked]

def State.countTrigs (s : State) (p : Nat) : State :=
  let s := s.wr HEL_STATE.ARMED s.armedSlots.length
  s.wr (HEL_P_USE.TRIGS p) (s.armedSlots.filter (fun i => s.trigPart i == p)).length

/-- Hold a work request in a trigger slot. -/
def State.armSlot (s : State) (i p : Nat) (ws : List Word) : State :=
  let s := (ws.zip (List.range 8)).foldl (fun s e => s.setReg (HEL_TRIG_WR.WR i e.2).off e.1) s
  let s := (s.wr (HEL_TRIG_W8.VALID i) 1).wr (HEL_TRIG_W8.PART i) p
  (s.setTrig i { holds := s.holdsAtArm p (ws.getD 7 0) }).countTrigs p

/-- Free a trigger slot. -/
def State.freeSlot (s : State) (i : Nat) : State :=
  let p := s.trigPart i
  let s := (List.range 8).foldl (fun s k => s.setReg (HEL_TRIG_WR.WR i k).off 0) s
  let s := (s.wr (HEL_TRIG_W8.VALID i) 0).wr (HEL_TRIG_W8.PART i) 0
  (s.setTrig i {}).countTrigs p

/-- The status of an arm (R275, R276), ranked by R25. -/
def State.armStatus (s : State) (p : Nat) (ws : List Word) : Status :=
  if !decide (wrOp ws ≤ 5) ∨ !condLegal (ws.getD 7 0) then .badLength
  else if 1024 ≤ s.armedSlots.length then .refusedFull
  else if s.rd (HEL_P_TRIG.QUOTA p) ≤ s.rd (HEL_P_USE.TRIGS p) then .refusedPolicy
  else .ok

/-- HEL_LAST_ERR names a work request that has failed. -/
def State.noteHelLast (s : State) (p op : Nat) (st : Status) : State :=
  let s := s.wr HEL_LAST_ERR.STATUS st.code
  let s := s.wr HEL_LAST_ERR.OP op
  let s := s.wr HEL_LAST_ERR.PART p
  s.wr HEL_LAST_ERR.MERIDIAN s.mer32

/-- A work request of a partition has failed: its partition counts it too. -/
def State.noteHelError (s : State) (p op : Nat) (st : Status) : State :=
  (s.inc (HEL_P_FAILED.COUNT p)).noteHelLast p op st

/-- A trigger slot ends without firing: its completion record says ABANDONED (R278). -/
def State.abandonSlot (s : State) (i : Nat) : State :=
  let p := s.trigPart i
  let ws := s.trigWords i
  let s := s.freeSlot i
  let s := s.noteHelError p (wrOp ws) .abandoned
  s.helComplete p (helRecord Status.abandoned.code (wrOp ws) p false false 0xFF 0 (wrTag ws) (wrNode ws) 0 0)

/-- A trigger that holds moves its work request to the front of its partition's queue; one on a record that has entered
FAILED or FREE ends with ABANDONED. -/
def doTriggerFire (i : Fin 1024) (s : State) : State :=
  if !s.trigUsed i then s
  else if (s.trig i).dead then s.abandonSlot i
  else if (s.trig i).holds then
    let e := (s.trigPart i, s.trigWords i)
    let s := s.freeSlot i
    State.inc { s with hel := { s.hel with fired := e :: s.hel.fired } } HEL_TRIG_FIRED.COUNT
  else s

/-- HEL_TRIG_CANCEL; a slot that holds nothing is left. -/
def doHelTrigCancel (a : Agent) (i : Fin 1024) (s : State) : State :=
  if !s.mayWriteDevice a then s.refuseWrite a .HEL 0
  else if s.trigUsed i then s.abandonSlot i
  else s

/-! ## Handover entries (R289) -/

def State.out (s : State) (h : Nat) : Handover := Tab.get (fun _ => {}) s.hel.outs h
def State.setOut (s : State) (h : Nat) (v : Handover) : State :=
  { s with hel := { s.hel with outs := Tab.put (fun _ => {}) s.hel.outs h v } }
def State.inn (s : State) (h : Nat) : Handover := Tab.get (fun _ => {}) s.hel.ins h
def State.setInn (s : State) (h : Nat) (v : Handover) : State :=
  { s with hel := { s.hel with ins := Tab.put (fun _ => {}) s.hel.ins h v } }

/-- A direction's registers of an entry. -/
def hoValid (inb : Bool) (h : Nat) : FieldRef := if inb then HEL_IN_W0.VALID h else HEL_OUT_W0.VALID h
def hoRecord (inb : Bool) (h : Nat) : FieldRef := if inb then HEL_IN_W0.RECORD h else HEL_OUT_W0.RECORD h
def hoPart (inb : Bool) (h : Nat) : FieldRef := if inb then HEL_IN_W0.PART h else HEL_OUT_W0.PART h
def hoPeer (inb : Bool) (h : Nat) : FieldRef := if inb then HEL_IN_W0.PEER h else HEL_OUT_W0.PEER h
def hoReq (inb : Bool) (h : Nat) : FieldRef := if inb then HEL_IN_W1.REQ_ID h else HEL_OUT_W1.REQ_ID h
def hoEpoch (inb : Bool) (h : Nat) : FieldRef := if inb then HEL_IN_W2.EPOCH h else HEL_OUT_W2.EPOCH h
def hoTotal (inb : Bool) (h : Nat) : FieldRef := if inb then HEL_IN_W2.TOTAL h else HEL_OUT_W2.TOTAL h
def hoBytes (inb : Bool) (h : Nat) : FieldRef := if inb then HEL_IN_W3.BYTES h else HEL_OUT_W3.BYTES h
def hoMask (inb : Bool) (h i : Nat) : FieldRef := if inb then HEL_IN_MASK.MASK h i else HEL_OUT_MASK.MASK h i

/-- An entry of the direction in use that passes a test. -/
def State.findHo (s : State) (inb : Bool) (ok : Nat → Bool) : Option Nat :=
  firstBelow 1024 (fun h => s.on (hoValid inb h) && ok h)

def State.freeHo (s : State) (inb : Bool) : Option Nat := firstBelow 1024 (fun h => !s.on (hoValid inb h))

def State.countHo (s : State) (p : Nat) : State :=
  let n (inb : Bool) : Nat := countBelow 1024 (fun h => s.on (hoValid inb h))
  let mine (inb : Bool) : Nat := countBelow 1024 (fun h => s.on (hoValid inb h) && s.rd (hoPart inb h) == p)
  let s := (s.wr HEL_STATE.OUT_OPEN (n false)).wr HEL_STATE.IN_OPEN (n true)
  s.wr (HEL_P_USE.HANDOVERS p) (mine false + mine true)

/-- Open an entry. -/
def State.openHo (s : State) (inb : Bool) (h rec p peer : Nat) (req : Word) (epoch total : Nat) : State :=
  let s := (s.wr (hoRecord inb h) rec).wr (hoPart inb h) p
  let s := (s.wr (hoValid inb h) 1).wr (hoPeer inb h) peer
  let s := (s.wr (hoReq inb h) req.toNat).wr (hoEpoch inb h) epoch
  let s := (s.wr (hoTotal inb h) total).wr (hoBytes inb h) 0
  let s := (List.range 4).foldl (fun s i => s.wr (hoMask inb h i) 0) s
  let s := if inb then s.setInn h {} else s.setOut h {}
  s.countHo p

/-- Close an entry: all its words read 0. -/
def State.closeHo (s : State) (inb : Bool) (h : Nat) : State :=
  let p := s.rd (hoPart inb h)
  let s := (s.setReg (hoValid inb h).off 0).setReg (hoReq inb h).off 0
  let s := (s.setReg (hoEpoch inb h).off 0).setReg (hoBytes inb h).off 0
  let s := (List.range 4).foldl (fun s i => s.wr (hoMask inb h i) 0) s
  let s := if inb then s.setInn h {} else s.setOut h {}
  s.countHo p

def State.hoBit (s : State) (inb : Bool) (h l : Nat) : Bool := bitOf (s.rd (hoMask inb h (l / 64))) (l % 64)

def State.setHoBit (s : State) (inb : Bool) (h l : Nat) : State :=
  s.wr (hoMask inb h (l / 64)) (withBit (s.rd (hoMask inb h (l / 64))) (l % 64))

/-- Layers whose bit is set, and whether every bit below TOTAL is. -/
def State.hoLayers (s : State) (inb : Bool) (h : Nat) : Nat := countBelow 256 (fun l => s.hoBit inb h l)
def State.hoFull (s : State) (inb : Bool) (h : Nat) : Bool := allBelow (s.rd (hoTotal inb h)) (fun l => s.hoBit inb h l)

/-- The progress word of a handover entry (R272, Table 8-4). -/
def State.hoProgress (s : State) (inb : Bool) (h : Nat) (st : Status) : Word :=
  let r := s.rd (hoRecord inb h)
  setBits (setBits (setBits (setBits 0 0 8 st.code) 8 8 (s.hoLayers inb h)) 16 21 (s.recF r Rec.COMMITTED)) 37 27
    (min (s.rd (hoBytes inb h) / 1024) (2 ^ 27 - 1))

/-- The status a handover entry shows of the work so far: PARTIAL until every layer is there. -/
def State.hoStatus (s : State) (inb : Bool) (h : Nat) : Status := if s.hoFull inb h then .ok else .partialDone

/-! ## Flushes (R274, R335) -/

/-- Issue an S_FLUSH that covers what the issuer has sent to (node, partition) so far. -/
def State.issueFlush (s : State) (n : Nat) (owner : Owner) (tk unit : Nat) (ictx : Option Nat) (node part : Nat)
    (place : Option Nat) : State :=
  let cov := (unit, ictx, node, part, s.tp.nextMsg)
  let r := s.newReq { ctx := n, req := 0, kind := 0x27, owner := owner, covers := some cov }
  r.1.offer { ctx := n, kind := 0x27, tk := tk, owner := owner, flds := [r.2, 0], unit := place, flushOf := some cov }

def execTriggerFire (i : Fin 1024) (s : State) : Host.Outcome State Fault Refusal := .next (doTriggerFire i s)
def execHelTrigCancel (a : Agent) (i : Fin 1024) (s : State) : Host.Outcome State Fault Refusal :=
  .next (s.whenReady .HEL 0 (doHelTrigCancel a i))

end Sys2Proof.Machine
end

