-- ==== Sys2Proof/Machine/Expander.lean ====
section
/-! DEFINITION. The operand expander: code tables, block tags, and the decoding of Holtix-coded blocks (R143 to R161). -/

namespace Sys2Proof.Machine

/-! ## Block tags (R150 to R152) -/

def State.obTag (s : State) (g bay slot : Nat) : Nat := Tab.get (fun _ => 0) s.gal.obTags ((g * 16 + bay) * 384 + slot)
def State.gsTag (s : State) (g slot : Nat) : Nat := Tab.get (fun _ => 0) s.gal.gsTags (g * 8192 + slot)

def State.setObTag (s : State) (g bay slot v : Nat) : State :=
  { s with gal := { s.gal with obTags := Tab.put (fun _ => 0) s.gal.obTags ((g * 16 + bay) * 384 + slot) v } }

def State.setGsTag (s : State) (g slot v : Nat) : State :=
  { s with gal := { s.gal with gsTags := Tab.put (fun _ => 0) s.gal.gsTags (g * 8192 + slot) v } }

/-- A tensor space whose translation entries hold tags (R151). -/
def taggedSpace (sp : Nat) : Bool := sp == 0 || sp == 4 || sp == 5

/-- The tag of a 4 KiB half of a unit, in its translation entry. -/
def State.taTag (s : State) (p ta : Nat) : Nat :=
  let e := s.entry p (taSpace ta) (taOff ta / 8192)
  if ta / 4096 % 2 = 0 then e.tag0 else e.tag1

def State.setTaTag (s : State) (p ta v : Nat) : State :=
  let sp := taSpace ta
  let u := taOff ta / 8192
  let e := s.entry p sp u
  if taggedSpace sp && decide (u < s.spaceUnits p sp) && e.homed then
    s.setEntry p sp u (if ta / 4096 % 2 = 0 then { e with tag0 := v } else { e with tag1 := v })
  else s

/-- The tag of a slot a descriptor names: LOC 0, 1 or 3, and the offset or address of the slot. -/
def State.slotTag (s : State) (p g bay loc a : Nat) : Nat :=
  if loc = 0 then s.taTag p a else if loc = 1 then s.obTag g bay (a / 4096) else s.gsTag g (a / 4096)

def State.setSlotTag (s : State) (p g bay loc a v : Nat) : State :=
  if loc = 0 then s.setTaTag p a v
  else if loc = 1 then s.setObTag g bay (a / 4096) v
  else if loc = 3 then s.setGsTag g (a / 4096) v
  else s

/-- A write of n bytes sets to 0 the tag of every slot it touches (R152). -/
def State.clearSlotTags (s : State) (g bay loc a n : Nat) : State :=
  if n = 0 then s
  else (List.range ((a + n - 1) / 4096 - a / 4096 + 1)).foldl (fun s i => s.setSlotTag 0 g bay loc ((a / 4096 + i) * 4096) 0) s

/-! ## Code tables (R144 to R147) -/

/-- Code lengths of a table held as 17 words: 16 of lengths, then EXP_BITS. -/
def tableLen (ws : List Word) (sym : Nat) : Nat := getBits (ws.getD (sym / 16) 0) (4 * (sym % 16)) 4
def tableBits (ws : List Word) : Nat := getBits (ws.getD 16 0) 0 4

/-- The live table and the shadow copy of a table. -/
def State.liveTable (s : State) (g n : Nat) : List Word :=
  (List.range 16).map (fun i => s.liveReg (GAL_TABLE_LEN.LEN16 g n i).off) ++ [s.liveReg (GAL_TABLE_EXP.EXP_BITS g n).off]

def State.shadowTable (s : State) (g n : Nat) : List Word :=
  (List.range 16).map (fun i => s.reg (GAL_TABLE_LEN.LEN16 g n i).off) ++ [s.reg (GAL_TABLE_EXP.EXP_BITS g n).off]

def State.setLiveTable (s : State) (g n : Nat) (ws : List Word) : State :=
  let s := (List.range 16).foldl (fun s i => s.setLive (GAL_TABLE_LEN.LEN16 g n i).off (ws.getD i 0)) s
  s.setLive (GAL_TABLE_EXP.EXP_BITS g n).off (ws.getD 16 0)

/-- Every length is 0: the table is invalid. -/
def tableEmpty (ws : List Word) : Bool := allBelow 256 (fun x => tableLen ws x == 0)

/-- The check of R146. -/
def tablePasses (ws : List Word) : Bool :=
  tableEmpty ws ||
  (allBelow 256 (fun x => decide (tableLen ws x ≤ 8) && (decide (x < 2 ^ tableBits ws) || tableLen ws x == 0)) &&
   decide (((List.range 256).map (fun x => if tableLen ws x = 0 then 0 else 2 ^ (8 - tableLen ws x))).sum ≤ 256))

/-- Symbols of one length take consecutive codes: (length, code, symbol). -/
def codesOfLen (l : Nat) : Nat → List Nat → List (Nat × Nat × Nat) × Nat
  | code, [] => ([], code)
  | code, x :: xs =>
    let r := codesOfLen l (code + 1) xs
    ((l, code, x) :: r.1, r.2)

/-- The canonical code of a table, lengths `l` and up (R144). -/
def canonFrom (ws : List Word) : Nat → Nat → Nat → List (Nat × Nat × Nat)
  | 0, _, _ => []
  | n + 1, l, code =>
    let r := codesOfLen l (2 * code) ((List.range 256).filter (fun x => tableLen ws x == l))
    r.1 ++ canonFrom ws n (l + 1) r.2

def canonCodes (ws : List Word) : List (Nat × Nat × Nat) := canonFrom ws 8 1 0

/-! ## Blocks (R143, R149, R159) -/

/-- Exponent bits, and sign-and-mantissa width, of a coded format (Table 7-1). -/
def codedExp (fmt : Nat) : Nat := if fmt ≤ 1 then 8 else if fmt = 2 ∨ fmt = 4 then 5 else 4
def codedWidth (fmt : Nat) : Nat :=
  match fmt with
  | 0 => 24
  | 1 => 8
  | 2 => 11
  | 3 => 4
  | _ => 3

/-- The bits of a byte, most significant first. -/
def bitsOf (b : Byte) : List Bool := (List.range 8).map (fun i => bitOf b.toNat (7 - i))

/-- One code word from a bit stream: its symbol, its length and the rest. `n` bits have been read, of value `v`. -/
def nextSym (codes : List (Nat × Nat × Nat)) : Nat → Nat → Nat → List Bool → Option (Nat × Nat × List Bool)
  | 0, _, _, _ => none
  | _, _, _, [] => none
  | fuel + 1, n, v, b :: bs =>
    let v := 2 * v + b01 b
    match codes.find? (fun c => c.1 == n + 1 && c.2.1 == v) with
    | some c => some (c.2.2, n + 1, bs)
    | none => nextSym codes fuel (n + 1) v bs

/-- The exponents of n elements and their code lengths; none where a code word is unassigned or the stream ends. -/
def decodeSyms (codes : List (Nat × Nat × Nat)) : Nat → List Bool → Option (List (Nat × Nat))
  | 0, _ => some []
  | n + 1, bs =>
    match nextSym codes 8 0 0 bs with
    | none => none
    | some (x, l, rest) => (decodeSyms codes n rest).map (fun r => (x, l) :: r)

/-- The number of decode groups: at most 128 elements and 256 bits of code each (R155). -/
def decodeGroups : List (Nat × Nat) → Nat → Nat → Nat
  | [], _, _ => 1
  | (_, l) :: xs, n, bits =>
    if n = 128 ∨ 256 < bits + l then 1 + decodeGroups xs 1 l else decodeGroups xs (n + 1) (bits + l)

/-- One block as the expander delivers it. -/
structure BlockOut where
  /-- Raw element codes. -/
  codes : List Nat
  coded : Bool := false
  fetched : Nat := 0
  raw : Nat := 0
  /-- Decode cycles. -/
  cycles : Nat := 0
  err : Option Status := none
  deriving DecidableEq, Repr

/-- n codes of a width packed from the low bits of a byte string (R105). -/
def unpack (width n : Nat) (bs : Bytes) : List Nat :=
  let v := leNat bs
  (List.range n).map (fun j => v / 2 ^ (width * j) % 2 ^ width)

def pack (width : Nat) : List Nat → Nat
  | [] => 0
  | c :: cs => c % 2 ^ width + 2 ^ width * pack width cs

def packBytes (width : Nat) (cs : List Nat) : Bytes := leBytes ((cs.length * width + 7) / 8) (pack width cs)

/-- Decode one block of n elements whose slot bytes and tag are given, for a descriptor that names table ctab. -/
def decodeBlock (ws : List Word) (fmt bits n tag ctab : Nat) (slot : Bytes) : BlockOut :=
  let rawLen := n * bits / 8
  let zeros := List.replicate n 0
  let w := codedWidth fmt
  let plane := (n * w + 7) / 8
  let len := 16 * (tag / 2 % 256)
  if tag % 2 = 0 then { codes := unpack bits n (slot.take rawLen), fetched := rawLen, raw := rawLen }
  else if tag / 512 % 16 ≠ ctab ∨ len = 0 then
    { codes := zeros, coded := true, fetched := len, raw := rawLen, err := some .badLength }
  else
    let body := slot.take len
    match decodeSyms (canonCodes ws) n ((body.drop plane).flatMap bitsOf) with
    | none => { codes := zeros, coded := true, fetched := len, raw := rawLen, err := some .uncorrected }
    | some syms =>
      let sm := unpack w n (body.take plane)
      let mant := w - 1
      let ex := codedExp fmt
      { codes := (sm.zip syms).map (fun x => x.1 % 2 ^ mant + 2 ^ mant * (x.2.1 + 2 ^ ex * (x.1 / 2 ^ mant)))
        coded := true, fetched := len, raw := rawLen, cycles := decodeGroups syms 0 0 }

/-- The counters and the record of one delivered block (R158, R159, R160). `addr` is the DPA of its slot. -/
def State.noteBlock (s : State) (part : Option Nat) (g bay ctab addr : Nat) (b : BlockOut) : State :=
  let s := if b.coded then s.inc (GAL_XP_CODED.COUNT g) else s.inc (GAL_XP_RAW.COUNT g)
  let s := s.add (GAL_XP_FETCHED.BYTES g) b.fetched
  let s := s.add (GAL_XP_RAWEQ.BYTES g) b.raw
  let s := if 32 < b.cycles then
      ((s.inc (GAL_XP_OVERCAP.COUNT g)).add (GAL_XP_OVERCAP_CYC.CYCLES g) (b.cycles - 32)).markSlice g
        (fun x => { x with overCap := true })
    else s
  match b.err with
  | none => s
  | some st =>
    let s := if st = Status.badLength then s.inc (GAL_XP_TAG_ERR.COUNT g) else s.inc (GAL_XP_DECODE_ERR.COUNT g)
    let s := s.wr (GAL_XP_LAST_ERR.STATUS g) st.code
    let s := s.wr (GAL_XP_LAST_ERR.BAY g) bay
    let s := s.wr (GAL_XP_LAST_ERR.CTAB g) ctab
    let s := s.wr (GAL_XP_LAST_ERR.MERIDIAN g) s.mer32
    s.report { cls := 0x03, status := st.code, sev := 3, part := part, blk := Blk.GAL.code, inst := g, unit := g,
               addr := addr, d1 := bay }

/-! ## The HBM rate of a gallery (R127, R129, R130) -/

/-- Bays of a gallery belong to more than one partition (R127). -/
def State.gallerySplit (s : State) (g : Nat) : Bool :=
  let os := ((List.range 16).filterMap (fun b => s.bayOwner (16 * g + b))).eraseDups
  decide (2 ≤ os.length)

/-- The contribution of a partition's pseudo-channels outside the compute-mode set, in 1/256 byte a cycle: 12.8 bytes
each (R129), kept as tenths. -/
def State.hbmContribution (s : State) (p : Nat) : Nat :=
  ((s.grantedPcs p).filter (fun i => !bitOf (s.rd (NBU_CM.SET (i / 32))) (i % 32))).length * 128 * 256

/-- The sum of the live RATE of a partition's galleries other than g. -/
def State.otherRates (s : State) (p g : Nat) : Nat :=
  ((s.galleriesOf p).filter (fun x => x != g)).foldl (fun n x => n + s.rd (GAL_HBM.RATE x)) 0

/-- A RATE that a gallery may take (R129). -/
def State.rateOk (s : State) (g rate : Nat) : Bool :=
  rate == 0 ||
  (!s.gallerySplit g &&
   match s.bayOwner (16 * g) with
   | none => false
   | some p => decide ((s.otherRates p g + rate) * 10 ≤ s.hbmContribution p))

/-- RATE_OVER at an apply point (R130): the sum is above the contribution, or the installed image declares more than the
live RATE. -/
def State.rateOver (s : State) (g : Nat) : Bool :=
  let rate := s.rd (GAL_HBM.RATE g)
  !s.rateOk g rate || decide (rate < (s.installedImage g).hbmRate)

/-- RATE_OVER falls where neither of its conditions holds (R130). -/
def State.rateFalls (s : State) (g : Nat) : State :=
  if s.on (GAL_STATE.RATE_OVER g) && !s.rateOver g then s.wr (GAL_STATE.RATE_OVER g) 0 else s

end Sys2Proof.Machine
end

