-- ==== Sys2Proof/Machine/Numerics.lean ====
section
/-! DEFINITION. Number formats: values as exact dyadic numbers, the codes of each format, rounding, and the sums of the
bays (R104 to R120). -/

namespace Sys2Proof.Machine

/-- A value: NaN, an infinity, or (−1)^neg × m × 2^e. A zero keeps its sign. -/
inductive Num where
  | nan
  | inf (neg : Bool)
  | fin (neg : Bool) (m : Nat) (e : Int)
  deriving DecidableEq, Repr

/-- A format code's bits per element (Table 5-1). -/
def fmtBits (fmt : Nat) : Nat :=
  match fmt with
  | 0x0 => 32
  | 0x1 => 16
  | 0x2 => 16
  | 0x3 => 8
  | 0x4 => 8
  | 0x5 => 6
  | 0x6 => 6
  | 0x7 => 4
  | 0x8 => 8
  | 0x9 => 4
  | 0xA => 10
  | _ => 32

/-- Formats with a block scale (FMT 0x3 to 0x8), float formats and integer operand formats. -/
def fmtMx (fmt : Nat) : Bool := decide (3 ≤ fmt) && decide (fmt ≤ 8)
def fmtFloat (fmt : Nat) : Bool := decide (fmt ≤ 7) || fmt == 0xA
def fmtInt (fmt : Nat) : Bool := fmt == 8 || fmt == 9

/-- Exponent bits, mantissa bits and bias of a float format; pb is the page exponent bias of KV10. -/
def fmtShape (fmt : Nat) (pb : Int) : Nat × Nat × Int :=
  match fmt with
  | 0x0 => (8, 23, 127)
  | 0x1 => (8, 7, 127)
  | 0x2 => (5, 10, 15)
  | 0x3 => (4, 3, 7)
  | 0x4 => (5, 2, 15)
  | 0x5 => (3, 2, 3)
  | 0x6 => (2, 3, 1)
  | 0x7 => (2, 1, 1)
  | _ => (5, 4, 15 - pb)

/-- Whether the magnitude bits of a code are NaN, or infinite (Table 5-1). -/
def fmtNan (fmt mag : Nat) : Bool :=
  match fmt with
  | 0x0 => decide (0x7F800000 < mag)
  | 0x1 => decide (0x7F80 < mag)
  | 0x2 => decide (0x7C00 < mag)
  | 0x3 => mag == 0x7F
  | 0x4 => decide (0x7C < mag)
  | 0xA => mag == 0x1FF
  | _ => false

def fmtInf (fmt mag : Nat) : Bool :=
  match fmt with
  | 0x0 => mag == 0x7F800000
  | 0x1 => mag == 0x7F80
  | 0x2 => mag == 0x7C00
  | 0x4 => mag == 0x7C
  | _ => false

/-- The value of a float code (R104, R110). -/
def fpValue (fmt : Nat) (pb : Int) (code : Nat) : Num :=
  let (eb, mb, bias) := fmtShape fmt pb
  let neg := bitOf code (eb + mb)
  let mag := code % 2 ^ (eb + mb)
  let e := mag / 2 ^ mb
  let m := mag % 2 ^ mb
  if fmtNan fmt mag then .nan
  else if fmtInf fmt mag then .inf neg
  else if e = 0 then .fin neg m (1 - bias - mb)
  else .fin neg (2 ^ mb + m) (e - bias - mb)

/-- Multiply by a power of two. -/
def Num.scale (x : Num) (k : Int) : Num :=
  match x with
  | .fin n m e => .fin n m (e + k)
  | _ => x

/-- ⌊log2⌋ of a non-zero magnitude m × 2^e. -/
def magLog (m : Nat) (e : Int) : Int := (Nat.log2 m : Int) + e

/-- Exact product; 0 × ∞ is NaN (R115). -/
def Num.mul (a b : Num) : Num :=
  match a, b with
  | .nan, _ => .nan
  | _, .nan => .nan
  | .inf x, .inf y => .inf (x != y)
  | .inf x, .fin y m _ => if m = 0 then .nan else .inf (x != y)
  | .fin y m _, .inf x => if m = 0 then .nan else .inf (x != y)
  | .fin x m e, .fin y k f => .fin (x != y) (m * k) (e + f)

/-- m × 2^e as an integer multiple of 2^q, for q ≤ e. -/
def signedAt (neg : Bool) (m : Nat) (e q : Int) : Int :=
  let v : Int := ((m * 2 ^ (e - q).toNat : Nat) : Int)
  if neg then -v else v

/-- Exact sum under IEEE 754 rules for signs of zero, infinities and NaN. -/
def Num.add (a b : Num) : Num :=
  match a, b with
  | .nan, _ => .nan
  | _, .nan => .nan
  | .inf x, .inf y => if x = y then .inf x else .nan
  | .inf x, _ => .inf x
  | _, .inf y => .inf y
  | .fin x m e, .fin y k f =>
    if m = 0 ∧ k = 0 then .fin (x && y) 0 0
    else
      let q := min e f
      let v := signedAt x m e q + signedAt y k f q
      .fin (decide (v < 0)) v.natAbs q

def Num.neg (a : Num) : Num :=
  match a with
  | .nan => .nan
  | .inf x => .inf (!x)
  | .fin x m e => .fin (!x) m e

/-- a < b for values that are not NaN, with −0 equal to +0. -/
def Num.lt (a b : Num) : Bool :=
  match a, b with
  | .inf x, .inf y => x && !y
  | .inf x, .fin _ _ _ => x
  | .fin _ _ _, .inf y => !y
  | .fin x m e, .fin y k f => decide (signedAt x m e (min e f) < signedAt y k f (min e f))
  | _, _ => false

/-- The larger; NaN where either is NaN; +0 of two zeros of different sign (PRESUMED, log 15). -/
def Num.max (a b : Num) : Num :=
  match a, b with
  | .nan, _ => .nan
  | _, .nan => .nan
  | .fin x 0 _, .fin y 0 _ => .fin (x && y) 0 0
  | _, _ => if a.lt b then b else a

/-! ## Rounding (R112) -/

/-- m × 2^e in units of 2^q, rounded: 0 to nearest even, 1 toward zero, 2 toward +∞, 3 toward −∞. -/
def roundUnits (mode : Nat) (neg : Bool) (m : Nat) (e q : Int) : Nat :=
  if q ≤ e then m * 2 ^ (e - q).toNat
  else
    let d := 2 ^ (q - e).toNat
    let k := m / d
    let r := m % d
    let up := match mode with
      | 0 => decide (d < 2 * r) || (2 * r == d && k % 2 == 1)
      | 1 => false
      | 2 => !neg && r != 0
      | _ => neg && r != 0
    if up then k + 1 else k

/-- The magnitude code of a rounded value before any overflow check: biased exponent and mantissa as one number. -/
def magCode (mode : Nat) (neg : Bool) (m : Nat) (e : Int) (mb : Nat) (bias : Int) : Nat :=
  if m = 0 then 0
  else
    let q := max (magLog m e - mb) (1 - bias - mb)
    let k := roundUnits mode neg m e q
    if k < 2 ^ mb then k else ((q + mb + bias).toNat - 1) * 2 ^ mb + k

def withSign (neg : Bool) (bits mag : Nat) : Nat := if neg then mag + 2 ^ (bits - 1) else mag

/-- FP32, BF16 or FP16 of a value (R114, Table 5-3). -/
def encodeIeee (fmt mode : Nat) (x : Num) : Nat :=
  let (eb, mb, bias) := fmtShape fmt 0
  let bits := fmtBits fmt
  let infMag := (2 ^ eb - 1) * 2 ^ mb
  match x with
  | .nan => infMag + 2 ^ (mb - 1)
  | .inf n => withSign n bits infMag
  | .fin n m e =>
    let c := magCode mode n m e mb bias
    if c < infMag then withSign n bits c
    else
      let toInf := mode == 0 || (mode == 2 && !n) || (mode == 3 && n)
      withSign n bits (if toInf then infMag else infMag - 1)

/-- The FP32 code of a value rounded to nearest even. -/
def fp32 (x : Num) : Nat := encodeIeee 0 0 x

/-- KV10 of a value: saturates, and writes NaN as 0x1FF (R111). -/
def encodeKv10 (mode : Nat) (pb : Int) (x : Num) : Nat :=
  match x with
  | .nan => 0x1FF
  | .inf n => withSign n 10 0x1FE
  | .fin n m e => withSign n 10 (min 0x1FE (magCode mode n m e 4 (15 - pb)))

/-- The largest finite magnitude code, and Emax, of an MX float format (R109). -/
def mxMaxCode (fmt : Nat) : Nat :=
  match fmt with
  | 0x3 => 0x7E
  | 0x4 => 0x7B
  | 0x5 => 0x1F
  | 0x6 => 0x1F
  | _ => 0x7

def mxEmax (fmt : Nat) : Int :=
  match fmt with
  | 0x3 => 8
  | 0x4 => 15
  | 0x5 => 4
  | 0x6 => 2
  | 0x7 => 2
  | _ => 0

/-- A two's-complement code of an integer that saturates to n bits. -/
def satInt (n : Nat) (v : Int) : Int := max (-(2 ^ (n - 1) : Nat)) (min v ((2 ^ (n - 1) : Nat) - 1))
def intCode (n : Nat) (v : Int) : Nat := (v % (2 ^ n : Nat)).toNat
def codeInt (n code : Nat) : Int := if code < 2 ^ (n - 1) then (code : Int) else (code : Int) - (2 ^ n : Nat)

/-- An MX element of a finite value already divided by its scale (R109). -/
def encodeMx (fmt mode : Nat) (n : Bool) (m : Nat) (e : Int) : Nat :=
  if fmt = 8 then
    let k : Int := (roundUnits mode n m e (-6) : Nat)
    intCode 8 (satInt 8 (if n then -k else k))
  else
    let (_, mb, bias) := fmtShape fmt 0
    withSign n (fmtBits fmt) (min (mxMaxCode fmt) (magCode mode n m e mb bias))

/-- An MX element under stochastic rounding with the draw r (R113). -/
def encodeMxSr (fmt r : Nat) (n : Bool) (m : Nat) (e : Int) : Nat :=
  if m = 0 then withSign n (fmtBits fmt) 0
  else
    let (_, mb, bias) := fmtShape fmt 0
    let q := max (magLog m e - mb) (1 - bias - mb)
    let k := roundUnits 1 n m e q
    -- the part below one unit, in 1/65,536 of the unit, truncated
    let whole := roundUnits 1 n m e (q - 16)
    let k := if 65536 ≤ whole - k * 65536 + r then k + 1 else k
    let c := if k < 2 ^ mb then k else ((q + mb + bias).toNat - 1) * 2 ^ mb + k
    withSign n (fmtBits fmt) (min (mxMaxCode fmt) c)

/-- The xorshift step of a bay's generator (R113). -/
def xorshift (x : BitVec 32) : BitVec 32 :=
  let x := x ^^^ (x <<< 13)
  let x := x ^^^ (x >>> 17)
  x ^^^ (x <<< 5)

/-! ## Group sums (R116, R117, R119) -/

/-- ⌊log2⌋ of the largest non-zero magnitude of a group. -/
def groupExp : List Num → Option Int
  | [] => none
  | .fin _ m e :: xs =>
    if m = 0 then groupExp xs
    else
      match groupExp xs with
      | none => some (magLog m e)
      | some y => some (max y (magLog m e))
  | _ :: xs => groupExp xs

/-- A product in units of 2^q, its lower bits dropped toward −∞. -/
def windowed (q : Int) (x : Num) : Int :=
  match x with
  | .fin n m e =>
    let v : Int := (m : Int) * (if n then -1 else 1)
    if q ≤ e then v * (2 ^ (e - q).toNat : Nat) else v / (2 ^ (q - e).toNat : Nat)
  | _ => 0

def Num.isFin : Num → Bool
  | .fin _ _ _ => true
  | _ => false

def Num.isNeg : Num → Bool
  | .fin n _ _ => n
  | .inf n => n
  | .nan => false

/-- The sum of a group of at most 32 products (R116). -/
def groupSum (ps : List Num) : Num :=
  if !ps.all Num.isFin then ps.foldl Num.add (.fin true 0 0)
  else
    match groupExp ps with
    | none => .fin (ps.all Num.isNeg) 0 0
    | some top =>
      let q := top - 63
      let v := (ps.map (windowed q)).sum
      .fin (decide (v < 0)) v.natAbs q

/-- Cut a list into groups of 32. -/
def groups32 {α : Type} : Nat → List α → List (List α)
  | 0, _ => []
  | n + 1, xs => if xs.isEmpty then [] else xs.take 32 :: groups32 n (xs.drop 32)

def groupsOf {α : Type} (xs : List α) : List (List α) := groups32 (xs.length / 32 + 1) xs

/-- Add group sums to an FP32 element in order; none starts with the first sum rounded alone. -/
def accumulate (start : Option Nat) (sums : List Num) : Nat :=
  match start, sums with
  | some c, _ => sums.foldl (fun a x => fp32 ((fpValue 0 0 a).add x)) c
  | none, [] => 0
  | none, x :: xs => xs.foldl (fun a y => fp32 ((fpValue 0 0 a).add y)) (fp32 x)

/-- Shift an exact integer: left exactly, right rounding to nearest even (R117). -/
def shiftInt (v : Int) (k : Int) : Int :=
  if 0 ≤ k then v * (2 ^ k.toNat : Nat)
  else
    let r : Int := (roundUnits 0 false v.natAbs 0 (-k) : Nat)
    if v < 0 then -r else r

/-! ## Elementwise functions (R119, R120) -/

/-- The FP32 code of a value that an instruction only copies: NaN becomes canonical (R114, DEDUCED, log 16). -/
def copyFp32 (c : Nat) : Nat := if fmtNan 0 (c % 2 ^ 31) then 0x7FC00000 else c

/-- A fixed-point number has 512 bits below its point. -/
def fixOne : Nat := 2 ^ 512

/-- The terms of the exponential series of a non-negative fixed-point x from the n-th on, `t` being the n-th. -/
def expTerms : Nat → Nat → Nat → Nat → Nat
  | 0, _, _, _ => 0
  | k + 1, n, t, x => t + expTerms k (n + 1) (t * x / fixOne / (n + 1)) x

/-- e to the power x, for |x| ≤ 256, in fixed point. -/
def expFix (neg : Bool) (x : Nat) : Nat :=
  let y := expTerms 1500 0 fixOne x
  if neg then fixOne * fixOne / y else y

/-- A magnitude as a fixed-point number. -/
def fixOf (m : Nat) (e : Int) : Nat := roundUnits 1 false m e (-512)

/-- The integer square root, from bit b - 1 down. -/
def sqrtBits : Nat → Nat → Nat → Nat
  | 0, _, r => r
  | b + 1, v, r => if (r + 2 ^ b) * (r + 2 ^ b) ≤ v then sqrtBits b v (r + 2 ^ b) else sqrtBits b v r

/-- ⌊2√(2/π) × 2^512⌋. -/
def geluFactor : Nat := 0x19884533D436508D0FCB3C500BAB8E2FF4E0A7CC1449C1B63011C6D20098E74BA77E2B15511F4F6DC8FD74EAECDD3A237AC509DE5C2F8544C9E3A64D117C233FE

/-- x ÷ (1 + e^(-y)) with the sign of x, all magnitudes in fixed point and y of the sign of x: x itself where y is past 256. -/
def gated (n : Bool) (x y : Nat) : Num :=
  if 256 * fixOne ≤ y then .fin n (if n then 0 else x) (-512)
  else .fin n (x * fixOne / (fixOne + expFix (!n) y)) (-512)

/-- The exact value of function fn on a non-zero finite operand, to far more places than its bound needs (R120): 0 EXP, 1 RECIP,
2 RSQRT of a positive operand, 3 SILU, 4 GELU in its tanh form (the constants of that form: PRESUMED, log 34). -/
def tfnExact (fn : Nat) (n : Bool) (m : Nat) (e : Int) : Num :=
  let x := fixOf m e
  match fn with
  | 0 => if 256 * fixOne ≤ x then (if n then .fin false 0 0 else .inf false) else .fin false (expFix n x) (-512)
  | 1 => .fin n (2 ^ 600 / m) (-600 - e)
  | 2 =>
    let m := if e % 2 = 0 then m else 2 * m
    .fin false (sqrtBits 520 (2 ^ 1000 / m) 0) (-500 - e / 2)
  | 3 => gated n x x
  | _ => gated n x (if 16 * fixOne ≤ x then 256 * fixOne
      else geluFactor * (x + 44715 * x * x / fixOne * x / fixOne / 1000000) / fixOne)

/-- A code lies within k units in the last place of a value: units of 2^q. -/
def withinUlps (k : Nat) (v : Num) (q : Int) (code : Nat) : Bool :=
  match v.add (fpValue 0 0 code).neg with
  | .fin _ d f => !(Num.lt (.fin false k q) (.fin false d f))
  | _ => false

/-- A free code held to the bound of R120: where the exact value is a normal number, a free code that is not within k units in
its last place gives way to the value's nearest code. -/
def boundedUlps (k : Nat) (v : Num) (open_ : Nat) : Nat :=
  match v with
  | .fin n m e =>
    if m ≠ 0 ∧ -126 ≤ magLog m e ∧ magLog m e < 128 then
      (if withinUlps k v (magLog m e - 23) open_ then open_ else fp32 (.fin n m e))
    else open_
  | _ => open_

/-- EXP on a finite operand: overflow gives +∞, underflow a subnormal or +0. -/
def expElement (exact : Num) (normal : Bool) (open_ : Nat) : Nat :=
  match exact with
  | .fin _ m e =>
    if !normal then open_
    else if 128 ≤ magLog m e ∧ m ≠ 0 then 0x7F800000
    else if m = 0 ∨ magLog m e < -126 then open_ % 2 ^ 23
    else boundedUlps 2 exact open_
  | _ => 0x7F800000

/-- An elementwise function on one FP32 element: the special results of Table 5-5, the bound of R120 for a normal operand and
result, and otherwise the free value that function number `id` gives. The bound is read to hold of RECIP and RSQRT of a
subnormal operand too, which are computed without flushing, and of EXP of a zero (DEDUCED, log 34). -/
def elementwise (id fn c : Nat) : Nat :=
  let open_ := (Sys2Proof.Config.tfn id (BitVec.ofNat 32 c)).toNat
  match fpValue 0 0 c with
  | .nan => 0x7FC00000
  | .inf n =>
    match fn with
    | 0 => if n then 0 else 0x7F800000
    | 1 => if n then 0x80000000 else 0
    | 2 => if n then 0x7FC00000 else 0
    | 3 => if n then 0x80000000 else open_
    | 4 => if n then 0x80000000 else open_
    | _ => c
  | .fin n m e =>
    let normal : Bool := decide (0x00800000 ≤ c % 2 ^ 31)
    match fn with
    | 0 => expElement (if m = 0 then .fin false 1 0 else tfnExact 0 n m e) (normal || m == 0) open_
    | 1 => if m = 0 then (if n then 0xFF800000 else 0x7F800000) else boundedUlps 2 (tfnExact 1 n m e) open_
    | 2 =>
      if m = 0 then (if n then 0xFF800000 else 0x7F800000) else if n then 0x7FC00000
      else boundedUlps 2 (tfnExact 2 n m e) open_
    | 3 => if normal then boundedUlps 4 (tfnExact 3 n m e) open_ else open_
    | 4 => if normal then boundedUlps 4 (tfnExact 4 n m e) open_ else open_
    | _ => c

/-- TFN on one FP32 element, in a bay. -/
def tfnElement (fn c : Nat) : Nat := elementwise fn fn c

end Sys2Proof.Machine
end

