-- ==== Sys2Proof/Machine/Tiles.lean ====
section
/-! DEFINITION. Class 0x5 instructions: the operand rules of tiles, the bay queues, and what a bay does when it
completes a tile instruction (R73 to R75, R106 to R120, R124, R127, R128, R152, R488). -/

namespace Sys2Proof.Machine

/-! ## Operand rules -/

def baySram (g bay : Nat) : Nat := 0x10020000000 + (g * 16 + bay) * 0x200000

/-- The DPA of a store's first byte (Table 6-2). -/
def storeDpa (g bay loc : Nat) : Nat :=
  if loc = 1 then baySram g bay else if loc = 2 then baySram g bay + 0x180000 else galleryBase g

/-- Where a store ends (R124). -/
def State.storeEnd (s : State) (g loc : Nat) : Nat :=
  if loc = 1 then 0x180000 else if loc = 2 then 0x80000 else s.rd (GAL_STORE.T0_BASE g)

def Tile.bits (t : Tile) : Nat := fmtBits t.fmt
def Tile.rowBytes (t : Tile) : Nat := (t.cols * t.bits + 7) / 8

/-- The page exponent bias of a KV10 descriptor (R110). -/
def Tile.pb (t : Tile) : Int := codeInt 8 (t.scale % 256)

/-- The rules of R58, R106, R110 and R148 on one descriptor. -/
def Tile.wellFormed (t : Tile) : Bool :=
  let mult := if fmtMx t.fmt then 32 else if t.fmt = 0xA then 4 else if t.fmt = 9 then 2 else 1
  t.legal && t.cols % mult == 0 && (decide (t.rows ≤ 1) || decide (t.rowBytes ≤ t.stride)) &&
  (t.fmt != 0xA || (decide (t.scale < 256) && decide (-96 ≤ t.pb) && decide (t.pb ≤ 96))) &&
  (!t.comp || (t.base % 4096 == 0 && t.stride == t.rowBytes && t.loc != 2 && (t.loc != 0 || taggedSpace (taSpace t.base))))

/-- The tile, and its scale array, lie in their store (R124, R125); LOC 3 belongs to the owner of bay index 0 (R127). -/
def State.tileFits (s : State) (g bay : Nat) (t : Tile) : Bool :=
  let last : Int := (t.base : Int) + ((t.rows : Int) - 1) * t.stride + t.rowBytes
  t.loc == 0 ||
  (decide (last ≤ s.storeEnd g t.loc) &&
   (!fmtMx t.fmt || decide (t.scale + t.rows * t.cols / 32 ≤ s.storeEnd g t.loc)) &&
   (t.loc != 3 || s.bayOwner (16 * g + bay) == none || s.bayOwner (16 * g + bay) == s.bayOwner (16 * g)))

def State.tileOk (s : State) (g bay : Nat) (t : Tile) : Bool := t.wellFormed && s.tileFits g bay t

/-- The live table of a coded operand is valid and of its exponent width (R147). -/
def State.tableOk (s : State) (g : Nat) (t : Tile) : Bool :=
  !t.comp || (bitOf (s.rd (GAL_XP_TABLES.VALID g)) t.ctab && tableBits (s.liveTable g t.ctab) == codedExp t.fmt)

/-- TMMA (R74, R108, R124, R147). -/
def State.tmmaOk (s : State) (g bay : Nat) (d a b : Tile) : Bool :=
  s.tileOk g bay d && s.tileOk g bay a && s.tileOk g bay b && a.loc != 0 && b.loc != 0 && d.loc == 2 &&
  a.c == b.r && d.r == a.r && d.c == b.c &&
  ((fmtFloat a.fmt && fmtFloat b.fmt && d.fmt == 0) || (fmtInt a.fmt && fmtInt b.fmt && d.fmt == 0xB)) &&
  (!fmtMx a.fmt || !a.trans) && (!fmtMx b.fmt || b.trans) && s.tableOk g a && s.tableOk g b

/-- TLOAD (R488). -/
def State.tloadOk (s : State) (g bay : Nat) (d a : Tile) : Bool :=
  s.tileOk g bay d && s.tileOk g bay a && d.r == a.r && d.c == a.c && d.fmt == a.fmt && d.comp == a.comp &&
  ((!d.trans && !a.trans) || (!fmtMx a.fmt && !a.comp))

/-- The outputs of an accumulator format (Table 5-4). -/
def storeAllowed (src dst : Nat) : Bool := if src = 0 then decide (dst ≤ 8) || dst == 0xA else [0xB, 8, 9, 0, 1].contains dst

/-- TSTORE (R118, R488, Table 3-12). -/
def State.tstoreOk (s : State) (g bay : Nat) (d a : Tile) (rnd : Nat) (sr : Bool) : Bool :=
  s.tileOk g bay d && s.tileOk g bay a && a.loc == 2 && (a.fmt == 0 || a.fmt == 0xB) && d.r == a.r && d.c == a.c &&
  decide (rnd < 4) && storeAllowed a.fmt d.fmt &&
  (!sr || (decide (3 ≤ d.fmt) && decide (d.fmt ≤ 7) && s.on (GAL_SR.SR_EN g)))

/-- Accumulator tiles of TEW, TFN and TRED (R119). -/
def State.accOk (s : State) (g bay : Nat) (t : Tile) : Bool :=
  s.tileOk g bay t && t.loc == 2 && (t.fmt == 0 || t.fmt == 0xB)

def State.tewOk (s : State) (g bay : Nat) (d a b : Tile) (op : Nat) : Bool :=
  s.accOk g bay d && s.accOk g bay a && s.accOk g bay b && d.fmt == a.fmt && a.fmt == b.fmt && d.r == a.r && d.c == a.c &&
  decide (op ≤ 4) && (if op = 4 then b.r == a.r && b.c == 1 else b.r == a.r && b.c == a.c) &&
  (a.fmt == 0 || op == 0 || op == 1 || op == 3)

def State.tfnOk (s : State) (g bay : Nat) (d a : Tile) (fn : Nat) : Bool :=
  s.accOk g bay d && s.accOk g bay a && d.fmt == 0 && a.fmt == 0 && d.r == a.r && d.c == a.c && decide (fn ≤ 5)

def State.tredOk (s : State) (g bay : Nat) (d a : Tile) (op : Nat) : Bool :=
  s.accOk g bay d && s.accOk g bay a && d.fmt == a.fmt && d.r == a.r && d.c == 1 && decide (op ≤ 2) &&
  (a.fmt == 0 || op == 0)

/-! ## Queues (R73, R128) -/

def State.bayQueue (s : State) (g bay : Nat) : List TileOp := Tab.get (fun _ => []) s.gal.queues (g * 16 + bay)

def State.setBayQueue (s : State) (g bay : Nat) (q : List TileOp) : State :=
  { s with gal := { s.gal with queues := Tab.put (fun _ => []) s.gal.queues (g * 16 + bay) q } }

def LCtx.gallery : LCtx → Nat
  | .gal g => g.val
  | _ => 0

/-- A bay index owned by no partition, or lost (R128). -/
def State.bayRefused (s : State) (g bay : Nat) : Bool :=
  (s.bayOwner (16 * g + bay)).isNone || bitOf (s.rd (GAL_BAYMAP.LOST_MASK g)) bay

/-- Issue a tile instruction: its faults are checked, an empty operand does nothing, a refused bay is counted, and
otherwise it enters the bay's queue. It waits unissued while that queue holds 16 entries (R73). -/
def State.issueTile (s : State) (x : LCtx) (op : BitVec 8) (f : LFields) (ok empty : Bool) (o : TileOp) : State :=
  let g := x.gallery
  let bay := f.im 0 4
  s.issueOrWait x op f (faultUnless ok) (!empty && decide (16 ≤ (s.bayQueue g bay).length)) (fun t =>
    if empty then t
    else if t.bayRefused g bay then t.inc (GAL_TILE_REFUSED.COUNT g)
    else t.setBayQueue g bay (t.bayQueue g bay ++ [o]))

def State.tileOf (s : State) (x : LCtx) (n : BitVec 6) : Tile := descTile (s.tReg x n.toNat)

def State.tileOp (s : State) (x : LCtx) (op : Nat) (f : LFields) : TileOp where
  op := op
  d := s.tReg x f.d.toNat
  a := s.tReg x f.a.toNat
  b := s.tReg x f.b.toNat
  imm := f.imm.toNat

def doTmma (x : LCtx) (f : LFields) (s : State) : State :=
  let d := s.tileOf x f.d
  let a := s.tileOf x f.a
  let b := s.tileOf x f.b
  s.issueTile x 0x50 f (s.tmmaOk x.gallery (f.im 0 4) d a b) (d.isEmpty || a.isEmpty || b.isEmpty) (s.tileOp x 0x50 f)

def doTload (x : LCtx) (f : LFields) (s : State) : State :=
  let d := s.tileOf x f.d
  let a := s.tileOf x f.a
  s.issueTile x 0x51 f (s.tloadOk x.gallery (f.im 0 4) d a) (d.isEmpty || a.isEmpty) (s.tileOp x 0x51 f)

def doTstore (x : LCtx) (f : LFields) (s : State) : State :=
  let d := s.tileOf x f.d
  let a := s.tileOf x f.a
  s.issueTile x 0x52 f (s.tstoreOk x.gallery (f.im 0 4) d a (f.im 4 3) (f.im 7 1 == 1)) (d.isEmpty || a.isEmpty)
    (s.tileOp x 0x52 f)

def doTew (x : LCtx) (f : LFields) (s : State) : State :=
  let d := s.tileOf x f.d
  let a := s.tileOf x f.a
  let b := s.tileOf x f.b
  s.issueTile x 0x53 f (s.tewOk x.gallery (f.im 0 4) d a b (f.im 4 4)) (d.isEmpty || a.isEmpty || b.isEmpty)
    (s.tileOp x 0x53 f)

def doTfn (x : LCtx) (f : LFields) (s : State) : State :=
  let d := s.tileOf x f.d
  let a := s.tileOf x f.a
  s.issueTile x 0x54 f (s.tfnOk x.gallery (f.im 0 4) d a (f.im 4 4)) (d.isEmpty || a.isEmpty) (s.tileOp x 0x54 f)

def doTred (x : LCtx) (f : LFields) (s : State) : State :=
  let d := s.tileOf x f.d
  let a := s.tileOf x f.a
  s.issueTile x 0x55 f (s.tredOk x.gallery (f.im 0 4) d a (f.im 4 4)) (d.isEmpty || a.isEmpty) (s.tileOp x 0x55 f)

/-- Every queue of the masked bays is empty. -/
def State.baysDone (s : State) (g mask : Nat) : Bool := allBelow 16 (fun b => !bitOf mask b || (s.bayQueue g b).isEmpty)

def doTsync (x : LCtx) (f : LFields) (s : State) : State :=
  s.issue x 0x56 f none (fun t =>
    let mask := f.im 0 16
    if t.baysDone x.gallery mask then t else t.modCtx x (fun c => { c with state := .waiting, wait := .tsync mask }))

/-- A bay that is being copied to the spare, or that an uncorrectable error has stopped (R138). -/
def State.bayStopped (s : State) (g bay : Nat) : Bool :=
  Tab.get (fun _ => false) s.gal.copying (g * 16 + bay) || (Tab.get (fun _ => []) s.gal.substDue g).contains (bay, true)

/-- The gallery's sequencer leaves a TSYNC whose bays have finished (R73). -/
def State.releaseTsync (s : State) (g : Fin 16) : State :=
  match (s.ctx (.gal g)).wait with
  | .tsync mask =>
    if s.baysDone g mask then s.modCtx (.gal g) (fun c => { c with state := .running, wait := .none }) else s
  | _ => s

/-! ## Operands as codes -/

/-- The bytes of a stored row in a store. -/
def State.rowAt (s : State) (g bay : Nat) (t : Tile) (r : Nat) : Bytes :=
  s.bytes (storeDpa g bay t.loc + t.base + r * t.stride) t.rowBytes

/-- The blocks of a coded tile in a store: (slot offset, elements). -/
def Tile.blocks (t : Tile) : List (Nat × Nat) :=
  let total := t.rows * t.stride
  (List.range ((total + 4095) / 4096)).map (fun i => (t.base + 4096 * i, min 4096 (total - 4096 * i) * 8 / t.bits))

/-- The blocks of a coded operand as the expander delivers them. -/
def State.blockOuts (s : State) (g bay : Nat) (t : Tile) : List (Nat × BlockOut) :=
  let ws := s.liveTable g t.ctab
  t.blocks.map (fun b =>
    (b.1, decodeBlock ws t.fmt t.bits b.2 (s.slotTag 0 g bay t.loc b.1) t.ctab (s.bytes (storeDpa g bay t.loc + b.1) 4096)))

def chunk {α : Type} (n : Nat) : Nat → List α → List (List α)
  | 0, _ => []
  | k + 1, xs => xs.take n :: chunk n k (xs.drop n)

/-- The element codes of a tile in a store, row by stored row. -/
def State.tileCodes (s : State) (g bay : Nat) (t : Tile) : List (List Nat) :=
  if t.comp then chunk t.cols t.rows ((s.blockOuts g bay t).flatMap (fun b => b.2.codes))
  else (List.range t.rows).map (fun r => unpack t.bits t.cols (s.rowAt g bay t r))

/-- The E8M0 scales of an MX tile in a store, row by stored row (R107). -/
def State.tileScales (s : State) (g bay : Nat) (t : Tile) : List (List Nat) :=
  if fmtMx t.fmt then
    (List.range t.rows).map (fun r => (s.bytes (storeDpa g bay t.loc + t.scale + r * (t.cols / 32)) (t.cols / 32)).map
      BitVec.toNat)
  else []

/-- Element (r, c) of the tile as it appears after TRANS. -/
def at2 {α : Type} (d : α) (trans : Bool) (m : List (List α)) (r c : Nat) : α :=
  if trans then (m.getD c []).getD r d else (m.getD r []).getD c d

/-- The scale byte of stored element (r, c); 127 where the format has none. -/
def scaleAt (t : Tile) (sc : List (List Nat)) (r c : Nat) : Nat :=
  if fmtMx t.fmt then (if t.trans then (sc.getD c []).getD (r / 32) 127 else (sc.getD r []).getD (c / 32) 127) else 127

/-- A float operand element's value (R104, R107, R108, R111). -/
def elementValue (t : Tile) (codes sc : List (List Nat)) (r c : Nat) : Num :=
  let x := scaleAt t sc r c
  if fmtMx t.fmt && x == 255 then .nan
  else (fpValue t.fmt t.pb (at2 0 t.trans codes r c)).scale ((x : Int) - 127)

/-- The counters of the blocks an instruction took through the expander. -/
def State.noteOperand (s : State) (part : Option Nat) (g bay : Nat) (t : Tile) : State :=
  if t.comp then
    (s.blockOuts g bay t).foldl (fun s b => s.noteBlock part g bay t.ctab (storeDpa g bay t.loc + b.1) b.2) s
  else s

/-! ## Results -/

/-- Put a matrix that is indexed as the tile appears after TRANS into stored rows. -/
def storedRows {α : Type} (t : Tile) (el : Nat → Nat → α) : List (List α) :=
  (List.range t.rows).map (fun r => (List.range t.cols).map (fun c => if t.trans then el c r else el r c))

/-- Write a tile's stored rows of codes: to a store by DPA, or by tensor address of the partition. The tags of the slots
written are cleared (R152). -/
def State.writeRows (s : State) (p g bay : Nat) (t : Tile) (rows : List (List Nat)) : State :=
  (rows.zip (List.range rows.length)).foldl (fun s x =>
    let bs := packBytes t.bits x.1
    let a := t.base + x.2 * t.stride
    if t.loc = 0 then (s.tensorWrite p a bs).clearTensorTags p a bs.length
    else (s.setBytes (storeDpa g bay t.loc + a) bs).clearSlotTags g bay t.loc a bs.length) s

/-- Write bytes at a descriptor address of a LOC. -/
def State.writeLoc (s : State) (p g bay loc a : Nat) (bs : Bytes) : State :=
  if loc = 0 then s.tensorWrite p a bs else s.setBytes (storeDpa g bay loc + a) bs

/-! ## TMMA (R116, R117) -/

/-- One output element on the float path. -/
def tmmaFloat (a b : Tile) (ca sa cb sb : List (List Nat)) (start : Option Nat) (i j : Nat) : Nat :=
  let ps := (List.range a.c).map (fun k => (elementValue a ca sa i k).mul (elementValue b cb sb k j))
  accumulate start ((groupsOf ps).map groupSum)

/-- One output element on the integer path, and whether it saturated. -/
def tmmaInt (a b : Tile) (ca sa cb sb : List (List Nat)) (start : Int) (i j : Nat) : Int × Bool :=
  let groups := groupsOf (List.range a.c)
  groups.foldl (fun acc ks =>
    let k0 := ks.headD 0
    let xa := scaleAt a sa i k0
    let xb := scaleAt b sb k0 j
    let sum := (ks.map (fun k => codeInt a.bits (at2 0 a.trans ca i k) * codeInt b.bits (at2 0 b.trans cb k j))).sum
    let g := if xa = 255 ∨ xb = 255 then 0 else shiftInt sum ((xa : Int) + xb - 254)
    let v := acc.1 + g
    (satInt 32 v, acc.2 || satInt 32 v != v)) (start, false)

/-- Blocks of an operand whose scale is 0xFF. -/
def badScales (sc : List (List Nat)) : Nat := (sc.map (fun r => r.countP (fun x => x == 255))).sum

def State.runTmma (s : State) (g bay : Nat) (o : TileOp) : State :=
  let d := descTile o.d
  let a := descTile o.a
  let b := descTile o.b
  let zero := bitOf o.imm 4
  let ca := s.tileCodes g bay a
  let cb := s.tileCodes g bay b
  let sa := s.tileScales g bay a
  let sb := s.tileScales g bay b
  let old := s.tileCodes g bay d
  let part := s.bayOwner (16 * g + bay)
  let s1 := (s.noteOperand part g bay a).noteOperand part g bay b
  if fmtInt a.fmt then
    let el (i j : Nat) : Int × Bool :=
      tmmaInt a b ca sa cb sb (if zero then 0 else codeInt 32 (at2 0 d.trans old i j)) i j
    let rows := storedRows d el
    let sat := (rows.map (fun r => r.countP (fun x => x.2))).sum
    let s2 := s1.writeRows 0 g bay d (rows.map (fun r => r.map (fun x => intCode 32 x.1)))
    s2.add (GAL_NUMEXC.COUNT g) (sat + badScales sa + badScales sb)
  else
    s1.writeRows 0 g bay d
      (storedRows d (fun i j => tmmaFloat a b ca sa cb sb (if zero then none else some (at2 0 d.trans old i j)) i j))

/-! ## TLOAD (R152, R488) -/

/-- Read n bytes at an address of a LOC: a failed tensor read delivers bytes the spec does not state. -/
def State.readLoc (s : State) (p g bay loc a n : Nat) (good : Bool) : Bytes × State :=
  if loc = 0 then
    let r := s.readTensor p a n good
    let s1 := s.noteRead p a n good
    if r.status = .ok then (r.data, s1) else s1.freeBytes n
  else (s.bytes (storeDpa g bay loc + a) n, s)

/-- A read of the tile waits for a home (R248). -/
def State.tileHeld (s : State) (p : Nat) (t : Tile) : Bool :=
  t.loc == 0 && (List.range t.rows).any (fun r => (s.readTensor p (t.base + r * t.stride) t.rowBytes true).held)

/-- The stored rows of a raw source, read one after another. -/
def State.readRowsFrom (p g bay : Nat) (t : Tile) (good : Bool) : List Nat → State → List (List Nat) × State
  | [], s => ([], s)
  | r :: rs, s =>
    let (bs, s) := s.readLoc p g bay t.loc (t.base + r * t.stride) t.rowBytes good
    let (rest, s) := State.readRowsFrom p g bay t good rs s
    (unpack t.bits t.cols bs :: rest, s)

/-- Copy one block of a coded tile: its tag and its coded bytes, or all of a raw block. -/
def State.copyBlock (s : State) (p g bay : Nat) (a d : Tile) (good : Bool) (i : Nat) : State :=
  let src := a.base + 4096 * i
  let dst := d.base + 4096 * i
  let tag := s.slotTag p g bay a.loc src
  let rawLen := min 4096 (a.rows * a.stride - 4096 * i)
  let n := if tag % 2 = 1 then 16 * (tag / 2 % 256) else rawLen
  let (bs, s) := s.readLoc p g bay a.loc src n good
  (s.writeLoc p g bay d.loc dst bs).setSlotTag p g bay d.loc dst tag

def State.runTload (s : State) (p g bay : Nat) (o : TileOp) (good : Bool) : State :=
  let d := descTile o.d
  let a := descTile o.a
  if a.comp then
    (List.range ((a.rows * a.stride + 4095) / 4096)).foldl (fun s i => s.copyBlock p g bay a d good i) s
  else
    let (m, s) := State.readRowsFrom p g bay a good (List.range a.rows) s
    let s := s.writeRows p g bay d (storedRows d (at2 0 a.trans m))
    if fmtMx a.fmt then
      let (bs, s) := s.readLoc p g bay a.loc a.scale (a.rows * a.cols / 32) good
      s.writeLoc p g bay d.loc d.scale bs
    else s

/-! ## TSTORE (R109, R113, R114, Table 5-4) -/

/-- The scale exponent of a block, where it is not one of the first two cases of R109. -/
def blockExp (fmt : Nat) (xs : List Num) : Option Int :=
  (groupExp xs).map (fun e => max (-127) (min 127 (e - mxEmax fmt)))

/-- One MX block under a rounding mode: the scale byte and the codes (R109). -/
def mxBlock (fmt mode : Nat) (xs : List Num) : Nat × List Nat :=
  if !xs.all Num.isFin then (255, xs.map (fun _ => 0))
  else
    match blockExp fmt xs with
    | none => (127, xs.map (fun x => if fmt = 8 then 0 else withSign x.isNeg (fmtBits fmt) 0))
    | some k => ((k + 127).toNat, xs.map (fun x =>
        match x with
        | .fin n m e => encodeMx fmt mode n m (e - k)
        | _ => 0))

/-- Step a bay's generator once for each element, giving the draws in order. -/
def draws : Nat → BitVec 32 → List Nat × BitVec 32
  | 0, x => ([], x)
  | n + 1, x =>
    let y := xorshift x
    let r := draws n y
    (y.toNat % 65536 :: r.1, r.2)

/-- One MX block under stochastic rounding with its 32 draws. -/
def mxBlockSr (fmt : Nat) (xs : List Num) (rs : List Nat) : Nat × List Nat :=
  if !xs.all Num.isFin then (255, xs.map (fun _ => 0))
  else
    match blockExp fmt xs with
    | none => (127, xs.map (fun x => withSign x.isNeg (fmtBits fmt) 0))
    | some k => ((k + 127).toNat, (xs.zip rs).map (fun x =>
        match x.1 with
        | .fin n m e => encodeMxSr fmt x.2 n m (e - k)
        | _ => 0))

/-- A stored row of an MX tile: its scales and its codes. -/
def mxRow (fmt mode : Nat) (xs : List Num) : List Nat × List Nat :=
  let bs := (groupsOf xs).map (mxBlock fmt mode)
  (bs.map (fun b => b.1), bs.flatMap (fun b => b.2))

def mxRowSr (fmt : Nat) (xs : List Num) (rs : List Nat) : List Nat × List Nat :=
  let bs := ((groupsOf xs).zip (groupsOf rs)).map (fun x => mxBlockSr fmt x.1 x.2)
  (bs.map (fun b => b.1), bs.flatMap (fun b => b.2))

/-- One element converted without a block scale. -/
def convertElement (src dst mode : Nat) (pb : Int) (c : Nat) : Nat :=
  if src = 0 then
    if dst = 0xA then encodeKv10 mode pb (fpValue 0 0 c)
    else if dst = 0 then copyFp32 c
    else encodeIeee dst mode (fpValue 0 0 c)
  else
    let v := codeInt 32 c
    if dst = 0xB then c
    else if dst = 8 then intCode 8 (satInt 8 v)
    else if dst = 9 then intCode 4 (satInt 4 v)
    else encodeIeee dst mode (.fin (decide (v < 0)) v.natAbs 0)

/-- The scale array of a stored tile. -/
def State.writeScales (s : State) (p g bay : Nat) (t : Tile) (rows : List (List Nat)) : State :=
  let bs := rows.flatMap (fun r => r.map (BitVec.ofNat 8))
  let s1 := s.writeLoc p g bay t.loc t.scale bs
  if t.loc = 0 then s1.clearTensorTags p t.scale bs.length else s1.clearSlotTags g bay t.loc t.scale bs.length

def State.runTstore (s : State) (p g bay : Nat) (o : TileOp) : State :=
  let d := descTile o.d
  let a := descTile o.a
  let mode := o.imm / 16 % 8
  let sr := bitOf o.imm 7
  let ca := s.tileCodes g bay a
  let rows := storedRows d (at2 0 a.trans ca)
  if fmtMx d.fmt && a.fmt == 0 then
    let vals := rows.map (fun r => r.map (fpValue 0 0))
    if sr then
      let seed := s.rd (GAL_SR_SEED.SEED g bay)
      let ds := draws (d.rows * d.cols) (BitVec.ofNat 32 seed)
      let out := (vals.zip (chunk d.cols d.rows ds.1)).map (fun x => mxRowSr d.fmt x.1 x.2)
      let s := s.wr (GAL_SR_SEED.SEED g bay) ds.2.toNat
      (s.writeRows p g bay d (out.map (fun x => x.2))).writeScales p g bay d (out.map (fun x => x.1))
    else
      let out := vals.map (mxRow d.fmt mode)
      (s.writeRows p g bay d (out.map (fun x => x.2))).writeScales p g bay d (out.map (fun x => x.1))
  else
    let s := s.writeRows p g bay d (rows.map (fun r => r.map (convertElement a.fmt d.fmt mode d.pb)))
    if fmtMx d.fmt then s.writeScales p g bay d (rows.map (fun r => (groupsOf r).map (fun _ => 127))) else s

/-! ## TEW, TFN and TRED (R119, R120) -/

/-- One element of TEW on FP32 tiles. -/
def tewFloat (op a b : Nat) : Nat :=
  let x := fpValue 0 0 a
  let y := fpValue 0 0 b
  match op with
  | 0 => fp32 (x.add y)
  | 1 => fp32 (x.add y.neg)
  | 2 => fp32 (x.mul y)
  | 3 => fp32 (x.max y)
  | _ => fp32 (x.mul y)

/-- One element of TEW on INT32 tiles, and whether it saturated. -/
def tewInt (op a b : Nat) : Nat × Bool :=
  let x := codeInt 32 a
  let y := codeInt 32 b
  let v := if op = 0 then x + y else if op = 1 then x - y else max x y
  (intCode 32 (satInt 32 v), satInt 32 v != v)

def State.runTew (s : State) (g bay : Nat) (o : TileOp) : State :=
  let d := descTile o.d
  let a := descTile o.a
  let b := descTile o.b
  let op := o.imm / 16 % 16
  let ca := s.tileCodes g bay a
  let cb := s.tileCodes g bay b
  let bEl (r c : Nat) : Nat := at2 0 b.trans cb r (if op = 4 then 0 else c)
  if a.fmt = 0 then
    s.writeRows 0 g bay d (storedRows d (fun r c => tewFloat op (at2 0 a.trans ca r c) (bEl r c)))
  else
    let rows := storedRows d (fun r c => tewInt op (at2 0 a.trans ca r c) (bEl r c))
    (s.writeRows 0 g bay d (rows.map (fun r => r.map (fun x => x.1)))).add (GAL_NUMEXC.COUNT g)
      ((rows.map (fun r => r.countP (fun x => x.2))).sum)

def State.runTfn (s : State) (g bay : Nat) (o : TileOp) : State :=
  let d := descTile o.d
  let a := descTile o.a
  let ca := s.tileCodes g bay a
  s.writeRows 0 g bay d (storedRows d (fun r c => tfnElement (o.imm / 16 % 16) (at2 0 a.trans ca r c)))

/-- The reduction of one row. -/
def reduceRow (fmt op : Nat) (row : List Nat) : Nat :=
  if fmt = 0xB then intCode 32 ((row.map (codeInt 32)).foldl max (codeInt 32 (row.headD 0)))
  else
    let vs := row.map (fpValue 0 0)
    match op with
    | 0 => fp32 (vs.foldl Num.max (vs.headD .nan))
    | 1 => accumulate none ((groupsOf vs).map groupSum)
    | _ => accumulate none ((groupsOf (vs.map (fun v => v.mul v))).map groupSum)

def State.runTred (s : State) (g bay : Nat) (o : TileOp) : State :=
  let d := descTile o.d
  let a := descTile o.a
  let ca := s.tileCodes g bay a
  let res := (List.range a.r).map (fun r =>
    reduceRow a.fmt (o.imm / 16 % 16) ((List.range a.c).map (fun c => at2 0 a.trans ca r c)))
  s.writeRows 0 g bay d (storedRows d (fun r _ => res.getD r 0))

/-! ## A bay completes an instruction (R90) -/

def State.runTileOp (s : State) (p g bay : Nat) (o : TileOp) (good : Bool) : State :=
  if o.op = 0x50 then s.runTmma g bay o
  else if o.op = 0x51 then s.runTload p g bay o good
  else if o.op = 0x52 then s.runTstore p g bay o
  else if o.op = 0x53 then s.runTew g bay o
  else if o.op = 0x54 then s.runTfn g bay o
  else s.runTred g bay o

/-- The homes of a LOC 0 tile's rows. -/
def State.tileHomes (s : State) (p : Nat) (t : Tile) : List TEntry :=
  if t.loc = 0 then
    (List.range t.rows).flatMap (fun r =>
      (piecesOf (t.base + r * t.stride) t.rowBytes).map (fun x => s.entry p (taSpace x.1) (taOff x.1 / 8192)))
  else []

/-- The causes of Table 2-2a that a tile instruction's LOC 0 operand brings: a home outside T0 and T1, and a stack that
is not in NORMAL. -/
def State.noteHomes (s : State) (p g : Nat) (t : Tile) : State :=
  let hs := (s.tileHomes p t).filter (fun e => e.homed)
  let s := if hs.any (fun e => decide (2 ≤ e.tier)) then s.markSlice g (fun x => { x with tierWait := true }) else s
  if hs.any (fun e => e.tier == 1 && s.rd (NBU_STATE.PWR_STATE (dpaStack e.home)) != 0) then
    s.markSlice g (fun x => { x with stack := true })
  else s

/-- A bay's operand bubbles (R157). -/
def State.noteBubbles (s : State) (g bay n : Nat) : State :=
  if n = 0 then s
  else (s.add (GAL_XP_BUBBLES.CYCLES g) n).wr (GAL_XP_SAT_BAY.BUBBLE_BAYS g)
    (withBit (s.rd (GAL_XP_SAT_BAY.BUBBLE_BAYS g)) bay)

/-- Bay `bay` of gallery g completes the oldest instruction of its queue. `good` is the verdict on encrypted homes a
TLOAD reads (R264); `bubbles` is how many operand bubbles it met, and `busy` how many arithmetic cycles it took. Nothing completes while the bay is stopped, or while a TLOAD's source waits for its home. -/
def doBayInstructionComplete (g bay : Fin 16) (good : Bool) (bubbles busy : Nat) (s : State) : State :=
  match s.bayQueue g bay with
  | [] => s
  | o :: q =>
    let owner := s.bayOwner (16 * g.val + bay.val)
    let p := owner.getD 0
    if s.bayStopped g bay || (o.op == 0x51 && s.tileHeld p (descTile o.a)) then s
    else
      let s := (s.noteHomes p g (descTile o.a)).noteHomes p g (descTile o.d)
      let s := (s.setBayQueue g bay q).runTileOp p g bay o good
      let s := if owner.isSome then s.countPart p 4 busy else s
      (s.noteBubbles g bay bubbles).releaseTsync g

def execTmma (x : LCtx) (f : LFields) (s : State) : Host.Outcome State Fault Refusal := .next (doTmma x f s)

def execTload (x : LCtx) (f : LFields) (s : State) : Host.Outcome State Fault Refusal := .next (doTload x f s)

def execTstore (x : LCtx) (f : LFields) (s : State) : Host.Outcome State Fault Refusal := .next (doTstore x f s)

def execTew (x : LCtx) (f : LFields) (s : State) : Host.Outcome State Fault Refusal := .next (doTew x f s)

def execTfn (x : LCtx) (f : LFields) (s : State) : Host.Outcome State Fault Refusal := .next (doTfn x f s)

def execTred (x : LCtx) (f : LFields) (s : State) : Host.Outcome State Fault Refusal := .next (doTred x f s)

def execTsync (x : LCtx) (f : LFields) (s : State) : Host.Outcome State Fault Refusal := .next (doTsync x f s)
def execBayInstructionComplete (g bay : Fin 16) (good : Bool) (bubbles busy : Nat) (s : State) : Host.Outcome State Fault Refusal := .next (doBayInstructionComplete g bay good bubbles busy s)

end Sys2Proof.Machine
end

