-- ==== Sys2Proof/Machine/NearBank.lean ====
section
/-! DEFINITION. Near-bank units: work items and their segments, partial results, compute mode, the boundary gap, refresh,
power states and the spare pseudo-channel (R76, R77, R92, R188 to R226). -/

namespace Sys2Proof.Machine

def nbKey (h pc : Nat) : Nat := h * 32 + pc

def State.seg (s : State) (h pc : Nat) : Seg := Tab.get (fun _ => {}) s.nb.segs (nbKey h pc)

def State.setSeg (s : State) (h pc : Nat) (v : Seg) : State :=
  { s with nb := { s.nb with segs := Tab.put (fun _ => {}) s.nb.segs (nbKey h pc) v } }

def State.owed (s : State) (h pc : Nat) : Nat := Tab.get (fun _ => 0) s.nb.owed (nbKey h pc)

def State.heldOn (s : State) (h pc : Nat) : List HeldAccess := Tab.get (fun _ => []) s.nb.held (nbKey h pc)

def State.setHeldOn (s : State) (h pc : Nat) (l : List HeldAccess) : State :=
  { s with nb := { s.nb with held := Tab.put (fun _ => []) s.nb.held (nbKey h pc) l } }

def State.inCm (s : State) (h pc : Nat) : Bool := bitOf (s.rd (NBU_CM.SET h)) pc

/-- The position that backs a logical pseudo-channel (R209, R221). -/
def State.pcPosition (s : State) (h pc : Nat) : Nat :=
  if s.rd (NBU_PCMAP.SPARE_STATE h) = 3 ∧ s.rd (NBU_PCMAP.SPARE_FOR h) = pc then 31 else pc

def State.pwrState (s : State) (h : Nat) : Nat := s.rd (NBU_STATE.PWR_STATE h)

/-- NBU_STATUS.IDLE (R225). -/
def State.nbuIdle (s : State) (h : Nat) : Bool :=
  allBelow 32 (fun pc => (s.seg h pc).phase == .idle && (s.heldOn h pc).isEmpty) &&
  s.rd (NBU_PCMAP.SPARE_STATE h) != 2 && s.pwrState h == 0

/-! ## Merge store and partial results (R205 to R207) -/

def mergeBytes : Nat := 262144

def State.mergeRead (s : State) (h off n : Nat) : Bytes :=
  (List.range n).map (fun i => Tab.get memDefault s.nb.merge (h * mergeBytes + off + i))

def State.mergeWrite (s : State) (h off : Nat) : Bytes → State
  | [] => s
  | b :: bs =>
    State.mergeWrite { s with nb := { s.nb with merge := Tab.put memDefault s.nb.merge (h * mergeBytes + off) b } }
      h (off + 1) bs

/-- A descriptor of a partial result in the merge store that AMRG takes (R207). -/
def Tile.mergeOk (t : Tile) : Bool :=
  t.wellFormed && t.loc == 2 && t.fmt == 0 && !t.trans && decide (t.rows ≤ 16) && decide (3 ≤ t.cols) &&
  decide (t.cols ≤ 258) && decide (t.base + (t.rows - 1) * t.stride + t.rowBytes ≤ mergeBytes)

/-- EXP(m - top) for a finite m, 0 for an m of minus infinity (R206). -/
def mergeWeight (m top : Nat) : Nat :=
  if m = 0xFF800000 then 0 else elementwise 8 0 (fp32 ((fpValue 0 0 m).add (fpValue 0 0 top).neg))

/-- a1 x1 + a2 x2 in FP32. -/
def mergeSum (a1 x1 a2 x2 : Nat) : Nat :=
  let mul (a x : Nat) : Num := fpValue 0 0 (fp32 ((fpValue 0 0 a).mul (fpValue 0 0 x)))
  fp32 ((mul a1 x1).add (mul a2 x2))

/-- Two rows of HEAD_DIM + 2 elements merge (R206). -/
def mergeRows (x y : List Nat) : List Nat :=
  let d := x.length - 2
  let mx := x.getD d 0
  let my := y.getD d 0
  let m := fp32 ((fpValue 0 0 mx).max (fpValue 0 0 my))
  let a := mergeWeight mx m
  let b := mergeWeight my m
  ((x.take d).zip (y.take d)).map (fun e => mergeSum a e.1 b e.2) ++
    [m, mergeSum a (x.getD (d + 1) 0) b (y.getD (d + 1) 0)]

/-- A page's rows widened to BF16 (R111, R121): n elements of format fmt under bias pb. -/
def widenedRow (fmt : Nat) (pb : Int) (n : Nat) (bs : Bytes) : List Nat :=
  (unpack (fmtBits fmt) n bs).map (fun c => encodeIeee 1 0 (fpValue fmt pb c))

/-- One key folds into a row's partial (R206): a partial of one key, whose m is the scaled score, whose l is 1 and whose o is the
value row. -/
def foldKey (scale : Nat) (q k v row : List Nat) : List Nat :=
  let score := (Sys2Proof.Config.qkSum (q.map (BitVec.ofNat 16)) (k.map (BitVec.ofNat 16))).toNat
  mergeRows row (v.map (fun c => c * 65536) ++ [fp32 ((fpValue 0 0 score).mul (fpValue 0 0 scale)), 0x3F800000])

def State.mergeTileRow (s : State) (h : Nat) (t : Tile) (r : Nat) : List Nat :=
  unpack 32 t.cols (s.mergeRead h (t.base + r * t.stride) t.rowBytes)

def LCtx.stack : LCtx → Nat
  | .nb h => h.val
  | _ => 0

/-- AMRG (R207). -/
def doAmrg (x : LCtx) (f : LFields) (s : State) : State :=
  let d := s.tileOf x f.d
  let a := s.tileOf x f.a
  let b := s.tileOf x f.b
  let ok : Bool := d.mergeOk && a.mergeOk && b.mergeOk && d.rows == a.rows && a.rows == b.rows && d.cols == a.cols &&
    a.cols == b.cols
  s.issue x 0x61 f (faultUnless ok) (fun t =>
    let rows := (List.range d.rows).map (fun r => mergeRows (t.mergeTileRow x.stack a r) (t.mergeTileRow x.stack b r))
    (rows.zip (List.range d.rows)).foldl (fun u e =>
      u.mergeWrite x.stack (d.base + e.2 * d.stride) (packBytes 32 e.1)) t)

/-! ## Work items (R190, R191, R200 to R203) -/

/-- A work item's header (Table 9-5). -/
structure NbItem where
  layout : Nat
  part : Nat
  root : Nat
  layer : Nat
  head : Nat
  qtok : Nat
  len : Nat
  scale : Nat
  count : Nat
  pos : Nat
  skipped : Nat
  done : Bool
  init : Nat
  initLoc : Nat
  initEn : Bool
  reservedZero : Bool
  deriving DecidableEq, Repr

def State.nbItem (s : State) (a : Nat) : NbItem :=
  let w (i : Nat) : Word := s.word (a + 8 * i)
  { layout := getBits (w 0) 0 57, part := getBits (w 0) 57 6, root := getBits (w 1) 0 57,
    layer := getBits (w 2) 0 8, head := getBits (w 2) 8 6, qtok := getBits (w 2) 16 4, len := getBits (w 2) 32 21,
    scale := getBits (w 3) 0 32, count := getBits (w 3) 32 16, pos := getBits (w 4) 0 16, skipped := getBits (w 4) 16 16, done := getBit (w 4) 40,
    init := getBits (w 5) 0 57, initLoc := getBits (w 5) 57 3, initEn := getBit (w 5) 60,
    reservedZero := getBits (w 0) 63 1 == 0 && getBits (w 1) 57 7 == 0 && getBits (w 2) 14 2 == 0 &&
      getBits (w 2) 20 12 == 0 && getBits (w 2) 53 11 == 0 && getBits (w 3) 48 16 == 0 && getBits (w 5) 61 3 == 0 &&
      w 6 == 0 && w 7 == 0 }

/-- A layout descriptor's header (Table 9-1). -/
structure NbLayout where
  magicOk : Bool
  fmt : Nat
  layers : Nat
  kvHeads : Nat
  headDim : Nat
  qg : Nat
  pageBytes : Nat
  groupBytes : Nat
  groupFrames : Nat
  deriving DecidableEq, Repr

def layoutOf (bs : Bytes) : NbLayout :=
  let w (i : Nat) : Word := BitVec.ofNat 64 (leNat ((bs.drop (8 * i)).take 8))
  { magicOk := getBits (w 0) 0 32 == 0x16201A70, fmt := getBits (w 0) 32 4, layers := getBits (w 0) 40 8,
    kvHeads := getBits (w 0) 48 8, headDim := getBits (w 1) 0 9, qg := getBits (w 1) 16 5,
    pageBytes := getBits (w 1) 32 16, groupBytes := getBits (w 2) 0 32, groupFrames := getBits (w 2) 32 32 }

def NbLayout.noPages (l : NbLayout) : Bool := l.layers == 0 || l.kvHeads == 0 || l.headDim == 0 || l.qg == 0

/-- The header checks of R190. -/
def NbLayout.ok (l : NbLayout) : Bool :=
  l.headDim % 32 == 0 && decide (32 ≤ l.headDim) && decide (l.headDim ≤ 256) && decide (l.qg ≤ 16) &&
  l.pageBytes == (if l.fmt = 0xA then 40 * l.headDim else 64 * l.headDim) &&
  l.groupFrames == (l.groupBytes + 8191) / 8192

/-- Rows of ta and td, and the bytes of a partial. -/
def nbRows (i : NbItem) (l : NbLayout) : Nat := i.qtok * l.qg
def nbPartialBytes (i : NbItem) (l : NbLayout) : Nat := nbRows i l * (l.headDim + 2) * 4

/-- The shapes of R202 and R205, and the merge-store bounds. -/
def nbShapes (i : NbItem) (l : NbLayout) (ta td : Tile) : Bool :=
  ta.wellFormed && td.wellFormed && ta.fmt == 1 && ta.loc == 0 && !ta.trans && !ta.comp && ta.rows == nbRows i l &&
  ta.cols == l.headDim && td.fmt == 0 && (td.loc == 0 || td.loc == 2) && !td.trans && !td.comp &&
  td.rows == nbRows i l && td.cols == l.headDim + 2 && td.stride == 4 * (l.headDim + 2) &&
  (td.loc == 0 || decide (td.base + nbPartialBytes i l ≤ mergeBytes)) &&
  (i.initLoc == 0 || (i.initLoc == 2 && (!i.initEn || decide (i.init + nbPartialBytes i l ≤ mergeBytes))))

/-- PL_LEN of the request whose page list has the item's root (DEDUCED, log 18). -/
def State.plLenOf (s : State) (p root : Nat) : Nat :=
  (List.range recordCount).foldl (fun n i =>
    if !s.inState i .free && s.recF i Rec.PART == p && s.recF i Rec.PL_ROOT == root then max n (s.recF i Rec.PL_LEN)
    else n) 0

/-- The page of entry j of an item, where its every frame is homed on the pseudo-channel (R201): its tensor address. -/
def State.nbPage (s : State) (h pc a : Nat) (i : NbItem) (off pageBytes plLen j : Nat) : Option Nat :=
  let idx := s.num (a + 64 + 4 * j) 2
  let w := s.pageEntry i.part i.root idx
  if plLen ≤ idx ∨ !pageValid w then none
  else
    let lo := pageBase w + off
    let us := (List.range ((lo + pageBytes - 1) / 8192 - lo / 8192 + 1)).map (fun k => s.entry i.part 1 (lo / 8192 + k))
    if us.all (fun e => e.homed && e.tier == 1 && dpaStack e.home == h && dpaPc e.home == pc) then some (tensorAddr 1 lo)
    else none

/-- The layout entry of an item's layer and head (R190). -/
def State.nbEntry (s : State) (i : NbItem) (l : NbLayout) : Word :=
  BitVec.ofNat 64 (leNat (s.readTensor i.part (i.layout + 64 + 8 * (i.layer * l.kvHeads + i.head)) 8 true).data)

/-- What a segment will do: nothing, end at once with a status, or run. -/
inductive NbPlan where
  | nothing
  | finish (st : Status)
  /-- Take `n` entries in `t` cycles. -/
  | run (n t : Nat) (l : NbLayout) (off : Nat)
  deriving DecidableEq, Repr

/-- Entries that fit in 1,800 cycles from a base time, and the time. -/
def fitEntries : List Nat → Nat → Nat × Nat
  | [], t => (0, t)
  | c :: cs, t =>
    if 1800 < t + 8 + c then (0, t)
    else
      let r := fitEntries cs (t + 8 + c)
      (r.1 + 1, r.2)

def ceilDiv (a b : Nat) : Nat := (a + b - 1) / b

/-- The plan of a segment: the checks of R190, R202 and R203, and n and T (R202). -/
def State.nbPlan (s : State) (h pc a : Nat) (ta td : Tile) : NbPlan :=
  let i := s.nbItem a
  let hdr := s.readTensor i.part i.layout 64 true
  let l := layoutOf hdr.data
  if i.done then .nothing
  else if i.qtok = 0 then .finish .ok
  else if hdr.status = .uncorrected ∨ hdr.status = .linkFailed ∨ hdr.status = .keyGenGone then .finish .uncorrected
  else if hdr.held ∨ hdr.status ≠ .ok ∨ taSpace i.layout ≠ 3 ∨ i.layout % 64 ≠ 0 ∨ !l.magicOk ∨ (l.fmt ≠ 1 ∧ l.fmt ≠ 0xA)
    then .finish .badLength
  else if l.noPages then .finish .ok
  else
    let e := s.nbEntry i l
    let off := getBits e 0 32
    let bias (lo : Nat) : Bool := decide (-96 ≤ getSigned e lo 8) && decide (getSigned e lo 8 ≤ 96)
    let entriesOk := (List.range i.count).all (fun j => s.num (a + 64 + 4 * j + 2) 2 == 0)
    if !l.ok ∨ decide (l.layers ≤ i.layer) ∨ decide (l.kvHeads ≤ i.head) ∨ l.groupBytes < off + l.pageBytes ∨
        !bias 32 ∨ !bias 40 ∨ !i.reservedZero ∨ 9 < i.qtok ∨ 1048576 < i.len ∨ 1024 < i.count ∨ !nbShapes i l ta td ∨
        !entriesOk then .finish .badLength
    else
      let pb := nbPartialBytes i l
      let cost (loc : Nat) : Nat := ceilDiv pb (if loc = 0 then 64 else 256)
      let inCost := if i.pos = 0 then (if i.initEn then cost i.initLoc else 0) else cost td.loc
      let c := max (ceilDiv l.pageBytes 64) (ceilDiv (i.qtok * l.qg * l.headDim) 16)
      let pl := s.plLenOf i.part i.root
      let costs := (List.range (i.count - i.pos)).map (fun k =>
        if (s.nbPage h pc a i off l.pageBytes pl (i.pos + k)).isSome then c else 0)
      let base := 40 + ceilDiv (nbRows i l * l.headDim * 2) 64 + inCost + cost td.loc
      if i.count = 0 then .run 0 (40 + inCost + cost td.loc) l off
      else
        let r := fitEntries costs base
        if r.1 = 0 ∧ i.pos < i.count then .finish .badLength else .run r.1 r.2 l off

/-- Write an item's w4 (R203). -/
def State.nbProgress (s : State) (a pos skipped : Nat) (done : Option Status) : State :=
  let w := setBits (setBits (s.word (a + 32)) 0 16 pos) 16 16 skipped
  let w := match done with
    | some st => setBits (setBits w 32 8 st.code) 40 1 1
    | none => w
  s.setWord (a + 32) w

/-! ## ATTN and the segment's course (R76, R92, R202, R203, R211) -/

def State.nbBusy (s : State) (h pc : Nat) : Bool := (s.seg h pc).phase != .idle

/-- ATTN issues one segment. It waits while a segment or its gap runs on the pseudo-channel, and while the stack is in
CRITICAL. An item that is not at an 8-byte-aligned DPA in HBM is an operand fault (DEDUCED, log 19). -/
def doAttn (x : LCtx) (f : LFields) (s : State) : State :=
  let h := x.stack
  let pc := f.im 0 5
  let item := (s.gReg x f.b.toNat).toNat
  let fault : Option Status :=
    if !(decide (pc ≤ 30) && s.inCm h pc) then some .badLength
    else if !rangeOk item 64 then some .uncorrected
    else faultUnless (rangeHbm item 64 && item % 8 == 0)
  s.issueOrWait x 0x60 f fault (s.nbBusy h pc || s.pwrState h == 2) (fun t =>
    let sg : Seg := { phase := .issued, item := item, ta := s.tReg x f.a.toNat, td := s.tReg x f.d.toNat }
    let t := t.setSeg h pc sg
    if t.pwrState h = 0 then t else t.markSlice x.unit (fun y => { y with stack := true }))

/-- NBU_REF_OWED shows the largest OWED of the stack, the lowest pseudo-channel on a tie. -/
def State.showOwed (s : State) (h : Nat) : State :=
  let m := (List.range 32).foldl (fun n pc => max n (s.owed h pc)) 0
  let pc := (firstBelow 32 (fun pc => s.owed h pc == m)).getD 0
  (s.wr (NBU_REF_OWED.MAX h) m).wr (NBU_REF_OWED.PC h) pc

def State.setOwed (s : State) (h pc n : Nat) : State :=
  State.showOwed { s with nb := { s.nb with owed := Tab.put (fun _ => 0) s.nb.owed (nbKey h pc) n } } h

/-- DUE_MAX (R218). -/
def State.dueMax (s : State) (h : Nat) : Nat := if s.on (NBU_STATE.REF_DOUBLED h) then 2 else 1

/-- Refreshes that R217, rule 2, forces before a grant. -/
def State.forced (s : State) (h pc : Nat) : Nat := s.owed h pc + s.dueMax h - s.rd (NBU_REF.POSTPONE_MAX h)

def State.forceRefreshes (s : State) (h pc : Nat) : State :=
  let k := min (s.forced h pc) (s.owed h pc)
  (s.setOwed h pc (s.owed h pc - k)).add (NBU_REF_FORCED.COUNT h) k

/-- The pier die asks for the banks (R211): the segment's entries and time are fixed from the item as it stands. -/
def doSegReq (h : Fin 8) (pc : Fin 31) (s : State) : State :=
  let g := s.seg h pc
  if g.phase ≠ .issued then s
  else
    let (n, t) := match s.nbPlan h pc g.item (descTile g.ta) (descTile g.td) with
      | .run n t _ _ => (n, t)
      | _ => (0, 40)
    (s.setSeg h pc { g with phase := .requested, take := n, cycles := t }).forceRefreshes h pc

/-- The controller grants the banks (R211, R216, R217): never in CRITICAL, never outside the compute-mode set, and only
while OWED + DUE_MAX is at most POSTPONE_MAX. -/
def doSegGrant (h : Fin 8) (pc : Fin 31) (s : State) : State :=
  let g := s.seg h pc
  if g.phase = .requested ∧ s.pwrState h ≠ 2 ∧ s.inCm h pc ∧ s.forced h pc = 0 then
    (s.setSeg h pc { g with phase := .running }).inc (NBU_SEGMENTS.COUNT h)
  else s

/-- Read a partial's bytes: from the merge store, or by tensor address. -/
def State.readPartial (s : State) (h p loc a n : Nat) (good : Bool) : Bytes × Status × State :=
  if loc = 2 then (s.mergeRead h a n, .ok, s)
  else
    let r := s.readTensor p a n good
    (r.data, if r.held then .badLength else r.status, s.noteRead p a n good)

def State.writePartial (s : State) (h p : Nat) (td : Tile) (bs : Bytes) : State :=
  if td.loc = 2 then s.mergeWrite h td.base bs else s.tensorWrite p td.base bs

/-- The bytes of the empty partial (R206). -/
def emptyPartial (rows headDim : Nat) : Bytes :=
  (List.replicate rows (List.replicate (4 * headDim) (0 : Byte) ++ leBytes 4 0xFF800000 ++ leBytes 4 0)).flatten

/-- The query token of row r sees token n (R201). -/
def rowSees (i : NbItem) (qg r n : Nat) : Bool := decide (n < i.len - (i.qtok - 1 - r / qg))

/-- A page folds into the partial of row r, key by key in the order of its tokens (R192, R201, R206; DEDUCED, log 35). -/
def foldPage (i : NbItem) (l : NbLayout) (e : Word) (r idx : Nat) (q : List Nat) (page : Bytes) (row : List Nat) : List Nat :=
  let rb := l.headDim * fmtBits l.fmt / 8
  let pb (lo : Nat) : Int := if l.fmt = 0xA then getSigned e lo 8 else 0
  (List.range 16).foldl (fun row t =>
    if rowSees i l.qg r (16 * idx + t) then
      foldKey i.scale q (widenedRow l.fmt (pb 32) l.headDim ((page.drop (t * rb)).take rb))
        (widenedRow l.fmt (pb 40) l.headDim ((page.drop ((16 + t) * rb)).take rb)) row
    else row) row

/-- The failing entry of a segment: a page that touches lost HBM, or the one that an uncorrectable read names. -/
def State.nbFails (s : State) (p : Nat) (pages : List (Option Nat)) (pageBytes : Nat) (ue : Option Nat) : Option Nat :=
  let lost := firstBelow pages.length (fun k =>
    match pages.getD k none with
    | some ta => (piecesOf ta pageBytes).any (fun x => s.accessStatus (s.entry p 1 (taOff x.1 / 8192)).home 1 != .ok)
    | none => false)
  match lost, ue with
  | some k, some u => some (min k u)
  | some k, none => some k
  | none, some u => if u < pages.length then some u else none
  | none, none => none

/-- The unit's result of its last segment, as NB_STATUS reads it. -/
def State.setNbLast (s : State) (h pc : Nat) (st : Status) (entry : Nat) : State :=
  { s with nb := { s.nb with last := Tab.put (fun _ => (0, 0)) s.nb.last (nbKey h (s.pcPosition h pc)) (st.code, entry) } }

/-- The fault record of an uncorrectable near-bank read (R203, R219). -/
def nbUeReport (h pc p addr : Nat) : Report :=
  { cls := 0x03, status := Status.uncorrected.code, sev := 3, part := some p, blk := Blk.NBU.code, inst := h,
    unit := 0x10 + h, addr := addr, d1 := h * 32 + pc }

/-- A segment that takes entries (R202): the running partial is read, each page read folds into it in entry order, and it is
written back. -/
def State.runSegment (s : State) (h pc : Nat) (g : Seg) (l : NbLayout) (off : Nat) (ue : Option Nat) (good : Bool) :
    State :=
  let i := s.nbItem g.item
  let td := descTile g.td
  let n := min g.take (i.count - i.pos)
  let pl := s.plLenOf i.part i.root
  let pages := (List.range n).map (fun k => s.nbPage h pc g.item i off l.pageBytes pl (i.pos + k))
  let fail := s.nbFails i.part pages l.pageBytes ue
  let k := fail.getD n
  let taken := pages.take k
  let skipped := i.skipped + taken.countP (fun x => x.isNone)
  let pb := nbPartialBytes i l
  let start : Bytes × Status × State :=
    if i.pos = 0 then (if i.initEn then s.readPartial h i.part i.initLoc i.init pb good
      else (emptyPartial (nbRows i l) l.headDim, .ok, s))
    else s.readPartial h i.part td.loc td.base pb good
  let qt := descTile g.ta
  let ta := s.readTensor i.part qt.base ((qt.rows - 1) * qt.stride + qt.rowBytes) good
  let st := start.2.1.worse (if i.count = 0 then .ok else if ta.held then .badLength else ta.status)
  if st ≠ .ok then
    (((start.2.2.nbProgress g.item i.pos i.skipped (some .uncorrected)).inc (NBU_UE.COUNT h)).noteUe.report
      (nbUeReport h pc i.part g.item)).setNbLast h pc .uncorrected i.pos
  else
    let e := s.nbEntry i l
    let read := (List.range k).filterMap (fun j =>
      (pages.getD j none).map (fun x => (s.num (g.item + 64 + 4 * (i.pos + j)) 2, (s.readTensor i.part x l.pageBytes good).data)))
    let rb := 4 * (l.headDim + 2)
    let out := (List.range (nbRows i l)).flatMap (fun r =>
      let q := unpack 16 l.headDim ((ta.data.drop (r * qt.stride)).take qt.rowBytes)
      let row := unpack 32 (l.headDim + 2) ((start.1.drop (r * rb)).take rb)
      packBytes 32 (read.foldl (fun row x => foldPage i l e r x.1 q x.2 row) row))
    let s := start.2.2.writePartial h i.part td out
    let pos := i.pos + k
    match fail with
    | some _ =>
      (((s.nbProgress g.item pos skipped (some .uncorrected)).inc (NBU_UE.COUNT h)).noteUe.report
        (nbUeReport h pc i.part ((pages.getD k none).getD 0))).setNbLast h pc .uncorrected pos
    | none =>
      let done : Option Status := if pos = i.count then some (if skipped = 0 then .ok else .partialDone) else none
      (s.nbProgress g.item pos skipped done).setNbLast h pc .ok 0

/-- The near-bank unit ends its segment (R203). `ue` is the first entry of the segment whose read was uncorrectable,
`ce` how many corrected errors it met, and `good` the verdict on encrypted homes (R264). -/
def doAttnSegmentEnd (h : Fin 8) (pc : Fin 31) (ue : Option Nat) (ce : Nat) (good : Bool) (s : State) : State :=
  let g := s.seg h pc
  if g.phase ≠ .running ∨ g.ended then s
  else
    let i := s.nbItem g.item
    let s := s.setSeg h pc { g with ended := true }
    let s := (s.add (NBU_CE.COUNT h) ce).noteCe ce
    let s := s.countPart i.part 5 1
    match s.nbPlan h pc g.item (descTile g.ta) (descTile g.td) with
    | .nothing => s.setNbLast h pc .ok 0
    | .finish .uncorrected =>
      (((s.nbProgress g.item i.pos i.skipped (some .uncorrected)).inc (NBU_UE.COUNT h)).noteUe.report
        (nbUeReport h pc i.part i.layout)).setNbLast h pc .uncorrected i.pos
    | .finish st => (s.nbProgress g.item i.pos i.skipped (some st)).setNbLast h pc .ok 0
    | .run _ _ l off => s.runSegment h pc g l off ue good

/-- The T cycles of a grant end, the unit having ended its segment (R92, R211): the boundary gap starts. -/
def doSegmentGrantExpiry (h : Fin 8) (pc : Fin 31) (s : State) : State :=
  let g := s.seg h pc
  if g.phase = .running ∧ g.ended then s.setSeg h pc { g with phase := .gap } else s

/-- An ordinary access is served at the controller: a write lands, a read is answered. -/
def State.serve (s : State) (x : HeldAccess) : State :=
  if x.write then s.devWrite (memReport Blk.NBU.code (dpaStack x.addr) 0xFF none x.addr) x.addr x.data
  else
    let st := s.accessStatus x.addr x.len
    let s' := s.noteAccess false (memReport Blk.NBU.code (dpaStack x.addr) 0xFF none x.addr) x.addr x.len
    s'.emit (.readData x.addr st.code (if st = Status.ok then s.bytes x.addr x.len else []))

/-- The near-bank sequencer leaves an ASYNC whose pseudo-channels have finished (R92). -/
def State.asyncDone (s : State) (h mask : Nat) : Bool := allBelow 31 (fun pc => !bitOf mask pc || !s.nbBusy h pc)

def State.releaseAsync (s : State) (h : Fin 8) : State :=
  match (s.ctx (.nb h)).wait with
  | .async mask =>
    if s.asyncDone h mask then s.modCtx (.nb h) (fun c => { c with state := .running, wait := .none }) else s
  | _ => s

/-- The boundary gap ends (R212): the held accesses are served in order and the refreshes R217 requires are issued; in
THROTTLE every owed refresh is. `gap` and `hold` are how long the gap and the longest hold it ended took, in near-bank
cycles. -/
def doBoundaryGapEnd (h : Fin 8) (pc : Fin 31) (gap hold : Nat) (s : State) : State :=
  if (s.seg h pc).phase ≠ .gap then s
  else
    let held := s.heldOn h pc
    let s := held.foldl State.serve (s.setHeldOn h pc [])
    let s := s.forceRefreshes h pc
    let s := if s.pwrState h = 0 then s else s.setOwed h pc 0
    let s := s.wr (NBU_GAP_MAX.CYCLES h) (max (s.rd (NBU_GAP_MAX.CYCLES h)) (min gap 65535))
    let s := if held.isEmpty then s
      else s.wr (NBU_HOLD_MAX.CYCLES h) (max (s.rd (NBU_HOLD_MAX.CYCLES h)) (min hold 65535))
    (s.setSeg h pc {}).releaseAsync h

/-- ASYNC (R92). -/
def doAsync (x : LCtx) (f : LFields) (s : State) : State :=
  s.issue x 0x63 f none (fun t =>
    let mask := f.im 0 31
    if t.asyncDone x.stack mask then t else t.modCtx x (fun c => { c with state := .waiting, wait := .async mask }))

/-- The controller reads the result of a position's last segment (Table 10-1). -/
def doNbStatus (h : Fin 8) (position : Fin 32) (s : State) : State :=
  let r := Tab.get (fun _ => (0, 0)) s.nb.last (nbKey h position)
  s.emit (.nbStatus h position r.1 r.2)

/-! ## Compute mode (R77, R215) -/

/-- Set the compute-mode set; the pier die is told by CM_SET. What the set leaves to the galleries may end a RATE_OVER (R130). -/
def State.setCm (s : State) (h m : Nat) : State :=
  (List.range 16).foldl State.rateFalls ((s.wr (NBU_CM.SET h) m).wr (NBU_STATE.CM_COUNT h) (popCount 31 m))

def doAmode (x : LCtx) (f : LFields) (s : State) : State :=
  s.issue x 0x62 f none (fun t =>
    let h := x.stack
    let m := getBits (s.gReg x f.a.toNat) 0 31
    if popCount 31 m ≤ t.rd (NBU_QUOTA.QUOTA h) ∧ m &&& t.rd (NBU_PCMAP.LOST_MASK h) = 0 then
      (t.setCm h m).setP x (f.im 0 3) true
    else t.setP x (f.im 0 3) false)

/-! ## Ordinary accesses and refresh (R210, R213, R217, R218) -/

/-- Accesses of a pseudo-channel are held: a segment runs, or its gap has not ended. -/
def State.pcHeld (s : State) (h pc : Nat) : Bool := (s.seg h pc).phase == .running || (s.seg h pc).phase == .gap

/-- An ordinary access of at most 64 bytes reaches the controller of its pseudo-channel. A reserved or lost address is
refused; `ue` says that a read of a good address met an uncorrectable error (R219). -/
def doOrdinaryAccess (addr : BitVec 48) (write : Bool) (len : Nat) (data : Bytes) (ue : Bool) (s : State) : State :=
  let a := addr.toNat
  let n := if write then data.length else len
  let x : HeldAccess := { write := write, addr := a, len := n, data := data }
  let h := dpaStack a
  let pc := dpaPc a
  if dpaKind a = .reserved then s.serve x
  else if dpaKind a ≠ .hbm ∨ 64 < n then s
  else if s.pcHeld h pc then
    (if (s.heldOn h pc).length < 32 then (s.setHeldOn h pc (s.heldOn h pc ++ [x])).inc (NBU_HELD.COUNT h)
     else s.inc (NBU_HOLD_FULL.CYCLES h))
  else
    let s := if s.inCm h pc then s else s.setOwed h pc 0
    if ue && !write && s.accessStatus a n == .ok then
      ((s.noteUe.report { memReport Blk.NBU.code h 0xFF none a with d1 := h * 32 + pc }).emit
        (.readData a Status.uncorrected.code []))
    else s.serve x

/-- A refresh falls due (R217): postponed while a segment runs or its gap is in step 3, else issued; an idle
pseudo-channel pays what it owes. -/
def doRefreshDue (h : Fin 8) (pc : Fin 31) (s : State) : State :=
  if s.pcHeld h pc then (s.setOwed h pc (s.owed h pc + 1)).inc (NBU_REF_POSTPONED.COUNT h)
  else if (s.seg h pc).phase = .requested then s
  else s.setOwed h pc 0

/-- The stack's temperature, as its sensor reads it, and the highest of all stacks. -/
def State.setTemp (s : State) (h t : Nat) : State :=
  let s := s.wr (NBU_PWR_NOW.TEMP h) (min t 255)
  s.wr FLT_THERMAL.STACK_MAX ((List.range 8).foldl (fun m i => max m (s.rd (NBU_PWR_NOW.TEMP i))) 0)

def State.setPower (s : State) (h power temp : Nat) : State :=
  (s.setTemp h temp).wr (NBU_PWR_NOW.POWER_CW h) (min power 65535)

def doRefreshRateChange (h : Fin 8) (temp : BitVec 8) (s : State) : State :=
  (s.setTemp h temp.toNat).wr (NBU_STATE.REF_DOUBLED h) (b01 (decide (85 ≤ temp.toNat)))

/-! ## Power states (R216, Table 10-4) -/

def State.setPwrState (s : State) (h v : Nat) : State :=
  let s := s.wr (NBU_STATE.PWR_STATE h) v
  let m := s.rd FLT_THERMAL.THROTTLED
  let s := s.wr FLT_THERMAL.THROTTLED (if v = 0 then withoutBit m h else withBit m h)
  if v = 0 then s else s.markSlice (0x10 + h) (fun x => { x with stack := true })

/-- The THERMAL record of a stack: its sensor of Table 23-6 and its temperature. -/
def stackThermal (h temp : Nat) : Report :=
  { cls := 0x08, sev := 0, blk := Blk.NBU.code, inst := h, unit := 0x10 + h, d0 := 5 + h, d1 := temp }

/-- `power` is the 1 ms average in units of 0.01 W and `temp` the temperature in °C, as the pier die measures them. -/
def doNbuThrottleEnter (h : Fin 8) (power : BitVec 16) (temp : BitVec 8) (s : State) : State :=
  let s := s.setPower h power.toNat temp.toNat
  if s.pwrState h = 0 ∧ (100 * s.rd (NBU_PWR.CAP h) < power.toNat ∨ s.rd (NBU_PWR.THROTTLE_C h) ≤ temp.toNat) then
    (s.setPwrState h 1).report (stackThermal h temp.toNat)
  else s

def doNbuThrottleExit (h : Fin 8) (power : BitVec 16) (temp : BitVec 8) (s : State) : State :=
  let s := s.setPower h power.toNat temp.toNat
  if s.pwrState h = 1 ∧ power.toNat + 200 < 100 * s.rd (NBU_PWR.CAP h) ∧ temp.toNat + 5 < s.rd (NBU_PWR.THROTTLE_C h) then
    s.setPwrState h 0
  else s

def doNbuCriticalEnter (h : Fin 8) (power : BitVec 16) (temp : BitVec 8) (s : State) : State :=
  let s := s.setPower h power.toNat temp.toNat
  if s.pwrState h ≠ 2 ∧ 105 ≤ temp.toNat then (s.setPwrState h 2).report (stackThermal h temp.toNat) else s

def doNbuCriticalExit (h : Fin 8) (power : BitVec 16) (temp : BitVec 8) (s : State) : State :=
  let s := s.setPower h power.toNat temp.toNat
  if s.pwrState h = 2 ∧ temp.toNat < 100 then s.setPwrState h 1 else s

/-! ## The spare pseudo-channel (R220 to R223) -/

def State.pcLost (s : State) (h pc : Nat) : Bool := bitOf (s.rd (NBU_PCMAP.LOST_MASK h)) pc

def State.failPcPosition (s : State) (h pc : Nat) : State :=
  s.wr (NBU_FAILED.FAILED_POS h) (withBit (s.rd (NBU_FAILED.FAILED_POS h)) (s.pcPosition h pc))

/-- A logical pseudo-channel leaves service (R223); it leaves the compute-mode set at the next landing. -/
def State.losePc (s : State) (h pc : Nat) : State :=
  if s.pcLost h pc then s
  else
    let pos := s.pcPosition h pc
    let s := s.failPcPosition h pc
    let s := s.wr (NBU_PCMAP.LOST_MASK h) (withBit (s.rd (NBU_PCMAP.LOST_MASK h)) pc)
    let s := s.wr (NBU_STATE.LIVE_PCS h) (s.rd (NBU_STATE.LIVE_PCS h) - 1)
    s.loseCapacity 2 .NBU h (0x10 + h) pos

def State.pcDue (s : State) (h : Nat) : List Nat := Tab.get (fun _ => []) s.nb.due h

def State.setPcDue (s : State) (h : Nat) (l : List Nat) : State :=
  { s with nb := { s.nb with due := Tab.put (fun _ => []) s.nb.due h l } }

/-- A substitution falls due: the copy to the idle spare starts, waits behind a running copy, or finds no usable spare
and removes the pseudo-channel (R221, R223). -/
def State.substPc (s : State) (h pc : Nat) : State :=
  let st := s.rd (NBU_PCMAP.SPARE_STATE h)
  if s.pcLost h pc then s
  else if st = 0 ∨ st = 1 then
    let s := s.wr (NBU_PCMAP.SPARE_STATE h) 2
    let s := s.wr (NBU_PCMAP.SPARE_FOR h) pc
    (s.wr (NBU_COPY.FRAMES h) 0).wr (NBU_COPY.STATUS h) 0
  else if st = 2 then
    (if s.rd (NBU_PCMAP.SPARE_FOR h) = pc then s else s.setPcDue h (s.pcDue h ++ [pc]))
  else s.losePc h pc

/-- NBU_SUBST with GO 1. Index 31 names no logical pseudo-channel: the write is refused. -/
def doNbuSubst (a : Agent) (h : Fin 8) (index : Fin 32) (s : State) : State :=
  if !s.mayWriteDevice a then s.refuseWrite a .NBU h
  else if index.val = 31 ∨ s.pcLost h index then s.countRefused .NBU h
  else s.substPc h index

/-- More than 1,024 corrected errors in a second, or an uncorrectable error of the near-bank unit or the TSV path. -/
def doPcFaultSubst (h : Fin 8) (pc : Fin 31) (ue : Bool) (s : State) : State :=
  (if ue then s.noteUe else s).substPc h pc

/-- A free entry of the lost-frame table. -/
def State.lostSlot (s : State) (h : Nat) : Option Nat := firstBelow 64 (fun i => !s.on (NBU_LOST.VALID h i))

/-- Enter one frame that the copy could not read: its table entry, its record, the zeros of the spare (R222). A 65th
entry removes the pseudo-channel (R223). -/
def State.loseFrame (s : State) (h pc frame : Nat) : State :=
  let a := hbmDpa h pc (8192 * frame)
  if s.pcLost h pc then s
  else
    match s.lostSlot h with
    | none => s.losePc h pc
    | some i =>
      let s := s.wr (NBU_LOST.DPA h i) a
      let s := s.wr (NBU_LOST.STATUS h i) Status.uncorrected.code
      let s := s.wr (NBU_LOST.VALID h i) 1
      let s := s.wr (NBU_PCMAP.LOST_COUNT h) (s.rd (NBU_PCMAP.LOST_COUNT h) + 1)
      let s := s.wr (NBU_COPY.STATUS h) Status.uncorrected.code
      (s.zeroRange a 8192).noteUe.report
        { memReport Blk.NBU.code h (0x10 + h) none a with d1 := h * 32 + pc }

def State.setRemap (s : State) (h : Nat) (b : Bool) : State :=
  { s with nb := { s.nb with remap := Tab.put (fun _ => false) s.nb.remap h b } }

/-- The copy ends; `lost` lists the frames it could not read correctly. -/
def doPcCopyEnd (h : Fin 8) (lost : List Nat) (s : State) : State :=
  if s.rd (NBU_PCMAP.SPARE_STATE h) ≠ 2 ∨ Tab.get (fun _ => false) s.nb.remap h then s
  else
    let pc := s.rd (NBU_PCMAP.SPARE_FOR h)
    let s := s.wr (NBU_COPY.FRAMES h) pcFrames
    let s := (lost.filter (fun f => decide (f < pcFrames))).foldl (fun s f => s.loseFrame h pc f) s
    if s.pcLost h pc then
      (s.pcDue h).foldl (fun s x => s.substPc h x) ((s.wr (NBU_PCMAP.SPARE_STATE h) 0).setPcDue h [])
    else s.setRemap h true

/-- The logical pseudo-channel moves to the spare at a landing at which no segment or gap runs on it (R221). -/
def State.remapPc (s : State) (h : Nat) : State :=
  let pc := s.rd (NBU_PCMAP.SPARE_FOR h)
  if Tab.get (fun _ => false) s.nb.remap h && s.inLanding && !s.pcHeld h pc then
    let s := s.setRemap h false
    let s := s.failPcPosition h pc
    let s := s.wr (NBU_PCMAP.SPARE_STATE h) 3
    let s := s.useSpare 2 .NBU h (0x10 + h) pc 31
    (s.pcDue h).foldl (fun s x => s.substPc h x) (s.setPcDue h [])
  else s

def doPcRemapApply (h : Fin 8) (s : State) : State := s.remapPc h

/-- The vendor command REMAP: it moves the pseudo-channel the spare was copied from, and only to position 31. -/
def doRemap (h : Fin 8) (pc : Fin 31) (position : Fin 32) (s : State) : State :=
  if position.val = 31 ∧ s.rd (NBU_PCMAP.SPARE_FOR h) = pc then s.remapPc h else s

/-- The vendor command SPTEST: the idle spare's self-test starts, where NBU_SPARE_TEST.EN is 1, or stops. -/
def doSptest (h : Fin 8) (start : Bool) (s : State) : State :=
  let st := s.rd (NBU_PCMAP.SPARE_STATE h)
  if start then (if st = 0 ∧ s.on (NBU_SPARE_TEST.EN h) then s.wr (NBU_PCMAP.SPARE_STATE h) 1 else s)
  else if st = 1 then s.wr (NBU_PCMAP.SPARE_STATE h) 0
  else s

/-- NBU_LOST_CLEAR with GO 1: the entry leaves the table and its frame reads as zero (R222). -/
def doNbuLostClear (a : Agent) (h : Fin 8) (entry : Fin 64) (s : State) : State :=
  if !s.mayWriteDevice a then s.refuseWrite a .NBU h
  else if s.on (NBU_LOST.VALID h entry) then
    let s := s.zeroRange (s.rd (NBU_LOST.DPA h entry)) 8192
    (s.setReg (NBU_LOST.VALID h entry).off 0).wr (NBU_PCMAP.LOST_COUNT h) (s.rd (NBU_PCMAP.LOST_COUNT h) - 1)
  else s

/-- At a landing, lost pseudo-channels leave the compute-mode set (R223). -/
def State.dropLostCm (s : State) (h : Nat) : State :=
  let m := (List.range 31).foldl (fun m pc => if s.pcLost h pc then withoutBit m pc else m) (s.rd (NBU_CM.SET h))
  if m = s.rd (NBU_CM.SET h) then s else s.setCm h m

def execAttn (x : LCtx) (f : LFields) (s : State) : Host.Outcome State Fault Refusal := .next (doAttn x f s)

def execAmrg (x : LCtx) (f : LFields) (s : State) : Host.Outcome State Fault Refusal := .next (doAmrg x f s)

def execAmode (x : LCtx) (f : LFields) (s : State) : Host.Outcome State Fault Refusal := .next (doAmode x f s)

def execAsync (x : LCtx) (f : LFields) (s : State) : Host.Outcome State Fault Refusal := .next (doAsync x f s)

def execAttnSegmentEnd (h : Fin 8) (pc : Fin 31) (ue : Option Nat) (ce : Nat) (good : Bool) (s : State) : Host.Outcome State Fault Refusal := .next (doAttnSegmentEnd h pc ue ce good s)

def execSegReq (h : Fin 8) (pc : Fin 31) (s : State) : Host.Outcome State Fault Refusal := .next (doSegReq h pc s)

def execSegGrant (h : Fin 8) (pc : Fin 31) (s : State) : Host.Outcome State Fault Refusal := .next (doSegGrant h pc s)

def execNbStatus (h : Fin 8) (position : Fin 32) (s : State) : Host.Outcome State Fault Refusal := .next (doNbStatus h position s)

def execRemap (h : Fin 8) (pc : Fin 31) (position : Fin 32) (s : State) : Host.Outcome State Fault Refusal := .next (doRemap h pc position s)

def execSptest (h : Fin 8) (start : Bool) (s : State) : Host.Outcome State Fault Refusal := .next (doSptest h start s)

def execSegmentGrantExpiry (h : Fin 8) (pc : Fin 31) (s : State) : Host.Outcome State Fault Refusal := .next (doSegmentGrantExpiry h pc s)

def execBoundaryGapEnd (h : Fin 8) (pc : Fin 31) (gap hold : Nat) (s : State) : Host.Outcome State Fault Refusal := .next (doBoundaryGapEnd h pc gap hold s)

def execOrdinaryAccess (addr : BitVec 48) (write : Bool) (len : Nat) (data : Bytes) (ue : Bool) (s : State) : Host.Outcome State Fault Refusal := .next (doOrdinaryAccess addr write len data ue s)

def execRefreshDue (h : Fin 8) (pc : Fin 31) (s : State) : Host.Outcome State Fault Refusal := .next (doRefreshDue h pc s)

def execRefreshRateChange (h : Fin 8) (temp : BitVec 8) (s : State) : Host.Outcome State Fault Refusal := .next (doRefreshRateChange h temp s)

def execNbuThrottleEnter (h : Fin 8) (power : BitVec 16) (temp : BitVec 8) (s : State) : Host.Outcome State Fault Refusal := .next (doNbuThrottleEnter h power temp s)

def execNbuThrottleExit (h : Fin 8) (power : BitVec 16) (temp : BitVec 8) (s : State) : Host.Outcome State Fault Refusal := .next (doNbuThrottleExit h power temp s)

def execNbuCriticalEnter (h : Fin 8) (power : BitVec 16) (temp : BitVec 8) (s : State) : Host.Outcome State Fault Refusal := .next (doNbuCriticalEnter h power temp s)

def execNbuCriticalExit (h : Fin 8) (power : BitVec 16) (temp : BitVec 8) (s : State) : Host.Outcome State Fault Refusal := .next (doNbuCriticalExit h power temp s)

def execNbuSubst (a : Agent) (h : Fin 8) (index : Fin 32) (s : State) : Host.Outcome State Fault Refusal :=
  .next (s.whenReady .NBU h.val (doNbuSubst a h index))

def execPcFaultSubst (h : Fin 8) (pc : Fin 31) (ue : Bool) (s : State) : Host.Outcome State Fault Refusal := .next (doPcFaultSubst h pc ue s)

def execPcCopyEnd (h : Fin 8) (lost : List Nat) (s : State) : Host.Outcome State Fault Refusal := .next (doPcCopyEnd h lost s)

def execPcRemapApply (h : Fin 8) (s : State) : Host.Outcome State Fault Refusal := .next (doPcRemapApply h s)

def execNbuLostClear (a : Agent) (h : Fin 8) (entry : Fin 64) (s : State) : Host.Outcome State Fault Refusal :=
  .next (s.whenReady .NBU h.val (doNbuLostClear a h entry))

end Sys2Proof.Machine
end

