-- ==== Sys2Proof/Machine/Handover.lean ====
section
/-! DEFINITION. What a response, a sent message or a flush does for the one it is for: the running work requests, layer
handovers, checkpoints and restores, and the closes of handover entries (R272 to R274, R279 to R293). -/

namespace Sys2Proof.Machine

/-! ## Ownership words (R279, R280) -/

def ownNode (w : Word) : Nat := getBits w 50 14
def ownRole (w : Word) : Nat := getBits w 48 2
def ownEpoch (w : Word) : Nat := getBits w 16 32
def ownKind (w : Word) : Nat := getBits w 14 2
def ownFrom (w : Word) : Nat := getBits w 0 14

/-- HELD(node, epoch) and INBOUND(node, epoch, from). -/
def ownWord (node role epoch kind from_ : Nat) : Word :=
  setBits (setBits (setBits (setBits (setBits 0 50 14 node) 48 2 role) 16 32 epoch) 14 2 kind) 0 14 from_
def heldWord (node role epoch : Nat) : Word := ownWord node role epoch 1 0
def inboundWord (node role epoch from_ : Nat) : Word := ownWord node role epoch 2 from_

/-- A stored word keeps R279. -/
def ownLegal (w : Word) : Bool :=
  w == 0 || (ownEpoch w != 0 && ((ownKind w == 1 && ownFrom w == 0) || ownKind w == 2))

/-- Word a is newer than word b (R280). -/
def ownNewer (a b : Word) : Bool :=
  a != 0 && (b == 0 || decide (ownEpoch b < ownEpoch a) || (ownEpoch a == ownEpoch b && ownKind a == 1 && ownKind b == 2))

/-- The role code a partition writes in ownership words (Table 19-2). -/
def State.wordRole (s : State) (p : Nat) : Nat := s.role p - 1

/-- What the result of an OWN op does to a record (R284): OWN_EPOCH rises to the largest epoch seen, ANCHOR and OWN_ROLE
follow the word that now stands. -/
def State.noteOwn (s : State) (r anchor : Nat) (back : Word) (st : Status) (new : Word) : State :=
  if st ≠ .ok ∧ st ≠ .notOwner then s
  else
    let stands := if st = Status.ok then new else back
    let s := s.setRec r Rec.OWN_EPOCH (max (s.recF r Rec.OWN_EPOCH) (max (ownEpoch back) (ownEpoch stands)))
    (s.setRec r Rec.ANCHOR anchor).setRec r Rec.OWN_ROLE (ownRole stands)

/-! ## Waiting remote accesses (R67, R336) -/

/-- The remote access a context waits for ends: with OK the data and PRES 1, else PRES 0 and gd the status code. A
context with a debug stop pending stays, to be stopped (R462). -/
def State.endRemote (s : State) (unit ctx : Nat) (st : Status) (v : Word) : State :=
  match ctxOf unit ctx with
  | none => s
  | some x =>
    match (s.ctx x).wait with
    | .remote _ d pres size _ =>
      let ok := st == Status.ok
      let data := BitVec.ofNat 64 (v.toNat % 2 ^ (8 * 2 ^ size))
      let s := (s.setG x d (if ok then data else BitVec.ofNat 64 st.code)).setP x pres ok
      let s := s.modCtx x (fun c => { c with state := if c.stopPending then .waiting else .running, wait := .none })
      s.clearStall unit ctx
    | _ => s

/-! ## The send state of a work request -/

/-- Packets of a work request's messages that are still to be sent. -/
def State.wrSending (s : State) (i : Nat) : Bool :=
  s.tp.sends.any (fun x => x.owner == .wr i && (x.kind == 0x20 || x.kind == 0x26))

/-- The outbound entry of a LAYER work request. -/
def State.layerEntry (s : State) (w : Wr) : Option Nat :=
  s.findHo false (fun h =>
    s.rd (hoRecord false h) == getBits (w.words.getD 4 0) 24 14 && s.rd (hoPart false h) == w.part &&
    s.rd (hoEpoch false h) == wrEpoch w.words)

/-- The FINAL flush of a LAYER has ended: the close is due, or the take-back where a bit below TOTAL is clear (R289). -/
def State.finalDone (s : State) (i : Nat) (st : Status) : State :=
  let w := s.wrAt i
  match s.layerEntry w with
  | none => s.endWrAs i (if st = .ok then w.fail else st)
  | some h =>
    let fail := if w.fail ≠ Status.ok then w.fail else if st ≠ Status.ok then st else .partialDone
    s.setOut h { s.out h with due := true, takeBack := !s.hoFull false h, slot := i, fail := fail }

/-- The traffic kind of a work request (Table 16-1). -/
def wrTk (op : Nat) : Nat := if op = 0x09 then 2 else if op = 0x0A ∨ op = 0x0B then 5 else 3

/-- A work request's own flush; with no context to send it on it has failed. -/
def State.wrFlush (s : State) (i : Nat) (failed : State → State) : State :=
  let w := s.wrAt i
  match s.pathTo w.part (wrNode w.words) (wrPart w.words) with
  | none => failed s
  | some n =>
    s.issueFlush n (.wr i) (wrTk (wrOp w.words)) w.unit (some w.ictx) (wrNode w.words) (wrPart w.words) none

/-- The layers of a LAYER are sent, or failed. -/
def State.layerEnd (s : State) (i : Nat) : State :=
  let w := s.wrAt i
  if wrFinal w.words then (s.setWr i { w with phase := 2 }).wrFlush i (fun s => s.finalDone i .linkFailed)
  else s.endWrAs i w.fail

/-- Some message data of a work request has been sent, or given up: what follows when none is left. -/
def State.sentSome (s : State) (i : Nat) : State :=
  let w := s.wrAt i
  if s.wrSending i ∨ w.done.isSome then s
  else
    let op := wrOp w.words
    if op = 0x01 then s.endWrAs i w.fail
    else if op = 0x09 ∧ w.phase = 1 then s.layerEnd i
    else if op = 0x0A ∧ (w.phase = 1 ∨ w.phase = 3) then
      if w.fail ≠ Status.ok then s.endWrAs i w.fail
      else (s.setWr i { w with phase := w.phase + 1 }).wrFlush i (fun s => s.endWrAs i .linkFailed)
    else s

/-- A message fails (R330, R332): its own work request, while it runs, hears of it. -/
def State.messageFails (s : State) (k : Nat) (st : Status) : State :=
  match s.msgOf k with
  | none => s
  | some m =>
    let s := s.failMsg k st
    match (s.hel.wrs.find? (fun e => e.2.start == m.start && m.wr)).map (fun e => e.1) with
    | none => s
    | some i => (s.modWr i (fun w => { w with fail := w.fail.worse st })).sentSome i

/-! ## Message sending -/

/-- Offer many packets at once. -/
def State.offerAll (s : State) (n : Nat) (xs : List Send) : State :=
  match xs.reverse with
  | [] => s
  | x :: rest => State.offer { s with tp := { s.tp with sends := s.tp.sends ++ rest.reverse } } { x with ctx := n }

/-- Send a byte range as one WRITE message on a context (R270, R322). -/
def State.sendWrite (s : State) (n i : Nat) (addr key tag ctrInc : Nat) (src : Option Src) (left : Nat) (data : Bytes) :
    State :=
  let w := s.wrAt i
  let len := if src.isSome then left else data.length
  let m := s.newMsg { id := 0, unit := w.unit, ictx := w.ictx, node := wrNode w.words, part := some (wrPart w.words),
                      bytes := len, wr := true, start := w.start }
  let s := m.1
  let num := (s.tpc n).nextMsg
  let s := s.modTpc n (fun c => { c with nextMsg := (num + 1) % 65536 })
  s.offer { ctx := n, kind := 0x20, tk := wrTk (wrOp w.words), owner := .wr i, msg := m.2,
            flds := [addr, 0, len, key, tag, num, ctrInc], src := src, left := left, data := data }

/-- Read a remote range for a work request, in one S_READ. -/
def State.sendRead (s : State) (n i addr len key : Nat) (dst : Option Src) (base : Nat) : State :=
  let r := s.newReq { ctx := n, req := 0, kind := 0x21, owner := .wr i, dst := dst, base := base }
  r.1.offer { ctx := n, kind := 0x21, tk := wrTk (wrOp (s.wrAt i).words), owner := .wr i, flds := [addr, len, key, r.2] }

/-! ## LAYER (R288) -/

/-- Where page (l, h) lies in its group: the OFFSET of its layout entry. -/
def State.layoutEntry (s : State) (p at_ kv l h : Nat) : Word :=
  BitVec.ofNat 64 (leNat (s.readTensor p (at_ + 64 + 8 * (l * kv + h)) 8 true).data)

def State.layoutAt (s : State) (p at_ : Nat) : NbLayout := layoutOf (s.readTensor p at_ 64 true).data

/-- The receiver's page-list entry i, as it was read. -/
def listEntry (buf : Bytes) (i : Nat) : Word := BitVec.ofNat 64 (leNat ((buf.drop (8 * i)).take 8))

/-- Bytes of one layer of a record: PL_LEN × KV_HEADS × PAGE_BYTES. -/
def layerBytes (l : NbLayout) (pl : Nat) : Nat := if l.noPages then 0 else pl * l.kvHeads * l.pageBytes

/-- The packets of layer l: for each page-list index, for each head, one page. -/
def State.layerSends (s : State) (i n id l : Nat) : List Send :=
  let w := s.wrAt i
  let w4 := w.words.getD 4 0
  let at_ := getBits (w.words.getD 1 0) 0 57
  let lay := s.layoutAt w.part at_
  let rec_ := getBits w4 24 14
  let pl := s.recF rec_ Rec.PL_LEN
  let root := s.recF rec_ Rec.PL_ROOT
  let total := getBits w4 16 8
  let units := total * layerBytes lay pl / 64
  if lay.noPages then []
  else
    (List.range pl).flatMap (fun k => (List.range lay.kvHeads).map (fun h =>
      let off := getBits (s.layoutEntry w.part at_ lay.kvHeads l h) 0 32
      { ctx := n, kind := 0x26, tk := 2, owner := .wr i, msg := id,
        flds := [(w.words.getD 6 0).toNat, getBits (w.words.getD 5 0) 0 32, wrEpoch w.words, getBits w4 38 14, l, total,
                 units, pageBase (listEntry w.buf k) + off],
        src := some { part := some w.part, addr := tensorAddr 1 (pageBase (s.pageEntry w.part root k) + off) },
        left := lay.pageBytes }))

/-- The receiver's list is here: each layer becomes one message. A failed message of a layer that is sent again no longer
counts. -/
def State.layerPages (s : State) (i : Nat) : State :=
  let w := s.wrAt i
  let w4 := w.words.getD 4 0
  let pl := s.recF (getBits w4 24 14) Rec.PL_LEN
  let lay := s.layoutAt w.part (getBits (w.words.getD 1 0) 0 57)
  let s := s.setWr i { w with phase := 1 }
  if !(List.range pl).all (fun k => pageValid (listEntry w.buf k)) then
    (s.modWr i (fun w => { w with fail := .badLength })).layerEnd i
  else
    match s.pathTo w.part (wrNode w.words) (wrPart w.words), s.layerEntry w with
    | some n, some e =>
      let s := (List.range (getBits w4 8 8)).foldl (fun s k =>
        let l := getBits w4 0 8 + k
        let s := { s with tp := { s.tp with msgs := s.tp.msgs.filter (fun m =>
          !(m.failed.isSome && m.layer == some (e, l))) } }
        let m := s.newMsg { id := 0, unit := w.unit, ictx := w.ictx, node := wrNode w.words,
                            part := some (wrPart w.words), bytes := layerBytes lay pl, wr := true, start := w.start,
                            layer := some (e, l) }
        m.1.offerAll n (m.1.layerSends i n m.2 l)) s
      s.sentSome i
    | _, _ => (s.modWr i (fun w => { w with fail := .linkFailed })).layerEnd i

/-! ## CKPT and RESTORE (R291 to R293) -/

/-- The frames of a record's groups in page-list order, as tensor addresses. -/
def State.imageFrames (s : State) (rec_ : Nat) : List Nat :=
  let p := s.recF rec_ Rec.PART
  let root := s.recF rec_ Rec.PL_ROOT
  (List.range (s.recF rec_ Rec.PL_LEN)).flatMap (fun k =>
    (List.range (s.groupFrames p)).map (fun j => tensorAddr 1 (pageBase (s.pageEntry p root k) + 8192 * j)))

/-- Seal one frame of an image under a slot: its ciphertext and its 32-byte header; the write counter advances. -/
def State.sealImage (s : State) (p slot : Nat) (data : Bytes) : State × Bytes × Bytes :=
  let key := (s.keySlot p slot).keyId
  let nonce := s.nonce p slot
  let hdr := leBytes 12 nonce ++ (List.range 16).map (fun i => Sys2Proof.Config.cipherByte key nonce (8192 + i) 0) ++
    [BitVec.ofNat 8 (s.keyGen p slot), BitVec.ofNat 8 p, 0x07, 0xA5]
  let s := s.setKeySlot p slot { s.keySlot p slot with counter := (s.keySlot p slot).counter + 1 }
  ({ s with hel := { s.hel with images := { key := key, nonce := nonce, data := data } :: s.hel.images } },
   data.mapIdx (fun i b => Sys2Proof.Config.cipherByte key nonce i b), hdr)

/-- The image header (Table 13-10). -/
def State.imageHeader (s : State) (rec_ slot frames : Nat) : List Word :=
  let p := s.recF rec_ Rec.PART
  [setBits (setBits 0 0 32 0x1620C4E9) 32 16 1, s.recWord rec_ 1,
   setBits (setBits (setBits 0 0 14 s.nodeId) 16 6 p) 32 32 (s.groupFrames p),
   setBits (setBits 0 0 17 (s.recF rec_ Rec.PL_LEN)) 32 21 (s.recF rec_ Rec.COMMITTED),
   setBits 0 0 32 (s.recF rec_ Rec.OWN_EPOCH), BitVec.ofNat 64 s.mer, setBits 0 0 40 frames, 0,
   setBits 0 0 8 (s.keyGen p slot), (s.keySlot p slot).keyId] ++ List.replicate 502 0

/-- The progress word of a CKPT or RESTORE. -/
def State.imageProgress (s : State) (rec_ : Nat) (st : Status) (frames : Nat) : Word :=
  setBits (setBits (setBits 0 0 8 st.code) 16 21 (s.recF rec_ Rec.COMMITTED)) 37 27 (min (frames * 8) (2 ^ 27 - 1))

/-- Seal every frame of a record into one image: the image's bytes, or the status a source read met, and how many frames
were read. -/
def State.buildImage (s : State) (rec_ slot : Nat) (good : Bool) : State × Status × Bytes × Nat :=
  let p := s.recF rec_ Rec.PART
  let fs := s.imageFrames rec_
  let hdr := (s.imageHeader rec_ slot fs.length).flatMap (fun w => leBytes 8 w.toNat)
  let r := fs.foldl (fun (acc : State × Status × Bytes × Bytes × Nat) ta =>
    if acc.2.1 ≠ .ok then acc
    else
      let d := acc.1.readTensor p ta 8192 good
      if d.status ≠ .ok ∨ d.held then
        (acc.1.noteRead p ta 8192 good, if d.held then Status.badLength else d.status, acc.2.2.1, acc.2.2.2.1, acc.2.2.2.2)
      else
        let e := acc.1.sealImage p slot d.data
        (e.1, .ok, acc.2.2.1 ++ e.2.1, acc.2.2.2.1 ++ e.2.2, acc.2.2.2.2 + 1)) (s, .ok, [], [], 0)
  (r.1, r.2.1, hdr ++ r.2.2.1 ++ r.2.2.2.1, r.2.2.2.2)

/-- The image is placed: the record is checked again, and COMPLETE is written, or the CKPT ends with PARTIAL (R292). -/
def State.ckptCheck (s : State) (i : Nat) : State :=
  let w := s.wrAt i
  let r := getBits (w.words.getD 4 0) 24 14
  if s.recState r = w.recState ∧ s.recF r Rec.GEN = w.recGen then
    match s.pathTo w.part (wrNode w.words) (wrPart w.words) with
    | some n =>
      (s.setWr i { w with phase := 3 }).sendWrite n i (gfaOff (wrRemote w.words) + 56) (wrKey w.words) (wrTag w.words) 0 none
        0 (leBytes 8 1)
    | none => s.endWrAs i .linkFailed
  else s.endWrAs i .partialDone

/-- The flush of a CKPT has ended. -/
def State.ckptFlushed (s : State) (i : Nat) (st : Status) : State :=
  if st ≠ .ok then s.endWrAs i st
  else if (s.wrAt i).phase = 2 then s.ckptCheck i
  else s.endWrAs i .ok

/-- Word k of a buffer. -/
def bufWord (buf : Bytes) (k : Nat) : Word := BitVec.ofNat 64 (leNat ((buf.drop (8 * k)).take 8))

/-- The header of an image has been read: its checks, and the read of the frames (R293). The checks that are not named a
status end with BAD_LENGTH (DEDUCED, log 21). -/
def State.restoreHeader (s : State) (i : Nat) : State :=
  let w := s.wrAt i
  let b := bufWord w.buf
  let r := getBits (w.words.getD 4 0) 24 14
  let p := w.part
  let frames := getBits (b 6) 0 40
  let gen := getBits (b 8) 0 8
  let groupsOk := decide (getBits (b 3) 0 17 ≤ s.recF r Rec.PL_LEN) && getBits (b 2) 32 32 == s.groupFrames p &&
    frames == getBits (b 3) 0 17 * s.groupFrames p &&
    (List.range (getBits (b 3) 0 17)).all (fun k =>
      let e := s.pageEntry p (s.recF r Rec.PL_ROOT) k
      pageValid e && s.groupState p (s.groupOf p (pageBase e)) != 0)
  if getBits (b 0) 0 32 ≠ 0x1620C4E9 ∨ getBit (b 7) 0 = false ∨ b 1 ≠ s.recWord r 1 ∨ getBits (b 2) 0 14 ≠ s.nodeId ∨
      getBits (b 2) 16 6 ≠ p ∨ getBits (w.words.getD 5 0) 0 40 < 4096 + frames * 8224 ∨ !groupsOk then
    s.endWrAs i .badLength
  else
    match s.slotOfGen p gen with
    | none => s.endWrAs i .keyGenGone
    | some slot =>
      if (s.keySlot p slot).keyId ≠ b 9 then s.endWrAs i .keyGenGone
      else
        match s.pathTo p (wrNode w.words) (wrPart w.words) with
        | none => s.endWrAs i .linkFailed
        | some n =>
          (s.setWr i { w with phase := 2, keySlot := slot }).sendRead n i (gfaOff (wrRemote w.words) + 4096) (frames * 8224)
            (wrKey w.words) none 4096

/-- Decrypt and place the frames of an image in order: how many, and the status. `good` is the verdict on the tags. -/
def State.restoreFrames (s : State) (i : Nat) (good : Bool) : State × Status × Nat :=
  let w := s.wrAt i
  let p := w.part
  let r := getBits (w.words.getD 4 0) 24 14
  let frames := getBits (bufWord w.buf 6) 0 40
  let gen := getBits (bufWord w.buf 8) 0 8
  let fs := (s.imageFrames r).take frames
  (fs.zip (List.range fs.length)).foldl (fun (acc : State × Status × Nat) e =>
    if acc.2.1 ≠ .ok then acc
    else
      let hdr := (w.buf.drop (4096 + frames * 8192 + 32 * e.2)).take 32
      let nonce := leNat (hdr.take 12)
      match acc.1.hel.images.find? (fun m => m.key == (acc.1.keySlot p w.keySlot).keyId && m.nonce == nonce) with
      | some m =>
        if good && hdr.getD 28 0 == BitVec.ofNat 8 gen then (acc.1.tensorWrite p e.1 m.data, .ok, acc.2.2 + 1)
        else (acc.1, .uncorrected, acc.2.2)
      | none => (acc.1, .uncorrected, acc.2.2)) (s, .ok, 0)

/-- The frames of an image have been read (R293): on OK the record takes COMMITTED and moves to PAUSED. -/
def State.restoreBody (s : State) (i : Nat) (good : Bool) : State :=
  let w := s.wrAt i
  let r := getBits (w.words.getD 4 0) 24 14
  let d := s.restoreFrames i good
  let s := d.1
  let s := if d.2.1 = .ok then
      (s.setRec r Rec.COMMITTED (getBits (bufWord w.buf 3) 32 21)).moveRec r .paused .ok
    else s
  (s.modWr i (fun w => { w with progress := s.imageProgress r d.2.1 d.2.2 })).endWrAs i d.2.1

/-! ## Read data (R274) -/

/-- A buffer with bytes placed at an offset. -/
def placeAt (buf : Bytes) (off : Nat) (data : Bytes) : Bytes :=
  buf.take off ++ List.replicate (off - buf.length) 0 ++ data ++ buf.drop (off + data.length)

/-- All data of a read of a work request is here. -/
def State.readDone (s : State) (i : Nat) (got : Nat) (good : Bool) : State :=
  let w := s.wrAt i
  let op := wrOp w.words
  if op = 0x02 then
    (s.wr (HEL_INFLIGHT_W2.SENT i) got).endWrAs i .ok
  else if op = 0x09 then
    let s := s.setWr i { w with waits := w.waits - 1 }
    if w.waits ≤ 1 then (if w.fail = .ok then s.layerPages i else s.layerEnd i) else s
  else if op = 0x0B then (if w.phase = 1 then s.restoreHeader i else s.restoreBody i good)
  else s

/-! ## Closes of handover entries (R287, R289, R400) -/

/-- A retry remains: it is made at the next landing after STALE_MAP, at the next change of the map after LINK_FAILED. -/
def State.retryClose (s : State) (inb : Bool) (h : Nat) (st : Status) : Option State :=
  let e := if inb then s.inn h else s.out h
  if (st = .linkFailed ∨ st = .staleMap) ∧ e.retries < s.rd HEL_RETRY.MAPS then
    let e := { e with due := false, sent := false, retries := e.retries + 1, retryAtMap := st == .linkFailed,
                      retryAtLanding := st == .staleMap }
    some (if inb then s.setInn h e else s.setOut h e)
  else none

/-- The outbound close or take-back has its result (Table of R289). -/
def State.endOutbound (s : State) (h : Nat) (st : Status) (back : Word) : State :=
  let e := s.out h
  let r := s.rd (hoRecord false h)
  let p := s.rd (hoPart false h)
  let epoch := s.rd (hoEpoch false h)
  let passed := (!e.takeBack && st == .ok) ||
    (e.takeBack && st == .notOwner && ownKind back == 1 && ownEpoch back == epoch && ownNode back == s.rd (hoPeer false h))
  let here := s.inState r .handoverOut && s.recF r Rec.PART == p
  let done := if passed then Status.ok else if e.takeBack && st == .ok then e.fail else st
  let s := s.modWr e.slot (fun w => { w with progress := s.hoProgress false h done })
  let s :=
    if passed then (if here then s.moveRec r .done .ok else s).inc (HEL_P_OUT_DONE.COUNT p)
    else if e.takeBack && st == .ok then
      (if here then s.moveRec r .paused e.fail else s).inc (HEL_P_TAKEBACK.COUNT p)
    else if st = .notOwner then (if here then s.failRecord r .notOwner else s)
    else s.inc HEL_UNRESOLVED.COUNT
  (s.closeHo false h).endWrAs e.slot done

/-- The inbound close has its result: DECODE, or PARKED in a CACHE partition, and the RECORD triggers fire. -/
def State.endInbound (s : State) (h : Nat) (st : Status) : State :=
  let r := s.rd (hoRecord true h)
  let p := s.rd (hoPart true h)
  let here := s.inState r .handoverIn && s.recF r Rec.PART == p
  let s :=
    if st = .ok then
      let s := if here then s.moveRec r (if s.role p = 3 then .parked else .decode) .ok else s
      (s.inc (HEL_P_IN_DONE.COUNT p)).markTrigs 3 (fun i => getBits (s.trigWord i 7) 2 14 == r)
    else if st = .notOwner then (if here then s.failRecord r .notOwner else s)
    else s.inc HEL_UNRESOLVED.COUNT
  s.closeHo true h

/-- The result of a heliostat-made close or take-back. Its result also tells the record of the word (R284). -/
def State.closeResult (s : State) (inb : Bool) (h : Nat) (st : Status) (back new : Word) (anchor : Nat) : State :=
  if !s.on (hoValid inb h) then s
  else
    match s.retryClose inb h st with
    | some s => s
    | none =>
      let s := s.noteOwn (s.rd (hoRecord inb h)) anchor back st new
      if inb then s.endInbound h st else s.endOutbound h st back

/-- The words of a close or take-back: what the anchor must hold, and what it shall hold (Table 13-6). The roles are the
owner's as the record knows them and the own partition's (DEDUCED, log 22). -/
def State.closeWords (s : State) (inb : Bool) (h : Nat) : Word × Word :=
  let r := s.rd (hoRecord inb h)
  let p := s.rd (hoPart inb h)
  let e := s.rd (hoEpoch inb h)
  let peer := s.rd (hoPeer inb h)
  let me := s.nodeId
  if inb then (inboundWord me (s.wordRole p) e peer, heldWord me (s.wordRole p) e)
  else
    let role := s.recF r Rec.OWN_ROLE
    if (s.out h).takeBack then (inboundWord peer role e me, heldWord me (s.wordRole p) (e + 1))
    else (inboundWord peer role e me, heldWord peer role e)

/-! ## The end of what a unit waits for -/

/-- A response to a request of a work request (R270, R284). -/
def State.endWr (s : State) (i : Nat) (st : Status) (back : Word) (mf : Bool) : State :=
  let w := s.wrAt i
  let op := wrOp w.words
  let w7 := w.words.getD 7 0
  let rec_ := getBits w7 32 14
  let noteOwn (s : State) (new : Word) : State :=
    if getBit w7 46 then s.noteOwn rec_ (wrNode w.words) back st new else s
  if (s.wr? i).isNone ∨ w.done.isSome then s
  else if op = 0x03 ∨ op = 0x04 then (s.setWr i { w with result := back }).endWrAs i st
  else if op = 0x06 then
    ((noteOwn s (w.words.getD 6 0)).setWr i { w with result := back, mirrorFailed := mf }).endWrAs i st
  else if op = 0x07 then
    let s := if getBit w7 46 ∧ st = .ok ∧ back ≠ 0 ∧ ownEpoch back < s.recF rec_ Rec.OWN_EPOCH then
        s.inc HEL_UNRESOLVED.COUNT
      else s
    ((noteOwn s back).setWr i { w with result := back }).endWrAs i st
  else if op = 0x09 then
    if w.phase = 2 then s.finalDone i st
    else
      let s := s.setWr i { w with fail := w.fail.worse st, waits := w.waits - 1 }
      if w.waits ≤ 1 then s.layerEnd i else s
  else if op = 0x0A then s.ckptFlushed i st
  else s.endWrAs i st

/-- A request, message or flush of an owner has ended. `new` and `anchor` are what a close asked of the anchor. -/
def State.endOwner (s : State) (o : Owner) (st : Status) (back : Word) (mf : Bool) (new : Word) (anchor : Nat) : State :=
  match o with
  | .wr i => s.endWr i st back mf
  | .remote u c => s.endRemote u c st back
  | .flush u ctr =>
    if st = .ok then s.issueGive { unit := u, credit := false, ctr := ctr, count := 1, giver := 0xFF }
    else s.report (tpReport st none u 0 0 0x27)
  | .close inb h => s.closeResult inb h st back new anchor
  | .barrier slot due =>
    if st = .ok then s
    else s.report { tpReport st (some (mapBarPart s.prt.cur)) 0xFF 0 0 0x23 with d1 := slot + 256 * due }
  | _ => s

/-- The true status of a failed flush is recorded (R335). -/
def State.noteFlushFail (s : State) (n : Nat) (st : Status) : State :=
  let c := s.tpc n
  let s := s.wr (FAB_TP_LAST_NACK.STATUS 0) st.code
  let s := s.wr (FAB_TP_LAST_NACK.KIND 0) 0x27
  let s := s.wr (FAB_TP_LAST_NACK.NODE 0) c.node
  let s := s.wr (FAB_TP_LAST_NACK.MERIDIAN 0) s.mer32
  s.report (tpReport st (some c.part) 0xFF n 0 0x27)

/-- Each byte that a flush confirms is counted once: in the in-flight entry of the flush, in the outbound handover entry
of its layer, and in the measured bytes (R272, R274, R289, R294). -/
def State.confirmMsg (s : State) (o : Owner) (m : Msg) : State :=
  let s : State := match o with
    | .wr i => s.add (HEL_INFLIGHT_W3.CONFIRMED i) m.bytes
    | _ => s
  let s : State := match m.layer with
    | some (h, l) =>
      if s.on (hoValid false h) then (s.setHoBit false h l).add (hoBytes false h) m.bytes else s
    | none => s
  if s.hel.measMsgs.contains m.id ∧ s.hel.measuring then
    let s := s.add HEL_MEAS_BYTES.BYTES m.bytes
    match s.hel.measFrom with
    | some (mer, cyc) =>
      s.wr HEL_MEAS_CYCLES.CYCLES (((s.mer - mer) * lenCycles s.merLen + s.cycle - cyc) / 2)
    | none => s
  else s

/-- A flush that has its answer ends, once no INVAL it covers waits for its INVAL_ACK (R338): with OK it confirms what it
covers; with LINK_FAILED the true status is recorded, and the failed messages are done with. -/
def doFlushComplete (i : Nat) (s : State) : State :=
  match s.hel.flushes[i]? with
  | none => s
  | some f =>
    let cov := s.tp.msgs.filter (fun m => m.coveredBy f.covers)
    if cov.any (fun m => m.inval.isSome) then s
    else
      let s := { s with hel := { s.hel with flushes := s.hel.flushes.eraseIdx i } }
      match cov.findSome? (fun m => m.failed) with
      | some st =>
        let s := { s with tp := { s.tp with msgs := s.tp.msgs.filter (fun m =>
          !(m.coveredBy f.covers && m.failed.isSome)) } }
        (s.noteFlushFail f.ctx st).endOwner f.owner .linkFailed 0 false 0 0
      | none =>
        if f.status ≠ .ok then s.endOwner f.owner .linkFailed 0 false 0 0
        else
          let s := cov.foldl (fun s m => s.confirmMsg f.owner m) s
          let s := { s with tp := { s.tp with msgs := s.tp.msgs.filter (fun m => !m.coveredBy f.covers) } }
          s.endOwner f.owner .ok 0 false 0 0

def execFlushComplete (i : Nat) (s : State) : Host.Outcome State Fault Refusal := .next (doFlushComplete i s)

end Sys2Proof.Machine
end

