-- ==== Sys2Proof/Machine/Anchor.lean ====
section
/-! DEFINITION. The anchor table and the OWN ops decided against it, mirrors and copies, the closes the heliostat makes,
and the copy sweep (R281 to R289, R398 to R400). -/

namespace Sys2Proof.Machine

/-! ## The anchor table (R281) -/

def State.anchLog (s : State) : Nat := s.rd HEL_ANCH_CFG.SLOTS_LOG2
def State.anchSize (s : State) : Nat := 2 ^ s.anchLog
def State.anchSlotDpa (s : State) (k : Nat) : Nat := s.rd HEL_ANCH_BASE.DPA + 16 * k
def State.anchReq (s : State) (k : Nat) : Word := s.word (s.anchSlotDpa k)
def State.anchWord (s : State) (k : Nat) : Word := s.word (s.anchSlotDpa k + 8)

def removedReq : Word := BitVec.ofNat 64 (2 ^ 64 - 1)

/-- The home slot of a request. -/
def anchHome (log : Nat) (req : Word) : Nat := ((getBits req 32 32 ^^^ getBits req 0 32) * 0x9E3779B1 % 2 ^ 32) / 2 ^ (32 - log)

/-- The home slot and the 15 after it. -/
def State.anchProbe (s : State) (req : Word) : List Nat :=
  (List.range 16).map (fun k => (anchHome s.anchLog req + k) % s.anchSize)

/-- A lookup passes removed entries and stops at a free one. -/
def State.anchFind (s : State) (req : Word) : List Nat → Option Nat
  | [] => none
  | k :: ks => if s.anchReq k = 0 then none else if s.anchReq k = req then some k else s.anchFind req ks

def State.anchLookup (s : State) (req : Word) : Option Nat := s.anchFind req (s.anchProbe req)

/-- The word the table holds for a request: 0 for none. -/
def State.anchCurrent (s : State) (req : Word) : Word :=
  match s.anchLookup req with
  | some k => s.anchWord k
  | none => 0

/-- The first free or removed slot of a request's 16. -/
def State.anchRoom (s : State) (req : Word) : Option Nat :=
  (s.anchProbe req).find? (fun k => s.anchReq k == 0 || s.anchReq k == removedReq)

def State.countAnch (s : State) (up : Bool) : State :=
  s.wr HEL_ANCH_USE.ENTRIES (if up then s.rd HEL_ANCH_USE.ENTRIES + 1 else s.rd HEL_ANCH_USE.ENTRIES - 1)

/-- Store a word: 0 removes the entry, a request without an entry is inserted. None where no slot is free. -/
def State.anchStore (s : State) (req new : Word) : Option State :=
  match s.anchLookup req with
  | some k =>
    if new = 0 then some (((s.setWord (s.anchSlotDpa k) removedReq).setWord (s.anchSlotDpa k + 8) 0).countAnch false)
    else some (s.setWord (s.anchSlotDpa k + 8) new)
  | none =>
    if new = 0 then some s
    else
      match s.anchRoom req with
      | some k => some (((s.setWord (s.anchSlotDpa k) req).setWord (s.anchSlotDpa k + 8) new).countAnch true)
      | none => none

/-! ## Decisions (R282, R283) -/

/-- What the anchor decides: the status, the word that stood before, and the word it stored. -/
structure OwnResult where
  status : Status
  back : Word := 0
  stored : Option Word := none
  deriving DecidableEq, Repr

/-- Steps 1 to 3, and a table that memory cannot serve. -/
def State.ownCheck (s : State) (o : OwnOp) : Option Status :=
  if o.part ≠ s.rd HEL_ANCH_CFG.PART ∨ !s.on HEL_ANCH_CFG.EN then some .keyMismatch
  else if o.req = 0 ∨ o.req = removedReq ∨ (o.kind ≠ 1 ∧ !ownLegal o.new) then some .badLength
  else if o.epoch ≠ s.curEpoch then some .staleMap
  else if !rangeHbm (s.rd HEL_ANCH_BASE.DPA) (16 * s.anchSize) ∨
      s.accessStatus (s.rd HEL_ANCH_BASE.DPA) (16 * s.anchSize) ≠ .ok then some .uncorrected
  else none

/-- Store a word, or end with REFUSED_FULL. -/
def State.ownStore (s : State) (o : OwnOp) (cur : Word) : State × OwnResult :=
  match s.anchStore o.req o.new with
  | some s => (s, { status := .ok, back := cur, stored := some o.new })
  | none => (s.inc HEL_ANCH_FULL.COUNT, { status := .refusedFull, back := cur })

/-- Decide one op: 0 CAS, 1 READ, 2 MIRROR. -/
def State.ownDecide (s : State) (o : OwnOp) : State × OwnResult :=
  match s.ownCheck o with
  | some st => (s, { status := st })
  | none =>
    let cur := s.anchCurrent o.req
    if o.kind = 1 then (s, { status := .ok, back := cur })
    else if o.kind = 2 then
      if ownNewer o.new cur then s.ownStore o cur else (s, { status := .ok, back := cur })
    else if cur = o.new then (s, { status := .ok, back := cur })
    else if cur = o.expected then s.ownStore o cur
    else (s, { status := .notOwner, back := cur })

/-! ## Mirrors and replies -/

/-- Send a reply on a context: it is kept for a duplicate of the request (R332). -/
def State.sendReply (s : State) (n psn kind : Nat) (flds : List Nat) (data : Bytes) : State :=
  let x : Send := { ctx := n, kind := kind, flds := flds, data := data }
  let s := s.modTpc n (fun c => { c with kept := ((psn, x) :: c.kept).take 64 })
  { s with tp := { s.tp with express := s.tp.express ++ [x] } }

/-- Offer an S_OWN to another node; none where no connection serves it. -/
def State.offerOwn (s : State) (p : Nat) (owner : Owner) (node part kind : Nat) (req expected new : Word) (mirror : Bool)
    (mnode mpart : Nat) : Option State :=
  (s.pathTo p node part).map (fun n =>
    let r := s.newReq { ctx := n, req := 0, kind := 0x24, owner := owner }
    r.1.offer { ctx := n, kind := 0x24, tk := 1, owner := owner,
                flds := [r.2, kind, req.toNat, expected.toNat, new.toNat, b01 mirror, mnode, mpart] })

/-- Where the anchor sends the word it has stored: the op's mirror, and the COPY_TO of the request's slot (R283, R399). -/
def State.mirrorsOf (s : State) (o : OwnOp) : List (Nat × Nat) :=
  let n := mapSlots s.prt.cur
  let i := anchorIndex n o.req
  (if o.kind = 0 ∧ o.mirror then [(o.mirrorNode, o.mirrorPart)] else []) ++
  (if n ≠ 0 ∧ anchorNode s.prt.cur i = s.nodeId ∧ anchorCopy s.prt.cur i then
     [(anchorCopyTo s.prt.cur i, nodeAnchPart s.prt.cur (anchorCopyTo s.prt.cur i))] else [])

/-- Send the mirrors of a stored word: how many wait, and whether one failed at issue. -/
def State.sendMirrors (s : State) (req w : Word) : List (Nat × Nat) → State × Nat × Bool
  | [] => (s, 0, false)
  | x :: xs =>
    match s.offerOwn (s.rd HEL_ANCH_CFG.PART) .mirror x.1 x.2 2 req 0 w false 0 0 with
    | some s =>
      let r := s.sendMirrors req w xs
      (r.1, r.2.1 + 1, r.2.2)
    | none =>
      let r := s.sendMirrors req w xs
      (r.1, r.2.1, true)

/-- The front op is decided and its mirrors have answered: it is answered itself. -/
def State.ownAnswer (s : State) (o : OwnOp) : State :=
  let s := if o.failed then s.inc HEL_MIRROR_FAILED.COUNT else s
  match o.src with
  | some (n, psn, req) => s.sendReply n psn 0x25 [req, o.status.code, b01 o.failed, o.result.toNat] []
  | none => s.endOwner o.owner o.status o.result o.failed o.new s.nodeId

/-- The anchor takes its ops one at a time, in order of arrival. -/
def State.ownRun : Nat → State → State
  | 0, s => s
  | fuel + 1, s =>
    match s.hel.ops with
    | [] => s
    | o :: rest =>
      if o.decided then
        if o.waits = 0 then State.ownRun fuel (State.ownAnswer { s with hel := { s.hel with ops := rest } } o) else s
      else
        let d := s.ownDecide o
        let m := match d.2.stored with
          | some w => d.1.sendMirrors o.req w (d.1.mirrorsOf o)
          | none => (d.1, 0, false)
        let o := { o with decided := true, status := d.2.status, result := d.2.back, waits := m.2.1, failed := m.2.2 }
        State.ownRun fuel { m.1 with hel := { m.1.hel with ops := o :: rest } }

def State.runAnchor (s : State) : State := State.ownRun (2 * s.hel.ops.length) s

/-- An op reaches the anchor. -/
def State.ownArrive (s : State) (o : OwnOp) : State :=
  State.runAnchor { s with hel := { s.hel with ops := s.hel.ops ++ [o] } }

/-- A mirror of the front op has answered. -/
def State.mirrorBack (s : State) (st : Status) : State :=
  match s.hel.ops with
  | [] => s
  | o :: rest =>
    let o := { o with waits := o.waits - 1, failed := o.failed || st != .ok }
    State.runAnchor { s with hel := { s.hel with ops := o :: rest } }

/-- The LINK_FAILED of an operation at issue: with a record where no context of its pair is OPEN (R316), without one where the map
alone does not let it reach the node (R397). -/
def State.issueFailed (s : State) (p unit gfa kind : Nat) : State :=
  match s.openCtx p (gfaNode gfa) (gfaPart gfa) with
  | some _ => s
  | none => s.report (tpReport .linkFailed (some p) unit 0 gfa kind)

/-- Issue an OWN op toward an anchor. This node's own anchor is reached inside the node; a map without anchors gives
LINK_FAILED (R398). -/
def State.sendOwn (s : State) (p : Nat) (owner : Owner) (node part kind : Nat) (req expected new : Word) (mirror : Bool)
    (mnode mpart : Nat) : State :=
  if mapSlots s.prt.cur = 0 then s.endOwner owner .linkFailed 0 false new node
  else if node = s.nodeId then
    s.ownArrive { src := none, owner := owner, kind := kind, part := part, epoch := s.curEpoch, req := req,
                  expected := expected, new := new, mirror := mirror, mirrorNode := mnode, mirrorPart := mpart }
  else
    match s.offerOwn p owner node part kind req expected new mirror mnode mpart with
    | some s => s
    | none =>
      (s.issueFailed p 0xFF (gfaOf node part 0) 0x24).endOwner owner .linkFailed 0 false new node

/-! ## Closes (R289) -/

/-- Make the close or take-back of an entry, at the anchor the current map gives. -/
def State.makeClose (s : State) (inb : Bool) (h : Nat) : State :=
  let req := s.reg (hoReq inb h).off
  let w := s.closeWords inb h
  let p := s.rd (hoPart inb h)
  let e := if inb then s.inn h else s.out h
  let e := { e with due := false, sent := true, retryAtMap := false, retryAtLanding := false, epoch := s.curEpoch }
  let s := if inb then s.setInn h e else s.setOut h e
  match anchorOf s.prt.cur req with
  | none => s.closeResult inb h .linkFailed 0 w.2 0
  | some a =>
    let m := (mirrorOf s.prt.cur req).getD a
    s.sendOwn p (.close inb h) a (nodeAnchPart s.prt.cur a) 0 req w.1 w.2 true m (nodeAnchPart s.prt.cur m)

/-- After a FINAL flush or a full inbound mask the heliostat makes the close or the take-back. -/
def doHandoverClose (inb : Bool) (h : Fin 1024) (s : State) : State :=
  let e := if inb then s.inn h else s.out h
  if s.on (hoValid inb h) ∧ e.due then s.makeClose inb h else s

/-- A failed close or take-back is made again: after LINK_FAILED once the current map has changed, after STALE_MAP at a
landing (R287, R400). -/
def doOwnRetry (inb : Bool) (h : Fin 1024) (s : State) : State :=
  let e := if inb then s.inn h else s.out h
  if s.on (hoValid inb h) ∧ ((e.retryAtMap ∧ e.epoch ≠ s.curEpoch) ∨ (e.retryAtLanding ∧ s.inLanding)) then
    s.makeClose inb h
  else s

/-! ## Requests that have their answer -/

/-- A request on a connection has its answer, or has failed. -/
def State.finishReq (s : State) (r : Req) (st : Status) (back : Word) (mf : Bool) : State :=
  let s := s.dropReq r
  match r.owner with
  | .mirror => s.mirrorBack st
  | .sweep => if st = .ok then s else { s with prt := { s.prt with sweepFailed := true } }
  | .close inb h => s.endOwner r.owner st back mf (s.closeWords inb h).2 (s.tpc r.ctx).node
  | o => s.endOwner o st back mf 0 0

/-! ## The copy sweep (R399) -/

/-- The entries a sweep sends: those whose request falls in a slot with COPY that names this node. -/
def State.sweepEntries (s : State) : List (Word × Word × Nat) :=
  let t := s.prt.cur
  let n := mapSlots t
  (List.range s.anchSize).filterMap (fun k =>
    let q := s.anchReq k
    let i := anchorIndex n q
    if q ≠ 0 ∧ q ≠ removedReq ∧ n ≠ 0 ∧ anchorNode t i = s.nodeId ∧ anchorCopy t i then
      some (q, s.anchWord k, anchorCopyTo t i)
    else none)

/-- Start a sweep: one OWN_MIRROR for each entry. -/
def State.startSweep (s : State) : State :=
  let es := s.sweepEntries
  let s := { s with prt := { s.prt with sweepFailed := false } }
  let s := (s.wr (PRT_ANCH_COPY.BUSY 0) 1).wr (PRT_ANCH_COPY.COPIED 0) es.length
  es.foldl (fun s e =>
    match s.offerOwn (s.rd HEL_ANCH_CFG.PART) .sweep e.2.2 (nodeAnchPart s.prt.cur e.2.2) 2 e.1 0 e.2.1 false 0 0 with
    | some s => s
    | none => { s with prt := { s.prt with sweepFailed := true } }) s

/-- The sweep ends once every mirror has answered. -/
def doAnchCopySweepEnd (s : State) : State :=
  if s.on (PRT_ANCH_COPY.BUSY 0) ∧ s.tp.reqs.all (fun r => r.owner != .sweep) then
    let st : Status := if s.prt.sweepFailed then .linkFailed else .ok
    (s.wr (PRT_ANCH_COPY.STATUS 0) st.code).wr (PRT_ANCH_COPY.BUSY 0) 0
  else s

def execHandoverClose (inb : Bool) (h : Fin 1024) (s : State) : Host.Outcome State Fault Refusal := .next (doHandoverClose inb h s)
def execOwnRetry (inb : Bool) (h : Fin 1024) (s : State) : Host.Outcome State Fault Refusal := .next (doOwnRetry inb h s)
def execAnchCopySweepEnd (s : State) : Host.Outcome State Fault Refusal := .next (doAnchCopySweepEnd s)

end Sys2Proof.Machine
end

