-- ==== Sys2Proof/Machine/Moves.lean ====
section
/-! DEFINITION. Class 0x7 instructions and the completion of a queued MOVE (R78, R79, R152, R252, R253). -/

namespace Sys2Proof.Machine

/-- Entries of a unit's move queue: its queued MOVEs, and its MIGRs and PARKs that wait for a migration (R252). -/
def State.moveCount (s : State) (u : Nat) : Nat :=
  s.larty.moveQueue.countP (fun m => m.unit == u) +
  s.stw.moveReqs.countP (fun r => match r.kind.token with
    | some (v, _) => v == u
    | none => false)

def State.moveRoom (s : State) (u : Nat) : Bool := decide (s.moveCount u < 32)

def State.giveToken (s : State) (u ctr : Nat) : State :=
  s.issueGive { unit := u, credit := false, ctr := ctr, count := 1, giver := 0xFF }

/-- LEN of a MOVE: IMM[27:0], or g(b+1). -/
def State.moveLen (s : State) (x : LCtx) (f : LFields) : Nat :=
  if f.im 28 1 = 1 then (s.gReg x (f.b.toNat + 1)).toNat else f.im 0 28

/-- The register g(b+1) exists, and a MOVE by tensor address has a partition (R85). -/
def State.moveLegal (s : State) (x : LCtx) (f : LFields) : Bool :=
  (f.im 28 1 == 0 || decide (f.b.toNat ≤ 30)) && (f.im 29 1 == 1 || (s.ctxPart x).isSome)

/-- MOVE. A length of 0 gives its token at once with PRES 1 (R27). -/
def doMove (x : LCtx) (f : LFields) (s : State) : State :=
  s.issue x 0x70 f (faultUnless (s.moveLegal x f)) (fun t =>
    let n := s.moveLen x f
    let pres := f.im 30 3
    if n = 0 then (t.giveToken x.unit f.d.toNat).setP x pres true
    else if t.moveRoom x.unit then
      let m : MoveOp := { unit := x.unit, ctx := x.ctx, part := (s.ctxPart x).getD 0, ctr := f.d.toNat,
                          src := s.gReg x f.a.toNat, dst := s.gReg x f.b.toNat, len := n, phys := f.im 29 1 == 1 }
      State.setP { t with larty := { t.larty with moveQueue := t.larty.moveQueue ++ [m] } } x pres true
    else t.setP x pres false)

/-- The oldest MOVE of its unit. -/
def oldestMove (q : List MoveOp) (i : Nat) : Option MoveOp :=
  match q[i]? with
  | some m => if (q.take i).all (fun y => y.unit != m.unit) then some m else none
  | none => none

/-- The tags a MOVE by tensor address leaves (R152): whole slots copied between aligned addresses keep theirs. -/
def State.moveTags (s : State) (m : MoveOp) (tags : List Nat) : State :=
  let src := m.src.toNat
  let dst := m.dst.toNat
  let s := s.clearTensorTags m.part dst m.len
  if src % 4096 = 0 ∧ dst % 4096 = 0 then
    (tags.zip (List.range tags.length)).foldl (fun s e => s.setTaTag m.part (dst + 4096 * e.2) e.1) s
  else s

/-- The records of a write that fails. -/
def State.noteWrite (s : State) (p ta n : Nat) : State :=
  (piecesOf ta n).foldl (fun s x =>
    match s.writeAt p x.1 with
    | .fail st r => s.noteTensorFail p x.1 st r
    | _ => s) s

/-- A MOVE by tensor address writes its last byte, or ends with a status: it is applied whole or not at all. It waits
while its source waits for a home or its target for a home or the end of a transit. -/
def State.moveTensor (s : State) (i : Nat) (m : MoveOp) (good : Bool) : State :=
  let src := m.src.toNat
  let dst := m.dst.toNat
  let r := s.readTensor m.part src m.len good
  let out := { s with larty := { s.larty with moveQueue := s.larty.moveQueue.eraseIdx i } }
  if r.held then s
  else if r.status ≠ .ok then out.noteRead m.part src m.len good
  else if s.writeWaits m.part dst m.len then s.startDemand m.part dst m.len
  else if s.writeStatus m.part dst m.len ≠ .ok then out.noteWrite m.part dst m.len
  else
    let tags := (List.range (m.len / 4096)).map (fun k =>
      if taggedSpace (taSpace src) then s.taTag m.part (src + 4096 * k) else 0)
    ((out.landWrite m.part dst r.data).moveTags m tags).giveToken m.unit m.ctr

/-- The MEMORY record of a MOVE names the block of its unit (Table 22-1). -/
def moveReport (m : MoveOp) (a : Nat) : Report :=
  memReport (unitBlk m.unit).1.code (unitBlk m.unit).2 m.unit (if m.phys then none else some m.part) a

/-- A MOVE by DPA writes its last byte; one that touches a reserved DPA ends with UNCORRECTED, gives no token and is
recorded. -/
def State.movePhys (s : State) (i : Nat) (m : MoveOp) : State :=
  let src := m.src.toNat
  let dst := m.dst.toNat
  let out := { s with larty := { s.larty with moveQueue := s.larty.moveQueue.eraseIdx i } }
  if s.accessStatus src m.len ≠ .ok then out.noteAccess false (moveReport m src) src m.len
  else if s.storeStatus dst m.len ≠ .ok then out.noteAccess true (moveReport m dst) dst m.len
  else (out.copy src dst m.len).giveToken m.unit m.ctr

/-- The i-th queued MOVE, the oldest of its unit, completes. `ue` says that a read of it was uncorrectable, `good` is the
verdict on encrypted homes. -/
def doMoveComplete (i : Nat) (ue good : Bool) (s : State) : State :=
  match oldestMove s.larty.moveQueue i with
  | none => s
  | some m =>
    if ue then
      (State.noteUe { s with larty := { s.larty with moveQueue := s.larty.moveQueue.eraseIdx i } }).report
        (moveReport m m.src.toNat)
    else if m.phys then s.movePhys i m
    else s.moveTensor i m good

/-- A request to the stairwell by MIGR or PARK: PRES says that it entered the move queue. -/
def State.askMove (s : State) (x : LCtx) (pres : Nat) (r : MoveReq) : State :=
  if s.moveRoom x.unit then (s.setP x pres true).decideMove r else s.setP x pres false

def doMigr (x : LCtx) (f : LFields) (s : State) : State :=
  s.issue x 0x71 f (faultUnless (s.ctxPart x).isSome) (fun t =>
    t.askMove x (f.im 2 3) { part := (s.ctxPart x).getD 0, base := (s.gReg x f.a.toNat).toNat, tier := f.im 0 2,
                             kind := .migr x.unit f.d.toNat })

def doPark (x : LCtx) (f : LFields) (s : State) : State :=
  s.issue x 0x72 f (faultUnless (s.ctxPart x).isSome) (fun t =>
    let p := (s.ctxPart x).getD 0
    t.askMove x (f.im 0 3) { part := p, base := (s.gReg x f.a.toNat).toNat, tier := t.rd (STW_P_POLICY.PARK_TIER p),
                             kind := .park x.unit f.d.toNat (getBits (s.gReg x f.b.toNat) 0 16) })

def execMove (x : LCtx) (f : LFields) (s : State) : Host.Outcome State Fault Refusal := .next (doMove x f s)

def execMigr (x : LCtx) (f : LFields) (s : State) : Host.Outcome State Fault Refusal := .next (doMigr x f s)

def execPark (x : LCtx) (f : LFields) (s : State) : Host.Outcome State Fault Refusal := .next (doPark x f s)

def execMoveComplete (i : Nat) (ue good : Bool) (s : State) : Host.Outcome State Fault Refusal := .next (doMoveComplete i ue good s)

end Sys2Proof.Machine
end

