-- ==== Sys2Proof/Machine/WorkRequests.lean ====
section
/-! DEFINITION. The work requests the engine takes, and their completion (R268 to R276, R282 to R294). -/

namespace Sys2Proof.Machine

/-- A request of a context without a partition: it fails with BAD_LENGTH, and a REQUEST record says so (R85). -/
def State.refuseNoPart (s : State) (e : QEntry) : State :=
  (s.noteHelLast 0 (wrOp e.words) .badLength).report
    { cls := 0x0B, status := Status.badLength.code, sev := 3, blk := Blk.HEL.code, unit := e.unit, ctx := e.ictx }

/-- Take an entry into an in-flight slot and start it with `eff`, or let it end with a status. -/
def State.runEntry (s : State) (e : QEntry) (p : Nat) (eff : Nat → State → State) : State :=
  match s.freeWr with
  | none => s
  | some i =>
    let n := s.hel.starts
    let s := { s with hel := { s.hel with starts := n + 1 } }
    let s := (s.openWr i { words := e.words, unit := e.unit, ictx := e.ictx, part := p, fired := e.fired,
                           start := n }).inc (HEL_P_WRS.COUNT p)
    if !wrLegal e.words then s.endWrAs i .badLength
    else if wrArm e.words ∧ !e.fired then
      let st := s.armStatus p e.words
      if st = Status.ok then
        match firstBelow 1024 (fun k => !s.trigUsed k) with
        | some k => (s.closeWr i).armSlot k p e.words
        | none => s.endWrAs i .refusedFull
      else s.endWrAs i st
    else eff i s

/-- The engine takes the next entry in its turn, where that entry's OP is one of `ops` (R269). -/
def State.takeWr (s : State) (ops : Nat → Bool) (eff : Nat → State → State) : State :=
  match s.nextQueue with
  | none => s
  | some q =>
    match s.queueFront q with
    | none => s
    | some e =>
      if !ops (wrOp e.words) then s
      else
        let s := s.popQueue q
        let s := { s with hel := { s.hel with lastQueue := q } }
        let part := if e.unit = 0x18 then some (getBits (e.words.getD 0 0) 16 6) else e.part
        match part with
        | none => s.refuseNoPart e
        | some p => s.runEntry e p eff

/-- NOP completes at once. A reserved OP completes with BAD_LENGTH. -/
def doWrNop (s : State) : State := s.takeWr (fun op => op == 0 || decide (0x0C ≤ op)) (fun i s => s.endWrAs i .ok)

/-- An operation of the work request's partition toward its node and partition, or LINK_FAILED at issue. -/
def State.onPath (s : State) (i kind : Nat) (eff : Nat → State → State) : State :=
  let w := s.wrAt i
  match s.pathTo w.part (wrNode w.words) (wrPart w.words) with
  | some n => eff n s
  | none => (s.issueFailed w.part w.unit (wrRemote w.words) kind).endWrAs i .linkFailed

def doWrWrite (s : State) : State :=
  s.takeWr (fun op => op == 0x01) (fun i s =>
    let w := s.wrAt i
    if wrLen w.words = 0 then s.endWrAs i .ok
    else s.onPath i 0x20 (fun n s =>
      s.sendWrite n i (gfaOff (wrRemote w.words)) (wrKey w.words) (wrTag w.words) (getBits (w.words.getD 5 0) 0 5)
        (some (wrLocal w.words w.part)) (wrLen w.words) []))

def doWrRead (s : State) : State :=
  s.takeWr (fun op => op == 0x02) (fun i s =>
    let w := s.wrAt i
    if wrLen w.words = 0 then s.endWrAs i .ok
    else s.onPath i 0x21 (fun n s =>
      s.sendRead n i (gfaOff (wrRemote w.words)) (wrLen w.words) (wrKey w.words) (some (wrLocal w.words w.part)) 0))

/-- An S_ATOM of a work request. -/
def State.sendAtom (s : State) (i op : Nat) (compare operand : Word) : State :=
  let w := s.wrAt i
  s.onPath i 0x23 (fun n s =>
    let r := s.newReq { ctx := n, req := 0, kind := 0x23, owner := .wr i }
    r.1.offer { ctx := n, kind := 0x23, tk := 3, owner := .wr i,
                flds := [gfaOff (wrRemote w.words), wrKey w.words, r.2, op, compare.toNat, operand.toNat] })

def doWrCas (s : State) : State :=
  s.takeWr (fun op => op == 0x03) (fun i s =>
    s.sendAtom i 0 ((s.wrAt i).words.getD 5 0) ((s.wrAt i).words.getD 6 0))

def doWrFadd (s : State) : State :=
  s.takeWr (fun op => op == 0x04) (fun i s => s.sendAtom i 1 0 ((s.wrAt i).words.getD 5 0))

def doWrFlush (s : State) : State :=
  s.takeWr (fun op => op == 0x05) (fun i s =>
    let w := s.wrAt i
    s.onPath i 0x27 (fun n s =>
      s.issueFlush n (.wr i) 3 w.unit (some w.ictx) (wrNode w.words) (wrPart w.words) none))

/-- An OWN op whose EXPECTED is older than the record's OWN_EPOCH ends with NOT_OWNER and is not sent (R284). -/
def doWrOwnCas (s : State) : State :=
  s.takeWr (fun op => op == 0x06) (fun i s =>
    let w := s.wrAt i
    let w7 := w.words.getD 7 0
    let exp := w.words.getD 5 0
    if getBit w7 46 ∧ ownEpoch exp < s.recF (getBits w7 32 14) Rec.OWN_EPOCH then s.endWrAs i .notOwner
    else
      s.sendOwn w.part (.wr i) (wrNode w.words) (wrPart w.words) 0 (w.words.getD 4 0) exp (w.words.getD 6 0)
        (wrMirror w.words) (getBits w7 0 14) (getBits w7 16 6))

def doWrOwnRead (s : State) : State :=
  s.takeWr (fun op => op == 0x07) (fun i s =>
    let w := s.wrAt i
    s.sendOwn w.part (.wr i) (wrNode w.words) (wrPart w.words) 1 (w.words.getD 4 0) 0 0 false 0 0)

def doWrOwnMirror (s : State) : State :=
  s.takeWr (fun op => op == 0x08) (fun i s =>
    let w := s.wrAt i
    s.sendOwn w.part (.wr i) (wrNode w.words) (wrPart w.words) 2 (w.words.getD 4 0) 0 (w.words.getD 6 0) false 0 0)

/-- The checks of a LAYER before it takes an entry (R288, R289): its record, its layout and the sender's page list. -/
def State.layerCheck (s : State) (w : Wr) : Status :=
  let w4 := w.words.getD 4 0
  let r := getBits w4 24 14
  let at_ := getBits (w.words.getD 1 0) 0 57
  let hdr := s.readTensor w.part at_ 64 true
  let lay := layoutOf hdr.data
  let ok := if wrFinal w.words then s.inState r .handoverOut else s.inStates r [.prefill, .handoverOut]
  let entryOk (l h : Nat) : Bool :=
    let e := s.layoutEntry w.part at_ lay.kvHeads l h
    decide (getBits e 0 32 + lay.pageBytes ≤ lay.groupBytes) && decide (-96 ≤ getSigned e 32 8) &&
    decide (getSigned e 32 8 ≤ 96) && decide (-96 ≤ getSigned e 40 8) && decide (getSigned e 40 8 ≤ 96)
  let root := s.recF r Rec.PL_ROOT
  if s.recF r Rec.PART ≠ w.part ∨ !ok ∨ wrEpoch w.words ≠ s.recF r Rec.OWN_EPOCH then .badLength
  else if hdr.status = .uncorrected ∨ hdr.status = .linkFailed ∨ hdr.status = .keyGenGone then hdr.status
  else if hdr.held ∨ hdr.status ≠ .ok ∨ taSpace at_ ≠ 3 ∨ at_ % 64 ≠ 0 ∨ !lay.magicOk ∨ (lay.fmt ≠ 1 ∧ lay.fmt ≠ 0xA) then
    .badLength
  else if lay.noPages then .ok
  else if !lay.ok ∨ lay.layers < getBits w4 16 8 ∨
      !(List.range (getBits w4 8 8)).all (fun k =>
        (List.range lay.kvHeads).all (fun h => entryOk (getBits w4 0 8 + k) h)) ∨
      !(List.range (s.recF r Rec.PL_LEN)).all (fun k => pageValid (s.pageEntry w.part root k)) then .badLength
  else .ok

/-- The entry of a (record, epoch): the one that is open, or a new one. -/
def State.layerOpen (s : State) (w : Wr) : Option State :=
  match s.layerEntry w with
  | some _ => some s
  | none =>
    (s.freeHo false).map (fun h =>
      s.openHo false h (getBits (w.words.getD 4 0) 24 14) w.part (wrNode w.words) (w.words.getD 6 0) (wrEpoch w.words)
        (getBits (w.words.getD 4 0) 16 8))

/-- Read the receiver's page list, up to 512 entries at a time. -/
def State.readLists (s : State) (n i : Nat) : State :=
  let w := s.wrAt i
  let pl := s.recF (getBits (w.words.getD 4 0) 24 14) Rec.PL_LEN
  let k := (pl + 511) / 512
  let s := s.setWr i { w with waits := k }
  (List.range k).foldl (fun s j =>
    s.sendRead n i (gfaOff (wrRemote w.words) + 4096 * j) (8 * min 512 (pl - 512 * j)) (wrKey w.words) none (4096 * j)) s

/-- LAYER (R288, R289). A COUNT of 0 sends no page; with FINAL 0 it completes at once (R27). -/
def doWrLayer (s : State) : State :=
  s.takeWr (fun op => op == 0x09) (fun i s =>
    let w := s.wrAt i
    let count := getBits (w.words.getD 4 0) 8 8
    if count = 0 ∧ !wrFinal w.words then s.endWrAs i .ok
    else
      match s.layerCheck w with
      | .ok =>
        (match s.layerOpen w with
         | none => s.endWrAs i .refusedFull
         | some s =>
           s.onPath i 0x26 (fun n s =>
             let pl := s.recF (getBits (w.words.getD 4 0) 24 14) Rec.PL_LEN
             if count = 0 ∨ pl = 0 ∨ (s.layoutAt w.part (getBits (w.words.getD 1 0) 0 57)).noPages then s.layerPages i
             else s.readLists n i))
      | st => s.endWrAs i st)

/-- CKPT (R292). `good` is the verdict on encrypted homes. -/
def doWrCkpt (good : Bool) (s : State) : State :=
  s.takeWr (fun op => op == 0x0A) (fun i s =>
    let w := s.wrAt i
    let r := getBits (w.words.getD 4 0) 24 14
    let p := w.part
    let frames := s.recF r Rec.PL_LEN * s.groupFrames p
    if s.recF r Rec.PART ≠ p ∨ !s.inStates r [.paused, .parked] ∨
        getBits (w.words.getD 5 0) 0 40 < 4096 + frames * 8224 then s.endWrAs i .badLength
    else if s.recF r Rec.PL_LEN = 0 then s.endWrAs i .ok
    else
      match s.activeSlot p with
      | none => s.endWrAs i .refusedPolicy
      | some slot =>
        s.onPath i 0x20 (fun n s =>
          let b := s.buildImage r slot good
          let s := (b.1.addInUse p slot true).setWr i { w with phase := 1, keySlot := slot, recState := s.recState r,
                                                               recGen := s.recF r Rec.GEN }
          if b.2.1 ≠ .ok then (s.modWr i (fun w => { w with progress := s.imageProgress r b.2.1 0 })).endWrAs i b.2.1
          else
            s.sendWrite n i (gfaOff (wrRemote w.words)) (wrKey w.words) (wrTag w.words) 0 none 0 b.2.2.1))

/-- RESTORE (R293) reads the header first. -/
def doWrRestore (s : State) : State :=
  s.takeWr (fun op => op == 0x0B) (fun i s =>
    let w := s.wrAt i
    let r := getBits (w.words.getD 4 0) 24 14
    if s.recF r Rec.PART ≠ w.part ∨ !s.inState r .admitted ∨ getBits (w.words.getD 5 0) 0 40 < 4096 then
      s.endWrAs i .badLength
    else
      s.onPath i 0x21 (fun n s =>
        (s.setWr i { w with phase := 1 }).sendRead n i (gfaOff (wrRemote w.words)) 4096 (wrKey w.words) none 0))

/-! ## Completion (R271, R272) -/

/-- The PROGRESS a completion record carries. -/
def State.wrProgress (s : State) (i : Nat) (w : Wr) (st : Status) : Word :=
  let op := wrOp w.words
  let r := getBits (w.words.getD 4 0) 24 14
  let sent := s.rd (HEL_INFLIGHT_W2.SENT i)
  if op = 0x01 ∨ op = 0x02 then BitVec.ofNat 64 sent
  else if op = 0x09 ∨ op = 0x0A ∨ op = 0x0B then
    if w.progress ≠ 0 then w.progress
    else if op = 0x09 ∧ getBits (w.words.getD 4 0) 8 8 = 0 ∧ !wrFinal w.words ∧ st = .ok then 0
    else
      match (if op = 0x09 then s.layerEntry w else none) with
      | some h => s.hoProgress false h st
      | none => s.imageProgress r st (if op = 0x0A then (sent - 4096) / 8192 else 0)
  else 0

/-- A handover, checkpoint or restore that ended other than with OK has a REQUEST record (Table 22-2). -/
def State.noteWrFail (s : State) (w : Wr) (st : Status) (progress : Word) : State :=
  let op := wrOp w.words
  if op = 0x09 ∨ op = 0x0A ∨ op = 0x0B then
    s.report { cls := 0x0B, status := st.code, sev := 3, part := some w.part, blk := Blk.HEL.code, unit := w.unit,
               ctx := if w.unit = 0xFF then 0 else w.ictx, d0 := getBits (w.words.getD 4 0) 24 14, d1 := progress.toNat }
  else s

/-- A running work request that has ended leaves its slot: its counters, its completion record where SIGNAL asks for one
or the status is not OK. -/
def doWrComplete (i : Fin 256) (s : State) : State :=
  match s.wr? i with
  | none => s
  | some w =>
    match w.done with
    | none => s
    | some st =>
      let op := wrOp w.words
      let progress := s.wrProgress i w st
      let s := if op = 0x0A ∧ w.phase ≠ 0 then s.addInUse w.part w.keySlot false else s
      let s := s.closeWr i
      let s := if st = .ok then s else (s.noteHelError w.part op st).noteWrFail w st progress
      if wrSignal w.words ∨ st ≠ .ok then
        s.helComplete w.part (helRecord st.code op w.part w.mirrorFailed w.fired w.unit
          (if w.unit = 0xFF then 0 else w.ictx) (wrTag w.words) (wrNode w.words) progress w.result)
      else s

/-! ## Measuring (R294) -/

/-- START clears both registers and starts the measurement; STOP ends it. -/
def doHelMeasStart (a : Agent) (s : State) : State :=
  if !s.mayWriteDevice a then s.refuseWrite a .HEL 0
  else
    let s := (s.wr HEL_MEAS_BYTES.BYTES 0).wr HEL_MEAS_CYCLES.CYCLES 0
    { s with hel := { s.hel with measuring := true, measFrom := none, measMsgs := [] } }

def doHelMeasStop (a : Agent) (s : State) : State :=
  if !s.mayWriteDevice a then s.refuseWrite a .HEL 0
  else { s with hel := { s.hel with measuring := false, measMsgs := [] } }

def execWrNop (s : State) : Host.Outcome State Fault Refusal := .next (doWrNop s)
def execWrWrite (s : State) : Host.Outcome State Fault Refusal := .next (doWrWrite s)
def execWrRead (s : State) : Host.Outcome State Fault Refusal := .next (doWrRead s)
def execWrCas (s : State) : Host.Outcome State Fault Refusal := .next (doWrCas s)
def execWrFadd (s : State) : Host.Outcome State Fault Refusal := .next (doWrFadd s)
def execWrFlush (s : State) : Host.Outcome State Fault Refusal := .next (doWrFlush s)
def execWrOwnCas (s : State) : Host.Outcome State Fault Refusal := .next (doWrOwnCas s)
def execWrOwnRead (s : State) : Host.Outcome State Fault Refusal := .next (doWrOwnRead s)
def execWrOwnMirror (s : State) : Host.Outcome State Fault Refusal := .next (doWrOwnMirror s)
def execWrLayer (s : State) : Host.Outcome State Fault Refusal := .next (doWrLayer s)
def execWrCkpt (good : Bool) (s : State) : Host.Outcome State Fault Refusal := .next (doWrCkpt good s)
def execWrRestore (s : State) : Host.Outcome State Fault Refusal := .next (doWrRestore s)
def execWrComplete (i : Fin 256) (s : State) : Host.Outcome State Fault Refusal := .next (doWrComplete i s)
def execHelMeasStart (a : Agent) (s : State) : Host.Outcome State Fault Refusal :=
  .next (s.whenReady .HEL 0 (doHelMeasStart a))
def execHelMeasStop (a : Agent) (s : State) : Host.Outcome State Fault Refusal :=
  .next (s.whenReady .HEL 0 (doHelMeasStop a))

end Sys2Proof.Machine
end

