-- ==== Sys2Proof/Machine/Remote.lean ====
section
/-! DEFINITION. Class 0x3 instructions: remote loads, stores and atomics, posted work requests, flushes, invalidations
and mailboxes (R67, R68, R268, R336 to R339). -/

namespace Sys2Proof.Machine

/-! ## The remote issue queue and the connection of a context (R67, R85, R316) -/

/-- Entries of a unit's remote issue queue: posted packets that have not been sent, and posted work requests. -/
def State.remoteCount (s : State) (u : Nat) : Nat :=
  s.tp.sends.countP (fun x => x.unit == some u) + s.tp.express.countP (fun x => x.unit == some u) +
  s.hel.posted.countP (fun e => e.unit == u)

/-- The open connection of an issuing context toward a pair that passes a test: of its partition's contexts, or, for the
heliostat sequencer, which has no partition of its own, of every context (DEDUCED, log 23). -/
def State.remoteOpen (s : State) (x : LCtx) (node : Nat) (peer : Option Nat) : Option Nat :=
  (s.tp.ctxs.find? (fun e => e.2.state == 2 && e.2.node == node && (peer.isNone || peer == some e.2.peerPart) &&
    (x.kind == .hel || s.ctxPart x == some e.2.part))).map (fun e => e.1)

/-- The connection an access uses: none toward a node that the map does not let it reach (R397). -/
def State.remoteCtx (s : State) (x : LCtx) (node : Nat) (peer : Option Nat) : Option Nat :=
  if !s.nodeReachable node then none else s.remoteOpen x node peer

/-- The record of an access that ended at issue with a status. -/
def State.remoteRecord (s : State) (x : LCtx) (st : Status) (gfa kind : Nat) : State :=
  s.report { tpReport st (s.ctxPart x) x.unit 0 gfa kind with ctx := x.ctx }

/-- A posted instruction: PRES says whether it entered the queue; one to a node too far away is refused at issue (R67,
R68). With no open connection it ends with LINK_FAILED and a record (R316), toward a node out of reach with LINK_FAILED (R397). -/
def State.postRemote (s : State) (x : LCtx) (pres node : Nat) (peer : Option Nat) (reach : Bool) (gfa kind : Nat)
    (eff : Nat → State → State) : State :=
  if 64 ≤ s.remoteCount x.unit then s.setP x pres false
  else if !reach then (s.setP x pres false).remoteRecord x .badLength gfa kind
  else
    match s.remoteCtx x node peer with
    | none =>
      if (s.remoteOpen x node peer).isSome then s.setP x pres true
      else (s.setP x pres true).remoteRecord x .linkFailed gfa kind
    | some n => eff n (s.setP x pres true)

/-- Drop every copy at this node of the lines a range touches (R337). -/
def State.dropLines (s : State) (gfa n : Nat) : State :=
  (s.dropLine (gfa / 64 * 64)).dropLine ((gfa + n - 1) / 64 * 64)

/-- A posted class C write: it is a message for flushes, and drops the line before it is sent. -/
def State.postWrite (s : State) (x : LCtx) (n gfa bytes kind : Nat) (flds : List Nat) : State :=
  let m := (s.dropLines gfa bytes).newMsg
    { id := 0, unit := x.unit, ictx := x.ctx, node := gfaNode gfa, part := some (gfaPart gfa), bytes := bytes }
  m.1.offer { ctx := n, kind := kind, unit := some x.unit, msg := m.2, flds := flds }

/-! ## Posted instructions -/

def doRst (x : LCtx) (f : LFields) (s : State) : State :=
  s.issue x 0x31 f none (fun t =>
    let gfa := (s.gReg x f.a.toNat).toNat
    t.postRemote x (f.im 0 3) (gfaNode gfa) (some (gfaPart gfa)) (s.nodeNear (gfaNode gfa)) gfa 0x11 (fun n t =>
      t.postWrite x n gfa (2 ^ f.im 3 2) 0x11
        [gfaOff gfa, getBits (s.gReg x f.b.toNat) 0 32, f.im 3 2, (s.gReg x f.d.toNat).toNat]))

/-- MBOX may cross any number of stages (R68, R339). -/
def doMbox (x : LCtx) (f : LFields) (s : State) : State :=
  s.issue x 0x37 f none (fun t =>
    let gfa := (s.gReg x f.a.toNat).toNat
    t.postRemote x (f.im 0 3) (gfaNode gfa) (some (gfaPart gfa)) true gfa 0x14 (fun n t =>
      t.postWrite x n gfa 8 0x14
        [gfaOff gfa, getBits (s.gReg x f.b.toNat) 0 32, f.im 3 12, (s.gReg x f.d.toNat).toNat]))

/-- RINV: an INVAL of the line at ga to node gb[13:0], over a connection toward that node; it counts as a write to every
partition of the node until its INVAL_ACK (R338). -/
def doRinv (x : LCtx) (f : LFields) (s : State) : State :=
  s.issue x 0x36 f none (fun t =>
    let line := (s.gReg x f.a.toNat).toNat / 64 * 64
    let node := getBits (s.gReg x f.b.toNat) 0 14
    t.postRemote x (f.im 0 3) node none (s.nodeNear node) line 0x0D (fun n t =>
      let m := t.newMsg { id := 0, unit := x.unit, ictx := x.ctx, node := node, part := none, bytes := 0,
                          inval := some line, ctx := n }
      let e : Send := { ctx := n, kind := 0x0D, unit := some x.unit, msg := m.2, flds := [line] }
      { m.1 with tp := { m.1.tp with express := m.1.tp.express ++ [e] } }))

/-- RFL: a flush of every earlier write of the unit to the node and partition of ga (R274, R335). -/
def doRfl (x : LCtx) (f : LFields) (s : State) : State :=
  s.issue x 0x35 f none (fun t =>
    let gfa := (s.gReg x f.a.toNat).toNat
    t.postRemote x (f.im 0 3) (gfaNode gfa) (some (gfaPart gfa)) true gfa 0x27 (fun n t =>
      t.issueFlush n (.flush x.unit f.d.toNat) 3 x.unit none (gfaNode gfa) (gfaPart gfa) (some x.unit)))

/-- RPOST: the 64 bytes at a local address enter the queue; they must lie in the local store (R66, R268). -/
def doRpost (x : LCtx) (f : LFields) (s : State) : State :=
  let a := (s.gReg x f.a.toNat).toNat
  s.issue x 0x34 f (faultUnless (localOk x a 64)) (fun t =>
    if 64 ≤ t.remoteCount x.unit then t.setP x (f.im 0 3) false
    else
      let e : Posted := { unit := x.unit, ctx := x.ctx, part := s.ctxPart x, words := s.localWords x.unit a 8 }
      State.setP { t with hel := { t.hel with posted := t.hel.posted ++ [e] } } x (f.im 0 3) true)

/-! ## Loads and atomics (R67, R336, R337) -/

/-- RLD, RADD and RCAS are legal only in newel background contexts (R63). -/
def LCtx.background (x : LCtx) : Bool := x.kind == .nwl && !x.critical

/-- Issue a request a background context waits for: its context, its kind and fields (given the request number), the
destination register, the size of the data as a power of two, and the line it fills. -/
def State.waitRemote (s : State) (x : LCtx) (n op kind gfa d pres size : Nat) (line : Option (Nat × Nat × Nat))
    (flds : Nat → List Nat) : State :=
  let r := s.newReq { ctx := n, req := 0, kind := kind, owner := .remote x.unit x.ctx, line := line }
  let s := r.1
  let s := s.modCtx x (fun c => { c with state := .waiting, wait := .remote (op - 0x30) d pres size (n * 65536 + r.2) })
  let k := stallIndex x.unit x.ctx
  let w := setBits (setBits (setBits (setBits 0 0 14 (gfaNode gfa)) 14 6 (gfaPart gfa)) 20 8 op) 28 1 1
  (s.setReg (FAB_STALL.NODE 0 k).off w).offer { ctx := n, kind := kind, flds := flds r.2 }

/-- An access that ends at issue: PRES 0, gd the status code, and a record (R67, R68, R316). -/
def State.remoteRefused (s : State) (x : LCtx) (d pres : Nat) (st : Status) (gfa kind : Nat) : State :=
  ((s.setG x d (BitVec.ofNat 64 st.code)).setP x pres false).remoteRecord x st gfa kind

/-- The checks a load or an atomic passes at issue. -/
def State.askRemote (s : State) (x : LCtx) (d pres gfa kind : Nat) (eff : Nat → State → State) : State :=
  if !s.nodeNear (gfaNode gfa) then s.remoteRefused x d pres .badLength gfa kind
  else
    match s.remoteCtx x (gfaNode gfa) (some (gfaPart gfa)) with
    | none =>
      if (s.remoteOpen x (gfaNode gfa) (some (gfaPart gfa))).isSome then
        (s.setG x d (BitVec.ofNat 64 Status.linkFailed.code)).setP x pres false
      else s.remoteRefused x d pres .linkFailed gfa kind
    | some n => eff n s

/-- The cached line that serves a load: of the context's partition, under its key, where the partition's RLC_EN is 1. -/
def State.rlcServes (s : State) (x : LCtx) (gfa n key : Nat) : Option RlcLine :=
  match s.ctxPart x with
  | none => none
  | some p =>
    if s.on (FAB_P_CFG.RLC_EN 0 p) && decide (gfa % 64 + n ≤ 64) then s.findLine (gfa / 64 * 64) p key else none

/-- RLD asks for the whole line, which the target gives where its region has CACHE = 1; a load across two lines asks for
its bytes alone. -/
def doRld (x : LCtx) (f : LFields) (s : State) : State :=
  s.issue x 0x30 f (faultUnless x.background) (fun t =>
    let gfa := (s.gReg x f.a.toNat).toNat
    let key := getBits (s.gReg x f.b.toNat) 0 32
    let n := 2 ^ f.im 3 2
    let pres := f.im 0 3
    t.askRemote x f.d.toNat pres gfa 0x10 (fun c t =>
      match t.rlcServes x gfa n key with
      | some l =>
        let v := leNat ((l.data.drop (gfa % 64)).take n)
        (((t.useLine l).inc (FAB_RLC_HIT.COUNT 0)).setG x f.d.toNat (BitVec.ofNat 64 v)).setP x pres true
      | none =>
        let whole := decide (gfa % 64 + n ≤ 64)
        t.waitRemote x c 0x30 0x10 gfa f.d.toNat pres (f.im 3 2)
          (if whole then some (gfa / 64 * 64, key, (s.ctxPart x).getD 0) else none)
          (fun r => [gfaOff gfa, key, f.im 3 2, b01 whole, r])))

def doRadd (x : LCtx) (f : LFields) (s : State) : State :=
  s.issue x 0x32 f (faultUnless x.background) (fun t =>
    let gfa := (s.gReg x f.a.toNat).toNat
    t.askRemote x f.d.toNat (f.im 0 3) gfa 0x12 (fun c t =>
      (t.dropLines gfa 8).waitRemote x c 0x32 0x12 gfa f.d.toNat (f.im 0 3) 3 none
        (fun r => [gfaOff gfa, getBits (s.gReg x f.b.toNat) 0 32, r, (s.gReg x f.d.toNat).toNat])))

/-- RCAS: d is even and at most 30. -/
def doRcas (x : LCtx) (f : LFields) (s : State) : State :=
  let d := f.d.toNat
  s.issue x 0x33 f (faultUnless (x.background && d % 2 == 0 && decide (d ≤ 30))) (fun t =>
    let gfa := (s.gReg x f.a.toNat).toNat
    t.askRemote x d (f.im 0 3) gfa 0x13 (fun c t =>
      (t.dropLines gfa 8).waitRemote x c 0x33 0x13 gfa d (f.im 0 3) 3 none
        (fun r => [gfaOff gfa, getBits (s.gReg x f.b.toNat) 0 32, r, (s.gReg x d).toNat, (s.gReg x (d + 1)).toNat])))

def execRld (x : LCtx) (f : LFields) (s : State) : Host.Outcome State Fault Refusal := .next (doRld x f s)

def execRst (x : LCtx) (f : LFields) (s : State) : Host.Outcome State Fault Refusal := .next (doRst x f s)

def execRadd (x : LCtx) (f : LFields) (s : State) : Host.Outcome State Fault Refusal := .next (doRadd x f s)

def execRcas (x : LCtx) (f : LFields) (s : State) : Host.Outcome State Fault Refusal := .next (doRcas x f s)

def execRpost (x : LCtx) (f : LFields) (s : State) : Host.Outcome State Fault Refusal := .next (doRpost x f s)

def execRfl (x : LCtx) (f : LFields) (s : State) : Host.Outcome State Fault Refusal := .next (doRfl x f s)

def execRinv (x : LCtx) (f : LFields) (s : State) : Host.Outcome State Fault Refusal := .next (doRinv x f s)

def execMbox (x : LCtx) (f : LFields) (s : State) : Host.Outcome State Fault Refusal := .next (doMbox x f s)

end Sys2Proof.Machine
end

