-- ==== Sys2Proof/Machine/Barrier.lean ====
section
/-! DEFINITION. Fabric barriers: the arrival of a context, the word at the root and the releases (R65, R401). -/

namespace Sys2Proof.Machine

/-! ## Lateness (R65, R446) -/

/-- Meridians since a due meridian, or none before it. -/
def State.since (s : State) (due : Nat) : Option Nat :=
  let k := (s.mer32 + 2 ^ 32 - due) % 2 ^ 32
  if k < 2 ^ 31 then some k else none

/-- Arithmetic cycles from the due edge to now: 0 before it. -/
def State.lateness (s : State) (due : Nat) : Nat :=
  match s.since due with
  | some k => k * lenCycles s.merLen + s.cycle
  | none => 0

/-- Cycles from the due edge to the last take on a token counter. -/
def State.takeLateness (s : State) (due unit ctr : Nat) : Nat :=
  match s.since due with
  | none => 0
  | some k =>
    let t := Tab.get (fun _ => (0, 0)) s.larty.lastTake (unit * 16 + ctr)
    let edge := s.mer - k
    if t.1 < edge then 0 else (t.1 - edge) * lenCycles s.merLen + t.2

/-- What a BARF adds to the components of the health monitor. -/
def State.noteLate (s : State) (unit late input : Nat) : State :=
  if s.rd MER_LOCK.STATE = 2 then
    let s := s.add (FLT_U_LATE.COUNT unit) (late - input)
    { s with flt := { s.flt with lateSelfNow := s.flt.lateSelfNow + (late - input),
                                 lateInputNow := s.flt.lateInputNow + input } }
  else { s with flt := { s.flt with lateUnlockedNow := s.flt.lateUnlockedNow + late } }

/-! ## Open due meridians (R401) -/

def State.setBarriers (s : State) (bs : List BarOpen) : State := { s with prt := { s.prt with barriers := bs } }

def State.modBarrier (s : State) (slot due : Nat) (f : BarOpen → BarOpen) : State :=
  s.setBarriers (s.prt.barriers.map (fun b => if b.slot = slot ∧ b.due = due then f b else b))

def State.barOpen (s : State) (slot due : Nat) : Option BarOpen :=
  s.prt.barriers.find? (fun b => b.slot == slot && b.due == due)

/-- A slot this node takes part in: valid in the current map, with this node among its members. -/
def State.barUsable (s : State) (slot : Nat) : Bool :=
  s.mapCurrent && barrierValid s.prt.cur slot && nodeMember s.prt.cur s.nodeId slot

/-- The record of barrier work that failed. -/
def State.barFailed (s : State) (slot due : Nat) (st : Status) : State :=
  s.report { tpReport st (some (mapBarPart s.prt.cur)) 0xFF 0 0 0x23 with d1 := slot + 256 * due }

/-- The release word of a node has received a due meridian: 1 token to each of its BARFs. -/
def State.barRelease (s : State) (slot due : Nat) : State :=
  match s.barOpen slot due with
  | none => s
  | some b =>
    let s := s.setBarriers (s.prt.barriers.filter (fun b => !(b.slot == slot && b.due == due)))
    b.waiters.foldl (fun s w => s.giveToken w.1 w.2) s

/-- Fabric offsets of a slot's words in the barrier area. -/
def State.barWordOff (s : State) (slot due : Nat) : Nat := mapBarOffset s.prt.cur + 8 * (2 * slot + due % 2)
def State.barReleaseOff (s : State) (slot : Nat) : Nat := mapBarOffset s.prt.cur + 0x400 + 8 * slot

/-- Send one release to a member: its own release word is written inside the node. -/
def State.barSend (s : State) (slot due node : Nat) : State :=
  let p := mapBarPart s.prt.cur
  let key := mapBarKey s.prt.cur
  let off := s.barReleaseOff slot
  if node = s.nodeId then
    match s.regionAt p off 8 key 1 with
    | some r => (s.writeSrc (s.regionSrc p r off) (leBytes 8 due)).barRelease slot due
    | none => s.barFailed slot due .keyMismatch
  else
    match s.pathTo p node p with
    | none => s.barFailed slot due .linkFailed
    | some n =>
      let num := (s.tpc n).nextMsg
      let s := s.modTpc n (fun c => { c with nextMsg := (num + 1) % 65536 })
      s.offer { ctx := n, kind := 0x20, tk := 3, owner := .barrier slot due, flds := [off, 0, 8, key, 0, num, 0],
                data := leBytes 8 due }

/-- A word of this node's barrier area has risen: when it reaches the number of members, the root clears it and sends the
releases. The due meridian is the one this node, a member itself, has open under that word. -/
def State.barRoot (s : State) (off : Nat) : State :=
  let p := mapBarPart s.prt.cur
  let base := mapBarOffset s.prt.cur
  if !s.mapCurrent ∨ off < base ∨ base + 0x400 ≤ off ∨ (off - base) % 8 ≠ 0 then s
  else
    let slot := (off - base) / 16
    if barrierRoot s.prt.cur slot ≠ s.nodeId ∨ !barrierValid s.prt.cur slot then s
    else
      match s.prt.barriers.find? (fun b => b.slot == slot && b.told && b.due % 2 == (off - base) / 8 % 2),
            s.regionAt p off 8 (mapBarKey s.prt.cur) 1 with
      | some b, some r =>
        let ms := barrierMembers s.prt.cur slot
        let at_ := s.regionSrc p r off
        if leNat (s.readSrc at_ 8 true).data < ms.length then s
        else ms.foldl (fun s m => s.barSend slot b.due m) (s.writeSrc at_ (leBytes 8 0))
      | _, _ => s

/-- The node's arrivals have reached LOCAL: 1 is added to the word at the root. -/
def State.barTell (s : State) (slot due : Nat) : State :=
  let p := mapBarPart s.prt.cur
  let key := mapBarKey s.prt.cur
  let off := s.barWordOff slot due
  let root := barrierRoot s.prt.cur slot
  let s := s.modBarrier slot due (fun b => { b with told := true })
  if root = s.nodeId then
    match s.regionAt p off 8 key 2 with
    | some r =>
      let at_ := s.regionSrc p r off
      (s.writeSrc at_ (leBytes 8 (leNat (s.readSrc at_ 8 true).data + 1))).barRoot off
    | none => s.barFailed slot due .keyMismatch
  else
    match s.pathTo p root p with
    | none => s.barFailed slot due .linkFailed
    | some n =>
      let r := s.newReq { ctx := n, req := 0, kind := 0x23, owner := .barrier slot due }
      r.1.offer { ctx := n, kind := 0x23, tk := 3, owner := .barrier slot due, flds := [off, key, r.2, 1, 0, 1] }

/-- An arrival at a slot for a due meridian. One that would open a third due meridian, or that names a slot that is not
valid, gives no token and has a record. -/
def State.barArrive (s : State) (x : LCtx) (word : Word) (slot due ctr : Nat) : State :=
  let opened := (s.barOpen slot due).isSome
  if !s.barUsable slot ∨ (!opened ∧ 2 ≤ s.prt.barriers.countP (fun b => b.slot == slot)) then
    s.report { cls := 0x01, sev := 0, blk := x.block.1, inst := x.block.2, unit := x.unit, ctx := x.ctx,
               d0 := s.pc x - 1, d1 := word.toNat }
  else
    let s := if opened then s else s.setBarriers (s.prt.barriers ++ [{ slot := slot, due := due }])
    let s := s.modBarrier slot due (fun b =>
      { b with arrivals := b.arrivals + 1, waiters := b.waiters ++ [(x.unit, ctr)] })
    match s.barOpen slot due with
    | some b => if b.arrivals = barrierLocal s.prt.cur slot ∧ !b.told then s.barTell slot due else s
    | none => s

/-- BARF does not wait (R65). -/
def doBarf (x : LCtx) (f : LFields) (s : State) : State :=
  s.issue x 0x08 f none (fun t =>
    let due := getBits (s.gReg x f.a.toNat) 0 32
    let late := s.lateness due
    let input := if f.im 10 1 = 1 then min late (s.takeLateness due x.unit (f.im 6 4)) else 0
    (t.noteLate x.unit late input).barArrive x (encodeWord 0x08 f) (f.im 0 6) due f.d.toNat)

def execBarf (x : LCtx) (f : LFields) (s : State) : Host.Outcome State Fault Refusal := .next (doBarf x f s)

end Sys2Proof.Machine
end

