-- ==== Sys2Proof/Machine/Gallery.lean ====
section
/-! DEFINITION. The galleries: spare bays, pre-emption and its save area, the tag-load engine, the generator seeds, and
what a gallery does at an apply point (R126, R129, R130, R134 to R141, R146, R153, R154). -/

namespace Sys2Proof.Machine

/-- GAL_STATUS.IDLE (R141). -/
def State.galIdle (s : State) (g : Nat) : Bool :=
  !(s.slice g).isOpen && allBelow 16 (fun b => (s.bayQueue g b).isEmpty) && s.galState g == 0

def galOf (g : Fin 16) : LCtx := .gal g

/-! ## Spare bays (R137 to R139) -/

def State.substDue (s : State) (g : Nat) : List (Nat × Bool) := Tab.get (fun _ => []) s.gal.substDue g

def State.setSubstDue (s : State) (g : Nat) (l : List (Nat × Bool)) : State :=
  { s with gal := { s.gal with substDue := Tab.put (fun _ => []) s.gal.substDue g l } }

def State.setCopying (s : State) (g bay : Nat) (b : Bool) : State :=
  { s with gal := { s.gal with copying := Tab.put (fun _ => false) s.gal.copying (g * 16 + bay) b } }

def State.bayLost (s : State) (g bay : Nat) : Bool := bitOf (s.rd (GAL_BAYMAP.LOST_MASK g)) bay

/-- The spare is healthy and not in use: idle, or in a self-test pass that the substitution stops (R451). -/
def State.bayFree (s : State) (g : Nat) : Bool :=
  s.rd (GAL_BAYMAP.SPARE_STATE g) == 0 || s.rd (GAL_BAYMAP.SPARE_STATE g) == 3

/-- The position that backs a logical bay. -/
def State.bayPosition (s : State) (g bay : Nat) : Nat :=
  if s.rd (GAL_BAYMAP.SPARE_STATE g) = 1 ∧ s.rd (GAL_BAYMAP.SPARE_FOR g) = bay then 16 else bay

/-- The position of a bay fails. -/
def State.failPosition (s : State) (g bay : Nat) : State :=
  s.wr (GAL_BAYMAP.FAILED_POS g) (withBit (s.rd (GAL_BAYMAP.FAILED_POS g)) (s.bayPosition g bay))

/-- All SRAM of a bay, and its tags, become 0. -/
def State.zeroBay (s : State) (g bay : Nat) : State :=
  let s := s.zeroRange (baySram g bay) 0x200000
  { s with gal := { s.gal with obTags := s.gal.obTags.filter (fun e => e.1 / 384 != g * 16 + bay) } }

/-- GAL_SUBST with GO 1 names a bay. With no healthy spare, or a lost bay, the request is refused (DEDUCED, log 17). -/
def doGalSubst (a : Agent) (g index : Fin 16) (s : State) : State :=
  if !s.mayWriteGal a g then s.refuseWrite a .GAL g
  else if !s.bayFree g || s.bayLost g index then s.countRefused .GAL g
  else s.setSubstDue g (s.substDue g ++ [(index.val, false)])

/-- An uncorrectable error in a bay: it stops, its queue is discarded, and it is due for substitution (R138). -/
def doBayUe (g bay : Fin 16) (s : State) : State :=
  if s.bayLost g bay then s
  else
    let n := (s.bayQueue g bay).length
    let s := s.setBayQueue g bay []
    let s := s.setSubstDue g (s.substDue g ++ [(bay.val, true)])
    let s := s.noteUe.releaseTsync g
    s.report { cls := 0x03, status := Status.uncorrected.code, sev := 3, part := s.bayOwner (16 * g.val + bay.val),
               blk := Blk.GAL.code, inst := g, unit := g, d0 := n, d1 := bay }

/-- A bay leaves service: no healthy spare remains (R139). -/
def State.loseBay (s : State) (g : Fin 16) (bay : Nat) : State :=
  let pos := s.bayPosition g bay
  let s := s.failPosition g bay
  let s := s.setBayQueue g bay []
  let s := s.wr (GAL_BAYMAP.LOST_MASK g) (withBit (s.rd (GAL_BAYMAP.LOST_MASK g)) bay)
  let s := s.wr (GAL_STATE.ACTIVE_BAYS g) (s.rd (GAL_STATE.ACTIVE_BAYS g) - 1)
  (s.releaseTsync g).loseCapacity 1 .GAL g g pos

/-- The spare takes a logical index. -/
def State.standIn (s : State) (g bay : Nat) (ue : Bool) : State :=
  let s := s.failPosition g bay
  let s := s.wr (GAL_BAYMAP.SPARE_FOR g) bay
  let s := s.wr (GAL_BAYMAP.SPARE_STATE g) 1
  let s := if ue then (s.zeroBay g bay).wr (GAL_BAYMAP.DATA_LOST g) 1 else s.setCopying g bay true
  s.useSpare 1 .GAL g g bay 16

/-- The first due substitution of a gallery takes effect, at a landing at which its sequencer has no slice open (R137).
Where no uncorrectable error caused it, the gallery first waits until the bay's queue is empty (R138). -/
def doBaySubstitute (g : Fin 16) (s : State) : State :=
  match s.substDue g with
  | [] => s
  | (bay, ue) :: rest =>
    if !s.inLanding || (s.slice g).isOpen || (!ue && !(s.bayQueue g bay).isEmpty) then s
    else
      let s := s.setSubstDue g rest
      if s.bayLost g bay then s
      else if s.bayFree g then s.standIn g bay ue
      else if ue then s.loseBay g bay
      else s

/-- The copy of a bay's 2 MiB to the spare ends. -/
def doBayCopyDone (g bay : Fin 16) (s : State) : State := s.setCopying g bay false

/-! ## Save table and save area (R135, R136, Tables 6-5 and 6-6) -/

/-- One range of the save table: its store, its bay and its offset and length. -/
structure SaveRange where
  loc : Nat
  bay : Nat
  off : Nat
  len : Nat
  deriving DecidableEq, Repr

/-- The ranges of save-table entry i, bays in ascending order. -/
def State.saveEntry (s : State) (g i : Nat) : List SaveRange :=
  let loc := s.rd (GAL_SAVE_W0.LOC g i)
  let len := s.rd (GAL_SAVE_W1.LENGTH g i)
  let off := s.rd (GAL_SAVE_W0.OFFSET g i)
  if loc = 0 ∨ len = 0 then []
  else if loc = 3 then [{ loc := 3, bay := 0, off := off, len := len }]
  else ((List.range 16).filter (fun b => bitOf (s.rd (GAL_SAVE_W0.BAYMASK g i)) b)).map
    (fun b => { loc := loc, bay := b, off := off, len := len })

def State.saveRanges (s : State) (g : Nat) : List SaveRange := (List.range 16).flatMap (fun i => s.saveEntry g i)

/-- A length rounded up to 4 KiB. -/
def page4 (n : Nat) : Nat := (n + 4095) / 4096 * 4096

def State.savedBytes (s : State) (g : Nat) : Nat := 4096 + ((s.saveRanges g).map (fun r => page4 r.len)).sum

def State.saveFits (s : State) (g : Nat) : Bool :=
  (s.saveRanges g).all (fun r => decide (r.off + r.len ≤ s.storeEnd g r.loc))

/-- The DPA of a range. -/
def SaveRange.dpa (r : SaveRange) (g : Nat) : Nat := storeDpa g r.bay r.loc + r.off

/-- Ranges with their offsets in the save area. -/
def placed : Nat → List SaveRange → List (SaveRange × Nat)
  | _, [] => []
  | off, r :: rs => (r, off) :: placed (off + page4 r.len) rs

/-- The header of the save area (Table 6-5). -/
def State.saveHeader (s : State) (g : Fin 16) : List Word :=
  let x := galOf g
  let ps := (List.range 7).foldl (fun n i => n + b01 (s.pReg x (i + 1)) * 2 ^ (17 + i)) 0
  let tbl := (List.range 16).flatMap (fun i => [s.reg (GAL_SAVE_W0.LOC g i).off, s.reg (GAL_SAVE_W1.LENGTH g i).off])
  [setBits (setBits (setBits 0 0 32 0x16205A7E) 32 16 1) 48 4 g, s.reg (PROG_ID.HASH (blockBase .GAL g)).off,
   BitVec.ofNat 64 s.mer, BitVec.ofNat 64 (s.pc x + ps)] ++
  (List.range 32).map (fun i => s.gReg x i) ++
  (List.range 16).flatMap (fun i => (List.range 4).map (fun k => (s.tReg x i).extractLsb' (64 * k) 64)) ++
  tbl ++ [BitVec.ofNat 64 (s.savedBytes g)] ++ List.replicate 379 0

/-- The tags of the save-table ranges of LOC 1 and LOC 3 (R153). -/
def State.saveTags (s : State) (g : Nat) : List (Bool × Nat × Nat) :=
  (s.saveRanges g).flatMap (fun r =>
    if r.loc = 2 then []
    else (List.range ((r.off + r.len - 1) / 4096 - r.off / 4096 + 1)).map (fun i =>
      let slot := r.off / 4096 + i
      if r.loc = 1 then (false, (g * 16 + r.bay) * 384 + slot, s.obTag g r.bay slot)
      else (true, g * 8192 + slot, s.gsTag g slot)))

/-- Write saved tags back, or set them to 0. -/
def State.restoreTags (s : State) (tags : List (Bool × Nat × Nat)) (keep : Bool) : State :=
  tags.foldl (fun s t =>
    let v := if keep then t.2.2 else 0
    if t.1 then { s with gal := { s.gal with gsTags := Tab.put (fun _ => 0) s.gal.gsTags t.2.1 v } }
    else { s with gal := { s.gal with obTags := Tab.put (fun _ => 0) s.gal.obTags t.2.1 v } }) s

def State.saveInfo (s : State) (g : Nat) : SaveInfo := Tab.get (fun _ => {}) s.gal.saves g

def State.setSaveInfo (s : State) (g : Nat) (v : SaveInfo) : State :=
  { s with gal := { s.gal with saves := Tab.put (fun _ => {}) s.gal.saves g v } }

/-- Arithmetic cycles since the apply point that the gallery last acted at. -/
def State.cyclesSince (s : State) (v : SaveInfo) : Nat :=
  ((s.mer - v.atMer) * lenCycles s.merLen + s.cycle) - v.atCycle

/-! ## Pre-emption (R134 to R136, Table 6-4) -/

/-- R135: the status of a request the gallery refuses. -/
def State.preemptCheck (s : State) (g : Nat) : Status :=
  let e := s.rd (GAL_PREEMPT.ENTRY g)
  let img := s.installedImage g
  if e = 0 ∨ s.rd (GAL_HBM.RATE g) = 0 then .refusedPolicy
  else if img.codeWords < e ∨ decodeOp (s.workWord g (e - 1)) ≠ 0x04 ∨ !s.saveFits g ∨
      s.rd (GAL_SAVE_SIZE.BYTES g) < s.savedBytes g then .badLength
  else .ok

def State.markApply (s : State) (g : Nat) : State :=
  s.setSaveInfo g { s.saveInfo g with atMer := s.mer, atCycle := s.cycle }

/-- What the gallery makes of its live REQ at an apply point at which it has no slice open. -/
def State.preemptApply (s : State) (g : Nat) : State :=
  let req := s.on (GAL_PREEMPT.REQ g)
  if (s.slice g).isOpen then s
  else if s.galState g = 0 ∧ req then
    let st := s.preemptCheck g
    let s := s.wr (GAL_PREEMPT_STATUS.LAST_STATUS g) st.code
    if st = Status.ok then (s.markApply g).wr (GAL_PREEMPT_STATUS.STATE g) 1
    else (s.countRefused .GAL g).preemptRefused g
  else if s.galState g = 3 ∧ !req then (s.markApply g).wr (GAL_PREEMPT_STATUS.STATE g) 4
  else s

def State.queuesEmpty (s : State) (g : Nat) : Bool := allBelow 16 (fun b => (s.bayQueue g b).isEmpty)

/-- Every queue of a gallery in DRAIN has emptied: the header is written, the tags are saved, and the data writes start
(Table 6-4, R153). -/
def doPreemptDrainDone (g : Fin 16) (s : State) : State :=
  if s.galState g = 1 ∧ s.queuesEmpty g then
    let hdr := s.saveHeader g
    let s := s.setSaveInfo g { s.saveInfo g with tags := s.saveTags g }
    let s := s.wr (GAL_PREEMPT_STATUS.SAVED_BYTES g) (s.savedBytes g)
    let s := s.devWriteWords (memReport Blk.GAL.code g g (s.bayOwner (16 * g.val)) 0) (s.rd (GAL_SAVE_BASE.DPA g)) hdr
    s.wr (GAL_PREEMPT_STATUS.STATE g) 2
  else s

/-- The context starts at a word at the next meridian start, unless it is FAULTED, STOPPED or in the debug path, which
only an install, a reset or the debug path leaves (R52, R64). -/
def State.startAt (s : State) (x : LCtx) (pc : BitVec 16) : State :=
  s.modCtx x (fun c =>
    if c.state = .running ∨ c.state = .waiting then { c with pc := pc, state := .waiting, wait := .meridian }
    else { c with pc := pc })

/-- The fault record of a save or restore that failed (R134). -/
def State.preemptFault (s : State) (g : Nat) (st : Status) : State :=
  let cls : Nat := if st = Status.uncorrected then 0x03 else 0x0B
  s.report { cls := cls, status := st.code, sev := 3, part := s.bayOwner (16 * g), blk := Blk.GAL.code, inst := g,
             unit := g, addr := if cls = 0x03 then s.rd (GAL_SAVE_BASE.DPA g) else 0 }

/-- The save ends: `good` is whether every write succeeded (R136). -/
def doPreemptSaveDone (g : Fin 16) (good : Bool) (s : State) : State :=
  if s.galState g ≠ 2 then s
  else
    let base := s.rd (GAL_SAVE_BASE.DPA g)
    let ok := good && rangeHbm base (s.savedBytes g)
    let s := if ok then
        (placed 4096 (s.saveRanges g)).foldl (fun s r => s.copy (r.1.dpa g) (base + r.2) r.1.len) s
      else s
    let s := s.wr (GAL_PREEMPT_STATUS.SAVE_VALID g) (b01 ok)
    let s := s.inc (GAL_PREEMPTIONS.COUNT g)
    let s := s.wr (GAL_PREEMPT_TIME.SAVE_CYCLES g) (s.cyclesSince (s.saveInfo g))
    let s := s.wr (GAL_PREEMPT_STATUS.STATE g) 3
    let s := s.startAt (galOf g) (BitVec.ofNat 16 (s.rd (GAL_PREEMPT.ENTRY g)))
    if ok then s
    else (s.wr (GAL_PREEMPT_STATUS.LAST_STATUS g) Status.uncorrected.code).preemptFault g .uncorrected

/-- Load the context of a gallery from its save area (Table 6-5). -/
def State.loadSaved (s : State) (g : Fin 16) (base : Nat) : State :=
  let x := galOf g
  let w := s.word (base + 0x18)
  let s := s.clearRegs x
  let s := (List.range 32).foldl (fun s i => s.setG x i (s.word (base + 0x20 + 8 * i))) s
  let s := (List.range 7).foldl (fun s i => s.setP x (i + 1) (getBit w (17 + i))) s
  let s := (List.range 16).foldl (fun s i => s.setT x i (BitVec.ofNat 256 (s.num (base + 0x120 + 32 * i) 32))) s
  s.startAt x (BitVec.ofNat 16 (getBits w 0 16))

/-- A pre-empted batch of the gallery's owner runs again once every gallery of its group is in RUN (Table 8-11). -/
def State.resumeBatches (s : State) (g : Nat) : State :=
  (s.cat.batches.filter (fun b => b.state == .preempted && b.gals.contains g)).foldl (fun s b =>
    if b.gals.all (fun x => s.galState x == 0) then s.putBatch { b with state := .running } else s) s

/-- A restore that failed gives its status to the batches it pre-empted (Table 8-11). -/
def State.markBatches (s : State) (g : Nat) (st : Status) : State :=
  (s.cat.batches.filter (fun b => b.state == .preempted && b.gals.contains g)).foldl (fun s b =>
    s.putBatch { b with endStatus := st.worse b.endStatus }) s

/-- The restore of a gallery whose bay queues have emptied ends: `good` is whether every read succeeded (Table 6-4). -/
def doPreemptRestoreDone (g : Fin 16) (good : Bool) (s : State) : State :=
  if s.galState g ≠ 4 ∨ !s.queuesEmpty g then s
  else
    let base := s.rd (GAL_SAVE_BASE.DPA g)
    let valid := s.on (GAL_PREEMPT_STATUS.SAVE_VALID g) &&
      s.word (base + 8) == s.reg (PROG_ID.HASH (blockBase .GAL g)).off
    let st : Status := if !valid then .abandoned else if !good then .uncorrected else .ok
    let info := s.saveInfo g
    let s := s.wr (GAL_PREEMPT_STATUS.LAST_STATUS g) st.code
    let s := s.wr (GAL_PREEMPT_TIME.RESTORE_CYCLES g) (s.cyclesSince info)
    let s := s.wr (GAL_PREEMPT_STATUS.STATE g) 0
    let s := s.restoreTags info.tags (st == Status.ok)
    let s := if st = Status.ok then
        ((placed 4096 (s.saveRanges g)).foldl (fun s r => s.copy (base + r.2) (r.1.dpa g) r.1.len) s).loadSaved g base
      else ((s.restartCtx (galOf g)).preemptFault g st).markBatches g st
    s.resumeBatches g

/-! ## Generator seeds and the tag-load engine (R113, R141, R154) -/

def doGalSrSeedWrite (a : Agent) (g n : Fin 16) (seed : BitVec 32) (s : State) : State :=
  if !s.mayWriteGal a g then s.refuseWrite a .GAL g
  else if s.expertOpen .GAL g && s.galIdle g && seed != 0 then s.wr (GAL_SR_SEED.SEED g n) seed.toNat
  else s.countRefused .GAL g

def doTagLoadGo (a : Agent) (g : Fin 16) (s : State) : State :=
  if !s.mayWriteGal a g then s.refuseWrite a .GAL g
  else if s.on (GAL_XP_TAGSTAT.BUSY g) then s.countRefused .GAL g
  else
    let s := s.wr (GAL_XP_TAGSTAT.STATUS g) 0
    let s := s.wr (GAL_XP_TAGSTAT.DONE g) 0
    if s.rd (GAL_XP_TAGCNT.COUNT g) = 0 then s else s.wr (GAL_XP_TAGSTAT.BUSY g) 1

/-- The slot of a tag-load destination may take a tag: it lies in its store or in a tensor space that holds tags, and
its bay belongs to the owner of bay index 0. -/
def State.tagSlotOk (s : State) (g loc bay a : Nat) : Bool :=
  let p := s.bayOwner (16 * g)
  a % 4096 == 0 && p.isSome &&
  (if loc = 0 then taggedSpace (taSpace a) && decide (taOff a < s.spaceUnits (p.getD 0) (taSpace a) * 8192)
   else if loc = 1 then decide (a < 0x180000) && s.bayOwner (16 * g + bay) == p
   else if loc = 3 then decide (a < s.storeEnd g 3)
   else false)

/-- The tags written one after another: the status the engine ends with and the tags written before it. -/
def State.loadTags (g loc bay : Nat) : Nat → Nat → Nat → Nat → State → State × Nat × Status
  | 0, _, _, done, s => (s, done, .ok)
  | n + 1, src, dst, done, s =>
    if !s.tagSlotOk g loc bay dst ∨ (loc = 0 ∧ taSpace dst ≠ taSpace (dst - 4096 * done)) then (s, done, .badLength)
    else if s.accessStatus src 2 ≠ .ok then (s, done, s.accessStatus src 2)
    else
      let s := s.setSlotTag ((s.bayOwner (16 * g)).getD 0) g bay loc dst (s.num src 2)
      State.loadTags g loc bay n (src + 2) (dst + 4096) (done + 1) s

/-- The engine ends (R154). -/
def doTagLoadDone (g : Fin 16) (s : State) : State :=
  if !s.on (GAL_XP_TAGSTAT.BUSY g) then s
  else
    let src := s.rd (GAL_XP_TAGSRC.DPA g)
    let r := State.loadTags g (s.rd (GAL_XP_TAGDST.LOC g)) (s.rd (GAL_XP_TAGDST.BAY g))
      (s.rd (GAL_XP_TAGCNT.COUNT g)) src (s.rd (GAL_XP_TAGDST.ADDR g)) 0 s
    let s := r.1.wr (GAL_XP_TAGSTAT.BUSY g) 0
    let s := s.wr (GAL_XP_TAGSTAT.STATUS g) r.2.2.code
    let s := s.wr (GAL_XP_TAGSTAT.DONE g) r.2.1
    if r.2.2 = Status.uncorrected then
      s.report (memReport Blk.GAL.code g g (s.bayOwner (16 * g.val)) (src + 2 * r.2.1))
    else s

/-! ## The apply point of a gallery -/

/-- A T0_BASE that a commit may set: no frame below it holds a home (R126). -/
def State.t0Ok (s : State) (g base : Nat) : Bool :=
  decide (s.usedIn (galleryBase g) (galleryBase g + base) = 0)

/-- A tile instruction in a queue of the gallery names a table with COMP 1. -/
def State.tableNamed (s : State) (g n : Nat) : Bool :=
  (List.range 16).any (fun b => (s.bayQueue g b).any (fun o =>
    let named (d : Desc) : Bool := (descTile d).comp && (descTile d).ctab == n
    if o.op = 0x50 then named o.a || named o.b else if o.op = 0x51 then named o.d || named o.a
    else if o.op = 0x52 then named o.d else false))

def State.pendTable (s : State) (g n : Nat) : List Word := Tab.get (fun _ => []) s.gal.pendTables (g * 16 + n)

def State.setPendTable (s : State) (g n : Nat) (ws : List Word) : State :=
  { s with gal := { s.gal with pendTables := Tab.put (fun _ => []) s.gal.pendTables (g * 16 + n) ws } }

/-- A table takes effect. -/
def State.useTable (s : State) (g n : Nat) (ws : List Word) : State :=
  let s := (s.setPendTable g n []).setLiveTable g n ws
  let v := s.rd (GAL_XP_TABLES.VALID g)
  s.wr (GAL_XP_TABLES.VALID g) (if tableEmpty ws then withoutBit v n else withBit v n)

/-- The shadow copy of a table goes back to the live one (R40). -/
def State.resetShadowTable (s : State) (g n : Nat) : State :=
  let ws := s.liveTable g n
  let s := (List.range 16).foldl (fun s i => s.setReg (GAL_TABLE_LEN.LEN16 g n i).off (ws.getD i 0)) s
  s.setReg (GAL_TABLE_EXP.EXP_BITS g n).off (ws.getD 16 0)

/-- A commit offers a table (R146). -/
def State.offerTable (s : State) (g n : Nat) : State :=
  let ws := s.shadowTable g n
  if ws = s.liveTable g n ∧ s.pendTable g n = [] then s
  else if tablePasses ws then s.setPendTable g n ws
  else ((s.resetShadowTable g n).countRefused .GAL g).setPendTable g n []

/-- Tables that passed take effect where no tile instruction names them; PENDING shows the others. -/
def State.settleTables (s : State) (g : Nat) : State :=
  let s := (List.range 16).foldl (fun s n =>
    if s.pendTable g n = [] ∨ s.tableNamed g n then s else s.useTable g n (s.pendTable g n)) s
  s.wr (GAL_XP_TABLES.PENDING g)
    ((List.range 16).foldl (fun m n => if s.pendTable g n = [] then m else withBit m n) 0)

def execGalSubst (a : Agent) (g index : Fin 16) (s : State) : Host.Outcome State Fault Refusal :=
  .next (s.whenReady .GAL g.val (doGalSubst a g index))

def execBayUe (g bay : Fin 16) (s : State) : Host.Outcome State Fault Refusal := .next (doBayUe g bay s)

def execBaySubstitute (g : Fin 16) (s : State) : Host.Outcome State Fault Refusal := .next (doBaySubstitute g s)

def execBayCopyDone (g bay : Fin 16) (s : State) : Host.Outcome State Fault Refusal := .next (doBayCopyDone g bay s)

def execPreemptDrainDone (g : Fin 16) (s : State) : Host.Outcome State Fault Refusal := .next (doPreemptDrainDone g s)

def execPreemptSaveDone (g : Fin 16) (good : Bool) (s : State) : Host.Outcome State Fault Refusal := .next (doPreemptSaveDone g good s)

def execPreemptRestoreDone (g : Fin 16) (good : Bool) (s : State) : Host.Outcome State Fault Refusal := .next (doPreemptRestoreDone g good s)

def execGalSrSeedWrite (a : Agent) (g n : Fin 16) (seed : BitVec 32) (s : State) : Host.Outcome State Fault Refusal :=
  .next (s.whenReady .GAL g.val (doGalSrSeedWrite a g n seed))

def execTagLoadGo (a : Agent) (g : Fin 16) (s : State) : Host.Outcome State Fault Refusal :=
  .next (s.whenReady .GAL g.val (doTagLoadGo a g))

def execTagLoadDone (g : Fin 16) (s : State) : Host.Outcome State Fault Refusal := .next (doTagLoadDone g s)

end Sys2Proof.Machine
end

