-- ==== Sys2Proof/Machine/Connections.lean ====
section
/-! DEFINITION. Connection contexts: how their work ends, their states, their commands, their keys, and the transport's
timers (R316 to R321, R326 to R332, R335). -/

namespace Sys2Proof.Machine

/-! ## Work that ends -/

/-- Where the request number stands in the fields of a kind that asks for a response. -/
def reqField (k : Nat) : Option Nat :=
  if k = 0x10 then some 4
  else if k = 0x12 ∨ k = 0x13 ∨ k = 0x23 then some 2
  else if k = 0x21 then some 3
  else if k = 0x24 ∨ k = 0x27 then some 0
  else none

/-- The request a packet carries. -/
def State.sendReq (s : State) (x : Send) : Option Req := (reqField x.kind).bind (fun i => s.findReq x.ctx (x.flds.getD i 0))

/-- A class C load or atomic. -/
def classCReq (k : Nat) : Bool := k == 0x10 || k == 0x12 || k == 0x13

/-- A request ends with its response, or without one. A flush then waits for the INVALs it covers. -/
def State.endReq (s : State) (r : Req) (st : Status) (back : Word) (mf : Bool) : State :=
  match r.covers with
  | some cov =>
    let s := s.dropReq r
    let e : FlushEnd := { owner := r.owner, covers := cov, ctx := r.ctx, status := st }
    { s with hel := { s.hel with flushes := s.hel.flushes ++ [e] } }
  | none => s.finishReq r st back mf

/-- A packet will not be sent again: its request or its message fails. -/
def State.failSend (s : State) (x : Send) (st : Status) : State :=
  match s.sendReq x with
  | some r => s.endReq r st 0 false
  | none =>
    match x.owner with
    | .barrier slot due => s.barFailed slot due st
    | _ => s.messageFails x.msg st

/-- The packets of a request are not sent any more. -/
def State.dropPackets (s : State) (r : Req) : State :=
  let mine (x : Send) : Bool :=
    x.ctx == r.ctx && (match reqField x.kind with
      | some i => x.kind == r.kind && x.flds.getD i 0 == r.req
      | none => false)
  { s with tp := { s.tp with sends := s.tp.sends.filter (fun x => !mine x),
                             sent := s.tp.sent.filter (fun e => !mine e.send) } }

/-- Occupancy of the miss buffer and of the inbound message table. -/
def State.countTp (s : State) : State :=
  (s.wr (FAB_CTX_STATE.MISS_BUF 0) s.tp.misses.length).wr (FAB_CTX_STATE.MSGS 0) s.tp.inMsgs.length

def Miss.ctx : Miss → Nat
  | .open n _ _ => n
  | .close n => n
  | .creditReq n _ => n
  | .inval n _ => n
  | .keychg n _ => n

/-- The work of a context ends with a status; of class C loads and atomics those that are still queued where `queuedC` says
so, and those that are outstanding where `sentC` does (Table 15-1, R336). -/
def State.endCtxWork (s : State) (n : Nat) (st : Status) (queuedC sentC : Bool) : State :=
  let queued := s.tp.sends.filter (fun x => x.ctx == n)
  let out := (s.tp.sent.filter (fun e => e.send.ctx == n)).map (fun e => e.send)
  let fails (s : State) (xs : List Send) (classC : Bool) : State :=
    xs.foldl (fun s x => if classCReq x.kind && !classC then s else s.failSend x st) s
  let s : State := { s with tp := { s.tp with
    sends := s.tp.sends.filter (fun x => x.ctx != n), sent := s.tp.sent.filter (fun e => e.send.ctx != n),
    express := s.tp.express.filter (fun x => x.ctx != n), busy := s.tp.busy.filter (fun x => x.ctx != n),
    misses := s.tp.misses.filter (fun m => m.ctx != n), inMsgs := s.tp.inMsgs.filter (fun m => m.ctx != n),
    fetching := s.tp.fetching.filter (fun k => k != n), derives := s.tp.derives.filter (fun d => d.1 != n) } }
  let s := fails (fails s queued queuedC) out sentC
  let s := (s.tp.reqs.filter (fun r => r.ctx == n && (sentC || !classCReq r.kind))).foldl
    (fun s r => s.endReq r st 0 false) s
  let s := (s.tp.msgs.filter (fun m => m.inval.isSome && m.ctx == n)).foldl (fun s m =>
    (s.messageFails m.id st).modMsg m.id (fun m => { m with inval := none })) s
  s.countTp

/-! ## Outcomes of commands -/

/-- The codes of FAB_CTX_CMD.OP that wait for an outcome. -/
def opCreate : Nat := 1
def opClose : Nat := 2
def opInstall : Nat := 4
def opSwitch : Nat := 5

/-- A command that set BUSY has its outcome: its agent's result, and the doorbell of ended commands. -/
def State.finishCmd (s : State) (n op : Nat) (st : Status) : State :=
  let c := s.tpc n
  let mine := c.waiting.filter (fun w => w.2 == op)
  let s := s.setTpc n { c with waiting := c.waiting.filter (fun w => w.2 != op) }
  mine.foldl (fun s w => (s.tpResult w.1 st).tpBell c.part) s

/-- Every command that waits on the context ends. -/
def State.finishCmds (s : State) (n : Nat) (st : Status) : State :=
  (((s.finishCmd n opCreate st).finishCmd n opClose st).finishCmd n opInstall st).finishCmd n opSwitch st

/-! ## States of a context (Table 15-1) -/

def State.unpin (s : State) (n : Nat) : State :=
  if (s.tpc n).pinned then
    (s.modTpc n (fun c => { c with pinned := false })).wr (FAB_CTX_STATE.PINNED 0) (s.rd (FAB_CTX_STATE.PINNED 0) - 1)
  else s

/-- The context is CLOSED: it keeps only where its peer is and its keys, to answer a repeated CLOSE. -/
def State.setClosed (s : State) (n : Nat) : State :=
  let s := (s.unpin n).setCached n false
  let c := s.tpc n
  s.setTpc n { part := c.part, node := c.node, peerPart := c.peerPart, peerCtx := c.peerCtx, aes := c.aes,
               keyA := c.keyA, keyB := c.keyB, txSlot := c.txSlot, waiting := c.waiting }

/-- The context is FAILED: queued and outstanding work ends with LINK_FAILED, with a record and a doorbell. -/
def State.failCtx (s : State) (n : Nat) (st : Status) : State :=
  let c := s.tpc n
  let s := (s.setTpc n { c with state := 4 }).endCtxWork n .linkFailed false false
  ((s.report (tpReport st (some c.part) 0xFF n 0 0)).tpBell c.part).finishCmds n .linkFailed

/-- The node lies in this node's rack under the current map (R329). -/
def State.sameRack (s : State) (node : Nat) : Bool :=
  s.mapCurrent && nodeValid s.prt.cur node && nodeRack s.prt.cur node == nodeRack s.prt.cur s.nodeId

/-- An OPEN is sent, and counted against OPEN_TRIES. -/
def State.sendOpen (s : State) (n : Nat) : State :=
  let c := s.tpc n
  (s.setTpc n { c with tries := c.tries + 1 }).sendExpress n 0x01 [n, b01 c.aes]

/-- The context becomes OPEN and grants INIT_GRANT units (R326). -/
def State.goOpen (s : State) (n : Nat) : State :=
  let s := s.modTpc n (fun c => { c with state := 2, tries := 0, lastArrival := s.mer })
  let s := { s with tp := { s.tp with express := s.tp.express.filter (fun x => !(x.ctx == n && x.kind == 0x01)) } }
  (s.grant n (s.rd (FAB_TP_POOL.INIT_GRANT 0))).finishCmd n opCreate .ok

/-! ## Commands (R316, R342, R419) -/

/-- The partition a context number belongs to: that of a context in use, else the one whose range holds it (R389). -/
def State.ctxOwner (s : State) (n : Nat) : Option Nat :=
  if (s.tpc n).state ≠ 0 then some (s.tpc n).part
  else firstBelow 64 (fun p => decide (s.rd (PRT_CTX.FIRST p) ≤ n) && decide (n < s.rd (PRT_CTX.FIRST p) + s.rd (PRT_CTX.COUNT p)))

/-- A write of FAB_CTX_CMD: the agent may act for the context's partition, or the command is refused. `eff` answers none
where the outcome comes later. -/
def State.ctxCommand (s : State) (a : Agent) (p : Option Nat) (eff : State → State × Option Status) : State :=
  let may := match p with
    | some p => s.mayWritePart a p
    | none => s.mayWriteDevice a
  if !may then (s.refuseWrite a .FAB 0).tpResult a.code .refusedPolicy
  else
    let r := eff s
    match r.2 with
    | some st => r.1.tpResult a.code st
    | none => r.1.wrPriv a.code (FAB_TP_RESULT.BUSY 0) 1

/-- A command of the agent waits on the context for its outcome. -/
def State.waitCmd (s : State) (a : Agent) (n op : Nat) : State :=
  s.modTpc n (fun c => { c with waiting := c.waiting ++ [(a.code, op)] })

/-- The checks of a CREATE, ranked by R25. A serial of 0 stands for no root. -/
def State.createStatus (s : State) (n p node peer : Nat) (aes : Bool) : Status :=
  let serial := s.rd VES_STATE.FKR_CUR
  let taken := s.tp.ctxs.any (fun e => e.2.state != 0 && e.2.part == p && e.2.node == node && e.2.peerPart == peer)
  let inRange := decide (s.rd (PRT_CTX.FIRST p) ≤ n) && decide (n < s.rd (PRT_CTX.FIRST p) + s.rd (PRT_CTX.COUNT p))
  if !s.nodeReachable node then .linkFailed
  else if (s.tpc n).state ≠ 0 ∨ taken ∨ !inRange ∨ (!aes ∧ !s.sameRack node) ∨
      (aes ∧ (serial = 0 ∨ Tab.get (fun _ => 0) s.tp.serials n = serial + 1)) then .refusedPolicy
  else .ok

/-- CREATE: the context enters OPENING; with AES-256-GCM its first key is derived before OPEN is sent. -/
def doCtxCreate (a : Agent) (n : BitVec 16) (p : Fin 64) (s : State) : State :=
  let n := n.toNat
  let part := (s.actingPart a p).getD p
  s.ctxCommand a (some part) (fun s =>
    let node := s.rd (FAB_CTX_ARG.PEER_NODE 0)
    let peer := s.rd (FAB_CTX_ARG.PEER_PART 0)
    let aes := s.on (FAB_CTX_ARG.CIPHER 0)
    match s.createStatus n part node peer aes with
    | .ok =>
      let s := s.setTpc n { state := 1, part := part, node := node, peerPart := peer,
                            peerCtx := s.rd (FAB_CTX_ARG.PEER_CTX 0), aes := aes }
      let s := (match s.makeFrame with
        | some s => (s.setCached n true).touch n
        | none => s.startFetch n).waitCmd a n opCreate
      if aes then
        ({ s with tp := { s.tp with derives := s.tp.derives ++ [(n, true)],
                                    serials := Tab.put (fun _ => 0) s.tp.serials n (s.rd VES_STATE.FKR_CUR + 1) } }, none)
      else (s.sendOpen n, none)
    | st => (s, some st))

/-- CLOSE: credit is revoked, and CLOSE goes out once nothing is outstanding. -/
def doCtxClose (a : Agent) (n : BitVec 16) (s : State) : State :=
  let n := n.toNat
  s.ctxCommand a (s.ctxOwner n) (fun s =>
    if (s.tpc n).state ≠ 2 then (s, some .refusedPolicy)
    else
      let s := (s.modTpc n (fun c => { c with state := 3, tries := 0 })).revoke n
      ((s.sendExpress n 0x03 []).waitCmd a n opClose, none))

/-- QUERY. -/
def doCtxQuery (a : Agent) (n : BitVec 16) (s : State) : State :=
  s.ctxCommand a (s.ctxOwner n.toNat) (fun s =>
    let c := s.tpc n.toNat
    let old := if !c.oldLive then 0 else if c.txSlot = 0 then c.keyB.gen else c.keyA.gen
    let s := s.wrPriv a.code (FAB_TP_RESULT.STATE 0) c.state
    let s := s.wrPriv a.code (FAB_TP_RESULT.CACHED 0) (b01 c.cached)
    let s := s.wrPriv a.code (FAB_TP_RESULT.PINNED 0) (b01 c.pinned)
    let s := s.wrPriv a.code (FAB_TP_RESULT.TX_GEN 0) c.txGen
    (s.wrPriv a.code (FAB_TP_RESULT.OLD_GEN 0) old, some .ok))

/-- The slot that does not hold the current generation. -/
def TpCtx.otherKey (c : TpCtx) : TpKey := if c.txSlot = 0 then c.keyB else c.keyA
def TpCtx.setOther (c : TpCtx) (k : TpKey) : TpCtx := if c.txSlot = 0 then { c with keyB := k } else { c with keyA := k }

/-- KEY_INSTALL asks for the next generation's key in the free slot. -/
def doCtxKeyInstall (a : Agent) (n : BitVec 16) (s : State) : State :=
  let n := n.toNat
  s.ctxCommand a (s.ctxOwner n) (fun s =>
    let c := s.tpc n
    if c.state ≠ 2 ∨ !c.aes ∨ c.otherKey.held ∨ 255 ≤ c.txGen ∨ s.tp.derives.any (fun d => d.1 == n) then
      (s, some .refusedPolicy)
    else
      ((State.waitCmd { s with tp := { s.tp with derives := s.tp.derives ++ [(n, false)] } } a n opInstall), none))

/-- KEY_SWITCH offers the installed generation to the peer. -/
def doCtxKeySwitch (a : Agent) (n : BitVec 16) (s : State) : State :=
  let n := n.toNat
  s.ctxCommand a (s.ctxOwner n) (fun s =>
    let c := s.tpc n
    if c.state ≠ 2 ∨ !c.aes ∨ c.oldLive ∨ !c.otherKey.held ∨ c.offered.isSome then (s, some .refusedPolicy)
    else
      let s := s.setTpc n { c with offered := some c.otherKey.gen }
      ((s.sendExpress n 0x0B [c.otherKey.gen]).waitCmd a n opSwitch, none))

/-- PIN: at most 2,048 contexts. -/
def doCtxPin (a : Agent) (n : BitVec 16) (s : State) : State :=
  let n := n.toNat
  s.ctxCommand a (s.ctxOwner n) (fun s =>
    let k := s.rd (FAB_CTX_STATE.PINNED 0)
    if (s.tpc n).pinned then (s, some .ok)
    else if (s.tpc n).state = 0 ∨ 2048 ≤ k then (s, some .refusedPolicy)
    else
      let s := (s.modTpc n (fun c => { c with pinned := true })).wr (FAB_CTX_STATE.PINNED 0) (k + 1)
      (s.startFetch n, some .ok))

def doCtxUnpin (a : Agent) (n : BitVec 16) (s : State) : State :=
  s.ctxCommand a (s.ctxOwner n.toNat) (fun s => (s.unpin n.toNat, some .ok))

/-- RESET returns a FAILED context to CLOSED; its class C waits end with ABANDONED. -/
def doCtxReset (a : Agent) (n : BitVec 16) (s : State) : State :=
  let n := n.toNat
  s.ctxCommand a (s.ctxOwner n) (fun s =>
    if (s.tpc n).state ≠ 4 then (s, some .refusedPolicy)
    else ((s.endCtxWork n .abandoned true true).setClosed n, some .ok))

/-- The vestibule has derived a key (R330, R419): a CREATE goes on with OPEN, a KEY_INSTALL ends. While the vestibule
restarts, derivations wait (R418). -/
def doConnKeyInstallDone (n : BitVec 16) (s : State) : State :=
  let n := n.toNat
  match s.tp.derives.find? (fun d => d.1 == n) with
  | none => s
  | some d =>
    if s.on VES_STATE.RESTARTING then s
    else
      let s := { s with tp := { s.tp with derives := s.tp.derives.erase d } }
      if d.2 then (s.modTpc n (fun c => { c with keyA := { held := true, gen := 1 } })).sendOpen n
      else
        (s.modTpc n (fun c => c.setOther { held := true, gen := c.txGen + 1 })).finishCmd n opInstall .ok

/-! ## Sending again (R321, R332, R341) -/

/-- A packet is offered again with its PSN, ahead of what waits. -/
def State.requeue (s : State) (e : Sent) (x : Send) : State :=
  let x := { x with psn := some e.psn }
  if schedKind x.kind then { s with tp := { s.tp with sends := x :: s.tp.sends } }
  else { s with tp := { s.tp with express := s.tp.express ++ [x] } }

def State.dropSent (s : State) (e : Sent) : State := { s with tp := { s.tp with sent := s.tp.sent.erase e } }

def State.findSent (s : State) (n psn : Nat) : Option Sent := s.tp.sent.find? (fun e => e.send.ctx == n && e.psn == psn)

/-- A packet is lost on its way: it is sent again, its units paid. -/
def State.resend (s : State) (e : Sent) (timeouts : Nat) : State :=
  (s.dropSent e).requeue e { e.send with paid := true, timeouts := timeouts }

/-- A class S packet past its RETRIES fails; every other packet is sent again. An unanswered OPEN or CLOSE is sent again. -/
def doPacketResendTimeout (n : BitVec 16) (psn : BitVec 32) (s : State) : State :=
  let n := n.toNat
  let c := s.tpc n
  match s.findSent n psn.toNat with
  | some e =>
    if 0x20 ≤ e.send.kind ∧ s.rd (FAB_TP_CFG.RETRIES 0) ≤ e.send.timeouts then
      (s.dropSent e).failSend e.send .linkFailed
    else s.resend e (e.send.timeouts + 1)
  | none =>
    let queued := s.tp.express.any (fun x => x.ctx == n && (x.kind == 0x01 || x.kind == 0x03))
    if queued ∨ c.tries = 0 then s
    else if c.state = 1 then
      (if s.rd (FAB_TP_CFG.OPEN_TRIES 0) ≤ c.tries then s.failCtx n .linkFailed else s.sendOpen n)
    else if c.state = 3 then s.sendExpress n 0x03 []
    else s

/-- A request that expects a class S response has had none within S_TIMEOUT_US. -/
def doSResponseTimeout (n : BitVec 16) (req : BitVec 16) (s : State) : State :=
  match s.findReq n.toNat req.toNat with
  | none => s
  | some r => if classCReq r.kind then s else (s.dropPackets r).endReq r .linkFailed 0 false

/-- The credit-free packets of a context that are not answered. -/
def State.unanswered (s : State) (n : Nat) : List Send :=
  let c := s.tpc n
  (if c.state = 1 then [{ ctx := n, kind := 0x01, flds := [n, b01 c.aes] }] else []) ++
  (if c.state = 3 ∧ c.tries ≠ 0 then [{ ctx := n, kind := 0x03 }] else []) ++
  (if c.asked then [{ ctx := n, kind := 0x08, flds := [min (s.wanted n) (2 ^ 18 - 1)] }] else []) ++
  (match c.offered with
   | some g => [{ ctx := n, kind := 0x0B, flds := [g] }]
   | none => []) ++
  (s.tp.msgs.filter (fun m => m.inval.isSome && m.ctx == n)).map (fun m =>
    { ctx := n, kind := 0x0D, msg := m.id, flds := [m.inval.getD 0] })

/-- BUSY_RETRY_US after the NACK, the packets go out again. -/
def doBusyRetryExpiry (n : BitVec 16) (s : State) : State :=
  let due (x : Send) : Bool := x.ctx == n.toNat && x.heldAt != some s.curEpoch
  { s with tp := { s.tp with express := s.tp.express ++ (s.tp.busy.filter due),
                             busy := s.tp.busy.filter (fun x => !due x) } }

/-- A context on which no credited packet has arrived for IDLE_REVOKE meridians gives its credit back (R327). -/
def doIdleRevokeTimeout (n : BitVec 16) (s : State) : State :=
  let c := s.tpc n.toNat
  let k := s.rd (FAB_TP_POOL.IDLE_REVOKE 0)
  if c.state = 2 ∧ c.cached ∧ k ≠ 0 ∧ c.lastArrival + k ≤ s.mer then s.revoke n.toNat else s

def execCtxCreate (a : Agent) (n : BitVec 16) (p : Fin 64) (s : State) : Host.Outcome State Fault Refusal :=
  .next (s.whenAnyReady .FAB (doCtxCreate a n p))
def execCtxClose (a : Agent) (n : BitVec 16) (s : State) : Host.Outcome State Fault Refusal :=
  .next (s.whenAnyReady .FAB (doCtxClose a n))
def execCtxQuery (a : Agent) (n : BitVec 16) (s : State) : Host.Outcome State Fault Refusal :=
  .next (s.whenAnyReady .FAB (doCtxQuery a n))
def execCtxKeyInstall (a : Agent) (n : BitVec 16) (s : State) : Host.Outcome State Fault Refusal :=
  .next (s.whenAnyReady .FAB (doCtxKeyInstall a n))
def execCtxKeySwitch (a : Agent) (n : BitVec 16) (s : State) : Host.Outcome State Fault Refusal :=
  .next (s.whenAnyReady .FAB (doCtxKeySwitch a n))
def execCtxPin (a : Agent) (n : BitVec 16) (s : State) : Host.Outcome State Fault Refusal :=
  .next (s.whenAnyReady .FAB (doCtxPin a n))
def execCtxUnpin (a : Agent) (n : BitVec 16) (s : State) : Host.Outcome State Fault Refusal :=
  .next (s.whenAnyReady .FAB (doCtxUnpin a n))
def execCtxReset (a : Agent) (n : BitVec 16) (s : State) : Host.Outcome State Fault Refusal :=
  .next (s.whenAnyReady .FAB (doCtxReset a n))
def execConnKeyInstallDone (n : BitVec 16) (s : State) : Host.Outcome State Fault Refusal := .next (doConnKeyInstallDone n s)
def execPacketResendTimeout (n : BitVec 16) (psn : BitVec 32) (s : State) : Host.Outcome State Fault Refusal := .next (doPacketResendTimeout n psn s)
def execSResponseTimeout (n : BitVec 16) (req : BitVec 16) (s : State) : Host.Outcome State Fault Refusal := .next (doSResponseTimeout n req s)
def execBusyRetryExpiry (n : BitVec 16) (s : State) : Host.Outcome State Fault Refusal := .next (doBusyRetryExpiry n s)
def execIdleRevokeTimeout (n : BitVec 16) (s : State) : Host.Outcome State Fault Refusal := .next (doIdleRevokeTimeout n s)

end Sys2Proof.Machine
end

