-- ==== Sys2Proof/Machine/Receive.lean ====
section
/-! DEFINITION. What an arriving packet meets before it has its effect, and the transport's control packets (R317, R321,
R326, R327, R329 to R332, R338, R341). -/

namespace Sys2Proof.Machine

/-! ## Map epochs (R341) -/

/-- The epoch of a packet is newer than the current one, or retired. Epochs count modulo 2^16. -/
def State.epochAhead (s : State) (e : Nat) : Bool :=
  let d := (e + 65536 - s.curEpoch) % 65536
  d != 0 && decide (d < 32768)

def State.epochRetired (s : State) (e : Nat) : Bool :=
  decide (32768 ≤ (e + 65536 - s.curEpoch) % 65536) && !(s.prevMap && s.prevEpoch == e)

/-! ## NACKs and ACKs -/

def State.sendNack (s : State) (n psn : Nat) (st : Status) (units : Nat) : State :=
  s.sendExpress n 0x06 [psn, st.code, units]

/-- The ACK of a context: the lowest PSN not received, and which of the next 64 have been. -/
def State.sendAck (s : State) (n : Nat) : State :=
  let c := s.tpc n
  let map := (List.range 64).foldl (fun m i => if c.rxSeen.contains ((c.rxBase + 1 + i) % 2 ^ 32) then m + 2 ^ i else m) 0
  (s.setTpc n { c with arrivals := 0 }).sendExpress n 0x05 [c.rxBase, map]

/-- An arrival that the peer must hear of: an ACK goes at once after 64 of them. -/
def State.noteArrival (s : State) (n : Nat) : State :=
  let s := s.modTpc n (fun c => { c with arrivals := c.arrivals + 1 })
  if 64 ≤ (s.tpc n).arrivals then s.sendAck n else s

/-! ## The receive window (R331) -/

def psnDist (a b : Nat) : Nat := (b + 2 ^ 32 - a) % 2 ^ 32

/-- The window base moves past every PSN that has been received. -/
def advanceBase : Nat → Nat → List Nat → Nat × List Nat
  | 0, b, l => (b, l)
  | k + 1, b, l => if l.contains b then advanceBase k ((b + 1) % 2 ^ 32) (l.erase b) else (b, l)

/-- The KGEN names one of the context's slots; 0 under the null cipher. -/
def TpCtx.knowsGen (c : TpCtx) (g : Nat) : Bool :=
  if c.aes then (c.keyA.held && c.keyA.gen == g) || (c.keyB.held && c.keyB.gen == g) else g == 0

/-- The generation a key change moves to, while one runs (R330). -/
def TpCtx.newGen (c : TpCtx) : Option Nat := if c.offered.isSome then c.offered else if c.oldLive then some c.txGen else none

/-- A PSN is marked received: the window base moves, and the old key slot retires once the base has passed a PSN received
under the new generation. -/
def TpCtx.mark (c : TpCtx) (psn gen : Nat) : TpCtx :=
  let w := advanceBase (c.rxSeen.length + 1) c.rxBase (psn :: c.rxSeen)
  let np := if c.newPsn.isNone && c.newGen == some gen then some psn else c.newPsn
  let c := { c with rxBase := w.1, rxSeen := w.2, newPsn := np }
  match np with
  | some q =>
    if c.oldLive && decide (1 ≤ psnDist q c.rxBase) && decide (psnDist q c.rxBase < 2 ^ 31) then
      { (c.setOther {}) with oldLive := false, newPsn := none }
    else c
  | none => c

/-- A credited packet is placed: its units have gone, and are granted again. -/
def State.placed (s : State) (n u : Nat) : State :=
  if u = 0 then s else (s.modTpc n (fun c => { c with out := c.out - u })).grant n u

/-- How a packet that passed the window and the epoch ends: taken, waiting to be applied, refused by a NACK, or refused so
that the peer sends it again. -/
inductive RxEnd where
  | taken | waits | refused (st : Status) | again (st : Status)
  deriving DecidableEq, Repr

/-- A packet that could not be due at its context is dropped and counted. -/
def State.lateTp (s : State) : State := s.inc (FAB_TP_LATE.COUNT 0)

/-- The response kept for a request is sent again (R332). -/
def State.resendKept (s : State) (n psn : Nat) : State :=
  match (s.tpc n).kept.find? (fun e => e.1 == psn) with
  | some e =>
    State.inc { s with tp := { s.tp with express := s.tp.express ++ [e.2] } } (FAB_TP_RESENT.COUNT 0)
  | none => s

/-- A write that a NACK refused: a flush over it cannot answer OK (R335). -/
def State.noteRefused (s : State) (n kind psn : Nat) : State :=
  if kind = 0x11 ∨ kind = 0x14 ∨ kind = 0x20 ∨ kind = 0x26 then s.modTpc n (fun c => { c with refused := psn :: c.refused })
  else s

/-- A packet with a PSN arrives (R330, R331, R341): a duplicate and one past the window are dropped; one whose KGEN is
unknown or whose epoch is retired is refused; otherwise `eff` has the packet's effect. -/
def State.rxPsn (s : State) (h : PktHdr) (kind bytes : Nat) (eff : State → State × RxEnd) : State :=
  let n := h.ctx.toNat
  let psn := h.psn.toNat
  let c := s.tpc n
  let d := psnDist c.rxBase psn
  let units := if creditKind kind then c.units bytes else 0
  let mark (s : State) : State := (s.modTpc n (fun c => c.mark psn h.kgen.toNat)).noteArrival n
  if !c.cached ∨ (c.state ≠ 2 ∧ c.state ≠ 3) then s.lateTp
  else if 2 ^ 31 ≤ d ∨ c.rxSeen.contains psn then ((s.inc (FAB_TP_DUP.COUNT 0)).resendKept n psn).noteArrival n
  else if 4096 ≤ d then s.inc (FAB_TP_DUP.COUNT 0)
  else if !c.knowsGen h.kgen.toNat then ((mark s).noteRefused n kind psn).sendNack n psn .keyGenGone units
  else if c.aes ∧ !h.auth then s.inc (FAB_TP_AUTH_FAIL.COUNT 0)
  else if kind ≠ 0x24 ∧ s.epochRetired h.epoch.toNat then (s.inc (FAB_TP_STALE_TX.COUNT 0)).sendNack n psn .staleMap units
  else
    let s := if kind ≠ 0x24 ∧ s.epochAhead h.epoch.toNat then s.inc (FAB_TP_AHEAD.COUNT 0) else s
    let s := if units = 0 then s else (s.touch n).modTpc n (fun c => { c with lastArrival := s.mer })
    let r := eff s
    match r.2 with
    | .taken => (mark r.1).placed n units
    | .waits => mark r.1
    | .refused st => ((mark r.1).noteRefused n kind psn).sendNack n psn st units
    | .again st => r.1.sendNack n psn st units

/-! ## Control packets -/

/-- A control packet arrives: its tag, its generation and its epoch are checked as those of every packet. -/
def State.rxControl (s : State) (h : PktHdr) (eff : State → State) : State :=
  let n := h.ctx.toNat
  let c := s.tpc n
  if !c.knowsGen h.kgen.toNat then s.sendNack n 0 .keyGenGone 0
  else if c.aes ∧ !h.auth then s.inc (FAB_TP_AUTH_FAIL.COUNT 0)
  else if s.epochRetired h.epoch.toNat then (s.inc (FAB_TP_STALE_TX.COUNT 0)).sendNack n 0 .staleMap 0
  else eff (if s.epochAhead h.epoch.toNat then s.inc (FAB_TP_AHEAD.COUNT 0) else s)

/-- A control packet that no uncached context can be due (R321). -/
def State.rxDue (s : State) (h : PktHdr) (eff : State → State) : State :=
  if (s.tpc h.ctx.toNat).cached then s.rxControl h eff else s.lateTp

/-- The effect of an OPEN (Table 15-1, R329, R343). -/
def State.rxOpen (s : State) (n src : Nat) (aes : Bool) : State :=
  let c := s.tpc n
  if (c.state ≠ 1 ∧ c.state ≠ 2) ∨ src ≠ c.peerCtx ∨ aes ≠ c.aes then s
  else if s.rd (FAB_P_CFG.CREDIT_SHARE 0 c.part) = 0 ∨ (!aes ∧ !s.sameRack c.node) then s.sendNack n 0 .refusedPolicy 0
  else
    let s := s.sendExpress n 0x02 [n, b01 aes]
    if c.state = 1 then s.goOpen n else s

/-- The effect of a CLOSE: a context that is CLOSED already answers again. -/
def State.rxClose (s : State) (n : Nat) : State :=
  let c := s.tpc n
  if c.state = 2 ∨ c.state = 3 then
    let s := (s.endCtxWork n .linkFailed true false).setClosed n
    let s := (s.finishCmd n opClose .ok).finishCmds n .linkFailed
    s.sendExpress n 0x04 []
  else if c.state = 0 ∧ c ≠ {} then s.sendExpress n 0x04 []
  else s

/-- The effect of a CREDIT_REQ: the grant, which may be of nothing (R326). -/
def State.rxCreditReq (s : State) (n want : Nat) : State :=
  if (s.tpc n).state ≠ 2 then s
  else
    let g := (s.tpc n).rxGranted
    let s := s.grant n want
    if (s.tpc n).rxGranted = g then s.sendExpress n 0x07 [g] else s

/-- The effect of an INVAL: every copy of the line goes, and a fill in flight is not kept (R338). -/
def State.rxInval (s : State) (n addr : Nat) : State :=
  let s := (s.inc (FAB_TP_INVAL_RX.COUNT 0)).dropLine addr
  let s := { s with tp := { s.tp with reqs := s.tp.reqs.map (fun (r : Req) =>
    if r.line.any (fun (l : Nat × Nat × Nat) => l.1 == addr) then { r with keep := false } else r) } }
  s.sendExpress n 0x0E [addr]

/-- Packets are sent from now on under the generation of the other slot; the slot in use becomes the old one (R330). -/
def TpCtx.switchKey (c : TpCtx) : TpCtx := { c with txSlot := 1 - c.txSlot, oldLive := true, offered := none }

/-- The effect of a KEYCHG. -/
def State.rxKeychg (s : State) (n gen : Nat) : State :=
  let c := s.tpc n
  if !c.aes ∨ !c.knowsGen gen then s.sendNack n 0 .keyGenGone 0
  else
    let s := if c.txGen = gen then s else s.modTpc n (fun c => { c.switchKey with offered := c.offered })
    s.sendExpress n 0x0C [gen]

def State.rxMiss (s : State) (m : Miss) : State :=
  match m with
  | .open n src aes => s.rxOpen n src aes
  | .close n => s.rxClose n
  | .creditReq n want => s.rxCreditReq n want
  | .inval n addr => s.rxInval n addr
  | .keychg n gen => s.rxKeychg n gen

/-- A credit-free packet: at an uncached context it waits in the miss buffer, or is refused with CTX_BUSY where that is
full (R321). A CLOSED context needs no backing. -/
def State.rxFree (s : State) (h : PktHdr) (m : Miss) : State :=
  let n := h.ctx.toNat
  let c := s.tpc n
  if c.cached ∨ c.state = 0 ∨ c.state = 4 then s.rxControl h (fun s => s.rxMiss m)
  else if 64 ≤ s.tp.misses.length then (s.inc (FAB_TP_CTX_BUSY.COUNT 0)).sendNack n 0 .ctxBusy 0
  else s.rxControl h (fun s => (State.startFetch { s with tp := { s.tp with misses := s.tp.misses ++ [m] } } n).countTp)

def doOpenPacket (h : PktHdr) (srcCtx : BitVec 16) (aes : Bool) (s : State) : State :=
  s.rxFree h (.open h.ctx.toNat srcCtx.toNat aes)

def doClose (h : PktHdr) (s : State) : State := s.rxFree h (.close h.ctx.toNat)
def doCreditReq (h : PktHdr) (want : BitVec 18) (s : State) : State := s.rxFree h (.creditReq h.ctx.toNat want.toNat)
def doInval (h : PktHdr) (addr : BitVec 64) (s : State) : State := s.rxFree h (.inval h.ctx.toNat (addr.toNat / 64 * 64))
def doKeychg (h : PktHdr) (gen : BitVec 8) (s : State) : State := s.rxFree h (.keychg h.ctx.toNat gen.toNat)

/-- OPEN_ACK: an OPENING context is OPEN. -/
def doOpenAck (h : PktHdr) (s : State) : State :=
  s.rxDue h (fun s => if (s.tpc h.ctx.toNat).state = 1 then s.goOpen h.ctx.toNat else s.lateTp)

/-- CLOSE_ACK: a CLOSING context is CLOSED. -/
def doCloseAck (h : PktHdr) (s : State) : State :=
  s.rxDue h (fun s =>
    let n := h.ctx.toNat
    if (s.tpc n).state = 3 then
      let s := (s.endCtxWork n .linkFailed true false).setClosed n
      (s.finishCmd n opClose .ok).finishCmds n .linkFailed
    else s.lateTp)

/-! ## ACK and NACK (R331, R332, R341) -/

/-- An ACK with this base and map covers the PSN. -/
def ackCovers (base map psn : Nat) : Bool :=
  let back := psnDist psn base
  let ahead := psnDist base psn
  (decide (1 ≤ back) && decide (back < 2 ^ 31)) || (decide (1 ≤ ahead) && decide (ahead ≤ 64) && bitOf map (ahead - 1))

/-- A packet is acknowledged: class S data counts for the partition, and a posted write with nothing left to send is no
more to be watched. -/
def State.ackOne (s : State) (e : Sent) : State :=
  let s := s.dropSent e
  let s := if 0x20 ≤ e.send.kind then s.countPart (s.tpc e.send.ctx).part 6 e.send.bytes else s
  let k := e.send.msg
  match s.msgOf k with
  | none => s
  | some m =>
    if !m.wr ∧ m.inval.isNone ∧ m.failed.isNone ∧ s.tp.sends.all (fun x => x.msg != k) ∧
        s.tp.sent.all (fun x => x.send.msg != k) then
      { s with tp := { s.tp with msgs := s.tp.msgs.filter (fun m => m.id != k) } }
    else s

def doAck (h : PktHdr) (base : BitVec 32) (map : BitVec 64) (s : State) : State :=
  s.rxDue h (fun s =>
    let n := h.ctx.toNat
    let s := (s.tp.sent.filter (fun e => e.send.ctx == n && ackCovers base.toNat map.toNat e.psn)).foldl
      (fun s e => s.ackOne e) s
    s.modTpc n (fun c => if psnDist c.txBase base.toNat < 2 ^ 31 then { c with txBase := base.toNat } else c))

/-- FAB_TP_LAST_NACK. -/
def State.noteNack (s : State) (n : Nat) (st : Status) (kind : Nat) : State :=
  let s := s.wr (FAB_TP_LAST_NACK.STATUS 0) st.code
  let s := s.wr (FAB_TP_LAST_NACK.KIND 0) kind
  let s := s.wr (FAB_TP_LAST_NACK.NODE 0) (s.tpc n).node
  s.wr (FAB_TP_LAST_NACK.MERIDIAN 0) s.mer32

/-- A NACK of a control packet, which carries no PSN. -/
def State.nackControl (s : State) (n : Nat) (st : Status) : State :=
  let c := s.tpc n
  if st = .ctxBusy ∨ st = .staleMap then
    let hold (x : Send) : Send := { x with heldAt := if st = .staleMap then some s.curEpoch else none }
    { s with tp := { s.tp with busy := s.tp.busy ++ (s.unanswered n).map hold } }
  else if st = .refusedPolicy ∧ c.state = 1 then s.failCtx n .refusedPolicy
  else if st = .keyGenGone ∧ c.offered.isSome then
    ((s.setTpc n { c with offered := none }).report (tpReport st (some c.part) 0xFF n 0 0x0B)).finishCmd n opSwitch st
  else s

/-- NACK: the units come back; CTX_BUSY, REFUSED_FULL and STALE_MAP cause a re-send, every other status fails the packet's
message or request. A packet refused under the epoch that is still current is held until it advances (R341). -/
def doNack (h : PktHdr) (psn : BitVec 32) (status : Status) (units : BitVec 16) (s : State) : State :=
  s.rxDue h (fun s =>
    let n := h.ctx.toNat
    match s.findSent n psn.toNat with
    | none => (s.noteNack n status 0).nackControl n status
    | some e =>
      let s := ((s.noteNack n status e.send.kind).dropSent e).modTpc n (fun c => { c with held := c.held + units.toNat })
      if status = .ctxBusy ∨ status = .refusedFull then s.requeue e { e.send with paid := false }
      else if status = .staleMap then
        let stale := e.epoch == s.curEpoch
        let s := if stale then s.inc (FAB_TP_STALE_HELD.COUNT 0) else s
        s.requeue e { e.send with paid := false, heldAt := if stale then some e.epoch else none }
      else
        let s := if status = .keyGenGone then
            s.report (tpReport status (some (s.tpc n).part) 0xFF n 0 e.send.kind)
          else s
        s.failSend e.send status)

/-! ## Credit and keys -/

/-- CREDIT: GRANTED counts every unit granted since OPEN. -/
def doCredit (h : PktHdr) (granted : BitVec 32) (s : State) : State :=
  s.rxDue h (fun s =>
    let n := h.ctx.toNat
    let c := s.tpc n
    let k := psnDist c.granted granted.toNat
    if 2 ^ 31 ≤ k then s
    else (s.setTpc n { c with held := c.held + k, granted := granted.toNat, asked := false }).askCredit n)

/-- REVOKE: REVOKE_ACK goes out once every credited packet that was sent is acknowledged. -/
def doRevoke (h : PktHdr) (s : State) : State :=
  s.rxDue h (fun s => (s.modTpc h.ctx.toNat (fun c => { c with returnDue := true })).sendExpress h.ctx.toNat 0x0A [])

/-- REVOKE_ACK: the units that were out are back. -/
def doRevokeAck (h : PktHdr) (returned : BitVec 32) (s : State) : State :=
  s.rxDue h (fun s => s.modTpc h.ctx.toNat (fun c => { c with out := c.out - returned.toNat, revoking := false }))

def doKeychgAck (h : PktHdr) (gen : BitVec 8) (s : State) : State :=
  s.rxDue h (fun s =>
    let n := h.ctx.toNat
    if (s.tpc n).offered ≠ some gen.toNat then s.lateTp
    else
      (s.modTpc n (fun c => if c.txGen = gen.toNat then { c with offered := none } else c.switchKey)).finishCmd n opSwitch .ok)

/-- INVAL_ACK: the invalidation is complete. -/
def doInvalAck (h : PktHdr) (addr : BitVec 64) (s : State) : State :=
  s.rxDue h (fun s =>
    match s.tp.msgs.find? (fun m => m.inval == some addr.toNat && m.ctx == h.ctx.toNat) with
    | none => s.lateTp
    | some m =>
      if m.failed.isSome then s.modMsg m.id (fun m => { m with inval := none })
      else { s with tp := { s.tp with msgs := s.tp.msgs.filter (fun x => x.id != m.id) } })

/-! ## Timers and fetches -/

/-- An ACK is due for what has arrived. -/
def doAckSend (n : BitVec 16) (s : State) : State := if (s.tpc n.toNat).arrivals = 0 then s else s.sendAck n.toNat

/-- A backing entry has been fetched (R320): a seal that fails its check moves the context to FAILED; otherwise the context
is cached, once a frame is free, and the packets that waited for it are processed in order. -/
def doCtxFetchDone (n : BitVec 16) (good : Bool) (s : State) : State :=
  let n := n.toNat
  if !s.tp.fetching.contains n then s
  else if !good then
    (State.failCtx { s with tp := { s.tp with fetching := s.tp.fetching.erase n } } n .uncorrected)
  else if s.accessStatus (s.backingAt n) 256 ≠ .ok then
    let a := s.backingAt n
    (State.failCtx { s with tp := { s.tp with fetching := s.tp.fetching.erase n } } n (s.accessStatus a 256)).noteAccess
      false (memReport Blk.FAB.code 0 0xFF (some (s.tpc n).part) a) a 256
  else
    match s.makeFrame with
    | none => s.squeeze
    | some s =>
      let ms := s.tp.misses.filter (fun m => m.ctx == n)
      let s := { s with tp := { s.tp with fetching := s.tp.fetching.erase n,
                                          misses := s.tp.misses.filter (fun m => m.ctx != n) } }
      let s := ((s.setCached n true).touch n).countTp
      (ms.foldl (fun s m => s.rxMiss m) s).askCredit n

def execOpenPacket (h : PktHdr) (srcCtx : BitVec 16) (aes : Bool) (s : State) : Host.Outcome State Fault Refusal := .next (doOpenPacket h srcCtx aes s)
def execClose (h : PktHdr) (s : State) : Host.Outcome State Fault Refusal := .next (doClose h s)
def execCreditReq (h : PktHdr) (want : BitVec 18) (s : State) : Host.Outcome State Fault Refusal := .next (doCreditReq h want s)
def execInval (h : PktHdr) (addr : BitVec 64) (s : State) : Host.Outcome State Fault Refusal := .next (doInval h addr s)
def execKeychg (h : PktHdr) (gen : BitVec 8) (s : State) : Host.Outcome State Fault Refusal := .next (doKeychg h gen s)
def execOpenAck (h : PktHdr) (s : State) : Host.Outcome State Fault Refusal := .next (doOpenAck h s)
def execCloseAck (h : PktHdr) (s : State) : Host.Outcome State Fault Refusal := .next (doCloseAck h s)
def execAck (h : PktHdr) (base : BitVec 32) (map : BitVec 64) (s : State) : Host.Outcome State Fault Refusal := .next (doAck h base map s)
def execNack (h : PktHdr) (psn : BitVec 32) (status : Status) (units : BitVec 16) (s : State) : Host.Outcome State Fault Refusal := .next (doNack h psn status units s)
def execCredit (h : PktHdr) (granted : BitVec 32) (s : State) : Host.Outcome State Fault Refusal := .next (doCredit h granted s)
def execRevoke (h : PktHdr) (s : State) : Host.Outcome State Fault Refusal := .next (doRevoke h s)
def execRevokeAck (h : PktHdr) (returned : BitVec 32) (s : State) : Host.Outcome State Fault Refusal := .next (doRevokeAck h returned s)
def execKeychgAck (h : PktHdr) (gen : BitVec 8) (s : State) : Host.Outcome State Fault Refusal := .next (doKeychgAck h gen s)
def execInvalAck (h : PktHdr) (addr : BitVec 64) (s : State) : Host.Outcome State Fault Refusal := .next (doInvalAck h addr s)
def execAckSend (n : BitVec 16) (s : State) : Host.Outcome State Fault Refusal := .next (doAckSend n s)
def execCtxFetchDone (n : BitVec 16) (good : Bool) (s : State) : Host.Outcome State Fault Refusal := .next (doCtxFetchDone n good s)

end Sys2Proof.Machine
end

