-- ==== Sys2Proof/Machine/Inbound.lean ====
section
/-! DEFINITION. Class C and class S packets at their receiver: regions, placement, atomics, messages, layers, flushes and
responses (R277, R282, R289, R325, R333 to R340). -/

namespace Sys2Proof.Machine

/-- An access outside every region with its key and permission (R325). -/
def State.keyMismatch (s : State) : State := s.inc (FAB_TP_KEY_MISMATCH.COUNT 0)

/-- What an atomic does at the target: the old value, and the write of the new one. None where the bytes cannot be read
now; a status where they cannot be at all. -/
def State.atomic (s : State) (at_ : Src) (good : Bool) (f : Word → Word) : Option (State × Status × Word) :=
  let r := s.readSrc at_ 8 good
  if r.held then none
  else if r.status ≠ .ok then some (s.noteSrc at_ 8 good, r.status, 0)
  else
    let old := BitVec.ofNat 64 (leNat r.data)
    some (if f old = old then s else s.writeSrc at_ (leBytes 8 (f old).toNat), .ok, old)

/-! ## Class C, in PSN order (R325, R333, R337, R339, R340) -/

/-- A class C packet that is refused: its window place is kept, its units return. -/
def State.refuseC (s : State) (n : Nat) (k : CPkt) (st : Status) : State :=
  (s.noteRefused n k.kind k.psn).sendNack n k.psn st ((s.tpc n).units 0)

/-- Apply a class C packet: none where its data cannot be read yet. -/
def State.applyC (s : State) (n : Nat) (k : CPkt) : Option State :=
  let p := (s.tpc n).part
  let u := (s.tpc n).units 0
  let size := if k.kind = 0x10 ∨ k.kind = 0x11 then 2 ^ k.size else 8
  let perm := if k.kind = 0x10 then 0 else if k.kind = 0x11 ∨ k.kind = 0x14 then 1 else 2
  match s.regionAt p k.addr size k.key perm with
  | none => some (s.keyMismatch.refuseC n k .keyMismatch)
  | some r =>
    let at_ := s.regionSrc p r k.addr
    if k.kind = 0x10 then
      let whole := k.line && s.on (FAB_RGN_W3.CACHE 0 p r)
      let src := if whole then s.regionSrc p r (k.addr / 64 * 64) else at_
      let d := s.readSrc src (if whole then 64 else size) k.good
      if d.held then none
      else
        let v := leNat ((if whole then d.data.drop (k.addr % 64) else d.data).take size)
        let s := if d.status = .ok then s else s.noteSrc src size k.good
        some ((s.sendReply n k.psn 0x15 [k.req, d.status.code, if d.status = .ok then v else 0]
          (if whole && d.status == .ok then d.data else [])).placed n u)
    else if k.kind = 0x11 ∨ k.kind = 0x14 then
      match s.writeSrcStatus at_ size with
      | .ok =>
        let s := (s.writeSrc at_ (leBytes size k.data.toNat)).placed n u
        some (if k.kind = 0x14 then s.bell p k.source else s)
      | st => some ((s.writeSrc at_ (leBytes size k.data.toNat)).refuseC n k st)
    else
      let f (old : Word) : Word := if k.kind = 0x12 then old + k.data else if old = k.data then k.swap else old
      (s.atomic at_ k.good f).map (fun x =>
        (x.1.sendReply n k.psn 0x15 [k.req, x.2.1.code, x.2.2.toNat] []).placed n u)

/-- The PSN lies below the window base. -/
def TpCtx.passed (c : TpCtx) (psn : Nat) : Bool :=
  decide (1 ≤ psnDist psn c.rxBase) && decide (psnDist psn c.rxBase < 2 ^ 31)

/-- The waiting class C packet of the lowest PSN, where no gap lies before it. -/
def TpCtx.nextC (c : TpCtx) : Option CPkt :=
  (firstBy (fun k : CPkt => 2 ^ 32 - psnDist k.psn c.rxBase) (c.waitC.filter (fun k => c.passed k.psn)))

/-- Apply class C packets in PSN order. -/
def State.runC (n : Nat) : Nat → State → State
  | 0, s => s
  | fuel + 1, s =>
    match (s.tpc n).nextC with
    | none => s
    | some k =>
      match State.applyC (s.modTpc n (fun c => { c with waitC := c.waitC.erase k })) n k with
      | some s => State.runC n fuel s
      | none => s

/-! ## Flushes (R335) -/

/-- Every PSN below UPTO has been received and placed. -/
def TpCtx.flushReady (c : TpCtx) (upto : Nat) : Bool :=
  decide (psnDist upto c.rxBase < 2 ^ 31) && c.waitC.all (fun k => decide (2 ^ 31 ≤ psnDist k.psn upto) || k.psn == upto)

/-- Answer the flushes that are ready: LINK_FAILED where a write below UPTO was refused. -/
def State.runF (s : State) (n : Nat) : State :=
  ((s.tpc n).waitF.filter (fun f => (s.tpc n).flushReady f.2.2)).foldl (fun s f =>
    let c := s.tpc n
    let below (psn : Nat) : Bool := decide (1 ≤ psnDist psn f.2.2) && decide (psnDist psn f.2.2 < 2 ^ 31)
    let st : Status := if c.refused.any below then .linkFailed else .ok
    (s.setTpc n { c with waitF := c.waitF.erase f, refused := c.refused.filter (fun r => !below r) }).sendExpress n 0x25
      [f.2.1, st.code, 0, 0]) s

/-- What an arrival lets go on: class C packets behind a gap that is filled, and flushes. -/
def State.afterRx (s : State) (n : Nat) : State := (State.runC n (s.tpc n).waitC.length s).runF n

def State.rxC (s : State) (h : PktHdr) (k : CPkt) : State :=
  let n := h.ctx.toNat
  (s.rxPsn h k.kind 0 (fun s => (s.modTpc n (fun c => { c with waitC := c.waitC ++ [k] }), .waits))).afterRx n

def doCLoad (h : PktHdr) (addr : BitVec 44) (key : BitVec 32) (size : BitVec 2) (line : Bool) (req : BitVec 16)
    (good : Bool) (s : State) : State :=
  s.rxC h { kind := 0x10, psn := h.psn.toNat, addr := addr.toNat, key := key.toNat, size := size.toNat, line := line,
            req := req.toNat, good := good }

def doCStore (h : PktHdr) (addr : BitVec 44) (key : BitVec 32) (size : BitVec 2) (data : Word) (s : State) : State :=
  s.rxC h { kind := 0x11, psn := h.psn.toNat, addr := addr.toNat, key := key.toNat, size := size.toNat, data := data }

def doCAdd (h : PktHdr) (addr : BitVec 44) (key : BitVec 32) (req : BitVec 16) (data : Word) (good : Bool) (s : State) :
    State :=
  s.rxC h { kind := 0x12, psn := h.psn.toNat, addr := addr.toNat, key := key.toNat, req := req.toNat, data := data,
            good := good }

def doCCas (h : PktHdr) (addr : BitVec 44) (key : BitVec 32) (req : BitVec 16) (compare swap : Word) (good : Bool)
    (s : State) : State :=
  s.rxC h { kind := 0x13, psn := h.psn.toNat, addr := addr.toNat, key := key.toNat, req := req.toNat, data := compare,
            swap := swap, good := good }

def doCMbox (h : PktHdr) (addr : BitVec 44) (key : BitVec 32) (source : BitVec 12) (data : Word) (s : State) : State :=
  s.rxC h { kind := 0x14, psn := h.psn.toNat, addr := addr.toNat, key := key.toNat, source := source.toNat, data := data }

/-! ## Responses (R67, R335 to R338) -/

/-- A response no request waits for is dropped and counted, with a record. -/
def State.lateResponse (s : State) (n kind : Nat) : State :=
  s.lateTp.report { tpReport .ok (some (s.tpc n).part) 0xFF n 0 kind with sev := 0 }

/-- The context still waits for this request. -/
def State.stillWaits (s : State) (r : Req) : Bool :=
  match r.owner with
  | .remote u c =>
    (match ctxOf u c with
     | some x => (match (s.ctx x).wait with
        | .remote _ _ _ _ q => q == r.ctx * 65536 + r.req
        | _ => false)
     | none => false)
  | _ => true

/-- C_RESP: the line that came with it is kept unless an INVAL overtook it. -/
def doCResp (h : PktHdr) (req : BitVec 16) (status : Status) (data : Word) (line : Bytes) (s : State) : State :=
  let n := h.ctx.toNat
  (s.rxPsn h 0x15 line.length (fun s =>
    match s.findReq n req.toNat with
    | none => (s.lateResponse n 0x15, .taken)
    | some r =>
      let s := s.dropReq r
      if !s.stillWaits r then (s.lateResponse n 0x15, .taken)
      else
        let s := match r.line with
          | some l =>
            if status = Status.ok ∧ line.length = 64 then
              let s := s.inc (FAB_RLC_MISS.COUNT 0)
              if r.keep then s.useLine { line := l.1, key := l.2.1, part := l.2.2, data := line } else s
            else s
          | none => s
        (s.finishReq r status data false, .taken))).afterRx n

/-- S_RESP. -/
def doSResp (h : PktHdr) (req : BitVec 16) (status : Status) (mf : Bool) (result : Word) (s : State) : State :=
  let n := h.ctx.toNat
  (s.rxPsn h 0x25 0 (fun s =>
    match s.findReq n req.toNat with
    | none => (s.lateResponse n 0x25, .taken)
    | some r => (s.endReq r status result mf, .taken))).afterRx n

/-- Class S data placed for a partition (Table 23-1). -/
def State.countRx (s : State) (p bytes : Nat) : State := s.countPart p 7 bytes

/-- S_READ_DATA: placed in memory, or gathered for the engine; `good` is the verdict a RESTORE needs on its frames. -/
def doSReadData (h : PktHdr) (req : BitVec 16) (off len : BitVec 40) (data : Bytes) (good : Bool) (s : State) : State :=
  let n := h.ctx.toNat
  (s.rxPsn h 0x22 data.length (fun s =>
    match s.findReq n req.toNat with
    | none => (s.lateResponse n 0x22, .taken)
    | some r =>
      let st : Status := match r.dst with
        | some d => s.writeSrcStatus (d.plus off.toNat) data.length
        | none => .ok
      let s := match r.dst with
        | some d => (s.writeSrc (d.plus off.toNat) data).countRx (s.tpc n).part (if st = Status.ok then data.length else 0)
        | none =>
          (match r.owner with
           | .wr i => s.modWr i (fun w => { w with buf := placeAt w.buf (r.base + off.toNat) data })
           | _ => s)
      if st ≠ .ok then (s.finishReq r st 0 false, .taken)
      else
        let got := r.got + data.length
        match r.owner with
        | .wr i =>
          let s := if r.dst.isSome then s.wr (HEL_INFLIGHT_W2.SENT i) got else s
          if len.toNat ≤ got then ((s.dropReq r).readDone i got good, .taken)
          else
            ({ s with tp := { s.tp with reqs := s.tp.reqs.map (fun (q : Req) =>
              if q.ctx = r.ctx ∧ q.req = r.req then { q with got := got } else q) } }, .taken)
        | _ => (s.dropReq r, .taken))).afterRx n

/-! ## Inbound messages (R277, R334) -/

/-- Bytes of distinct pieces that have been placed. -/
def InMsg.placed (m : InMsg) : Nat := m.ranges.foldl (fun k r => k + r.2) 0

/-- The entry of a message. -/
def State.inMsgAt (s : State) (n : Nat) (layer : Option (Nat × Nat × Nat)) (msg : Nat) : Option InMsg :=
  s.tp.inMsgs.find? (fun m => m.ctx == n && m.layer == layer && m.msg == msg)

/-- The table has room for a packet of the message. -/
def State.msgRoom (s : State) (n : Nat) (layer : Option (Nat × Nat × Nat)) (msg : Nat) : Bool :=
  (s.inMsgAt n layer msg).isSome || decide (s.tp.inMsgs.length < 8192)

/-- A piece of a message is placed: its first piece takes an entry. -/
def State.notePiece (s : State) (m : InMsg) (off len : Nat) : State :=
  let ms := if (s.inMsgAt m.ctx m.layer m.msg).isSome then s.tp.inMsgs else s.tp.inMsgs ++ [m]
  State.countTp { s with tp := { s.tp with inMsgs := ms.map (fun (x : InMsg) =>
    if x.ctx = m.ctx ∧ x.layer = m.layer ∧ x.msg = m.msg ∧ !x.ranges.contains (off, len) then
      { x with ranges := (off, len) :: x.ranges }
    else x) } }

/-- S_WRITE: checked against its region and placed at its address. A release word of a barrier gives its tokens (R401). -/
def doSWrite (h : PktHdr) (addr : BitVec 44) (off len : BitVec 40) (key tag : BitVec 32) (msg : BitVec 16)
    (ctrInc : BitVec 5) (data : Bytes) (s : State) : State :=
  let n := h.ctx.toNat
  let c := s.tpc n
  let p := c.part
  (s.rxPsn h 0x20 data.length (fun s =>
    match s.regionAt p addr.toNat data.length key.toNat 1 with
    | none => (s.keyMismatch, .refused .keyMismatch)
    | some r =>
      if !s.msgRoom n none msg.toNat then (s.inc (FAB_TP_MSG_FULL.COUNT 0), .again .refusedFull)
      else
        let at_ := s.regionSrc p r addr.toNat
        match s.writeSrcStatus at_ data.length with
        | .ok =>
          let s := ((s.writeSrc at_ data).countRx p data.length).notePiece
            { ctx := n, msg := msg.toNat, part := p, node := c.node, tag := tag.toNat, ctrInc := ctrInc.toNat,
              len := len.toNat } off.toNat data.length
          let slot := (addr.toNat - s.barReleaseOff 0) / 8
          let s := if s.mapCurrent && p == mapBarPart s.prt.cur && decide (s.barReleaseOff 0 ≤ addr.toNat) &&
              decide (slot < 64) && data.length == 8 then s.barRelease slot (leNat data)
            else s
          (s, .taken)
        | st => (s.writeSrc at_ data, .refused st))).afterRx n

/-- S_LAYER (R289): its key, its record and its epoch are checked; the first packet placed opens an inbound handover entry
and moves the record to HANDOVER_IN. -/
def State.layerRefusal (s : State) (p : Nat) (reqId : Word) (hkey epoch rec_ total : Nat) : Status :=
  let key := s.rd (HEL_P_HKEY.KEY p)
  if key = 0 ∨ hkey ≠ key then .keyMismatch
  else if s.recWord rec_ 1 ≠ reqId ∨ s.recF rec_ Rec.PART ≠ p ∨ !s.inStates rec_ [.admitted, .handoverIn] ∨
      epoch < s.recF rec_ Rec.OWN_EPOCH ∨
      (s.findHo true (fun h => s.rd (hoRecord true h) == rec_ && decide (epoch < s.rd (hoEpoch true h)))).isSome then .notOwner
  else if total = 0 then .badLength
  else if s.role p = 0 ∨ s.role p = 1 then .refusedPolicy
  else .ok

/-- The refusal is of an epoch that is too old (R284). -/
def State.staleLayer (s : State) (epoch rec_ : Nat) : Bool :=
  decide (epoch < s.recF rec_ Rec.OWN_EPOCH) ||
  (s.findHo true (fun h => s.rd (hoRecord true h) == rec_ && decide (epoch < s.rd (hoEpoch true h)))).isSome

/-- The inbound entry of a handover: the one that is open, or a new one in place of an older epoch's. -/
def State.inboundEntry (s : State) (rec_ p node : Nat) (reqId : Word) (epoch total : Nat) : Option (State × Nat) :=
  match s.findHo true (fun h => s.rd (hoRecord true h) == rec_ && s.rd (hoEpoch true h) == epoch) with
  | some h => some (s, h)
  | none =>
    let s := match s.findHo true (fun h => s.rd (hoRecord true h) == rec_) with
      | some h => s.closeHo true h
      | none => s
    (s.freeHo true).map (fun h => (s.openHo true h rec_ p node reqId epoch total, h))

def doSLayer (h : PktHdr) (reqId : Word) (hkey epoch : BitVec 32) (rec_ : Fin 16384) (layer total : BitVec 8)
    (units : BitVec 40) (addr : BitVec 53) (data : Bytes) (s : State) : State :=
  let n := h.ctx.toNat
  let c := s.tpc n
  let p := c.part
  let key := (rec_.val, epoch.toNat, layer.toNat)
  (s.rxPsn h 0x26 data.length (fun s =>
    match s.layerRefusal p reqId hkey.toNat epoch.toNat rec_ total.toNat with
    | .ok =>
      if !s.msgRoom n (some key) 0 then (s.inc (FAB_TP_MSG_FULL.COUNT 0), .again .refusedFull)
      else
        let at_ : Src := { part := some p, addr := tensorAddr 1 addr.toNat }
        match s.writeSrcStatus at_ data.length with
        | .ok =>
          (match s.inboundEntry rec_ p c.node reqId epoch.toNat total.toNat with
           | none => (s, .again .refusedFull)
           | some e =>
             let s := (e.1.writeSrc at_ data).countRx p data.length
             let s := s.add (hoBytes true e.2) data.length
             let s := if s.inState rec_ .admitted then s.setRecState rec_ .handoverIn else s
             (s.notePiece { ctx := n, layer := some key, part := p, node := c.node,
                            len := units.toNat * 64 / total.toNat } addr.toNat data.length, .taken))
        | st => (s.writeSrc at_ data, .refused st)
    | st =>
      let s := if st = .keyMismatch then s.keyMismatch
        else if st = .notOwner ∧ s.staleLayer epoch.toNat rec_ then s.inc HEL_STALE_EPOCH.COUNT
        else s
      (s, .refused st))).afterRx n

/-- Every byte of an inbound message has been placed: its entry is free; a WRITE raises its trigger counter and meets the
MESSAGE triggers, a layer sets its bit, and a full mask makes the close due (R276, R277, R289). -/
def doMessageComplete (i : Nat) (s : State) : State :=
  match s.tp.inMsgs[i]? with
  | none => s
  | some m =>
    if m.placed < m.len then s
    else
      let s := State.countTp { s with tp := { s.tp with inMsgs := s.tp.inMsgs.eraseIdx i } }
      match m.layer with
      | none =>
        (s.bumpCounter m.part m.ctrInc).markTrigs 1 (fun k =>
          s.trigPart k == m.part && getBits (s.trigWord k 7) 2 14 == m.node && getBits (s.trigWord k 7) 32 32 == m.tag)
      | some (r, e, l) =>
        match s.findHo true (fun h => s.rd (hoRecord true h) == r && s.rd (hoEpoch true h) == e) with
        | none => s
        | some h =>
          let s := s.setHoBit true h l
          if s.hoFull true h ∧ !(s.inn h).sent then s.setInn h { s.inn h with due := true } else s

/-! ## Class S requests -/

/-- S_READ: the data follows as S_READ_DATA, read when it is sent (R325, R344). -/
def doSRead (h : PktHdr) (addr : BitVec 44) (len : BitVec 40) (key : BitVec 32) (req : BitVec 16) (s : State) : State :=
  let n := h.ctx.toNat
  let p := (s.tpc n).part
  (s.rxPsn h 0x21 0 (fun s =>
    match s.regionAt p addr.toNat len.toNat key.toNat 0 with
    | none => (s.keyMismatch, .refused .keyMismatch)
    | some r =>
      (s.offer { ctx := n, kind := 0x22, tk := 4, flds := [req.toNat, 0, len.toNat],
                 src := some (s.regionSrc p r addr.toNat), left := len.toNat }, .taken))).afterRx n

/-- S_ATOM: CAS (op 0) or FADD (op 1). One whose bytes cannot be read now is sent again (DEDUCED, log 24). -/
def doSAtom (h : PktHdr) (addr : BitVec 44) (key : BitVec 32) (req : BitVec 16) (op : Bool) (compare operand : Word)
    (good : Bool) (s : State) : State :=
  let n := h.ctx.toNat
  let p := (s.tpc n).part
  (s.rxPsn h 0x23 0 (fun s =>
    match s.regionAt p addr.toNat 8 key.toNat 2 with
    | none => (s.keyMismatch, .refused .keyMismatch)
    | some r =>
      let f (old : Word) : Word := if op then old + operand else if old = compare then operand else old
      match s.atomic (s.regionSrc p r addr.toNat) good f with
      | none => (s, .again .ctxBusy)
      | some x =>
        let s := x.1.sendReply n h.psn.toNat 0x25 [req.toNat, x.2.1.code, 0, x.2.2.toNat] []
        (if s.mapCurrent && p == mapBarPart s.prt.cur then s.barRoot addr.toNat else s, .taken))).afterRx n

/-- S_OWN reaches the anchor; its epoch is judged there (R282). -/
def doSOwn (h : PktHdr) (req : BitVec 16) (op : BitVec 2) (reqId expected new : Word) (mirror : Bool)
    (mirrorNode : BitVec 14) (mirrorPart : BitVec 6) (s : State) : State :=
  let n := h.ctx.toNat
  (s.rxPsn h 0x24 0 (fun s =>
    (s.ownArrive { src := some (n, h.psn.toNat, req.toNat), kind := op.toNat, part := (s.tpc n).part,
                   epoch := h.epoch.toNat, req := reqId, expected := expected, new := new, mirror := mirror,
                   mirrorNode := mirrorNode.toNat, mirrorPart := mirrorPart.toNat }, .taken))).afterRx n

/-- S_FLUSH waits until everything below UPTO is there. -/
def doSFlush (h : PktHdr) (req : BitVec 16) (upto : BitVec 32) (s : State) : State :=
  let n := h.ctx.toNat
  (s.rxPsn h 0x27 0 (fun s =>
    (s.modTpc n (fun c => { c with waitF := c.waitF ++ [(h.psn.toNat, req.toNat, upto.toNat)] }), .taken))).afterRx n

def execCLoad (h : PktHdr) (addr : BitVec 44) (key : BitVec 32) (size : BitVec 2) (line : Bool) (req : BitVec 16) (good : Bool) (s : State) : Host.Outcome State Fault Refusal := .next (doCLoad h addr key size line req good s)
def execCStore (h : PktHdr) (addr : BitVec 44) (key : BitVec 32) (size : BitVec 2) (data : Word) (s : State) : Host.Outcome State Fault Refusal := .next (doCStore h addr key size data s)
def execCAdd (h : PktHdr) (addr : BitVec 44) (key : BitVec 32) (req : BitVec 16) (data : Word) (good : Bool) (s : State) : Host.Outcome State Fault Refusal := .next (doCAdd h addr key req data good s)
def execCCas (h : PktHdr) (addr : BitVec 44) (key : BitVec 32) (req : BitVec 16) (compare swap : Word) (good : Bool) (s : State) : Host.Outcome State Fault Refusal := .next (doCCas h addr key req compare swap good s)
def execCMbox (h : PktHdr) (addr : BitVec 44) (key : BitVec 32) (source : BitVec 12) (data : Word) (s : State) : Host.Outcome State Fault Refusal := .next (doCMbox h addr key source data s)
def execCResp (h : PktHdr) (req : BitVec 16) (status : Status) (data : Word) (line : Bytes) (s : State) : Host.Outcome State Fault Refusal :=
  if decide (line.length = 0 ∨ line.length = 64) then .next (doCResp h req status data line s) else .fault .illFormed


def execSResp (h : PktHdr) (req : BitVec 16) (status : Status) (mf : Bool) (result : Word) (s : State) : Host.Outcome State Fault Refusal := .next (doSResp h req status mf result s)
def execSReadData (h : PktHdr) (req : BitVec 16) (off len : BitVec 40) (data : Bytes) (good : Bool) (s : State) : Host.Outcome State Fault Refusal :=
  if decide (1 ≤ data.length) && decide (data.length ≤ 4036) then .next (doSReadData h req off len data good s) else .fault .illFormed

def execSWrite (h : PktHdr) (addr : BitVec 44) (off len : BitVec 40) (key tag : BitVec 32) (msg : BitVec 16) (ctrInc : BitVec 5) (data : Bytes) (s : State) : Host.Outcome State Fault Refusal :=
  if decide (1 ≤ data.length) && decide (data.length ≤ 4036) then .next (doSWrite h addr off len key tag msg ctrInc data s) else .fault .illFormed

def execSLayer (h : PktHdr) (reqId : Word) (hkey epoch : BitVec 32) (rec_ : Fin 16384) (layer total : BitVec 8) (units : BitVec 40) (addr : BitVec 53) (data : Bytes) (s : State) : Host.Outcome State Fault Refusal :=
  if decide (1 ≤ data.length) && decide (data.length ≤ 4036) then .next (doSLayer h reqId hkey epoch rec_ layer total units addr data s) else .fault .illFormed

def execMessageComplete (i : Nat) (s : State) : Host.Outcome State Fault Refusal := .next (doMessageComplete i s)
def execSRead (h : PktHdr) (addr : BitVec 44) (len : BitVec 40) (key : BitVec 32) (req : BitVec 16) (s : State) : Host.Outcome State Fault Refusal := .next (doSRead h addr len key req s)
def execSAtom (h : PktHdr) (addr : BitVec 44) (key : BitVec 32) (req : BitVec 16) (op : Bool) (compare operand : Word) (good : Bool) (s : State) : Host.Outcome State Fault Refusal := .next (doSAtom h addr key req op compare operand good s)
def execSOwn (h : PktHdr) (req : BitVec 16) (op : BitVec 2) (reqId expected new : Word) (mirror : Bool) (mirrorNode : BitVec 14) (mirrorPart : BitVec 6) (s : State) : Host.Outcome State Fault Refusal :=
  if op != 3 then .next (doSOwn h req op reqId expected new mirror mirrorNode mirrorPart s) else .fault .illFormed

def execSFlush (h : PktHdr) (req : BitVec 16) (upto : BitVec 32) (s : State) : Host.Outcome State Fault Refusal := .next (doSFlush h req upto s)

end Sys2Proof.Machine
end

