-- ==== Sys2Proof/Machine/Links.lean ====
section
/-! DEFINITION. Fabric ports: link blocks, link states, lanes and their spares, recalibration, and laser cartridges (R302
to R315). -/

namespace Sys2Proof.Machine

/-! ## A port -/

def State.link (s : State) (f : Nat) : Link := Tab.get (fun _ => {}) s.fab.links f

def State.setLink (s : State) (f : Nat) (v : Link) : State :=
  { s with fab := { s.fab with links := Tab.put (fun _ => {}) s.fab.links f v } }

def State.modLink (s : State) (f : Nat) (g : Link → Link) : State := s.setLink f (g (s.link f))

/-- Table 14-4: 0 DISABLED, 1 TRAINING, 2 ALIGN, 3 UP, 4 RETRAIN, 5 FAILED. -/
def State.linkState (s : State) (f : Nat) : Nat := s.rd (FAB_LINK_STATE.STATE f)

/-- Ring a doorbell source that names no partition: the ring goes to the source's own (R378). -/
def State.bellSource (s : State) (src : Nat) : State := s.bell (s.rd (DBH_SOURCE.PART src)) src

/-- Every change of state shows in FAB_LINK_STATE and rings; one to FAILED has a record (R306). -/
def State.setLinkState (s : State) (f st : Nat) : State :=
  if s.linkState f = st then s
  else
    let s := (s.wr (FAB_LINK_STATE.STATE f) st).bellSource (s.rd (FAB_LINK_CFG.DB_SOURCE f))
    if st = 5 then s.report { cls := 0x05, sev := 0, blk := Blk.FAB.code, inst := f, d0 := f, d1 := st } else s

/-! ## Lanes -/

def State.laneState (s : State) (f l : Nat) : Nat := s.rd (FAB_LANE_W2.LSTATE f l)
def State.setLaneState (s : State) (f l st : Nat) : State := s.wr (FAB_LANE_W2.LSTATE f l) st

/-- The physical lane of a logical position. -/
def laneMapField (f pos : Nat) : FieldRef :=
  if pos < 8 then { FAB_LANE_MAP0.POS0 f with lo := 8 * pos } else { FAB_LANE_MAP1.POS8 f with lo := 8 * (pos - 8) }

def State.laneAt (s : State) (f pos : Nat) : Nat := s.rd (laneMapField f pos)

def State.posOf (s : State) (f l : Nat) : Option Nat := firstBelow 16 (fun pos => s.laneAt f pos == l)

/-- ACTIVE_MASK and ACTIVE_LANES follow the lane table. -/
def State.showLanes (s : State) (f : Nat) : State :=
  let ls := (List.range 20).filter (fun l => s.laneState f l == 0)
  (s.wr (FAB_LINK_STATE.ACTIVE_LANES f) ls.length).wr (FAB_LINK_STATE.ACTIVE_MASK f) (ls.foldl (fun m l => m + 2 ^ l) 0)

def State.activeLanes (s : State) (f : Nat) : Nat := s.rd (FAB_LINK_STATE.ACTIVE_LANES f)

/-- Logical positions whose lane is active. -/
def State.activePos (s : State) (f : Nat) : List Nat := (List.range 16).filter (fun pos => s.laneState f (s.laneAt f pos) == 0)

def State.setSpares (s : State) (f n : Nat) : State :=
  let s := s.modLink f (fun k => { k with spares := n })
  let k := (List.range 4).foldl (fun k f => k + (s.link f).spares) 0
  let s := s.wr FLT_SPARES.LANES k
  s.wr FLT_SPARES.EMPTY (if k = 0 then withBit (s.rd FLT_SPARES.EMPTY) 2 else withoutBit (s.rd FLT_SPARES.EMPTY) 2)

/-- The locked spare lanes of a port, in rising order. -/
def State.spareLanes (s : State) (f : Nat) : List Nat :=
  (List.range 20).filter (fun l => s.laneState f l == 1 && bitOf (s.link f).locked l)

/-- A locked spare that no waiting substitution takes. -/
def State.spareFree (s : State) (f : Nat) : Bool := decide ((s.link f).substs.length < (s.spareLanes f).length)

/-- Every lane adapts. -/
def State.adaptLanes (s : State) (f : Nat) : State :=
  let s := (List.range 20).foldl (fun s l => s.setLaneState f l 2) s
  (s.modLink f (fun k => { k with locked := 0, substs := [], recal := [] })).showLanes f

/-- The active set: the lowest-numbered 16 locked lanes, or all of them; the rest are spares. -/
def State.setLanes (s : State) (f mask : Nat) : State :=
  let locked := (List.range 20).filter (fun l => bitOf mask l)
  let active := locked.take 16
  let rest := (List.range 20).filter (fun l => !active.contains l)
  let s := ((active ++ rest).take 16).mapIdx (fun i l => (i, l)) |>.foldl (fun s e => s.wr (laneMapField f e.1) e.2) s
  let s := active.foldl (fun s l => s.setLaneState f l 0) s
  let s := rest.foldl (fun s l => s.setLaneState f l 1) s
  ((s.modLink f (fun k => { k with locked := mask, nextLane := 0 })).setSpares f (locked.length - active.length)).showLanes f

/-! ## Blocks (R303, R304) -/

def seqDist (a b : Nat) : Nat := (b + 2 ^ 24 - a) % 2 ^ 24

def State.emitBlock (s : State) (f kind seq : Nat) : State := s.emit (.linkBlock f kind seq)

/-- The control cycle of the meridian, and the last one (R353). -/
def State.ctlCycle (s : State) : Nat := s.cycle / 2
def State.lastCtl (s : State) : Nat := lenCycles s.merLen / 2 - 1

/-- A gate entry in force that is open to the class at a control cycle, with `guard` cycles before it closes; it closes at
the meridian's last control cycle at the latest (R353, R354). -/
def State.gateEntry (s : State) (f c x guard g : Nat) : Bool :=
  let w := Tab.get (fun _ => 0) s.orr.gates (8 * f + g)
  let stop := min (getBits w 16 15) s.lastCtl
  getBit w 40 && bitOf (getBits w 32 8) c && decide (getBits w 0 15 ≤ x) && decide (x < stop) && decide (x + guard ≤ stop)

/-- The port is open to the class now. -/
def State.gateOpen (s : State) (f c : Nat) : Bool :=
  !s.on (ORR_G_CFG.GATE_EN f) || (firstBelow 8 (s.gateEntry f c s.ctlCycle 0)).isSome

/-- A block that no gate holds leaves the port: it is counted where the port is closed to every class. -/
def State.noteGateLate (s : State) (f : Nat) : State :=
  if (firstBelow 8 (s.gateOpen f)).isSome then s else s.inc ORR_GATE_LATE.COUNT

/-- A block outside the schedule: a link re-send or a CONTROL block. -/
def State.emitUngated (s : State) (f kind seq : Nat) : State := (s.emitBlock f kind seq).noteGateLate f

/-- The next active position at or after one. -/
def State.nextPos (s : State) (f from_ : Nat) : Option Nat :=
  (firstBelow 16 (fun k => (s.activePos f).contains ((from_ + k) % 16))).map (fun k => (from_ + k) % 16)

/-- The link layer can take a DATA block. -/
def State.canSend (s : State) (f : Nat) : Bool :=
  s.linkState f == 3 && decide ((s.link f).replay.length < 1024) && (s.nextPos f (s.link f).nextLane).isSome

/-- Send a DATA block of packets on the next active lane; it stays in the replay buffer. -/
def State.sendBlock (s : State) (f : Nat) (packets : List (Nat × Nat)) : State :=
  let k := s.link f
  match s.nextPos f k.nextLane with
  | none => s
  | some pos =>
    let r : Replay := { seq := k.txSeq, lane := s.laneAt f pos, packets := packets }
    let s := s.setLink f { k with txSeq := (k.txSeq + 1) % 2 ^ 24, nextLane := (pos + 1) % 16, replay := k.replay ++ [r] }
    (s.emitBlock f 0 k.txSeq).inc (FAB_BLOCKS_TX.COUNT f)

/-- Send a block of the replay buffer again, on another active lane where there is one. -/
def State.resendBlock (s : State) (f seq : Nat) : State :=
  match (s.link f).replay.find? (fun r => r.seq == seq) with
  | none => s
  | some r =>
    let lanes := (s.activePos f).map (fun pos => s.laneAt f pos)
    let lane := ((lanes.find? (fun l => decide (r.lane < l))).orElse (fun _ => lanes.find? (fun l => l != r.lane))).getD r.lane
    let s := s.modLink f (fun k => { k with replay := k.replay.map (fun x =>
      if x.seq = seq then { x with lane := lane, resends := x.resends + 1 } else x) })
    (s.emitUngated f 0 seq).inc (FAB_RESENT.COUNT f)

/-- Deliver the block at rxSeq and those held behind it. -/
def State.deliverBlocks (f : Nat) : Nat → State → State
  | 0, s => s
  | n + 1, s =>
    let k := s.link f
    let s := (s.setLink f { k with rxSeq := (k.rxSeq + 1) % 2 ^ 24, reorder := k.reorder.erase k.rxSeq }).inc
      (FAB_BLOCKS_RX.COUNT f)
    if (s.link f).reorder.contains (s.link f).rxSeq then State.deliverBlocks f n s else s

/-- A DATA block in order, ahead of a gap, or a duplicate. A gap has a CONTROL block at once. -/
def State.rxData (s : State) (f seq : Nat) : State :=
  let k := s.link f
  let d := seqDist k.rxSeq seq
  if 2 ^ 23 ≤ d ∨ k.reorder.contains seq then s.inc (FAB_DUPLICATES.COUNT f)
  else if d = 0 then State.deliverBlocks f (k.reorder.length + 1) s
  else if 1024 ≤ d then s
  else (s.setLink f { k with reorder := seq :: k.reorder }).emitUngated f 1 0

/-- A link block arrives (R303): ty 0 IDLE, 1 DATA, 2 CONTROL, 3 PTP, with the verdict on its CRC, its ACK, and the sequence
numbers a CONTROL block lists as missing. -/
def doLinkBlockReceive (f : Fin 4) (ty : Fin 4) (seq ack : BitVec 24) (good : Bool) (missing : List (BitVec 24))
    (s : State) : State :=
  if s.linkState f ≠ 3 then s
  else if !good then s.inc (FAB_CHECK_FAIL.COUNT f)
  else
    let s := s.modLink f (fun k => { k with replay := k.replay.filter (fun r =>
      !(decide (1 ≤ seqDist r.seq ack.toNat) && decide (seqDist r.seq ack.toNat < 2 ^ 23))) })
    if ty = 1 then s.rxData f seq.toNat
    else if ty = 2 then missing.foldl (fun s q => s.resendBlock f q.toNat) s
    else s

/-- 20 µs without an ACK that covers the block. -/
def doLinkResendTimeout (f : Fin 4) (seq : BitVec 24) (s : State) : State :=
  if s.linkState f = 3 then s.resendBlock f seq.toNat else s

/-- Nothing else to send for 1 µs. -/
def doLinkControlSend (f : Fin 4) (s : State) : State :=
  if s.linkState f = 2 ∨ s.linkState f = 3 ∨ (s.linkState f = 4 ∧ (s.link f).aligning) then s.emitUngated f 1 0 else s

/-! ## Link states (R306) -/

/-- Unacknowledged blocks are discarded, and the transport sends their packets again (R332). -/
def State.discardReplay (s : State) (f : Nat) : State :=
  let ps := (s.link f).replay.flatMap (fun r => r.packets)
  let s := s.modLink f (fun k => { k with replay := [], reorder := [] })
  ps.foldl (fun s e =>
    match s.findSent e.1 e.2 with
    | some x => s.resend x x.send.timeouts
    | none => s) s

/-- The cartridge that feeds a port: 0 LC-A, 1 LC-B; and a cartridge's state (Table 14-5). The registers are shared by the
four instances. -/
def State.feederOf (s : State) (f : Nat) : Nat := if bitOf (s.rd (FAB_LC_STATE.FEED 0)) f then 1 else 0
def lcField (x : Nat) : FieldRef := if x = 0 then FAB_LC_STATE.A_STATE 0 else FAB_LC_STATE.B_STATE 0
def State.lcState (s : State) (x : Nat) : Nat := s.rd (lcField x)
def State.fed (s : State) (f : Nat) : Bool := s.lcState (s.feederOf f) == 3 || s.lcState (s.feederOf f) == 4

/-- DISABLED to TRAINING. -/
def State.startTraining (s : State) (f : Nat) : State :=
  let s := s.modLink f (fun k => { k with txSeq := 0, rxSeq := 0, replay := [], reorder := [], aligning := false })
  ((s.wr (FAB_LINK_STATE.ATTEMPTS f) 0).adaptLanes f).setLinkState f 1

/-- The port is DISABLED: its blocks are discarded and no partner is known. -/
def State.disableLink (s : State) (f : Nat) : State :=
  (((s.discardReplay f).adaptLanes f).wr (FAB_PARTNER.VALID f) 0).setLinkState f 0

/-- Live EN has changed, or a cartridge has come to feed an enabled port. -/
def doLinkEnableChange (f : Fin 4) (s : State) : State :=
  let en := s.on (FAB_LINK_CFG.EN f)
  if s.linkState f = 0 then (if en && s.fed f then s.startTraining f else s)
  else if en then s
  else s.disableLink f

/-- The port enters RETRAIN: replay buffer, reorder store and SEQ are kept; the orrery hears of it (R350). -/
def State.enterRetrain (s : State) (f : Nat) : State :=
  let s := (s.adaptLanes f).modLink f (fun k => { k with aligning := false })
  let s := (s.inc (FAB_RETRAINS.COUNT f)).setLinkState f 4
  if s.on ORR_CFG.AUTO_RECOVER ∧ s.on (FAB_LINK_CFG.EN f) then
    { s with orr := { s.orr with autoDue := true, hold := 0 } }
  else s

/-- The port fails: its blocks are discarded. -/
def State.failLink (s : State) (f : Nat) : State := ((s.discardReplay f).adaptLanes f).setLinkState f 5

/-- An attempt has failed; at RETRAIN_LIMIT of them the port fails. -/
def State.failAttempt (s : State) (f : Nat) (toFailed : Bool) : State :=
  let s := (s.inc (FAB_LINK_STATE.ATTEMPTS f)).modLink f (fun k => { k with aligning := false })
  if toFailed && decide (s.rd (FAB_LINK_CFG.RETRAIN_LIMIT f) ≤ s.rd (FAB_LINK_STATE.ATTEMPTS f)) then s.failLink f
  else (s.adaptLanes f).setLinkState f (if s.linkState f = 4 then 4 else 1)

/-- The port trains. -/
def State.training (s : State) (f : Nat) : Bool := s.linkState f == 1 || (s.linkState f == 4 && !(s.link f).aligning)

/-- The active set is known: ALIGN. -/
def State.goAlign (s : State) (f mask : Nat) : State :=
  let s := s.setLanes f mask
  if s.linkState f = 4 then s.modLink f (fun k => { k with aligning := true }) else s.setLinkState f 2

/-- 16 lanes have locked. -/
def doLanesLocked (f : Fin 4) (mask : BitVec 20) (s : State) : State :=
  if s.training f && decide (16 ≤ popCount 20 mask.toNat) && s.fed f then s.goAlign f mask.toNat else s

/-- 50 ms of training have passed. With no light on any lane there is no timeout. -/
def doTrainingTimeout (f : Fin 4) (mask : BitVec 20) (light : Bool) (s : State) : State :=
  if !s.training f ∨ !light ∨ !s.fed f then s
  else if s.rd (FAB_LINK_CFG.MIN_LANES f) ≤ popCount 20 mask.toNat then s.goAlign f mask.toNat
  else s.failAttempt f true

/-- The partner agrees: the port is UP. A RETRAIN must find the partner it had. -/
def doAlignAgree (f : Fin 4) (node : BitVec 14) (port : Fin 4) (s : State) : State :=
  if s.linkState f = 2 then
    let s := ((s.wr (FAB_PARTNER.NODE f) node.toNat).wr (FAB_PARTNER.PORT f) port).wr (FAB_PARTNER.VALID f) 1
    (s.wr (FAB_LINK_STATE.ATTEMPTS f) 0).setLinkState f 3
  else if s.linkState f = 4 ∧ (s.link f).aligning then
    if s.rd (FAB_PARTNER.NODE f) = node.toNat ∧ s.rd (FAB_PARTNER.PORT f) = port.val then
      let s := s.modLink f (fun k => { k with aligning := false, replay := k.replay.map (fun r => { r with resends := 0 }) })
      let s := (s.wr (FAB_LINK_STATE.ATTEMPTS f) 0).setLinkState f 3
      ((s.link f).replay.map (fun r => r.seq)).foldl (fun s q => s.resendBlock f q) s
    else s.failLink f
  else s

/-- 10 ms in ALIGN without agreement. -/
def doAlignTimeout (f : Fin 4) (s : State) : State :=
  if s.linkState f = 2 then s.failAttempt f false
  else if s.linkState f = 4 ∧ (s.link f).aligning then s.failAttempt f true
  else s

/-- An UP port retrains: a block has been re-sent 16 times, too few lanes are active, or every lane is dark. -/
def doLinkRetrain (f : Fin 4) (dark : Bool) (s : State) : State :=
  if s.linkState f = 3 ∧ (dark ∨ s.activeLanes f < s.rd (FAB_LINK_CFG.MIN_LANES f) ∨
      (s.link f).replay.any (fun r => decide (16 ≤ r.resends))) then s.enterRetrain f
  else s

/-! ## Lane health (R307, R308) -/

/-- A lane fails and stays out of service until its port trains again; a spare takes its position at the next landing where
AUTO_SUBST is 1 and one is locked. -/
def doLaneFail (f : Fin 4) (lane : Fin 20) (s : State) : State :=
  let was := s.laneState f lane
  if s.linkState f ≠ 3 ∨ was = 3 then s
  else
    let free := s.spareFree f
    let s := (s.setLaneState f lane 3).showLanes f
    match (if was = 1 then none else s.posOf f lane) with
    | some pos =>
      if s.on (FAB_LINK_CFG.AUTO_SUBST f) ∧ free then
        s.modLink f (fun k => { k with substs := (pos, lane.val) :: k.substs.filter (fun e => e.2 != lane.val) })
      else s.loseCapacity 3 .FAB f 0xFF lane
    | none =>
      if was = 1 then (s.setSpares f ((s.link f).spares - 1)).report (spareReport 3 2 .FAB f 0xFF lane 0xFFFF) else s

/-- One substitution takes effect. A lane that leaves for its retuning adapts; a failed one stays failed. -/
def State.substLane (s : State) (f pos old : Nat) : State :=
  match (s.spareLanes f).head? with
  | none => s
  | some spare =>
    let failed := s.laneState f old == 3
    let s := (s.setLaneState f spare 0).wr (laneMapField f pos) spare
    let s := s.inc (FAB_SUBSTS.COUNT f)
    if failed then
      (((s.setSpares f ((s.link f).spares - 1)).noteSub).report (spareReport 3 2 .FAB f 0xFF old spare)).showLanes f
    else (s.setLaneState f old (if (s.link f).recal.head? = some old then 2 else 1)).showLanes f

/-- The landing at which agreed substitutions take effect. -/
def doLaneSubstitute (f : Fin 4) (s : State) : State :=
  if s.linkState f ≠ 3 ∨ !s.inLanding then s
  else
    let es := (s.link f).substs
    es.foldl (fun s e => s.substLane f e.1 e.2) (s.modLink f (fun k => { k with substs := [] }))

/-- FAB_SUBST: refused where the lane is not active or no locked spare is left. -/
def doFabSubst (a : Agent) (f : Fin 4) (lane : Fin 32) (s : State) : State :=
  if !s.mayWriteDevice a then s.refuseWrite a .FAB f
  else
    match s.posOf f lane with
    | some pos =>
      if s.linkState f = 3 ∧ lane.val < 20 ∧ s.laneState f lane = 0 ∧ s.spareFree f ∧
          (s.link f).substs.all (fun e => e.2 != lane.val) then
        s.modLink f (fun k => { k with substs := k.substs ++ [(pos, lane.val)] })
      else s.countRefused .FAB f
    | none => s.countRefused .FAB f

/-! ## Recalibration (R309) -/

/-- The next lane to be retuned hands its position to a spare, or leaves service where no spare is locked. -/
def State.recalNext (s : State) (f : Nat) : State :=
  match (s.link f).recal with
  | [] =>
    (s.wr (FAB_RECAL_STATUS.BUSY f) 0).wr (FAB_RECAL_STATUS.LAST_AT f) s.mer32
  | l :: _ =>
    let s := s.wr (FAB_RECAL_STATUS.LANE f) l
    match s.posOf f l with
    | some pos =>
      if s.spareFree f then s.modLink f (fun k => { k with substs := k.substs ++ [(pos, l)] })
      else (s.setLaneState f l 2).showLanes f
    | none => s

/-- A run starts: every active lane in turn. -/
def State.startRecal (s : State) (f : Nat) : State :=
  let s := s.modLink f (fun k => { k with deferred := false, recal := (s.activePos f).map (fun pos => s.laneAt f pos) })
  (s.wr (FAB_RECAL_STATUS.BUSY f) 1).recalNext f

/-- A cartridge move is under way: a cartridge is RELEASING. -/
def State.lcMoving (s : State) : Bool := s.lcState 0 == 4 || s.lcState 1 == 4

/-- A write of GO by an agent, or (none) a temperature change with AUTO_RECAL; a cartridge move defers it. -/
def doFabRecal (a : Option Agent) (f : Fin 4) (s : State) : State :=
  let may := match a with
    | some a => s.mayWriteDevice a
    | none => s.on (FAB_LINK_CFG.AUTO_RECAL f)
  if !may then (match a with
    | some a => s.refuseWrite a .FAB f
    | none => s)
  else if s.linkState f ≠ 3 ∨ s.on (FAB_RECAL_STATUS.BUSY f) then (if a.isSome then s.countRefused .FAB f else s)
  else if s.lcMoving then s.modLink f (fun k => { k with deferred := true })
  else s.startRecal f

/-- The lane being retuned is done: it is a spare, or active again where no spare took its position. -/
def doLaneRecalDone (f : Fin 4) (s : State) : State :=
  match (s.link f).recal with
  | [] => s
  | l :: rest =>
    let failed := s.laneState f l == 3
    if s.linkState f ≠ 3 ∨ (s.laneState f l ≠ 2 ∧ !failed) then s
    else
      let st := if failed then 3 else if (s.posOf f l).isSome then 0 else 1
      let s := (s.setLaneState f l st).wr (FAB_LANE_W3.CAL_AT f l) s.mer32
      ((s.modLink f (fun k => { k with recal := rest })).showLanes f).recalNext f

/-! ## Laser cartridges (R310 to R313) -/

/-- A cartridge changes state; FLT_SPARES shows the cartridges that are neither FAILED nor ABSENT. -/
def State.setLc (s : State) (x st : Nat) : State :=
  let s := s.wr (lcField x) st
  let ok (y : Nat) : Nat := if s.lcState y = 0 ∨ s.lcState y = 6 then 0 else 1
  let k := ok 0 + ok 1
  let s := s.wr FLT_SPARES.CARTRIDGES k
  s.wr FLT_SPARES.EMPTY (if k = 0 then withBit (s.rd FLT_SPARES.EMPTY) 4 else withoutBit (s.rd FLT_SPARES.EMPTY) 4)

/-- The doorbell of cartridge changes: that of the first port the cartridge normally feeds. -/
def State.lcBell (s : State) (x : Nat) : State := s.bellSource (s.rd (FAB_LINK_CFG.DB_SOURCE (2 * x)))

def State.lcReport (s : State) (x st : Nat) : State :=
  s.report { cls := 0x06, sev := 0, blk := Blk.FAB.code, inst := 2 * x, d0 := x, d1 := st }

/-- The ports a cartridge normally feeds. -/
def lcPorts (x : Nat) : List Nat := [2 * x, 2 * x + 1]

def State.setFeed (s : State) (f x : Nat) : State :=
  let m := s.rd (FAB_LC_STATE.FEED 0)
  s.wr (FAB_LC_STATE.FEED 0) (if x = 1 then withBit m f else withoutBit m f)

/-- A planned move of a port's feed (R312): in rounds, active lanes hand their positions to moved spares. -/
def State.moveFeed (s : State) (f x : Nat) : State :=
  let s := s.setFeed f x
  if s.linkState f ≠ 3 then s
  else
    let spares := s.spareLanes f
    let lanes := (s.activePos f).map (fun pos => (pos, s.laneAt f pos))
    let k := min 4 spares.length
    let order := spares.take k ++ lanes.map (fun e => e.2)
    let s := (lanes.zip order).foldl (fun s e => (s.wr (laneMapField f e.1.1) e.2).setLaneState f e.2 0) s
    ((order.drop lanes.length).foldl (fun s l => s.setLaneState f l 1) s).showLanes f

/-- A READY cartridge begins to feed: its normal ports where the other feeds them, every port where the other cannot. -/
def State.lcFeed (s : State) (x : Nat) : State :=
  let y := 1 - x
  if s.lcState x ≠ 2 then s
  else if s.lcState y = 0 ∨ s.lcState y = 6 then
    (List.range 4).foldl (fun s f => s.setFeed f x) (s.setLc x 3)
  else if (lcPorts x).any (fun f => s.feederOf f == y) ∧ (s.lcState y = 3) then
    (lcPorts x).foldl (fun s f => s.moveFeed f x) (s.setLc x 3)
  else if (lcPorts x).all (fun f => s.feederOf f == x) then s.setLc x 3
  else s

/-- Inserted and latched, or pushed home again. -/
def doLcInsert (x : Fin 2) (s : State) : State := if s.lcState x = 0 ∨ s.lcState x = 5 then s.setLc x 1 else s

/-- All four wavelengths have locked: READY, with a doorbell; a READY cartridge that is needed begins to feed. -/
def doLcWavelengthLock (x : Fin 2) (s : State) : State :=
  if s.lcState x = 1 then ((s.setLc x 2).lcBell x).lcFeed x else s

/-- 2 s without lock. -/
def doLcWarmTimeout (x : Fin 2) (s : State) : State :=
  if s.lcState x = 1 then ((s.setLc x 6).lcReport x 6).lcFeed (1 - x) else s

/-- EJECT: a FEEDING cartridge, with the other READY or FEEDING and not RELEASING. -/
def State.eject (s : State) (a : Agent) (x : Nat) : State :=
  if !s.mayWriteDevice a then s.refuseWrite a .FAB 0
  else if s.lcState x = 3 ∧ (s.lcState (1 - x) = 2 ∨ s.lcState (1 - x) = 3) then s.setLc x 4
  else s.countRefused .FAB 0

def doLcEjectA (a : Agent) (s : State) : State := s.eject a 0
def doLcEjectB (a : Agent) (s : State) : State := s.eject a 1

/-- Deferred recalibrations start at the end of a cartridge move. -/
def State.runDeferred (s : State) : State :=
  (List.range 4).foldl (fun s f => if (s.link f).deferred ∧ s.linkState f = 3 then s.startRecal f else s) s

/-- Every lane has moved to the other cartridge: RELEASED, with a doorbell. -/
def doLcReleaseDone (x : Fin 2) (s : State) : State :=
  let y := 1 - x.val
  if s.lcState x ≠ 4 then s
  else
    let s := if s.lcState y = 2 then s.setLc y 3 else s
    let s := ((List.range 4).filter (fun f => s.feederOf f == x.val)).foldl (fun s f => s.moveFeed f y) s
    ((s.setLc x 5).lcBell x).runDeferred

/-- A RELEASED or FAILED cartridge is taken out. -/
def doLcRemove (x : Fin 2) (s : State) : State := if s.lcState x = 5 ∨ s.lcState x = 6 then s.setLc x 0 else s

/-- A feeding cartridge is lost: the ports it fed retrain on the other; where neither can feed, every port fails (R313). -/
def doLcLoss (x : Fin 2) (removed : Bool) (s : State) : State :=
  let y := 1 - x.val
  if s.lcState x ≠ 3 ∧ s.lcState x ≠ 4 then s
  else
    let st := if removed then 0 else 6
    let dark := (List.range 4).filter (fun f => s.feederOf f == x.val)
    let s := (s.setLc x st).lcReport x st
    let s := dark.foldl (fun s f => if s.linkState f = 3 then s.enterRetrain f else s) s
    if s.lcState y = 2 ∨ s.lcState y = 3 ∨ s.lcState y = 4 then
      let s := (List.range 4).foldl (fun s f => s.setFeed f y) (s.setLc y 3)
      (s.noteSub.report (spareReport 5 2 .FAB 0 0xFF x y)).runDeferred
    else
      let s := s.loseCapacity 5 .FAB 0 0xFF x
      (List.range 4).foldl (fun s f => if s.linkState f = 4 then s.failLink f else s) s

def execLinkBlockReceive (f : Fin 4) (ty : Fin 4) (seq ack : BitVec 24) (good : Bool) (missing : List (BitVec 24)) (s : State) : Host.Outcome State Fault Refusal := .next (doLinkBlockReceive f ty seq ack good missing s)
def execLinkResendTimeout (f : Fin 4) (seq : BitVec 24) (s : State) : Host.Outcome State Fault Refusal := .next (doLinkResendTimeout f seq s)
def execLinkControlSend (f : Fin 4) (s : State) : Host.Outcome State Fault Refusal := .next (doLinkControlSend f s)
def execLinkEnableChange (f : Fin 4) (s : State) : Host.Outcome State Fault Refusal := .next (doLinkEnableChange f s)
def execLanesLocked (f : Fin 4) (mask : BitVec 20) (s : State) : Host.Outcome State Fault Refusal := .next (doLanesLocked f mask s)
def execTrainingTimeout (f : Fin 4) (mask : BitVec 20) (light : Bool) (s : State) : Host.Outcome State Fault Refusal := .next (doTrainingTimeout f mask light s)
def execAlignAgree (f : Fin 4) (node : BitVec 14) (port : Fin 4) (s : State) : Host.Outcome State Fault Refusal := .next (doAlignAgree f node port s)
def execAlignTimeout (f : Fin 4) (s : State) : Host.Outcome State Fault Refusal := .next (doAlignTimeout f s)
def execLinkRetrain (f : Fin 4) (dark : Bool) (s : State) : Host.Outcome State Fault Refusal := .next (doLinkRetrain f dark s)
def execLaneFail (f : Fin 4) (lane : Fin 20) (s : State) : Host.Outcome State Fault Refusal := .next (doLaneFail f lane s)
def execLaneSubstitute (f : Fin 4) (s : State) : Host.Outcome State Fault Refusal := .next (doLaneSubstitute f s)
def execFabSubst (a : Agent) (f : Fin 4) (lane : Fin 32) (s : State) : Host.Outcome State Fault Refusal :=
  .next (s.whenReady .FAB f.val (doFabSubst a f lane))
def execFabRecal (a : Option Agent) (f : Fin 4) (s : State) : Host.Outcome State Fault Refusal :=
  .next (if a.isSome then s.whenReady .FAB f (doFabRecal a f) else doFabRecal a f s)
def execLaneRecalDone (f : Fin 4) (s : State) : Host.Outcome State Fault Refusal := .next (doLaneRecalDone f s)
def execLcInsert (x : Fin 2) (s : State) : Host.Outcome State Fault Refusal := .next (doLcInsert x s)
def execLcWavelengthLock (x : Fin 2) (s : State) : Host.Outcome State Fault Refusal := .next (doLcWavelengthLock x s)
def execLcWarmTimeout (x : Fin 2) (s : State) : Host.Outcome State Fault Refusal := .next (doLcWarmTimeout x s)
def execLcEjectA (a : Agent) (s : State) : Host.Outcome State Fault Refusal :=
  .next (s.whenAnyReady .FAB (doLcEjectA a))
def execLcEjectB (a : Agent) (s : State) : Host.Outcome State Fault Refusal :=
  .next (s.whenAnyReady .FAB (doLcEjectB a))
def execLcReleaseDone (x : Fin 2) (s : State) : Host.Outcome State Fault Refusal := .next (doLcReleaseDone x s)
def execLcRemove (x : Fin 2) (s : State) : Host.Outcome State Fault Refusal := .next (doLcRemove x s)
def execLcLoss (x : Fin 2) (removed : Bool) (s : State) : Host.Outcome State Fault Refusal := .next (doLcLoss x removed s)

end Sys2Proof.Machine
end

