-- ==== Sys2Proof/Machine/Timebase.lean ====
section
/-! DEFINITION. The meridian timebase's PTP ports, its lock states and its alignment to PTP time (R44 to R49), and the
die-to-die links (R9, R10). -/

namespace Sys2Proof.Machine

/-! ## Edges (R35, R45) -/

/-- Nanoseconds of a meridian of a length. -/
def lenNs (len : Nat) : Nat := if len = 0 then 3000 else if len = 1 then 6000 else 12000

/-- The landing adjustment and the step extension of the current meridian, and its cycles. -/
def State.adj (s : State) : Int := getSigned (s.reg MER_PHASE.ADJ.off) 24 8
def State.step (s : State) : Nat := s.rd MER_PHASE.STEP
def State.cyclesNow (s : State) : Nat := ((lenCycles s.merLen : Int) + s.adj + s.step).toNat

/-- The origin in force: PTP time in ns, and its count. -/
def State.originNs (s : State) : Nat := s.rd MER_ORIGIN_SEC.SEC * 1000000000 + s.rd MER_ORIGIN_NS.NS
def State.originCount (s : State) : Nat := s.rd MER_ORIGIN_COUNT.COUNT

/-- The PTP time of the start of meridian n, in ns, by an origin and a length. -/
def edgeNs (origin count len n : Nat) : Int := (origin : Int) + ((n : Int) - count) * lenNs len

/-- The PTP time, in units of 1/27 ns, at which the meridian after the next landing would start, when the PTP time is now
`time` ns; the length is that of the meridian that begins there. A cycle is 10/27 ns. A landing that runs is no next one. -/
def State.nominalStart (s : State) (time : Nat) : Nat :=
  27 * time + 10 * ((s.cyclesNow - s.cycle) + (if s.inLanding then lenCycles s.merLen else 0))

/-- The first edge of R45 at or after that moment: the cycles until it, and its count (0 where R45 would give a negative
one). -/
def State.nextEdge (s : State) (time : Nat) : Nat × Nat :=
  let l := 27 * lenNs s.merLen
  let d : Int := (s.nominalStart time : Int) - 27 * (s.originNs : Int)
  let k : Int := -((-d) / (l : Int))
  let ahead : Int := k * l - d
  ((ahead.toNat + 9) / 10, (s.originCount + k).toNat)

/-! ## Lock states (R47, Table 2-4) -/

def State.lock (s : State) : Nat := s.rd MER_LOCK.STATE

/-- Every change of the lock state is counted, and rings the timebase's doorbell source. -/
def State.setLock (s : State) (st : Nat) : State :=
  if s.lock = st then s
  else ((s.wr MER_LOCK.STATE st).inc MER_LOCK_EVENTS.COUNT).bellSource (Sys2Proof.Config.lockSource % 4096)

/-- The TIME record of a lock-state or order fault. -/
def State.timeRecord (s : State) : State :=
  s.report { cls := 0x09, sev := 0, blk := Blk.MER.code, d0 := (s.reg MER_LOCK.STATE.off).toNat,
             d1 := (s.reg MER_OFFSET.OFFSET_NS.off).toNat }

def State.setGood (s : State) (n : Nat) : State := { s with merp := { s.merp with goodSyncs := n } }

/-- Meridian edges are corrected: landing adjustments follow the offset (R49). -/
def State.adjusts (s : State) : Bool :=
  s.lock == 2 || s.lock == 3 || (s.lock == 1 && decide ((getSigned (s.reg MER_OFFSET.OFFSET_NS.off) 0 32).natAbs ≤ 1000))

/-- An alignment step of S cycles: the meridian whose landing carries it shows it, and has no landing adjustment. One
landing carries one step. -/
def State.alignStep (s : State) (n : Nat) : State :=
  if n = 0 ∨ s.step ≠ 0 ∨ s.merp.stepNext ≠ 0 then s
  else
    let s := s.inc MER_STEPS.COUNT
    if s.inLanding then { s with merp := { s.merp with stepNext := n } }
    else (s.wr MER_PHASE.STEP n).wr MER_PHASE.ADJ 0

/-- The count that R45 gives for the next edge is loaded at the next landing; one below the current count is an order
fault (R49). -/
def State.loadCount (s : State) (n : Nat) : State :=
  if n < s.mer then
    (if s.on MER_LOCK.ORDER_FAULT then s else (s.wr MER_LOCK.ORDER_FAULT 1).timeRecord)
  else State.wr { s with merp := { s.merp with countNext := some n } } MER_LOCK.ORDER_FAULT 0

/-- A valid Sync pair on a slave port gives an offset. -/
def State.syncPair (s : State) (f : Nat) (offset path : BitVec 32) (time : Nat) : State :=
  let s := (s.wr MER_OFFSET.OFFSET_NS offset.toNat).wr MER_OFFSET.PATH_NS path.toNat
  let off := offset.toInt.natAbs
  let e := s.nextEdge time
  if s.lock = 0 then ((s.setGood 0).wr MER_LOCK.PORT f).setLock 1
  else if s.lock = 1 then
    if 1000 < off then (s.setGood 0).loadCount e.2 |>.alignStep e.1
    else if 20 < off then s.setGood 0
    else if s.merp.goodSyncs + 1 < 16 then s.setGood (s.merp.goodSyncs + 1)
    else
      let s := (s.setGood 0).loadCount e.2
      if s.on MER_LOCK.ORDER_FAULT then s else s.setLock 2
  else if s.lock = 2 then (if 20 < off then s.setLock 3 else s)
  else if 20 < off then (s.setGood 0).setLock 1
  else s.setLock 2

/-! ## Length and origin (R44, R45, R396) -/

/-- An image's budget for a length. -/
def Image.budget (m : Image) (len : Nat) : Nat := if len = 0 then m.budget3 else if len = 1 then m.budget6 else m.budget12

/-- Every unit's installed image fits the slice budget of a length. -/
def State.lenFits (s : State) (len : Nat) : Bool :=
  allUnits.all (fun u =>
    let m := s.installedImage u
    !m.present || (m.budget len != 0 && decide (m.budget len ≤ lenBudget len)))

/-- Both counters of a length that is not applied. -/
def State.refuseLen (s : State) : State := (s.inc MER_LENGTH_REFUSED.COUNT).countRefused .MER 0

/-- What the coming edges depend on: the next meridian's edge by the formula of R45, and the switch that waits. -/
def State.timing (s : State) : Int × Option (Nat × Nat) :=
  (edgeNs s.originNs s.originCount s.merLen (s.mer + 1),
   if s.merp.switchPending then some (s.rd MER_SWITCH_AT.COUNT, s.rd MER_LENGTH.LEN) else none)

/-- A LOCKED timebase whose coming edges move acquires again (Table 2-4). -/
def State.reacquire (s old : State) : State :=
  if s.lock = 2 ∧ s.timing ≠ old.timing then (s.setGood 0).setLock 1 else s

/-! ## Ports (R46) -/

def State.ptpPort (s : State) (f : Nat) : PtpPort := Tab.get (fun _ => {}) s.merp.ptp f

def State.setPtpPort (s : State) (f : Nat) (v : PtpPort) : State :=
  { s with merp := { s.merp with ptp := Tab.put (fun _ => {}) s.merp.ptp f v } }

def State.ptpEnabled (s : State) (f : Nat) : Bool := bitOf (s.rd MER_PTP.PORT_EN) f

/-- Some port is in SLAVE state. -/
def State.hasSlave (s : State) : Bool := (List.range 4).any (fun f => (s.ptpPort f).role == 1)

/-- A port's state changes; an acquisition without a SLAVE port ends. -/
def State.setRole (s : State) (f r : Nat) : State :=
  let s := s.setPtpPort f { s.ptpPort f with role := r }
  if s.lock = 1 ∧ !s.hasSlave then s.setLock 0 else s

/-- A PTP block leaves the port, outside the schedule. -/
def State.sendPtp (s : State) (f kind : Nat) : State :=
  if s.linkState f = 3 then (s.emit (.ptp f kind)).noteGateLate f else s

def doPtpMessageReceive (f : Fin 4) (m : PtpMsg) (s : State) : State :=
  let p := s.ptpPort f
  if !s.ptpEnabled f then s
  else
    match m with
    | .announce r => s.setRole f r
    | .sync q => if p.role = 1 then s.setPtpPort f { p with syncSeq := q.toNat + 1 } else s
    | .followUp q offset path time =>
      if p.role = 1 ∧ p.syncSeq = q.toNat + 1 then (s.setPtpPort f { p with syncSeq := 0 }).syncPair f offset path time.toNat
      else s
    | .delayReq => if p.role = 2 ∧ !s.on MER_PTP.DELAY_MECH then s.sendPtp f 5 else s
    | .delayResp path => if p.role = 1 ∧ !s.on MER_PTP.DELAY_MECH then s.wr MER_OFFSET.PATH_NS path.toNat else s
    | .pdelayReq => if s.on MER_PTP.DELAY_MECH then (s.sendPtp f 6).sendPtp f 7 else s
    | .pdelayResp => s
    | .pdelayRespFollowUp path =>
      if p.role = 1 ∧ s.on MER_PTP.DELAY_MECH then s.wr MER_OFFSET.PATH_NS path.toNat else s
    | .other => s

/-- A port may act as master: it is in that state, or hears no better clock, and the device has a time to give. -/
def State.mayMaster (s : State) (f : Nat) : Bool :=
  s.ptpEnabled f && ((s.ptpPort f).role == 2 || ((s.ptpPort f).role == 0 && s.on MER_PTP.GM_CAPABLE)) &&
  (s.on MER_PTP.GM_CAPABLE || s.hasSlave)

def doPtpSyncSend (f : Fin 4) (s : State) : State :=
  if s.mayMaster f then ((s.setRole f 2).sendPtp f 0).sendPtp f 1 else s

def doPtpAnnounceSend (f : Fin 4) (s : State) : State :=
  if s.mayMaster f then (s.setRole f 2).sendPtp f 4 else s

/-- A slave's Delay_Req, or a Pdelay_Req of any port under the peer-to-peer mechanism. -/
def doPtpDelayReqSend (f : Fin 4) (s : State) : State :=
  if !s.ptpEnabled f then s
  else if s.on MER_PTP.DELAY_MECH then s.sendPtp f 3
  else if (s.ptpPort f).role = 1 then s.sendPtp f 2
  else s

/-! ## Timeouts -/

def doSyncLossTimeout (s : State) : State := if s.lock = 2 then s.setLock 3 else s
def doAcquireTimeout (s : State) : State := if s.lock = 1 then (s.setLock 0).timeRecord else s
def doHoldoverTimeout (s : State) : State := if s.lock = 3 then (s.setLock 0).timeRecord else s

/-! ## Die-to-die links (R9, R10) -/

def State.d2d (s : State) (m : Nat) : D2d := Tab.get (fun _ => {}) s.pho.d2d m

def State.setD2d (s : State) (m : Nat) (v : D2d) : State :=
  { s with pho := { s.pho with d2d := Tab.put (fun _ => {}) s.pho.d2d m v } }

/-- The block that is next in order arrives: delivered, or discarded and asked for again. -/
def doD2dBlockReceive (m : Fin 16) (good : Bool) (s : State) : State :=
  let d := s.d2d m
  if d.failed then s
  else if good then s.setD2d m { d with delivered := d.delivered + 1, bad := 0 }
  else s.setD2d m { d with bad := d.bad + 1, resent := d.resent + 1 }

/-- A block has failed its check on its first sending and on 16 re-sends. -/
def doD2dLinkFail (m : Fin 16) (s : State) : State :=
  let d := s.d2d m
  if d.failed ∨ d.bad < 17 then s
  else (s.setD2d m { d with failed := true }).report { cls := 0x05, sev := 0, blk := Blk.ATR.code, d0 := m, d1 := 5 }

def execPtpMessageReceive (f : Fin 4) (m : PtpMsg) (s : State) : Host.Outcome State Fault Refusal := .next (doPtpMessageReceive f m s)
def execPtpSyncSend (f : Fin 4) (s : State) : Host.Outcome State Fault Refusal := .next (doPtpSyncSend f s)
def execPtpAnnounceSend (f : Fin 4) (s : State) : Host.Outcome State Fault Refusal := .next (doPtpAnnounceSend f s)
def execPtpDelayReqSend (f : Fin 4) (s : State) : Host.Outcome State Fault Refusal := .next (doPtpDelayReqSend f s)
def execSyncLossTimeout (s : State) : Host.Outcome State Fault Refusal := .next (doSyncLossTimeout s)
def execAcquireTimeout (s : State) : Host.Outcome State Fault Refusal := .next (doAcquireTimeout s)
def execHoldoverTimeout (s : State) : Host.Outcome State Fault Refusal := .next (doHoldoverTimeout s)
def execD2dBlockReceive (m : Fin 16) (good : Bool) (s : State) : Host.Outcome State Fault Refusal := .next (doD2dBlockReceive m good s)
def execD2dLinkFail (m : Fin 16) (s : State) : Host.Outcome State Fault Refusal := .next (doD2dLinkFail m s)

end Sys2Proof.Machine
end

