-- ==== Sys2Proof/Machine/Host.lean ====
section
/-! DEFINITION. The host interface: port states, function resets, host-ring resets, re-binding, MSI-X, memory windows and
DOE mailboxes (R358 to R373). The device-wide HIF registers are held in instance 0. -/

namespace Sys2Proof.Machine

/-! ## Host-ring resets (R368) -/

def State.clearRing (s : State) (fs : List FieldRef) : State :=
  fs.foldl (fun s f => s.wr f 0) s

/-- BASE, SIZE, HEAD and TAIL of the partition's host rings become 0, in both copies. -/
def State.resetRings (s : State) (p : Nat) : State :=
  let s := (List.range 3).foldl (fun s r =>
    s.clearRing [CAT_P_BASE.DPA p r, CAT_P_SIZE.ENTRIES p r, CAT_P_HEAD.INDEX p r, CAT_P_TAIL.INDEX p r]) s
  let s := s.clearRing [CAT_P_BASE.DPA p 3, CAT_P_SIZE.ENTRIES p 3, CAT_P_HEAD3.INDEX p, CAT_P_TAIL3.INDEX p]
  let s := s.clearRing [HEL_P_BASE.DPA p 0, HEL_P_SIZE.ENTRIES p 0, HEL_P_HEAD0.INDEX p, HEL_P_TAIL0.INDEX p,
    HEL_P_BASE.DPA p 1, HEL_P_SIZE.ENTRIES p 1, HEL_P_HEAD1.INDEX p, HEL_P_TAIL1.INDEX p]
  s.inc (HIF_RING_RESETS.COUNT (s.portOf p).num)

/-- The partitions bound to a port. -/
def State.boundTo (s : State) (x : Port) : List Nat := (List.range 64).filter (fun p => s.portOf p == x)

def State.resetPortRings (s : State) (x : Port) : State := (s.boundTo x).foldl (fun s p => s.resetRings p) s

/-! ## Port states (R367) -/

/-- The doorbells of a change of a port's state. -/
def State.bellPorts (s : State) : State :=
  [Port.HA, Port.HB].foldl (fun s x =>
    s.bellIf (s.on (HIF_CFG.DB_EN x.num) && s.portUp x) (s.rd (HIF_CFG.DB_PART x.num)) (s.rd (HIF_CFG.DB_SOURCE x.num))) s

def State.dropDoe (s : State) (x : Port) : State :=
  { s with hif := { s.hif with doe := s.hif.doe.filter (fun o => o.port != x) },
           ves := { s.ves with queue := s.ves.queue.filter (fun q => q != .doe x) } }

/-- A port changes state; one that leaves UP discards the object in its mailbox (R372). -/
def State.setPortState (s : State) (x : Port) (st : Nat) : State :=
  if s.portState x = st then s
  else
    let s := s.wr (HIF_PORT_STATE.STATE x.num) st
    (if st = 1 then s else s.dropDoe x).bellPorts

/-- Reset the state of the functions of a port that pass a test: configuration, MSI-X table and window state. -/
def State.resetFns (s : State) (x : Port) (which : Nat → Bool) : State :=
  let gone (k : Nat) : Bool := k / 64 == x.num && which (k % 64)
  let s : State := { s with hif := { s.hif with
    fns := s.hif.fns.filter (fun e => !gone e.1), unmasked := s.hif.unmasked.filter (fun e => !gone (e.1 / 2048)) } }
  (List.range 33).foldl (fun s fn =>
    if !which fn then s
    else (List.range 8).foldl (fun s k =>
      let f := if fn = 0 then HIF_WIN.DPA x.num k else HIF_VF_WIN.DPA x.num (8 * (fn - 1) + k)
      (s.setReg f.off 0).setLive f.off 0) s) s

/-- The heartbeat of a port. -/
def State.heartbeat (s : State) (x : Port) : State := s.wr (HIF_PORT_STATE.LAST_HB x.num) s.mer32

/-- The link of a DOWN port has trained and PERST# is released. -/
def doHostPortLinkUp (x : Port) (speed : Fin 7) (width : Fin 9) (s : State) : State :=
  if s.portState x ≠ 0 ∨ !s.ready .HIF x.num then s
  else
    let s := (s.wr (HIF_LINK.SPEED x.num) speed).wr (HIF_LINK.WIDTH x.num) width
    let s := (s.wr (HIF_LINK.FLIT x.num) (b01 (speed == 6))).wr (HIF_LINK.DL_UP x.num) 1
    (s.heartbeat x).setPortState x 1

def doHostPortLinkDown (x : Port) (s : State) : State :=
  if s.portState x = 0 then s
  else
    let s := (s.setReg (HIF_LINK.SPEED x.num).off 0).resetFns x (fun _ => true)
    ((s.resetPortRings x).inc (HIF_LINK_DOWNS.COUNT x.num)).setPortState x 0

/-- A function-level reset of the physical function resets its virtual functions with it. -/
def doPfFlr (x : Port) (s : State) : State :=
  if s.portState x = 0 then s else (s.resetFns x (fun _ => true)).resetPortRings x

def doVfFlr (x : Port) (v : Fin 32) (s : State) : State :=
  if s.portState x = 0 then s
  else
    let p := s.vfPart x v
    let s := s.resetFns x (fun fn => fn == v.val + 1)
    match p with
    | some p => s.resetRings p
    | none => s

/-- A write to HIF_HEARTBEAT of a port: its own PF, or one that may write what concerns the whole device. -/
def doHifHeartbeat (a : Agent) (x : Port) (s : State) : State :=
  if a ≠ .pf x ∧ !s.mayWriteDevice a then s.refuseWrite a .HIF x.num
  else
    let s := s.heartbeat x
    if s.portState x = 2 then s.setPortState x 1 else s

/-- No heartbeat for HB_TIMEOUT_MS (R367): the meridians since the last one, at the length in force and counting the one that runs,
must make up that time (DEDUCED, log 33). -/
def doHeartbeatTimeout (x : Port) (s : State) : State :=
  let ms := s.rd (HIF_CFG.HB_TIMEOUT_MS x.num)
  let passed := (s.mer32 + 2 ^ 32 - s.rd (HIF_PORT_STATE.LAST_HB x.num)) % 2 ^ 32 + 1
  if s.portState x = 1 ∧ ms ≠ 0 ∧ 1000 * ms ≤ merLenUs s.merLen * passed then s.setPortState x 2 else s

/-! ## Re-binding (R370, R371) -/

/-- The outcome of a decided command. -/
def State.rebindResult (s : State) (a : Agent) (op : Nat) (st : Status) : State :=
  let s := s.wrPriv a.code (HIF_REBIND_RESULT.STATUS 0) st.code
  let s := s.wrPriv a.code (HIF_REBIND_RESULT.OP 0) op
  s.wrPriv a.code (HIF_REBIND_RESULT.SEQ 0) ((s.rdPriv a.code (HIF_REBIND_RESULT.SEQ 0) + 1) % 2 ^ 32)

/-- A command of HIF_REBIND: either PF may write it; another agent has no port and is refused. -/
def State.rebindCommand (s : State) (a : Agent) (op : Nat) (eff : Port → Option State) : State :=
  match a with
  | .pf x =>
    match eff x with
    | some s => s.rebindResult a op .ok
    | none => s.rebindResult a op .refusedPolicy
  | _ => (s.refuseWrite a .HIF 0).rebindResult a op .refusedPolicy

def State.lost (s : State) (x : Port) : Bool := s.portState x != 1

/-- The re-bind of a partition is accepted. -/
def State.pendRebind (s : State) (p : Nat) : State :=
  s.wr (HIF_BIND_PENDING.MASK 0) (withBit (s.rd (HIF_BIND_PENDING.MASK 0)) p)

/-- REBIND. -/
def doRebind (a : Agent) (p : Fin 64) (s : State) : State :=
  s.rebindCommand a 1 (fun x =>
    if !s.rebindPending p && (s.portOf p == x || s.lost x.other) then some (s.pendRebind p) else none)

/-- REBIND_ALL. A partition whose re-bind is pending is left to it. -/
def doRebindAll (a : Agent) (s : State) : State :=
  s.rebindCommand a 2 (fun x =>
    if s.lost x.other then
      some (((s.boundTo x.other).filter (fun p => !s.rebindPending p)).foldl (fun s p => s.pendRebind p) s)
    else none)

def State.setPrimary (s : State) (x : Port) : State := s.wr (HIF_PRIMARY.PORT 0) x.num

def doTakePrimary (a : Agent) (s : State) : State :=
  s.rebindCommand a 3 (fun x => if s.primary = x.other ∧ s.lost x.other then some (s.setPrimary x) else none)

def doGivePrimary (a : Agent) (s : State) : State :=
  s.rebindCommand a 4 (fun x => if s.primary = x then some (s.setPrimary x.other) else none)

/-- An OP of 5 to 7. -/
def State.rebindBad (s : State) (a : Agent) (op : Nat) : State :=
  match a with
  | .pf _ => s.rebindResult a op .badLength
  | _ => (s.refuseWrite a .HIF 0).rebindResult a op .refusedPolicy

/-- VF map entries of a port that name the partition lose VALID, in both copies. -/
def State.unmapVfs (s : State) (x : Port) (p : Nat) : State :=
  (List.range 32).foldl (fun s v =>
    let off := (HIF_VF_MAP.PART0 x.num (v / 8)).off
    let clear (w : Word) : Word := if getBits w (8 * (v % 8)) 6 = p then setBits w (8 * (v % 8) + 7) 1 0 else w
    (s.setReg off (clear (s.reg off))).setLive off (clear (s.liveReg off))) s

def State.applyRebind (s : State) (p : Nat) : State :=
  let old := s.portOf p
  let m := s.rd (HIF_BIND.PORT 0)
  let s := s.wr (HIF_BIND.PORT 0) (if old = .HA then withBit m p else withoutBit m p)
  let s := s.wr (HIF_BIND_PENDING.MASK 0) (withoutBit (s.rd (HIF_BIND_PENDING.MASK 0)) p)
  ((s.unmapVfs old p).resetRings p).inc (HIF_REBINDS.COUNT 0)

/-- The landing applies every pending re-bind. -/
def doRebindApply (s : State) : State :=
  if !s.inLanding then s
  else ((List.range 64).filter (fun p => s.rebindPending p)).foldl (fun s p => s.applyRebind p) s

/-! ## MSI-X (R366) -/

/-- Send a message through the function that serves its partition. -/
def State.sendMsix (s : State) (m : Msix) : State :=
  let x := s.portOf m.part
  (s.emit (.msix x (s.servingFn m.part) m.vector)).inc (HIF_MSIX_SENT.COUNT x.num)

/-- The host interface decides the oldest delivery: sent, held, or not sent for want of a vector. -/
def doMsixSend (s : State) : State :=
  match s.hif.msixQueue with
  | [] => s
  | m :: ms =>
    let s : State := { s with hif := { s.hif with msixQueue := ms } }
    let x := s.portOf m.part
    let fn := s.servingFn m.part
    if fnVectors fn ≤ m.vector then s.inc (HIF_MSIX_BAD_VEC.COUNT x.num)
    else if s.msixBlocked x fn m.vector then { s with hif := { s.hif with held := s.hif.held ++ [m] } }
    else s.sendMsix m

/-- The i-th held message is no longer held. -/
def doMsixHeldRelease (i : Nat) (s : State) : State :=
  match s.hif.held[i]? with
  | none => s
  | some m =>
    let x := s.portOf m.part
    let fn := s.servingFn m.part
    let s' : State := { s with hif := { s.hif with held := s.hif.held.eraseIdx i } }
    if fnVectors fn ≤ m.vector then s'.inc (HIF_MSIX_BAD_VEC.COUNT x.num)
    else if s.msixBlocked x fn m.vector then s
    else s'.sendMsix m

/-- A configuration or MSI-X control write by the port's host. A BAR2 size outside Table 17-2 is not taken. -/
def doConfigSpaceWrite (x : Port) (fn : Fin 33) (w : CfgWrite) (s : State) : State :=
  let f := s.fn x fn
  if s.portState x = 0 then s
  else
    match w with
    | .power d => s.setFn x fn { f with d3hot := d }
    | .busMaster b => s.setFn x fn { f with busMaster := b }
    | .msixEnable b => s.setFn x fn { f with msixEnable := b }
    | .msixMask b => s.setFn x fn { f with msixMask := b }
    | .vectorMask v b =>
      if fnVectors fn ≤ v.val then s
      else { s with hif := { s.hif with unmasked := Tab.put (fun _ => false) s.hif.unmasked (fnKey x fn * 2048 + v.val) (!b) } }
    | .barSize n =>
      if (fn.val = 0 ∧ 30 ≤ n.val ∧ n.val ≤ 39) ∨ (fn.val ≠ 0 ∧ 28 ≤ n.val ∧ n.val ≤ 36) then
        s.setFn x fn { f with bar2Log2 := n }
      else s

/-! ## Memory windows (R364) -/

/-- log2 of a function's BAR2 size. -/
def State.barLog2 (s : State) (x : Port) (fn : Nat) : Nat :=
  let k := (s.fn x fn).bar2Log2
  if k ≠ 0 then k else if fn = 0 then 34 else 32

/-- The segment of a BAR2 offset, and the DPA it reaches; none where the segment is not enabled. -/
def State.window (s : State) (x : Port) (fn off : Nat) : Option Nat :=
  let seg := 2 ^ (s.barLog2 x fn - 3)
  let k := off / seg
  let r (i : Nat) : FieldRef × FieldRef :=
    if fn = 0 then (HIF_WIN.DPA x.num i, HIF_WIN.EN x.num i)
    else (HIF_VF_WIN.DPA x.num (8 * (fn - 1) + i), HIF_VF_WIN.EN x.num (8 * (fn - 1) + i))
  if s.on (r k).2 then some (s.rd (r k).1 + off % seg) else none

/-- Completion statuses: 0 served, 1 Unsupported Request, 2 Completer Abort. -/
def State.answerUr (s : State) (x : Port) (write : Bool) : State :=
  let s := s.inc (HIF_UR_SENT.COUNT x.num)
  if write then s else s.emit (.completion x 1 0)

def State.answerCa (s : State) (x : Port) : State := (s.inc (HIF_CA_SENT.COUNT x.num)).emit (.completion x 2 0)

def hifReport (x : Port) (part : Option Nat) (a : Nat) : Report := memReport Blk.HIF.code x.num 0xFF part a

/-- Serve an access: lost or uncorrectable memory answers a read with Completer Abort and a fault record (R26, R359). -/
def State.serveHost (s : State) (x : Port) (part : Option Nat) (a : Nat) (write : Bool) (len : Nat) (data : Bytes) (ue : Bool) :
    State :=
  let r := hifReport x part a
  if write then s.devWrite r a data
  else
    match s.accessStatus a len with
    | .ok =>
      if ue then ((s.noteUe).report { r with d1 := if dpaKind a = .hbm then dpaStack a * 32 + dpaPc a else 0 }).answerCa x
      else s.emit (.completion x 0 (leNat (s.bytes a len)))
    | _ => (s.noteAccess false r a len).answerCa x

/-- A BAR2 access that is answered as one to a reserved DPA: the range is reserved, or on a stack whose NBU is not READY
(R364, R431). -/
def State.hostReserved (s : State) (a n : Nat) : Bool :=
  decide (0x20000200000 < a + n) || !rangeOk a n || (decide (dpaKind a = .hbm) && !s.ready .NBU (dpaStack a))

/-- An access of a function through BAR2. A function in D3hot answers none. -/
def doBar2Access (x : Port) (fn : Fin 33) (off : BitVec 39) (write : Bool) (len : Nat) (data : Bytes) (ue : Bool)
    (s : State) : State :=
  let n := if write then data.length else len
  if s.portState x = 0 ∨ (s.fn x fn).d3hot ∨ 2 ^ s.barLog2 x fn < off.toNat + n then s
  else
    let part := if fn.val = 0 then none else s.vfPart x (fn.val - 1)
    if fn.val ≠ 0 ∧ part.isNone then s.answerUr x write
    else
      match s.window x fn off.toNat with
      | none => s.answerUr x write
      | some a =>
        match part with
        | some p =>
          if s.inGrant p a n && !s.hostReserved a n then s.serveHost x part a write n data ue
          else
            let s := if s.inGrant p a n then s.report (hifReport x part a) else s
            if write then s.inc (HIF_CA_SENT.COUNT x.num) else s.answerCa x
        | none =>
          if s.hostReserved a n then
            let s := s.report (hifReport x none a)
            if write then s else s.answerCa x
          else if write ∧ dpaKind a = .record then s
          else s.serveHost x none a write n data ue

/-- A device read of host memory through the port times out: the next read of that port's window completes with LINK_FAILED
(R359). -/
def doPcieCompletionTimeout (x : Port) (s : State) : State :=
  if !s.portUp x ∨ s.hif.timeouts.contains x then s
  else { s with hif := { s.hif with timeouts := x :: s.hif.timeouts } }

/-! ## DOE mailboxes (R372) -/

/-- A request object of `len` bytes is complete; the mailboxes accept requests once the vestibule has booted. A mailbox that
holds an object is Busy and takes no other. A DOE Discovery object is answered by the mailbox itself. -/
def doDoeObject (x : Port) (kind : Fin 3) (len : BitVec 20) (s : State) : State :=
  if !s.portUp x ∨ s.rd VES_STATE.STEP ≠ 6 ∨ s.hif.doe.any (fun o => o.port == x) then s
  else if 16384 < len.toNat then
    { s with hif := { s.hif with doeError := Tab.put (fun _ => false) s.hif.doeError x.num true } }
  else if kind = 0 then (s.inc (HIF_DOE_OBJECTS.COUNT x.num)).emit (.answer x.num 0 [])
  else { s with hif := { s.hif with doe := s.hif.doe ++ [{ port := x, kind := kind, len := len.toNat }] },
                ves := { s.ves with queue := s.ves.queue ++ [.doe x] } }

/-- DOE Abort discards the object in hand, and clears DOE Error (PRESUMED, log 25). -/
def doDoeAbort (x : Port) (s : State) : State :=
  State.dropDoe { s with hif := { s.hif with doeError := Tab.put (fun _ => false) s.hif.doeError x.num false } } x

def execHostPortLinkUp (x : Port) (speed : Fin 7) (width : Fin 9) (s : State) : Host.Outcome State Fault Refusal := .next (doHostPortLinkUp x speed width s)
def execHostPortLinkDown (x : Port) (s : State) : Host.Outcome State Fault Refusal := .next (doHostPortLinkDown x s)
def execPfFlr (x : Port) (s : State) : Host.Outcome State Fault Refusal := .next (doPfFlr x s)
def execVfFlr (x : Port) (v : Fin 32) (s : State) : Host.Outcome State Fault Refusal := .next (doVfFlr x v s)
def execHifHeartbeat (a : Agent) (x : Port) (s : State) : Host.Outcome State Fault Refusal :=
  .next (s.whenReady .HIF x.num (doHifHeartbeat a x))
def execHeartbeatTimeout (x : Port) (s : State) : Host.Outcome State Fault Refusal := .next (doHeartbeatTimeout x s)
def execRebind (a : Agent) (p : Fin 64) (s : State) : Host.Outcome State Fault Refusal :=
  .next (s.whenAnyReady .HIF (doRebind a p))
def execRebindAll (a : Agent) (s : State) : Host.Outcome State Fault Refusal :=
  .next (s.whenAnyReady .HIF (doRebindAll a))
def execTakePrimary (a : Agent) (s : State) : Host.Outcome State Fault Refusal :=
  .next (s.whenAnyReady .HIF (doTakePrimary a))
def execGivePrimary (a : Agent) (s : State) : Host.Outcome State Fault Refusal :=
  .next (s.whenAnyReady .HIF (doGivePrimary a))
def execRebindApply (s : State) : Host.Outcome State Fault Refusal := .next (doRebindApply s)
def execMsixSend (s : State) : Host.Outcome State Fault Refusal := .next (doMsixSend s)
def execMsixHeldRelease (i : Nat) (s : State) : Host.Outcome State Fault Refusal := .next (doMsixHeldRelease i s)
def execConfigSpaceWrite (x : Port) (fn : Fin 33) (w : CfgWrite) (s : State) : Host.Outcome State Fault Refusal := .next (doConfigSpaceWrite x fn w s)
def execBar2Access (x : Port) (fn : Fin 33) (off : BitVec 39) (write : Bool) (len : Nat) (data : Bytes) (ue : Bool) (s : State) : Host.Outcome State Fault Refusal := .next (doBar2Access x fn off write len data ue s)
def execPcieCompletionTimeout (x : Port) (s : State) : Host.Outcome State Fault Refusal := .next (doPcieCompletionTimeout x s)
def execDoeObject (x : Port) (kind : Fin 3) (len : BitVec 20) (s : State) : Host.Outcome State Fault Refusal := .next (doDoeObject x kind len s)
def execDoeAbort (x : Port) (s : State) : Host.Outcome State Fault Refusal := .next (doDoeAbort x s)

end Sys2Proof.Machine
end

