-- ==== Sys2Proof/Machine/Vestibule.lean ====
section
/-! DEFINITION. The vestibule: firmware images and banks, measurements, its command register, SPDM sessions, ownership and
fabric roots (R406 to R422). -/

namespace Sys2Proof.Machine

/-! ## Measurements (R411) -/

/-- The bytes of a measurement slot: word 0 holds the first eight. -/
def slotRef (n k : Nat) : FieldRef :=
  match k with
  | 0 => VES_SLOT_V0.VALUE0 n
  | 1 => VES_SLOT_V1.VALUE1 n
  | 2 => VES_SLOT_V2.VALUE2 n
  | 3 => VES_SLOT_V3.VALUE3 n
  | 4 => VES_SLOT_V4.VALUE4 n
  | _ => VES_SLOT_V5.VALUE5 n

def hashRef (i k : Nat) : FieldRef :=
  match k with
  | 0 => VES_COMP_W2.HASH0 i
  | 1 => VES_COMP_W3.HASH1 i
  | 2 => VES_COMP_W4.HASH2 i
  | 3 => VES_COMP_W5.HASH3 i
  | 4 => VES_COMP_W6.HASH4 i
  | _ => VES_COMP_W7.HASH5 i

def State.slotWords (s : State) (n : Nat) : List Word := (List.range 6).map (fun k => s.reg (slotRef n k).off)

def State.slotBytes (s : State) (n : Nat) : Bytes := (s.slotWords n).flatMap (fun w => leBytes 8 w.toNat)

/-- Six words from a 48-byte digest. -/
def State.putDigest (s : State) (ref : Nat → FieldRef) (d : Bytes) : State :=
  (List.range 6).foldl (fun s k => s.wr (ref k) (leNat ((d.drop (8 * k)).take 8))) s

def sha384 (m : Bytes) : Bytes := (List.range 48).map (Sys2Proof.Config.sha384 m)

/-- An extend: the slot, its count and its time, and the log while it has room. -/
def State.extend (s : State) (n : Nat) (v : Bytes) : State :=
  let s := s.putDigest (slotRef n) (sha384 (s.slotBytes n ++ v))
  let s := (s.addMod (VES_SLOT_W6.EXTENDS n) 1).wr (VES_SLOT_W7.LAST_AT n) s.mer32
  if s.ves.log.length < 1024 then { s with ves := { s.ves with log := s.ves.log ++ [(n, v)] } }
  else s.inc VES_LOG_LOST.COUNT

/-- The SECURITY record (Table 22-2) of a component or unit, with an agent's VES_RESULT. -/
def State.securityRecord (s : State) (a : Agent) (st : Status) (blk what : Nat) : State :=
  s.report { cls := 0x0C, status := st.code, sev := if st = Status.ok then 0 else 3, blk := blk, d0 := what,
             d1 := (s.privReg VES_RESULT.STATUS.off a.code).toNat }

/-- A debug event (R420): slot 7 is extended with a value the spec does not give. -/
def State.debugEvent (s : State) (a : Agent) : State :=
  let v := s.freeBytes 48
  ((v.2.extend 7 v.1).inc VES_DEBUG_EVENTS.COUNT).securityRecord a .ok Blk.VES.code 0

/-- The first access of a debug path after module reset (R420). -/
def State.notePath (s : State) (a : Agent) (path : Nat) : State :=
  if s.ves.debugPaths.contains path then s
  else State.debugEvent { s with ves := { s.ves with debugPaths := path :: s.ves.debugPaths } } a

/-! ## Components (R407, R408, R415) -/

def State.comp (s : State) (c : Nat) : FwComp := Tab.get (fun _ => {}) s.ves.comps c

def State.setComp (s : State) (c : Nat) (v : FwComp) : State :=
  { s with ves := { s.ves with comps := Tab.put (fun _ => {}) s.ves.comps c v } }

def FwComp.bank (v : FwComp) (b : Bool) : FwImage := if b then v.bankB else v.bankA

def FwComp.setBank (v : FwComp) (b : Bool) (m : FwImage) : FwComp := if b then { v with bankB := m } else { v with bankA := m }

def FwComp.active (v : FwComp) : FwImage := v.bank v.running

/-- A component code of Table 20-2. -/
def compOk (c : Nat) : Bool := decide (1 ≤ c ∧ c ≤ 6)

/-- The measurement slot of a component's images (Table 20-6). -/
def compSlot (c : Nat) : Nat := if c = 1 then 0 else c

/-- Show a component in its register entry. -/
def State.showComp (s : State) (c : Nat) : State :=
  let v := s.comp c
  let i := c - 1
  let s := (s.wr (VES_COMP_W0.ACTIVE_BANK i) (b01 v.running)).wr (VES_COMP_W0.STAGED i) (b01 v.staged)
  let s := (s.wr (VES_COMP_W0.FAILED_BANK_OTHER i) (b01 v.otherFailed)).wr (VES_COMP_W0.SVN i) v.active.svn
  let s := (s.wr (VES_COMP_W0.FLOOR i) v.floor).wr (VES_COMP_W0.VERSION i) v.active.version
  let s := s.wr (VES_COMP_W1.STAGED_VERSION i) (if v.staged then (v.bank (!v.running)).version else 0)
  s.putDigest (hashRef i) v.active.hash

/-- Neither of an image's keys is revoked. -/
def State.keysLive (s : State) (m : FwImage) : Bool := !bitOf s.ves.revoked m.edKey && !bitOf s.ves.revoked m.mldsaKey

/-- An image as its checks read it: `rd off n` is the little-endian number of the n bytes at an offset. -/
abbrev ImageReader := Nat → Nat → Nat

def State.imageAt (s : State) (a : Nat) : ImageReader := fun off n => s.num (a + off) n

def imageOf (bs : Bytes) : ImageReader := fun off n => leNat ((bs.drop off).take n)

def readWord (rd : ImageReader) (off : Nat) : Word := BitVec.ofNat 64 (rd off 8)

/-- Check 1 of Table 20-4, on an image of `len` bytes. -/
def fwHeaderOk (rd : ImageReader) (len comp : Nat) : Bool :=
  let w0 := readWord rd 0
  let n := getBits (readWord rd 8) 0 32
  let w2 := readWord rd 16
  let at_ (k : Nat) : Nat := getBits w2 k 2
  getBits w0 0 32 == 0x1620F1A5 && getBits w0 32 16 == 1 && getBits w0 48 8 == comp && getBits w0 56 8 == 0 &&
  n % 8 == 0 && decide (8 ≤ n) && decide (n ≤ 16777216) && len == 128 + n + 3376 &&
  getBits w2 6 2 == 0 && getBits w2 10 2 == 0 && getBits w2 14 2 == 0 && getBits w2 17 3 == 0 && getBits w2 24 40 == 0 &&
  (!getBit w2 16 || (!bitOf (getBits w2 20 4) (at_ 8) && !bitOf (getBits w2 20 4) (at_ 12))) &&
  rd 0x48 0x38 == 0 && rd (len - 3) 3 == 0

/-- The image a header describes. -/
def fwImage (rd : ImageReader) : FwImage :=
  let w2 := readWord rd 16
  { present := true, svn := getBits w2 0 6, version := getBits (readWord rd 8) 32 32, edKey := getBits w2 8 2,
    mldsaKey := getBits w2 12 2, revokeEn := getBit w2 16, revokeMask := getBits w2 20 4,
    hash := (List.range 48).map (fun i => BitVec.ofNat 8 (rd (0x18 + i) 1)) }

/-! ## The command register (R422) -/

/-- A command is decided. -/
def State.vesResult (s : State) (a : Agent) (op detail : Nat) (st : Status) : State :=
  let c := a.code
  let s := (s.wrPriv c VES_RESULT.STATUS st.code).wrPriv c VES_RESULT.DETAIL detail
  let s := (s.wrPriv c VES_RESULT.OP op).wrPriv c VES_RESULT.BUSY 0
  s.wrPriv c VES_RESULT.SEQ ((s.rdPriv c VES_RESULT.SEQ + 1) % 2 ^ 32)

def State.popVes (s : State) : State := { s with ves := { s.ves with queue := s.ves.queue.tail } }

/-- A command of the vestibule is in hand. -/
def State.vesCmdRuns (s : State) : Bool :=
  s.ves.queue.any (fun q => match q with
    | .cmd .. => true
    | .enroll .. => true
    | _ => false)

def State.setSessions (s : State) (l : List Session) : State :=
  State.wr { s with ves := { s.ves with sessions := l } } VES_STATE.SESSIONS l.length

/-- A READY bit rises, and rings the readiness doorbell (R433). -/
def State.raiseReady (s : State) (b : Blk) (inst : Nat) : State :=
  if s.ready b inst then s
  else
    let s := s.wr (PREFIX_STATUS.READY (blockBase b inst)) 1
    s.bellIf (s.on ATR_NOTIFY.READY_EN) (s.rd ATR_NOTIFY.DB_PART) (s.rd ATR_NOTIFY.DB_SOURCE)

/-- ACTIVATE of a staged component begins: the boot selector names the staged bank. The vestibule itself restarts (R418). -/
def State.startActivation (s : State) (c : Nat) : State :=
  let v := s.comp c
  let s := s.setComp c { v with selector := !v.running }
  let s : State := { s with ves := { s.ves with activating := some c } }
  if c ≠ 1 then s
  else
    let s := (s.wr VES_STATE.RESTARTING 1).wr (PREFIX_STATUS.READY (blockBase .VES 0)) 0
    ((s.setSessions []).dropDoe .HA).dropDoe .HB

/-- COMMIT_SVN: the floor rises to the SVN of the active image, and what that image revokes is revoked. -/
def State.commitSvn (s : State) (c : Nat) : State :=
  let v := s.comp c
  let m := v.active
  let s := s.setComp c { v with floor := max v.floor m.svn }
  let s : State := if m.revokeEn then
      { s with ves := { s.ves with revoked := (List.range 4).foldl (fun r i => if bitOf m.revokeMask i then withBit r i else r)
                                                s.ves.revoked } }
    else s
  s.showComp c

/-- LOG_READ: whole entries, as many as fit. -/
def State.logBytes (s : State) (len : Nat) : Bytes :=
  (s.ves.log.take (len / 64)).flatMap (fun e => (List.range 64).map (Sys2Proof.Config.logEntry e.1 e.2))

def vesMem (a : Nat) : Report := memReport Blk.VES.code 0 0xFF none a

/-- Decide a command at once, where it can be: its state, DETAIL and status. STAGE_FW and an ACTIVATE that finds a staged
bank take their time. -/
def State.decideVes (s : State) (a : Agent) (op comp addr len : Nat) : Option (State × Nat × Status) :=
  if op = 1 then (if compOk comp ∧ len ≠ 0 then none else some (s, 0, .badLength))
  else if op = 2 then
    if !compOk comp then some (s, 0, .badLength)
    else if (s.comp comp).staged then none
    else some (s, 9, .refusedPolicy)
  else if op = 3 then (if compOk comp then some (s.commitSvn comp, 1, .ok) else some (s, 0, .badLength))
  else if op = 5 then some ((s.wr VES_DEBUG.J7_EN 1).debugEvent a, 1, .ok)
  else if op = 6 then some ((s.wr VES_DEBUG.J7_EN 0).debugEvent a, 1, .ok)
  else if op = 7 then
    if len % 64 ≠ 0 then some (s, 0, .badLength)
    else
      let d := s.logBytes len
      let st := s.storeStatus addr d.length
      some (s.devWrite (vesMem addr) addr d, if st = Status.ok then 1 else 0, st)
  else some (s, 0, .badLength)

/-- ENROLL: a record signed with both owner keys and of a newer serial replaces the enrolled set (R416). -/
def State.decideEnroll (s : State) (addr len serial keys : Nat) (good : Bool) : State × Nat × Status :=
  if len = 0 then (s, 0, .badLength)
  else if s.accessStatus addr len ≠ .ok then
    (s.noteAccess false (vesMem addr) addr len, 0, s.accessStatus addr len)
  else if !good ∨ s.ves.owner.isNone ∨ serial ≤ s.ves.enrolSerial then (s, 0, .refusedPolicy)
  else
    let d := sha384 (s.bytes addr len)
    let s : State := { s with ves := { s.ves with enrolSerial := serial, enrolled := keys } }
    (s.extend 8 d, 1, .ok)

/-- The vestibule takes its queue in order: commands that can be decided at once are, up to the first item that cannot. -/
def State.settleVes : Nat → State → State
  | 0, s => s
  | n + 1, s =>
    if !s.ready .VES 0 then s
    else
      match s.ves.queue with
      | .cmd a op comp addr len :: _ =>
        match s.decideVes a op comp addr len with
        | some r => State.settleVes n (r.1.popVes.vesResult a op r.2.1 r.2.2)
        | none => if op = 2 ∧ s.ves.activating.isNone then s.startActivation comp else s
      | .enroll a addr len serial keys good :: _ =>
        let r := s.decideEnroll addr len serial keys good
        State.settleVes n (r.1.popVes.vesResult a 4 r.2.1 r.2.2)
      | .pldm c :: _ => if s.ves.activating.isNone then s.startActivation c else s
      | _ => s

def State.runVes (s : State) : State := State.settleVes (s.ves.queue.length + 1) s

/-- A write of VES_CMD: the primary PF alone may make it, while the vestibule is READY and runs no command
and no PLDM update (R466). -/
def State.vesCommand (s : State) (a : Agent) (q : VesItem) : State :=
  if a ≠ .pf s.primary then s.refuseWrite a .VES 0
  else if !s.ready .VES 0 ∨ s.vesCmdRuns ∨ s.ves.update.phase ≠ .idle then s.countRefused .VES 0
  else
    let s := s.wrPriv a.code VES_RESULT.BUSY 1
    State.runVes { s with ves := { s.ves with queue := s.ves.queue ++ [q] } }

/-- A command with the arguments the registers hold. -/
def State.vesOp (s : State) (a : Agent) (op comp : Nat) : State :=
  s.vesCommand a (.cmd a op comp (s.rd VES_ARG0.DPA) (s.rd VES_ARG1.LEN))

def doStageFw (a : Agent) (comp : BitVec 8) (s : State) : State := s.vesOp a 1 comp.toNat
def doActivate (a : Agent) (comp : BitVec 8) (s : State) : State := s.vesOp a 2 comp.toNat
def doCommitSvn (a : Agent) (comp : BitVec 8) (s : State) : State := s.vesOp a 3 comp.toNat

/-- ENROLL, of a record with a serial and so many key pairs; good: both owner signatures verify. -/
def doEnroll (a : Agent) (serial : BitVec 64) (keys : Fin 9) (good : Bool) (s : State) : State :=
  s.vesCommand a (.enroll a (s.rd VES_ARG0.DPA) (s.rd VES_ARG1.LEN) serial.toNat keys good)

def doDebugEnable (a : Agent) (s : State) : State := s.vesOp a 5 0
def doDebugDisable (a : Agent) (s : State) : State := s.vesOp a 6 0
def doLogRead (a : Agent) (s : State) : State := s.vesOp a 7 0

/-- The outcome of the checks of Table 20-4: DETAIL, 1 when all pass. The verdict gives what the digest and the signatures
show: 0 all verify, 1 the hash differs, 2 a signature fails. -/
def State.fwDetail (s : State) (rd : ImageReader) (len comp verdict : Nat) : Nat :=
  let m := fwImage rd
  if !fwHeaderOk rd len comp then 4
  else if m.svn < (s.comp comp).floor then 5
  else if !s.keysLive m then 6
  else if verdict = 1 then 3
  else if verdict = 2 then 2
  else 1

/-- The check, the flash write and the read-back of a staged image end. Verdict 3: the flash write or read-back failed; 4: the
read met an uncorrectable error. -/
def doStageFwDone (verdict : Fin 5) (s : State) : State :=
  match s.ves.queue with
  | .cmd a op comp addr len :: _ =>
    if op ≠ 1 ∨ !s.ready .VES 0 then s
    else
      let v := s.comp comp
      let access := s.accessStatus addr len
      let d := s.fwDetail (s.imageAt addr) len comp verdict
      let r : State × Nat × Status :=
        if access ≠ .ok then (s.noteAccess false (vesMem addr) addr len, 0, access)
        else if verdict = 4 then ((s.noteUe).report (vesMem addr), 0, .uncorrected)
        else if d ≠ 1 then (s.inc VES_VERIFY_FAIL.COUNT, d, .refusedPolicy)
        else if verdict = 3 then
          ((s.setComp comp { v.setBank (!v.running) {} with staged := false }).inc VES_IMAGES_OK.COUNT, 7, .uncorrected)
        else
          ((s.setComp comp { v.setBank (!v.running) (fwImage (s.imageAt addr)) with staged := true }).inc VES_IMAGES_OK.COUNT, 1, .ok)
      let t := ((r.1.showComp comp).popVes).vesResult a 1 r.2.1 r.2.2
      let t := if access = .ok ∧ verdict ≠ 4 ∧ d ≠ 1 then t.securityRecord a .refusedPolicy Blk.VES.code comp else t
      t.runVes
  | _ => s

/-- The new image runs, and its slot is extended. -/
def State.endActivation (s : State) (c : Nat) : State :=
  let v := s.comp c
  let s := s.setComp c { v with running := v.selector, staged := false, otherFailed := false }
  let s : State := { s with ves := { s.ves with activating := none } }
  let s := (s.showComp c).extend (compSlot c) (s.comp c).active.hash
  if c = 1 then (s.wr VES_STATE.RESTARTING 0).raiseReady .VES 0 else s

/-- The PLDM update is over once its last component runs. -/
def State.endUpdate (s : State) : State :=
  if s.ves.queue.any (fun q => match q with
      | .pldm _ => true
      | _ => false) then s
  else { s with ves := { s.ves with update := {} } }

/-- The live switch ends, and the command completes. -/
def doLiveActivationEnd (s : State) : State :=
  match s.ves.activating, s.ves.queue with
  | some c, .cmd a _ _ _ _ :: _ => ((s.endActivation c).popVes.vesResult a 2 1 .ok).runVes
  | some c, .pldm _ :: _ => ((s.endActivation c).popVes.endUpdate).runVes
  | _, _ => s

/-! ## SPDM (R412) -/

/-- Response codes of SPDM, for the answers that leave the module. -/
def spdmError : Nat := 0x7F

/-- The vestibule can answer a request from the path now. One in a mailbox must be the oldest it holds, in an object of the
kind (1 CMA/SPDM, 2 Secured CMA/SPDM); a message through a port that is not UP is lost (R464). -/
def State.spdmTurn (s : State) (x : SpdmPath) (kind : Nat) : Bool :=
  s.ready .VES 0 &&
  match x with
  | .doe p =>
    (match s.ves.queue with
     | .doe q :: _ => decide (p = q)
     | _ => false) && s.hif.doe.any (fun o => o.port == p && o.kind == kind)
  | .vdm p => s.portUp p
  | .i3c => true

/-- Answer: the object leaves the mailbox and is counted. -/
def State.spdmAnswer (s : State) (x : SpdmPath) (code : Nat) (ws : List Word) : State :=
  let s := match x with
    | .doe p => ((s.dropDoe p).inc (HIF_DOE_OBJECTS.COUNT p.num)).inc VES_SPDM_OBJECTS.COUNT
    | _ => s
  (s.emit (.answer x.num code ws)).runVes

/-- A request outside any session. -/
def State.spdmPlain (s : State) (x : SpdmPath) (code : Nat) (ws : List Word) : State :=
  if s.spdmTurn x 1 then s.spdmAnswer x code ws else s

/-- A request inside the i-th open session, on the session's own path; `f` gives what it does. -/
def State.spdmInside (s : State) (x : SpdmPath) (i : Nat) (f : Session → State) : State :=
  if !s.spdmTurn x 2 then s
  else
    match s.ves.sessions[i]? with
    | some e => if e.path = x.num then f e else s.spdmAnswer x spdmError [1]
    | none => s.spdmAnswer x spdmError [1]

def doGetVersion (x : SpdmPath) (s : State) : State := s.spdmPlain x 0x04 [0x13]
def doGetCapabilities (x : SpdmPath) (s : State) : State := s.spdmPlain x 0x61 [16]
def doNegotiateAlgorithms (x : SpdmPath) (s : State) : State := s.spdmPlain x 0x63 []
def doGetDigests (x : SpdmPath) (s : State) : State := s.spdmPlain x 0x01 []

/-- Certificate slots 0 (Ed25519) and 1 (ML-DSA-65). -/
def doGetCertificate (x : SpdmPath) (slot : Fin 8) (s : State) : State :=
  if slot.val < 2 then s.spdmPlain x 0x02 [BitVec.ofNat 64 slot] else s.spdmPlain x spdmError [1]

def doChallenge (x : SpdmPath) (slot : Fin 8) (s : State) : State :=
  if slot.val < 2 then s.spdmPlain x 0x03 [BitVec.ofNat 64 slot] else s.spdmPlain x spdmError [1]

/-- Slot n is measurement index n + 1; index 0 asks for all. -/
def doGetMeasurements (x : SpdmPath) (index : Fin 33) (signed : Bool) (s : State) : State :=
  let ws := if index.val = 0 then (List.range 32).flatMap (fun n => s.slotWords n) else s.slotWords (index.val - 1)
  s.spdmPlain x 0x60 (BitVec.ofNat 64 (b01 signed) :: ws)

/-- At most four secured sessions are open; a further one gets ERROR with Busy. -/
def doKeyExchange (x : SpdmPath) (s : State) : State :=
  if !s.spdmTurn x 1 then s
  else if 4 ≤ s.ves.sessions.length then s.spdmAnswer x spdmError [3]
  else (s.setSessions (s.ves.sessions ++ [{ path := x.num }])).spdmAnswer x 0x64 []

/-- FINISH of a session; good: its verification succeeds. A requester that authenticates mutually shows its chain's root. -/
def doSpdmFinish (x : SpdmPath) (i : Fin 4) (good : Bool) (chain : Option OwnerRoot) (s : State) : State :=
  s.spdmInside x i (fun e =>
    if e.finished ∨ !good then s.spdmAnswer x spdmError [1]
    else (s.setSessions (s.ves.sessions.set i { e with finished := true, chain := chain })).spdmAnswer x 0x65 [])

/-- A message of a finished session. -/
def State.spdmSession (s : State) (x : SpdmPath) (i : Nat) (f : Session → State) : State :=
  s.spdmInside x i (fun e => if e.finished then f e else s.spdmAnswer x spdmError [1])

def doSpdmHeartbeat (x : SpdmPath) (i : Fin 4) (s : State) : State := s.spdmSession x i (fun _ => s.spdmAnswer x 0x68 [])
def doKeyUpdate (x : SpdmPath) (i : Fin 4) (s : State) : State := s.spdmSession x i (fun _ => s.spdmAnswer x 0x69 [])

def doEndSession (x : SpdmPath) (i : Fin 4) (s : State) : State :=
  s.spdmSession x i (fun _ => (s.setSessions (s.ves.sessions.eraseIdx i)).spdmAnswer x 0x6C [])

/-! ## Ownership and fabric roots (R413, R406, R419) -/

/-- A Phoinavi vendor-defined request: a session whose requester authenticated mutually with a chain that ends at the owner
root. Before a root is fused, the chain ends at the root `own` that the request brings (DEDUCED, log 27). The answer carries a status. -/
def State.vendor (s : State) (x : SpdmPath) (i : Nat) (own : Option OwnerRoot) (f : State → State × Status) : State :=
  if !s.spdmTurn x 2 then s
  else
    let root := if s.ves.owner.isSome then s.ves.owner else own
    match s.ves.sessions[i]? with
    | some e =>
      if e.path = x.num ∧ e.finished ∧ e.chain.isSome ∧ e.chain = root then
        let r := f s
        r.1.spdmAnswer x 0x7E [BitVec.ofNat 64 r.2.code]
      else s.spdmAnswer x spdmError [1]
    | none => s.spdmAnswer x spdmError [1]

/-- The owner root is fused once. -/
def doTakeOwnership (x : SpdmPath) (i : Fin 4) (root : OwnerRoot) (s : State) : State :=
  s.vendor x i (some root) (fun s =>
    if s.ves.owner.isSome then (s, .refusedPolicy)
    else (State.wr { s with ves := { s.ves with owner := some root } } VES_STATE.OWNED 1, .ok))

/-- Install a fabric root; slot 9 takes its serial and ACTIVE_AT. -/
def doFabricRoot (x : SpdmPath) (i : Fin 4) (serial : BitVec 16) (activeAt : BitVec 64) (s : State) : State :=
  s.vendor x i none (fun s =>
    if serial.toNat ≤ s.rd VES_STATE.FKR_CUR then (s, .refusedPolicy)
    else
      let s : State := { s with ves := { s.ves with roots := s.ves.roots ++ [(serial.toNat, activeAt.toNat)] } }
      (s.extend 9 (leBytes 2 serial.toNat ++ leBytes 8 activeAt.toNat), .ok))

/-- At meridian ACTIVE_AT an installed root becomes current, and the one that was current becomes the previous one. A root
overtaken by a newer one never becomes current. -/
def doFabricRootActivate (s : State) : State :=
  match s.ves.roots.find? (fun r => decide (r.2 ≤ s.mer)) with
  | none => s
  | some r =>
    let s : State := { s with ves := { s.ves with roots := s.ves.roots.erase r } }
    if r.1 ≤ s.rd VES_STATE.FKR_CUR then s
    else (s.wr VES_STATE.FKR_PREV (s.rd VES_STATE.FKR_CUR)).wr VES_STATE.FKR_CUR r.1

def execStageFw (a : Agent) (comp : BitVec 8) (s : State) : Host.Outcome State Fault Refusal := .next (doStageFw a comp s)
def execActivate (a : Agent) (comp : BitVec 8) (s : State) : Host.Outcome State Fault Refusal := .next (doActivate a comp s)
def execCommitSvn (a : Agent) (comp : BitVec 8) (s : State) : Host.Outcome State Fault Refusal := .next (doCommitSvn a comp s)
def execEnroll (a : Agent) (serial : BitVec 64) (keys : Fin 9) (good : Bool) (s : State) : Host.Outcome State Fault Refusal := .next (doEnroll a serial keys good s)
def execDebugEnable (a : Agent) (s : State) : Host.Outcome State Fault Refusal := .next (doDebugEnable a s)
def execDebugDisable (a : Agent) (s : State) : Host.Outcome State Fault Refusal := .next (doDebugDisable a s)
def execLogRead (a : Agent) (s : State) : Host.Outcome State Fault Refusal := .next (doLogRead a s)
def execStageFwDone (verdict : Fin 5) (s : State) : Host.Outcome State Fault Refusal := .next (doStageFwDone verdict s)
def execLiveActivationEnd (s : State) : Host.Outcome State Fault Refusal := .next (doLiveActivationEnd s)
def execGetVersion (x : SpdmPath) (s : State) : Host.Outcome State Fault Refusal := .next (doGetVersion x s)
def execGetCapabilities (x : SpdmPath) (s : State) : Host.Outcome State Fault Refusal := .next (doGetCapabilities x s)
def execNegotiateAlgorithms (x : SpdmPath) (s : State) : Host.Outcome State Fault Refusal := .next (doNegotiateAlgorithms x s)
def execGetDigests (x : SpdmPath) (s : State) : Host.Outcome State Fault Refusal := .next (doGetDigests x s)
def execGetCertificate (x : SpdmPath) (slot : Fin 8) (s : State) : Host.Outcome State Fault Refusal := .next (doGetCertificate x slot s)
def execChallenge (x : SpdmPath) (slot : Fin 8) (s : State) : Host.Outcome State Fault Refusal := .next (doChallenge x slot s)
def execGetMeasurements (x : SpdmPath) (index : Fin 33) (signed : Bool) (s : State) : Host.Outcome State Fault Refusal := .next (doGetMeasurements x index signed s)
def execKeyExchange (x : SpdmPath) (s : State) : Host.Outcome State Fault Refusal := .next (doKeyExchange x s)
def execSpdmFinish (x : SpdmPath) (i : Fin 4) (good : Bool) (chain : Option OwnerRoot) (s : State) : Host.Outcome State Fault Refusal := .next (doSpdmFinish x i good chain s)
def execSpdmHeartbeat (x : SpdmPath) (i : Fin 4) (s : State) : Host.Outcome State Fault Refusal := .next (doSpdmHeartbeat x i s)
def execKeyUpdate (x : SpdmPath) (i : Fin 4) (s : State) : Host.Outcome State Fault Refusal := .next (doKeyUpdate x i s)
def execEndSession (x : SpdmPath) (i : Fin 4) (s : State) : Host.Outcome State Fault Refusal := .next (doEndSession x i s)
def execTakeOwnership (x : SpdmPath) (i : Fin 4) (root : OwnerRoot) (s : State) : Host.Outcome State Fault Refusal := .next (doTakeOwnership x i root s)
def execFabricRoot (x : SpdmPath) (i : Fin 4) (serial : BitVec 16) (activeAt : BitVec 64) (s : State) : Host.Outcome State Fault Refusal := .next (doFabricRoot x i serial activeAt s)
def execFabricRootActivate (s : State) : Host.Outcome State Fault Refusal := .next (doFabricRootActivate s)

end Sys2Proof.Machine
end

