-- ==== Sys2Proof/Machine/Programs.lean ====
section
/-! DEFINITION. Program images: staging, verification and installing (R97 to R103). -/

namespace Sys2Proof.Machine

/-! ## The program-load registers of a unit (Table 4-5) -/

/-- Where the unit's program-load registers stand: the NWL block holds one set a core. -/
def progBase (u : Nat) : Nat :=
  blockBase (unitBlk u).1 (unitBlk u).2 + (if 0x20 ≤ u then 0x40 * (u - 0x20) else 0)

/-- The agent may write the program-load registers of a unit (R362, R82). -/
def State.mayLoad (s : State) (a : Agent) (u : Nat) : Bool :=
  if u < 0x10 then s.mayWriteGal a u else s.mayWriteDevice a

/-! ## Staging (R99) -/

/-- STAGE sends the image to the vestibule, in order of arrival. -/
def doProgStage (a : Agent) (u : Fin 64) (s : State) : State :=
  if (unitKind u).isNone then s
  else if !s.mayLoad a u then s.refuseWrite a (unitBlk u).1 (unitBlk u).2
  else if s.on (PROG_STATUS.BUSY (progBase u)) then s.countRefused (unitBlk u).1 (unitBlk u).2
  else
    let s := s.wr (PROG_STATUS.BUSY (progBase u)) 1
    State.runVes { s with ves := { s.ves with queue := s.ves.queue ++ [.prog u] } }

def UnitKind.code : UnitKind → Nat
  | .gal => 0
  | .nb => 1
  | .hel => 2
  | .nwl => 3

/-- The image a header in memory describes (Table 4-4). -/
def State.progImage (s : State) (a : Nat) : Image :=
  let w (k : Nat) : Word := s.word (a + 8 * k)
  { present := true, proven := getBit (w 0) 56, cmOperands := getBit (w 0) 57, agent := getBit (w 0) 58,
    codeWords := getBits (w 1) 0 32,
    entryC := BitVec.ofNat 16 (getBits (w 2) 0 16), entryB1 := BitVec.ofNat 16 (getBits (w 2) 16 16),
    entryB2 := BitVec.ofNat 16 (getBits (w 2) 32 16), entryB3 := BitVec.ofNat 16 (getBits (w 2) 48 16),
    entryB4 := BitVec.ofNat 16 (getBits (w 3) 0 16),
    budget3 := getBits (w 4) 0 32, budget6 := getBits (w 4) 32 32, budget12 := getBits (w 5) 0 32,
    hbmRate := getBits (w 5) 32 32, residIn := getBits (w 6) 0 32, residOut := getBits (w 6) 32 32,
    serial := w 7, hash := s.bytes (a + 0x40) 48 }

/-- The entry words lie in the code; B entries are 0 but for newel cores. -/
def Image.entriesOk (m : Image) (k : UnitKind) : Bool :=
  let bs := [m.entryB1, m.entryB2, m.entryB3, m.entryB4]
  decide (m.entryC.toNat < m.codeWords) &&
  bs.all (fun e => if k = .nwl then decide (e.toNat < m.codeWords) else e == 0)

/-- The header, the length and the padding of an image of `len` bytes at a (RESULT 0x4). -/
def State.progHeaderOk (s : State) (a len : Nat) (k : UnitKind) : Bool :=
  let w0 := s.word a
  let m := s.progImage a
  getBits w0 0 32 == 0x1620A4D7 && getBits w0 32 16 == 1 && getBits w0 48 8 == k.code && getBits w0 59 5 == 0 &&
  (!m.agent || k == .nwl) && decide (1 ≤ m.codeWords) && decide (m.codeWords ≤ k.storeWords) && m.entriesOk k &&
  getBits (s.word (a + 24)) 16 48 == 0 && s.num (a + 0x70) 16 == 0 &&
  len == 128 + 8 * m.codeWords + 3376 && s.num (a + len - 3) 3 == 0

/-- The low 64 bits of CODE_HASH as the ID registers show them: header bytes 0x68 to 0x6F, big-endian. -/
def Image.id (m : Image) : Nat := beNat ((m.hash.drop 40).take 8)

/-- RESULT of a verification (Table 4-6). The verdict: 0 all verify, 1 the hash differs, 2 a signature fails, 3 the read met an
uncorrectable error. An image of the enrolled kind needs an enrolled key pair. -/
def State.progResult (s : State) (a len : Nat) (k : UnitKind) (verdict : Nat) : Nat :=
  if s.accessStatus a len ≠ .ok ∨ verdict = 3 then 9
  else if !s.progHeaderOk a len k then 4
  else if verdict = 1 then 3
  else if verdict = 2 ∨ (!(s.progImage a).agent ∧ s.ves.enrolled = 0) then 2
  else 1

/-- The standby store takes the code. -/
def State.loadStandby (s : State) (u a words : Nat) : State :=
  let t := s.larty.standby.filter (fun e => e.1 / 65536 != u)
  let t := (List.range words).foldl (fun t i => Tab.put (fun _ => 0) t (u * 65536 + i) (s.word (a + 128 + 8 * i))) t
  { s with larty := { s.larty with standby := t } }

/-- A verified image is staged, and measured (Table 20-6). -/
def State.stageImage (s : State) (u a : Nat) (k : UnitKind) : State :=
  let m := s.progImage a
  let b := progBase u
  let s := s.loadStandby u a m.codeWords
  let s := { s with larty := { s.larty with staged := Tab.put (fun _ => {}) s.larty.staged u m } }
  let s := (s.wr (PROG_STATUS.STAGED b) 1).wr (PROG_STAGED_ID.HASH b) m.id
  (s.inc VES_IMAGES_OK.COUNT).extend (10 + k.code) m.hash

/-- Verification of the image at the front of the vestibule's queue ends. -/
def doProgVerifyDone (verdict : Fin 4) (s : State) : State :=
  match s.ves.queue with
  | .prog u :: _ =>
    match unitKind u with
    | none => s
    | some k =>
      if !s.ready .VES 0 then s
      else
        let b := progBase u
        let a := s.rd (PROG_IMAGE.DPA b)
        let len := s.rd (PROG_LEN.BYTES b)
        let r := s.progResult a len k verdict
        let rep : Report := { memReport Blk.VES.code 0 u none a with unit := u }
        let t :=
          if r = 9 then
            (if s.accessStatus a len ≠ .ok then s.noteAccess false rep a len else (s.noteUe).report rep)
          else if r = 1 then s.stageImage u a k
          else (s.inc VES_VERIFY_FAIL.COUNT).report
            { cls := 0x0C, status := Status.refusedPolicy.code, sev := 3, blk := Blk.VES.code, unit := u, d0 := u }
        let t := if r = 1 then t else t.inc (PROG_FAILS.COUNT b)
        let t := (t.wr (PROG_STATUS.RESULT b) r).wr (PROG_STATUS.BUSY b) 0
        t.popVes.runVes
  | _ => s

/-! ## Installing (R100, R101) -/

/-- The length of the next meridian, and the length a pending switch brings. -/
def State.nextLen (s : State) : Nat :=
  if s.merp.switchPending ∧ s.rd MER_SWITCH_AT.COUNT ≤ s.mer + 1 then s.rd MER_LENGTH.LEN else s.merLen

def State.comingLens (s : State) : List Nat :=
  s.nextLen :: (if s.merp.switchPending then [s.rd MER_LENGTH.LEN] else [])

/-- An image's budget fits a length (R100). -/
def Image.fits (m : Image) (len : Nat) : Bool := m.budget len != 0 && decide (m.budget len ≤ lenBudget len)

/-- The checks of R100 in their order: RESULT, 1 when all pass. -/
def State.installResult (s : State) (u : Nat) : Nat :=
  let m : Image := Tab.get (fun _ => {}) s.larty.staged u
  if !s.on (PROG_STATUS.STAGED (progBase u)) then 8
  else if !m.proven ∧ s.rd (PREFIX_XPT.KEY (blockBase (unitBlk u).1 (unitBlk u).2)) ≠ 0xE1 then 7
  else if !s.comingLens.all (fun l => m.fits l) then 5
  else if m.residIn < (s.installedImage u).residOut then 6
  else 1

/-- A newel core shows its image's entry words and when it was installed (Table 3-20). -/
def State.showEntries (s : State) (u : Nat) : State :=
  let m := s.installedImage u
  let c := u - 0x20
  let s := (s.wr (NWL_C_ENTRY.C c) m.entryC.toNat).wr (NWL_C_ENTRY.B1 c) m.entryB1.toNat
  let s := (s.wr (NWL_C_ENTRY.B2 c) m.entryB2.toNat).wr (NWL_C_ENTRY.B3 c) m.entryB3.toNat
  (s.wr (NWL_C_ENTRY2.B4 c) m.entryB4.toNat).wr (NWL_C_STATE.INSTALLED_AT c) s.mer32

/-- Every context of the unit restarts from its entry word. -/
def State.restartUnit (s : State) (u : Nat) : State := (unitCtxs u).foldl (fun s x => s.restartCtx x) s

/-- The standby store becomes the working store (R101). -/
def State.install (s : State) (u : Nat) : State :=
  let b := progBase u
  let m : Image := Tab.get (fun _ => {}) s.larty.staged u
  let mine := s.larty.standby.filter (fun e => e.1 / 65536 == u)
  let s : State := { s with larty := { s.larty with
    work := mine.foldl (fun t e => Tab.put (fun _ => 0) t e.1 e.2) (s.larty.work.filter (fun e => e.1 / 65536 != u)),
    installed := Tab.put (fun _ => {}) s.larty.installed u m } }
  let s := (s.wr (PROG_STATUS.STAGED b) 0).wr (PROG_STATUS.INSTALLED_AT b) s.mer32
  let s := s.wr (PROG_ID.HASH b) m.id
  let s := if 0x20 ≤ u then s.showEntries u else s
  (s.restartUnit u).traceDev 0x0007 u 0 m.id

/-- A committed or live-written SWAP of a unit, at the landing that applies it: both copies are cleared, and the image is
installed where every check passes. -/
def State.swap (s : State) (u : Nat) : State :=
  let b := progBase u
  let r := s.installResult u
  let s := s.wr (PROG_CTL.SWAP b) 0
  let s := if r = 1 then s.install u else s.inc (PROG_FAILS.COUNT b)
  s.wr (PROG_STATUS.RESULT b) r

def execProgStage (a : Agent) (u : Fin 64) (s : State) : Host.Outcome State Fault Refusal :=
  .next (s.whenReady (unitBlk u).1 (unitBlk u).2 (doProgStage a u))
def execProgVerifyDone (verdict : Fin 4) (s : State) : Host.Outcome State Fault Refusal := .next (doProgVerifyDone verdict s)

end Sys2Proof.Machine
end

