-- ==== Sys2Proof/Machine/BringUp.lean ====
section
/-! DEFINITION. Power, module starts and readiness: the rails, the boot of the vestibule, the READY bits and what a module
reset keeps (R409, R410, R424 to R433, R438, R473, R483). -/

namespace Sys2Proof.Machine

/-! ## Readiness (R430 to R432) -/

/-- A block instance's bit in ATR_READY and ATR_HELD (Table 21-7). -/
def readyBit (b : Blk) (i : Nat) : Nat :=
  match b with
  | .ATR => 0
  | .MER => 1
  | .VES => 2
  | .HIF => 3 + i
  | .DBH => 5
  | .CAT => 6
  | .HEL => 7
  | .STW => 8
  | .FAB => 9 + i
  | .ORR => 13
  | .PHO => 14
  | .NWL => 15
  | .FLT => 16
  | .ALM => 17
  | .PRT => 18
  | .GAL => 32 + i
  | .NBU => 48 + i

/-- The instances that have a bit: the partitions share one. -/
def readyInsts (b : Blk) : Nat := if b = .PRT then 1 else blockInsts b

/-- Every block instance with a bit. -/
def readyBlocks : List (Blk × Nat) := Blk.all.flatMap (fun b => (List.range (readyInsts b)).map (fun i => (b, i)))

/-- The firmware components that a block needs (Table 21-3). -/
def blkComps (b : Blk) : List Nat :=
  match b with
  | .VES => [1]
  | .GAL => [3]
  | .NBU => [3, 4]
  | .FAB => [5]
  | .HIF => [6]
  | _ => [2]

def State.isHeld (s : State) (b : Blk) (i : Nat) : Bool := getBit (s.reg ATR_HELD.BLOCKS.off) (readyBit b i)

/-- ATR_READY as it reads. -/
def State.readyWord (s : State) : Word :=
  let w := readyBlocks.foldl (fun w x => setBits w (readyBit x.1 x.2) 1 (b01 (s.ready x.1 x.2))) 0
  setBits w 63 1 (b01 (readyBlocks.all (fun x => s.ready x.1 x.2 || s.isHeld x.1 x.2)))

/-- A block is held in reset because a component it needs failed in both banks (R432). -/
def State.holdBlocks (s : State) : State :=
  (readyBlocks.filter (fun x => (blkComps x.1).any (fun c => !(s.comp c).released))).foldl
    (fun s x => s.setReg ATR_HELD.BLOCKS.off (setBits (s.reg ATR_HELD.BLOCKS.off) (readyBit x.1 x.2) 1 1)) s

/-- The module has its rails, and its vestibule has booted. -/
def State.powered (s : State) : Bool := s.atr.rails == 9
def State.booted (s : State) : Bool := s.powered && s.rd VES_STATE.STEP == 6

/-- A block completes its bring-up. The partitions raise theirs together. -/
def doBlockReady (b : Blk) (i : Fin 64) (s : State) : State :=
  if readyInsts b ≤ i.val ∨ !s.booted ∨ s.isHeld b i ∨ b = .VES then s
  else if b = .PRT then
    if s.ready .PRT 0 then s
    else ((List.range 63).foldl (fun s k => s.wr (PREFIX_STATUS.READY (blockBase .PRT (k + 1))) 1) s).raiseReady .PRT 0
  else s.raiseReady b i

/-! ## What a module reset keeps (R427 to R429) -/

/-- Offsets of the HIF instances and of the cartridge states, which a warm start keeps. -/
def warmKeeps (off : Nat) : Bool :=
  (decide (blockBase .HIF 0 ≤ off) && decide (off < blockBase .HIF 2)) ||
  [FAB_LC_STATE.A_STATE 0, FAB_LC_A_MON.TEMP 0, FAB_LC_B_MON.TEMP 0].any (fun f => f.off == off)

/-- Flash and fuses: banks, selectors, floors, revocations, the owner root and the enrolled keys. -/
def VesPart.flash (v : VesPart) : VesPart :=
  { comps := v.comps.map (fun e => (e.1, { e.2 with released := false })), revoked := v.revoked, owner := v.owner,
    enrolSerial := v.enrolSerial, enrolled := v.enrolled }

/-- Memory after a module reset: host memory is the host's; HBM keeps its bytes only under PRESERVE_HBM; every SRAM and the
catalogue are zeroed. -/
def State.memKept (s : State) (hbm : Bool) : List Host.Cell :=
  s.mem.filter (fun e => match dpaKind e.1 with
    | .host _ => true
    | .hbm => hbm
    | _ => false)

/-- A module reset: every register, store and table takes its reset value but for what R428 keeps. -/
def State.moduleReset (s : State) (warm preserve : Bool) : State :=
  let keep (t : Tab Word) : Tab Word := t.filter (fun e => warm && warmKeeps e.1)
  let power : AtrPart := { s.atr with warm := none, phases := [], ctxResets := [], partResets := [], partRunning := [] }
  { State.reset with
      pending := s.pending, outbox := s.outbox, freeCtr := s.freeCtr, atr := power, ves := s.ves.flash,
      hif := if warm then { s.hif with doe := [] } else {},
      regs := keep s.regs, live := keep s.live, priv := s.priv.filter (fun e => warm && warmKeeps (e.1 / 1024)),
      mem := s.memKept (warm && preserve) }

/-! ## Boot of the vestibule (R409, R410) -/

/-- A bank boots: its image passes the checks of Table 20-4. Bit 2 (c - 1) + b of `bad` says that the digest or a signature
of bank b of component c fails. -/
def State.bankPasses (s : State) (bad : BitVec 12) (c : Nat) (b : Bool) : Bool :=
  let v := s.comp c
  let m := v.bank b
  m.present && decide (v.floor ≤ m.svn) && s.keysLive m && !bitOf bad.toNat (2 * (c - 1) + b01 b)

/-- Load a component: the bank its selector names, else the other one, with a record; or neither. -/
def State.bootComp (s : State) (bad : BitVec 12) (c : Nat) : State :=
  let v := s.comp c
  let load (b fb : Bool) : State :=
    let s := s.setComp c { v with running := b, released := true, otherFailed := fb, staged := v.staged && !fb && b == v.running }
    let s := (s.showComp c).extend (compSlot c) (v.bank b).hash
    if fb then
      (s.wr VES_STATE.FALLBACK (withBit (s.rd VES_STATE.FALLBACK) (c - 1))).securityRecord (.pf s.primary) .ok Blk.VES.code c
    else s
  if s.bankPasses bad c v.selector then load v.selector false
  else if s.bankPasses bad c (!v.selector) then load (!v.selector) true
  else
    (State.showComp (s.setComp c { v with released := false, otherFailed := true }) c).securityRecord (.pf s.primary) .ok
      Blk.VES.code c

/-- A warm start does not reload PCIE_PHY: slot 6 takes the hash of the image that runs (R428). -/
def State.keepPcie (s : State) : State :=
  let v := s.comp 6
  ((s.setComp 6 { v with released := true }).showComp 6).extend 6 v.active.hash

/-- Galleries and stacks have nothing queued or running: step Q of a warm start is done (Table 21-2). -/
def State.quiet (s : State) : Bool :=
  allBelow 16 (fun g => s.queuesEmpty g) &&
  s.nb.segs.all (fun e => e.2.phase != .running && e.2.phase != .gap) && s.ves.activating.isNone

/-- The steps of Table 20-5. -/
def State.boot (s : State) (bad : BitVec 12) (warm preserve : Bool) : State :=
  let s := (s.wr ATR_START.KIND (if warm then 2 else s.atr.startKind)).wr ATR_START.REQUESTER s.atr.requester
  let s := s.wr ATR_START.PRESERVED (b01 (warm && preserve))
  let s := s.bootComp bad 1
  if !(s.comp 1).released then s.wr VES_STATE.STEP 7
  else
    let v := s.freeBytes 48
    let s := (v.2.extend 1 v.1).wr VES_STATE.OWNED (b01 s.ves.owner.isSome)
    let s := [2, 3, 4, 5].foldl (fun s c => s.bootComp bad c) s
    let s := if warm then s.keepPcie else s.bootComp bad 6
    let s := (s.holdBlocks.wr VES_STATE.STEP 6).raiseReady .VES 0
    let s := if warm && preserve then s.debugEvent (.pf s.primary) else s
    if s.atr.tripReport then
      State.report { s with atr := { s.atr with tripReport := false } }
        { cls := 0x08, sev := 4, blk := Blk.VES.code }
    else s

/-- The vestibule leaves reset: after the last rail's power-good, in recovery once a bank passes, or for a warm start whose
step Q is done. -/
def doVestibuleBoot (bad : BitVec 12) (s : State) : State :=
  if !s.powered then s
  else
    match s.atr.warm with
    | some preserve => if s.quiet then (s.moduleReset true preserve).boot bad true preserve else s
    | none => if s.rd VES_STATE.STEP = 0 ∨ s.rd VES_STATE.STEP = 7 then s.boot bad false false else s

/-! ## Power (R424 to R426, R473, R483) -/

/-- Every rail off, in reverse order: the module keeps flash, fuses and what the power controller itself holds. -/
def State.powerDown (s : State) : State :=
  let t := s.moduleReset false false
  { t with atr := { t.atr with rails := 0, powering := false } }

/-- The power-on sequence begins. -/
def State.powerUp (s : State) (kind requester : Nat) : State :=
  { s with atr := { s.atr with rails := 0, powering := true, retryDue := false, startKind := kind, requester := requester } }

def doInputValid (s : State) : State :=
  if s.atr.inputValid then s
  else
    let s : State := { s with atr := { s.atr with inputValid := true, failures := 0, tripped := false } }
    if s.atr.disabled then s else s.powerUp 0 0

def doInputInvalid (s : State) : State :=
  if !s.atr.inputValid then s
  else
    let s := s.powerDown
    { s with atr := { s.atr with inputValid := false, retryDue := false, failures := 0 } }

/-- The power events of ATR_PWR_FAULT: a bit that sets writes a record, is counted and rings (R438). -/
def State.powerEvent (s : State) (f : FieldRef) : State :=
  if s.on f then s
  else
    let s := s.wr f 1
    let s := (s.inc ATR_PWR_EVENTS.COUNT).report
      { cls := 0x07, sev := 0, blk := Blk.ATR.code, d0 := getBits (s.reg f.off) 0 12,
        d1 := (s.reg ATR_PWR_NOW.VIN_MV.off).toNat }
    s.bellIf (s.on ATR_NOTIFY.PWR_EN) (s.rd ATR_NOTIFY.DB_PART) (s.rd ATR_NOTIFY.DB_SOURCE)

/-- The input has been outside 51 to 59 V for 1 ms, at so many mV. -/
def doInputOutOfRange (mv : BitVec 16) (s : State) : State :=
  if !s.powered ∨ (51000 ≤ mv.toNat ∧ mv.toNat ≤ 59000) then s
  else
    let s := s.wr ATR_PWR_NOW.VIN_MV mv.toNat
    s.powerEvent (if mv.toNat < 51000 then ATR_PWR_FAULT.UNDER_RANGE else ATR_PWR_FAULT.OVER_RANGE)

/-- A rail reports power-good, and the next one starts. -/
def doRailPowerGood (s : State) : State :=
  if !s.atr.powering ∨ 9 ≤ s.atr.rails then s
  else if s.atr.rails = 8 then { s with atr := { s.atr with rails := 9, failures := 0 } }
  else { s with atr := { s.atr with rails := s.atr.rails + 1 } }

/-- A rail fails: the sequence stops, the rails go off, and the sequence is tried again after 1 s; after the third failure in a row they stay
off. -/
def State.railFails (s : State) (order : Nat) : State :=
  let s := s.powerDown.wr ATR_PWR_FAULT.RAIL order
  { s with atr := { s.atr with failures := s.atr.failures + 1, retryDue := decide (s.atr.failures + 1 < 3) } }

def doRailTimeout (s : State) : State :=
  if s.atr.powering ∧ s.atr.rails < 9 then s.railFails (s.atr.rails + 1) else s

/-- The rail of an order in Table 21-1, less 1, loses power-good in service. -/
def doRailLoss (r : Fin 9) (s : State) : State := if s.powered then s.railFails (r.val + 1) else s

def doPowerRetry (s : State) : State :=
  if s.atr.retryDue ∧ s.atr.inputValid ∧ !s.atr.disabled ∧ !s.atr.tripped then s.powerUp s.atr.startKind s.atr.requester
  else s

/-- PWR_DIS acts as an invalid input would; its release begins a cold start. -/
def doPwrDis (high : Bool) (s : State) : State :=
  if high = s.atr.disabled then s
  else if high then
    let s := s.powerDown
    { s with atr := { s.atr with disabled := true, retryDue := false } }
  else
    let s : State := { s with atr := { s.atr with disabled := false, failures := 0 } }
    if s.atr.inputValid ∧ !s.atr.tripped then s.powerUp 0 0 else s

/-- The hardware trip: the rails stay off until the input has been removed and restored. -/
def doThermalTrip (stack : Bool) (temp : BitVec 8) (s : State) : State :=
  if !s.powered ∨ temp.toNat < (if stack then 110 else 120) then s
  else
    let s := s.powerDown.emit (.pin 1 0)
    { s with atr := { s.atr with tripped := true, tripReport := true, retryDue := false } }

/-- Input power above WARN_W for 10 ms. -/
def doPowerOverWarn (power : BitVec 11) (s : State) : State :=
  if !s.powered ∨ power.toNat ≤ s.rd ATR_PWR_CFG.WARN_W then s
  else (s.wr ATR_PWR_NOW.POWER_W power.toNat).powerEvent ATR_PWR_FAULT.OVER_WARN

/-- A regulator phase of a rail fails: one of its two spare phases takes over, or the rail's current limit falls. -/
def doPhaseLost (r : Fin 9) (s : State) : State :=
  if !s.powered then s
  else
    let n := Tab.get (fun _ => 2) s.atr.phases r
    let s :=
      if n = 0 then s.loseCapacity 7 .ATR 0 0xFF r
      else State.useSpare { s with atr := { s.atr with phases := Tab.put (fun _ => 2) s.atr.phases r (n - 1) } } 7 .ATR 0 0xFF r
        (2 - n)
    s.powerEvent ATR_PWR_FAULT.PHASE_LOST

/-- ALERT# is low while the device is not HEALTHY or a bit of ATR_PWR_FAULT is set; THERMTRIP# while the trip holds (R476). -/
def State.alertLow (s : State) : Bool := s.rd FLT_HEALTH.STATE != 0 || s.reg ATR_PWR_FAULT.RAIL.off != 0
def State.thermtripLow (s : State) : Bool := s.atr.tripped

def execBlockReady (b : Blk) (i : Fin 64) (s : State) : Host.Outcome State Fault Refusal := .next (doBlockReady b i s)
def execVestibuleBoot (bad : BitVec 12) (s : State) : Host.Outcome State Fault Refusal := .next (doVestibuleBoot bad s)
def execInputValid (s : State) : Host.Outcome State Fault Refusal := .next (doInputValid s)
def execInputInvalid (s : State) : Host.Outcome State Fault Refusal := .next (doInputInvalid s)
def execInputOutOfRange (mv : BitVec 16) (s : State) : Host.Outcome State Fault Refusal := .next (doInputOutOfRange mv s)
def execRailPowerGood (s : State) : Host.Outcome State Fault Refusal := .next (doRailPowerGood s)
def execRailTimeout (s : State) : Host.Outcome State Fault Refusal := .next (doRailTimeout s)
def execRailLoss (r : Fin 9) (s : State) : Host.Outcome State Fault Refusal := .next (doRailLoss r s)
def execPowerRetry (s : State) : Host.Outcome State Fault Refusal := .next (doPowerRetry s)
def execPwrDis (high : Bool) (s : State) : Host.Outcome State Fault Refusal := .next (doPwrDis high s)
def execThermalTrip (stack : Bool) (temp : BitVec 8) (s : State) : Host.Outcome State Fault Refusal := .next (doThermalTrip stack temp s)
def execPowerOverWarn (power : BitVec 11) (s : State) : Host.Outcome State Fault Refusal := .next (doPowerOverWarn power s)
def execPhaseLost (r : Fin 9) (s : State) : Host.Outcome State Fault Refusal := .next (doPhaseLost r s)

end Sys2Proof.Machine
end

