-- ==== Sys2Proof/Machine/Doorbells.lean ====
section
/-! DEFINITION. Rings that software makes at the doorbell hall, its pending arrays, and its delivery states (R376 to
R385). -/

namespace Sys2Proof.Machine

/-- The agent may write a register of a target's area: a virtual function only those of its own partition (R362, R385). -/
def State.mayWriteTarget (s : State) (a : Agent) (t : Nat) : Bool :=
  match a with
  | .vf x v => s.vfPart x v == some (t / 8)
  | _ => s.mayWriteDevice a

/-- Bits of a doorbell word beside SOURCE and PART are reserved (Table 18-6). -/
def wordReserved (w : Word) : Bool := getBits w 12 4 == 0 && getBits w 22 42 == 0

/-- A doorbell word reaches a target's address. -/
def State.ringAt (s : State) (t : Nat) (part : Nat) (w : Word) : State :=
  (s.ring (some t) (wordReserved w) part (getBits w 0 12)).settleReports

/-- A ring reaches the hall (R378, R379). The hall takes the partition of a virtual function's ring for the word's. -/
def doDoorbellRing (r : Ringer) (t : Fin 512) (w : Word) (s : State) : State :=
  match r with
  | .unit => (s.ring none true (getBits w 16 6) (getBits w 0 12)).settleReports
  | .agent a =>
    s.whenReady .DBH 0 (fun s =>
      if !s.mayWriteTarget a t then s.refuseWrite a .DBH 0
      else
        match a with
        | .vf _ _ => s.ringAt t (t / 8) w
        | _ => s.ringAt t (getBits w 16 6) w)

/-- The target whose doorbell address a DPA is. -/
def doorbellTarget (a : Nat) : Option Nat :=
  if 0x30000410000 ≤ a ∧ a < 0x30000410000 + 0x400 * 512 ∧ a % 0x400 = 0 then some ((a - 0x30000410000) / 0x400) else none

/-- BELL: any other address is an instruction fault. -/
def doBell (x : LCtx) (f : LFields) (s : State) : State :=
  let t := doorbellTarget (s.gReg x f.a.toNat).toNat
  let w := setBits (setBits 0 0 12 (f.im 0 12)) 16 6 (f.im 12 6)
  s.issue x 0x90 f (faultUnless t.isSome) (fun s => s.ringAt (t.getD 0) (f.im 12 6) w)

/-- W1C of a pending word; SUMMARY follows (R381). -/
def doPendingWordClear (a : Agent) (t : Fin 512) (k : Fin 64) (bits : Word) (s : State) : State :=
  if !s.mayWriteTarget a t then s.refuseWrite a .DBH 0
  else
    let f := DBH_T_PENDING.BITS t k
    let left := s.reg f.off &&& ~~~bits
    let s := s.setReg f.off left
    if left = 0 then s.wr (DBH_T_SUMMARY.WORDS t) (withoutBit (s.rd (DBH_T_SUMMARY.WORDS t)) k) else s

/-- A delivery, and the reports it makes. -/
def State.deliverNow (s : State) (t : Nat) : State := (s.deliver t).settleReports

/-- DBH_T_IDLE: 1 delivers at once where the target is HELD and not blocked (R384). -/
def doTargetIdleWrite (a : Agent) (t : Fin 512) (v : Bool) (s : State) : State :=
  if !s.mayWriteTarget a t then s.refuseWrite a .DBH 0
  else
    let s := s.wr (DBH_T_IDLE.IDLE t) (b01 v)
    if v ∧ s.rd (DBH_T_STATE.STATE t) = 2 ∧ !s.targetBlocked t then (s.deliverNow t).inc (DBH_T_BYPASSES.COUNT t) else s

/-- A moderation timer expires (Table 18-3). -/
def doModerationTimerExpire (t : Fin 512) (s : State) : State :=
  if !s.timerRuns t then s
  else
    let s := s.setTimer t false
    if s.rd (DBH_T_STATE.STATE t) = 1 then s.wr (DBH_T_STATE.STATE t) 0
    else if s.rd (DBH_T_STATE.STATE t) = 2 ∧ !s.targetBlocked t then s.deliverNow t
    else s

/-- A target in HELD whose timer does not run is no longer blocked. -/
def doDeliveryUnblock (t : Fin 512) (s : State) : State :=
  if s.rd (DBH_T_STATE.STATE t) = 2 ∧ !s.timerRuns t ∧ !s.targetBlocked t then s.deliverNow t else s

def execBell (x : LCtx) (f : LFields) (s : State) : Host.Outcome State Fault Refusal := .next (doBell x f s)
def execDoorbellRing (r : Ringer) (t : Fin 512) (w : Word) (s : State) : Host.Outcome State Fault Refusal := .next (doDoorbellRing r t w s)
def execPendingWordClear (a : Agent) (t : Fin 512) (k : Fin 64) (bits : Word) (s : State) : Host.Outcome State Fault Refusal :=
  .next (s.whenReady .DBH 0 (doPendingWordClear a t k bits))
def execTargetIdleWrite (a : Agent) (t : Fin 512) (v : Bool) (s : State) : Host.Outcome State Fault Refusal :=
  .next (s.whenReady .DBH 0 (doTargetIdleWrite a t v))
def execModerationTimerExpire (t : Fin 512) (s : State) : Host.Outcome State Fault Refusal := .next (doModerationTimerExpire t s)
def execDeliveryUnblock (t : Fin 512) (s : State) : Host.Outcome State Fault Refusal := .next (doDeliveryUnblock t s)

end Sys2Proof.Machine
end

