-- ==== Sys2Proof/Machine/Orrery.lean ====
section
/-! DEFINITION. The orrery: traffic kinds and classes, allowances, the choice of the packet that starts on a port, and the
waits it counts (R344 to R355). -/

namespace Sys2Proof.Machine

/-! ## Allowances (R347, R349) -/

def State.allowance (s : State) (p : Nat) : Int := getSigned (s.reg (ORR_P_STATE.ALLOWANCE p).off) 32 32

def State.setAllowance (s : State) (p : Nat) (v : Int) : State := s.wr (ORR_P_STATE.ALLOWANCE p) (v % 2 ^ 32).toNat

/-- The mode in force is WHEEL. -/
def State.wheel (s : State) : Bool := s.rd ORR_STATE.MODE == 0

/-- The cap of a partition's allowance in a mode. -/
def State.burst (s : State) (wheel : Bool) (p : Nat) : Int :=
  1024 * (s.rd (if wheel then ORR_P_WHEEL.BURST_KIB p else ORR_P_BUCKET.BURST_KIB p) : Nat)

/-- Add to an allowance, up to its cap. -/
def State.fill (s : State) (p : Nat) (v : Int) : State :=
  let cap := s.burst s.wheel p
  if cap ≤ s.allowance p then s else s.setAllowance p (min cap (s.allowance p + v))

/-- The slot grant: 74 bytes for each active lane of every port in UP. -/
def State.slotGrant (s : State) : Nat :=
  (List.range 4).foldl (fun n f => if s.linkState f = 3 then n + 74 * s.activeLanes f else n) 0

/-- A slot's owner in the live slot table. -/
def State.slotOwner (s : State) (k : Nat) : Option Nat :=
  let w := s.liveReg (ORR_SLOT.SLOTS8 (k / 8)).off
  if getBit w (8 * (k % 8) + 7) then some (getBits w (8 * (k % 8)) 6) else none

/-- Slots a partition owns. -/
def State.slotsOf (s : State) (p : Nat) : Nat := countBelow 4096 (fun k => s.slotOwner k == some p)

/-- The wheel passes a slot. -/
def doWheelSlot (s : State) : State :=
  let k := s.rd ORR_STATE.SLOT
  let s := s.addMod ORR_STATE.SLOT 1
  if !s.wheel then s
  else
    match s.slotOwner k with
    | some p => s.fill p s.slotGrant
    | none => s

/-- A control cycle of BUCKET mode: RATE MB/s are RATE / 1350 bytes each. -/
def doBucketFill (s : State) : State :=
  if s.wheel then s
  else
    (List.range 64).foldl (fun s p =>
      let n := Tab.get (fun _ => 0) s.orr.frac p + s.rd (ORR_P_BUCKET.RATE p)
      State.fill { s with orr := { s.orr with frac := Tab.put (fun _ => 0) s.orr.frac p (n % 1350) } } p (n / 1350 : Nat)) s

/-! ## The mode (R350) -/

/-- Enter a mode: allowances above its cap are cut. -/
def State.enterMode (s : State) (mode : Nat) : State :=
  if s.rd ORR_STATE.MODE = mode then s
  else
    let s := (s.wr ORR_STATE.MODE mode).inc ORR_MODE_SWITCHES.COUNT
    (List.range 64).foldl (fun s p => s.setAllowance p (min (s.allowance p) (s.burst (mode == 0) p))) s

def State.portsUp (s : State) : Bool := allBelow 4 (fun f => !s.on (FAB_LINK_CFG.EN f) || s.linkState f == 3)

/-- What an apply point does to the mode: an automatic BUCKET begins after a RETRAIN, and ends after RECOVER_HOLD meridians
with every enabled port UP; else the live MODE holds. -/
def State.orrModeStep (s : State) : State :=
  let mode := s.rd ORR_CFG.MODE
  let o := s.orr
  if o.autoDue ∧ (mode = 0 ∨ s.on ORR_STATE.AUTO) then
    State.enterMode (State.wr { s with orr := { o with autoDue := false, hold := 0 } } ORR_STATE.AUTO 1) 1
  else if s.on ORR_STATE.AUTO then
    if !s.portsUp then { s with orr := { o with hold := 0 } }
    else if s.rd ORR_CFG.RECOVER_HOLD ≤ o.hold then
      State.enterMode (State.wr { s with orr := { o with hold := 0 } } ORR_STATE.AUTO 0) mode
    else { s with orr := { o with hold := o.hold + 1 } }
  else State.enterMode { s with orr := { o with autoDue := false } } mode

/-! ## The queue (R344, R346, R352) -/

/-- Packets an entry of the queue still stands for. -/
def State.packetsOf (s : State) (x : Send) : Nat := max 1 ((x.bytes + (s.tpc x.ctx).room - 1) / (s.tpc x.ctx).room)

/-- The first entries of a list, until they make up k packets. -/
def takePackets (cnt : Send → Nat) : Nat → List Send → List Send
  | _, [] => []
  | k, x :: xs => if k = 0 then [] else x :: takePackets cnt (k - cnt x) xs

/-- What the orrery has queued: 16,384 packets at most. -/
def State.queued (s : State) : List Send := takePackets s.packetsOf 16384 s.tp.sends

def State.queuedPackets (s : State) : Nat := min 16384 (s.queued.foldl (fun n x => n + s.packetsOf x) 0)

/-- The partition and the service class of a packet. -/
def State.partOf (s : State) (x : Send) : Nat := (s.tpc x.ctx).part
def State.classOf (s : State) (x : Send) : Nat := s.rd (ORR_P_KINDMAP.CLASSES (s.partOf x)) / 8 ^ x.tk % 8

/-- The ports the map gives for a node, that are UP. -/
def State.upPorts (s : State) (node : Nat) : List Nat :=
  (List.range 4).filter (fun f => bitOf (nodePorts s.prt.cur node) f && s.linkState f == 3)

/-- The port of the next class S packet of a connection, after the last one's (R333). -/
def nextPort (ports : List Nat) (last : Nat) : Option Nat :=
  (ports.find? (fun f => decide (last < f))).orElse (fun _ => ports.head?)

/-- Set an entry of the queue. -/
def State.setSend (s : State) (i : Nat) (x : Send) : State := { s with tp := { s.tp with sends := s.tp.sends.set i x } }

/-- Positions of the packets at the head of their connection's queue in their class. -/
def headsFrom (cls : Send → Nat) : List Send → Nat → List (Nat × Nat) → List Nat
  | [], _, _ => []
  | x :: xs, i, seen =>
    if seen.contains (x.ctx, cls x) then headsFrom cls xs (i + 1) seen
    else i :: headsFrom cls xs (i + 1) ((x.ctx, cls x) :: seen)

def State.heads (s : State) : List Nat := headsFrom s.classOf s.queued 0 []

/-- Every head has a port that is UP, where there is one. -/
def State.choosePorts (s : State) : State :=
  s.heads.foldl (fun s i =>
    match s.tp.sends[i]? with
    | none => s
    | some x =>
      let ports := s.upPorts (s.tpc x.ctx).node
      if x.port.any (fun f => ports.contains f) then s
      else if x.kind < 0x20 then s.setSend i { x with port := ports.head? }
      else
        match nextPort ports (s.tpc x.ctx).lastPort with
        | some f => (s.setSend i { x with port := some f }).modTpc x.ctx (fun c => { c with lastPort := f })
        | none => s.setSend i { x with port := none }) s

/-- The packet holds the receiver's credit, or needs none. -/
def State.credited (s : State) (x : Send) : Bool :=
  let c := s.tpc x.ctx
  c.cached && (x.paid || !creditKind x.kind || (decide (c.units (s.nextBytes x) ≤ c.held) && !c.returnDue))

/-- Messages that a flush covers and that are still to be sent for the first time. -/
def State.flushWaits (s : State) (x : Send) : Bool :=
  match x.flushOf with
  | none => false
  | some cov => s.tp.sends.any (fun y => y.psn.isNone && (match s.msgOf y.msg with
    | some m => m.coveredBy cov
    | none => false))

def State.srcHeld (s : State) (x : Send) : Bool :=
  match x.src with
  | some a => (s.readSrc a (s.nextBytes x) true).held
  | none => false

/-- The transport can send the packet: its context is OPEN, or CLOSING; its PSN lies in the window; its route is not held;
and its data can be read. -/
def State.sendable (s : State) (x : Send) : Bool :=
  let c := s.tpc x.ctx
  (c.state == 2 || c.state == 3) && s.credited x && x.heldAt != some s.curEpoch &&
  (x.psn.isSome || decide ((c.txPsn + 2 ^ 32 - c.txBase) % 2 ^ 32 < 4096)) && !s.flushWaits x && !s.srcHeld x

/-- Bytes a packet is charged. -/
def State.charge (s : State) (x : Send) : Nat :=
  44 + s.nextBytes x + (if (s.tpc x.ctx).aes then 16 else 0) + 16

/-! ## The choice (R348, R351, R353, R354) -/

def State.orrPort (s : State) (f : Nat) : OrrPort := Tab.get (fun _ => {}) s.orr.ports f

def State.setOrrPort (s : State) (f : Nat) (v : OrrPort) : State :=
  { s with orr := { s.orr with ports := Tab.put (fun _ => {}) s.orr.ports f v } }

/-- The gate lets a packet of the class start on the port. -/
def State.gateStart (s : State) (f c : Nat) : Bool :=
  !s.on (ORR_G_CFG.GATE_EN f) || (firstBelow 8 (s.gateEntry f c s.ctlCycle (s.rd (ORR_G_CFG.GUARD f)))).isSome

/-- Heads for the port that may start, by allowance or, where `spill`, by spilling: position, class and partition. -/
def State.pool (s : State) (f : Nat) (spill : Bool) : List (Nat × Nat × Nat) :=
  (s.heads.filterMap (fun i => (s.tp.sends[i]?).map (fun x => (i, x)))).filterMap (fun e =>
    let p := s.partOf e.2
    let c := s.classOf e.2
    let may := if spill then s.wheel && s.on (ORR_P_WHEEL.SPILL p) && decide (s.allowance p ≤ 0) else decide (0 < s.allowance p)
    if e.2.port == some f && may && s.gateStart f c && s.sendable e.2 then some (e.1, c, p) else none)

def State.weight (s : State) (c : Nat) : Nat := s.rd { ORR_CLASS_W.WEIGHT0 with lo := 8 * c }

/-- The partition served next in a class: the first after the one served last. -/
def nextIn (es : List (Nat × Nat × Nat)) (c last : Nat) : Option (Nat × Nat × Nat) :=
  (firstBelow 64 (fun k => es.any (fun e => e.2.1 == c && e.2.2 == (last + 1 + k) % 64))).bind (fun k =>
    es.find? (fun e => e.2.1 == c && e.2.2 == (last + 1 + k) % 64))

/-- The choice among a pool: deficit round robin over the classes with weight, then the others by number. Answers the
entry and the port's deficits after it. -/
def State.chooseIn (s : State) (f : Nat) (es : List (Nat × Nat × Nat)) : Option ((Nat × Nat × Nat) × OrrPort) :=
  let o := s.orrPort f
  let pick (c : Nat) : Option (Nat × Nat × Nat) := nextIn es c (o.lastPart.getD c 63)
  let cost (e : Nat × Nat × Nat) : Nat :=
    match s.tp.sends[e.1]? with
    | some x => s.charge x
    | none => 0
  let serve (o : OrrPort) (e : Nat × Nat × Nat) : (Nat × Nat × Nat) × OrrPort := (e, { o with lastPart := o.lastPart.set e.2.1 e.2.2 })
  let pay (c d : Nat) (e : Nat × Nat × Nat) : (Nat × Nat × Nat) × OrrPort :=
    serve { o with deficit := o.deficit.set c (d - cost e), nextClass := c } e
  let weighted (c : Nat) : Bool := s.weight c != 0 && (pick c).isSome
  let here := (pick o.nextClass).filter (fun e => s.weight o.nextClass != 0 && decide (cost e ≤ o.deficit.getD o.nextClass 0))
  match here with
  | some e => some (pay o.nextClass (o.deficit.getD o.nextClass 0) e)
  | none =>
    match firstBelow 8 (fun k => weighted ((o.nextClass + 1 + k) % 8)) with
    | some k =>
      let c := (o.nextClass + 1 + k) % 8
      (pick c).map (pay c (o.deficit.getD c 0 + 4096 * s.weight c))
    | none =>
      match firstBelow 8 (fun c => (pick c).isSome) with
      | some c => (pick c).map (serve o)
      | none => none

/-- Deficits of classes that hold nothing for the port fall to 0. -/
def clearDeficits (es : List (Nat × Nat × Nat)) (o : OrrPort) : OrrPort :=
  { o with deficit := o.deficit.mapIdx (fun c d => if es.any (fun e => e.2.1 == c) then d else 0) }

/-! ## Packets that start -/

/-- A block start of a port, express or not. -/
def State.noteStart (s : State) (f : Nat) (express : Bool) : State :=
  let o := s.orrPort f
  s.setOrrPort f { o with starts := (express :: o.starts).take 63 }

/-- The data of the next packet of an entry. -/
def State.packetData (s : State) (x : Send) (good : Bool) : TRead :=
  match x.src with
  | some a => s.readSrc a (s.nextBytes x) good
  | none => { data := x.data.take (s.nextBytes x) }

/-- What is left of an entry after n bytes. -/
def Send.rest (x : Send) (n : Nat) : Send :=
  { x with src := x.src.map (fun a => a.plus n), left := x.left - n, data := x.data.drop n, off := x.off + n, port := none }

/-- The source of a packet cannot be read: its message fails, or the reader gets the status instead of the data. -/
def State.sourceFails (s : State) (i : Nat) (x : Send) (st : Status) (good : Bool) : State :=
  let s : State := match x.src with
    | some a => s.noteSrc a (s.nextBytes x) good
    | none => s
  let s : State := { s with tp := { s.tp with sends := s.tp.sends.eraseIdx i } }
  if x.kind = 0x22 then s.sendExpress x.ctx 0x25 [x.flds.getD 0 0, st.code, 0, 0] else s.messageFails x.msg st

/-- The measured time begins at the first LAYER packet after START (R294). -/
def State.measure (s : State) (x : Send) : State :=
  if !s.hel.measuring ∨ x.kind ≠ 0x26 ∨ x.psn.isSome ∨ x.off ≠ 0 then s
  else
    { s with hel := { s.hel with
        measMsgs := x.msg :: s.hel.measMsgs,
        measFrom := some (s.hel.measFrom.getD (s.mer, s.cycle)) } }

/-- What the work request of a message hears of a packet of it. -/
def State.noteSent (s : State) (x : Send) (n : Nat) (last : Bool) : State :=
  match x.owner with
  | .wr i =>
    if (x.kind ≠ 0x20 ∧ x.kind ≠ 0x26) ∨ x.psn.isSome then s
    else
      let s := s.add (HEL_INFLIGHT_W2.SENT i) n
      if last then s.sentSome i else s
  | _ => s

/-- A packet goes to the link layer of the port under a PSN, and is kept until it is acknowledged. -/
def State.emitPacket (s : State) (f : Nat) (x : Send) (psn units : Nat) (data : Bytes) : State :=
  let c := s.tpc x.ctx
  let ws := packetWords c x.kind s.curEpoch psn x.psn.isSome (x.fields psn) data
  let e : Sent := { send := { x with left := min x.left data.length, data := if x.src.isSome then [] else data, port := none,
                                     unit := none },
                    psn := psn, units := units, epoch := s.curEpoch }
  let s : State := { s with tp := { s.tp with sent := s.tp.sent ++ [e] } }
  let s := if x.psn.isSome then s.inc (FAB_TP_RESENT.COUNT 0) else s
  (s.emit (.packet c.node x.kind ws)).sendBlock f [(x.ctx, psn)]

/-- The next PSN of a connection, or the one a re-send keeps. -/
def State.takePsn (s : State) (x : Send) : State × Nat :=
  match x.psn with
  | some q => (s, q)
  | none =>
    let q := (s.tpc x.ctx).txPsn
    (s.modTpc x.ctx (fun c => { c with txPsn := (q + 1) % 2 ^ 32 }), q)

/-- Start a scheduled packet. -/
def State.startPacket (s : State) (f i : Nat) (o : OrrPort) (spill good : Bool) : State :=
  match s.tp.sends[i]? with
  | none => s
  | some x =>
    let r := s.packetData x good
    if r.status ≠ .ok then s.sourceFails i x r.status good
    else
      let p := s.partOf x
      let c := s.classOf x
      let cost := s.charge x
      let n := r.data.length
      let last := decide (x.bytes ≤ n)
      let units := if x.paid || !creditKind x.kind then 0 else (s.tpc x.ctx).units n
      let s := (s.setOrrPort f o).noteStart f false
      let s := if spill then s else s.setAllowance p (s.allowance p - cost)
      let s := s.add (ORR_PC_BYTES.COUNT p c) cost
      let s := (s.add (ORR_FC_BYTES.COUNT f c) cost).inc (ORR_FC_PACKETS.COUNT f c)
      let s : State := { s with orr := { s.orr with started := (p, c) :: s.orr.started } }
      let s : State := { s with tp := { s.tp with
        sends := if last then s.tp.sends.eraseIdx i else s.tp.sends.set i (x.rest n) } }
      let s := (s.modTpc x.ctx (fun k => { k with held := k.held - units })).touch x.ctx
      let q := s.takePsn x
      (((q.1.emitPacket f x q.2 units r.data).measure x).noteSent x n last).askCredit x.ctx

/-! ## Express packets (R345) -/

/-- An express packet can go out: CLOSE once the context holds nothing outstanding, REVOKE_ACK once every credited packet is
acknowledged, a response while its PSN lies in the window. -/
def State.expressReady (s : State) (x : Send) : Bool :=
  let c := s.tpc x.ctx
  let n := x.ctx
  if x.kind = 0x03 then
    s.tp.sends.all (fun y => y.ctx != n) && s.tp.sent.all (fun e => e.send.ctx != n) &&
    s.tp.reqs.all (fun r => r.ctx != n) && c.out == 0 && !c.revoking
  else if x.kind = 0x0A ∧ x.flds = [] then s.tp.sent.all (fun e => !(e.send.ctx == n && creditKind e.send.kind))
  else if x.kind = 0x15 ∨ x.kind = 0x25 then x.psn.isSome || decide ((c.txPsn + 2 ^ 32 - c.txBase) % 2 ^ 32 < 4096)
  else true

/-- The first express packet that can go out on the port. -/
def State.nextExpress (s : State) (f : Nat) : Option Send :=
  s.tp.express.find? (fun x => (s.upPorts (s.tpc x.ctx).node).head? == some f && s.expressReady x)

/-- Start an express packet. -/
def State.startExpress (s : State) (f : Nat) (x : Send) : State :=
  let n := x.ctx
  let s : State := { s with tp := { s.tp with express := s.tp.express.erase x } }
  let s := ((s.noteStart f true).inc ORR_EXPRESS.COUNT).noteGateLate f
  if x.kind = 0x15 ∨ x.kind = 0x25 then
    let q := s.takePsn x
    q.1.emitPacket f x q.2 0 x.data
  else
    let c := s.tpc n
    let returns := x.kind == 0x0A && x.flds == []
    let flds := if returns then [c.held] else x.flds
    let s := (s.emit (.packet c.node x.kind (packetWords c x.kind s.curEpoch 0 false flds x.data))).sendBlock f []
    if x.kind = 0x03 then s.modTpc n (fun c => { c with tries := c.tries + 1 })
    else if returns then (s.modTpc n (fun c => { c with held := 0, returnDue := false })).askCredit n
    else s

/-- A port can start a block. Express packets go first, at most EXPRESS_MAX of any 64 successive starts; then the scheduled
packet of R351; with neither, the port sends IDLE. `good` is the verdict on encrypted homes the packet's data is read
from. -/
def doPortBlockStart (f : Fin 4) (good : Bool) (s : State) : State :=
  if !s.canSend f then s
  else
    let s := s.choosePorts
    let expressOk := decide ((s.orrPort f).starts.count true < s.rd ORR_CFG.EXPRESS_MAX)
    match (if expressOk then s.nextExpress f else none) with
    | some x => s.startExpress f x
    | none =>
      let es := s.pool f false
      match s.chooseIn f es with
      | some (e, o) => s.startPacket f e.1 (clearDeficits es o) false good
      | none =>
        let es := s.pool f true
        match s.chooseIn f es with
        | some (e, o) => s.startPacket f e.1 (clearDeficits es o) true good
        | none => s.noteStart f false

/-! ## Waits (R328, R355) -/

/-- The queued packets of a partition and class. -/
def State.pairPackets (s : State) (p c : Nat) : List Send := s.queued.filter (fun x => s.partOf x == p && s.classOf x == c)

/-- The wait counter a pair that starts nothing adds to: credit, gate, allowance, contention. -/
def State.waitCounter (s : State) (p c : Nat) (xs : List Send) : FieldRef :=
  let ready := xs.filter (fun x => s.credited x)
  let spills (x : Send) : Bool := s.wheel && s.on (ORR_P_WHEEL.SPILL p) && x.port.any (fun f => (s.pool f false).isEmpty)
  if ready.isEmpty then ORR_PC_WAIT_CREDIT.COUNT p c
  else if ready.all (fun x => x.port.any (fun f => !s.gateOpen f c)) then ORR_PC_WAIT_GATE.COUNT p c
  else if s.allowance p ≤ 0 ∧ ready.all (fun x => !spills x) then ORR_PC_WAIT_ALLOW.COUNT p c
  else ORR_PC_WAIT_CONTEND.COUNT p c

/-- The waits of one control cycle. -/
def State.countWaits (s : State) : State :=
  let started := s.orr.started
  let s := State.choosePorts { s with orr := { s.orr with started := [] } }
  let pairs := (s.queued.map (fun x => (s.partOf x, s.classOf x))).eraseDups.filter (fun e => !started.contains e)
  let s := if s.tp.sends.any (fun x => creditKind x.kind && !s.credited x) then s.inc (FAB_TP_CREDIT_WAIT.COUNT 0) else s
  pairs.foldl (fun s e =>
    let xs := s.pairPackets e.1 e.2
    let s := s.inc (s.waitCounter e.1 e.2 xs)
    match xs.findSome? (fun x => x.port) with
    | some f => s.inc (ORR_FC_WAIT.COUNT f e.2)
    | none => s) s

def execWheelSlot (s : State) : Host.Outcome State Fault Refusal := .next (doWheelSlot s)
def execBucketFill (s : State) : Host.Outcome State Fault Refusal := .next (doBucketFill s)
def execPortBlockStart (f : Fin 4) (good : Bool) (s : State) : Host.Outcome State Fault Refusal := .next (doPortBlockStart f good s)

end Sys2Proof.Machine
end

