-- ==== Sys2Proof/Machine/Partitions.lean ====
section
/-! DEFINITION. Partitions and composition: role changes and their drain, the system map's load, switch and retirement, and
the anchor copy sweep (R387 to R404). The device-wide PRT registers are held in instance 0. -/

namespace Sys2Proof.Machine

/-! ## Drain (R392) -/

def State.noBatches (s : State) (p : Nat) : Bool := s.cat.batches.all (fun b => b.part != p)

/-- Every record of the partition is at rest and in no batch. -/
def State.recordsRest (s : State) (p : Nat) : Bool :=
  (List.range recordCount).all (fun i =>
    s.recF i Rec.PART != p ||
    (s.inStates i [.free, .done, .failed, .paused, .parked] && s.recF i Rec.IN_BATCH == 0))

/-- The heliostat holds no running work request, trigger slot or handover entry of the partition. -/
def State.helEmpty (s : State) (p : Nat) : Bool :=
  s.hel.wrs.all (fun e => e.2.part != p) && s.hel.fired.all (fun e => e.1 != p) &&
  s.armedSlots.all (fun i => s.trigPart i != p) &&
  [false, true].all (fun inb => allBelow 1024 (fun h => !s.on (hoValid inb h) || s.rd (hoPart inb h) != p))

def State.stwEmpty (s : State) (p : Nat) : Bool :=
  s.stw.migs.all (fun m => m.part != p) && s.stw.recCmds.all (fun c => c.part != p) &&
  Tab.get (fun _ => 0) s.stw.sweep p == 0

/-- Every gallery whose bay index 0 the partition owns is quiet. -/
def State.galsQuiet (s : State) (p : Nat) : Bool :=
  allBelow 16 (fun g => s.bayOwner (16 * g) != some p ||
    (s.queuesEmpty g && !(s.slice g).isOpen && s.galState g == 0))

/-- One bit for each condition that fails, in the order of R392. -/
def State.drainUnmet (s : State) (p : Nat) : Nat :=
  b01 (!s.noBatches p) + 2 * b01 (!s.recordsRest p) + 4 * b01 (!s.helEmpty p) + 8 * b01 (!s.stwEmpty p) +
  16 * b01 (!s.galsQuiet p) + 32 * b01 (s.tp.inMsgs.any (fun m => m.part == p))

def State.draining (s : State) (p : Nat) : Bool := s.on (PRT_ROLE.DRAINING p)

/-- PRT_DRAIN_WAIT of every partition that drains, as a landing finds it. -/
def State.showDrains (s : State) : State :=
  ((List.range 64).filter (fun p => s.draining p)).foldl (fun s p => s.wr (PRT_DRAIN_WAIT.UNMET p) (s.drainUnmet p)) s

/-! ## Role changes (R391, Table 19-3) -/

def State.roleStatus (s : State) (p : Nat) (st : Status) : State := s.wr (PRT_ROLE.LAST_STATUS p) st.code

/-- A change of state rings the partition's role doorbell. -/
def State.roleBell (s : State) (p : Nat) : State :=
  s.bellIf (s.on (PRT_ROLE_CFG.DB_EN p)) p (s.rd (PRT_ROLE_CFG.DB_SOURCE p))

def State.setDrainFrom (s : State) (p n : Nat) : State :=
  { s with prt := { s.prt with drainFrom := Tab.put (fun _ => 0) s.prt.drainFrom p n } }

/-- A drain ends with a status. -/
def State.endDrain (s : State) (p : Nat) (st : Status) : State :=
  (((s.wr (PRT_ROLE.DRAINING p) 0).setDrainFrom p 0).roleStatus p st).roleBell p

/-- A command register of a partition that the sender may not write answers REFUSED_POLICY (R362, R403). -/
def State.roleCommand (s : State) (a : Agent) (p : Nat) (f : State → State) : State :=
  if s.mayWriteDevice a then f s else (s.refuseWrite a .PRT p).roleStatus p .refusedPolicy

def doRoleSet (a : Agent) (p : Fin 64) (role : Fin 8) (s : State) : State :=
  s.roleCommand a p (fun s =>
    if 4 < role.val then s.roleStatus p .badLength
    else if s.draining p ∨ s.role p = role.val then s.roleStatus p .refusedPolicy
    else
      let s := ((s.wr (PRT_ROLE.NEXT p) role).wr (PRT_ROLE.DRAINING p) 1).setDrainFrom p (s.mer + 1)
      (s.roleStatus p .ok).roleBell p)

def doRoleCancel (a : Agent) (p : Fin 64) (s : State) : State :=
  s.roleCommand a p (fun s => if s.draining p then s.endDrain p .partialDone else s.roleStatus p .refusedPolicy)

/-- An OP of 3. -/
def State.roleBad (s : State) (a : Agent) (p : Nat) : State := s.roleCommand a p (fun s => s.roleStatus p .badLength)

/-- At a landing where every drain condition holds the role changes; a partition that leaves MERGED loses COMPAT_EN in both
copies (R402). -/
def doRoleDrainComplete (p : Fin 64) (s : State) : State :=
  if !s.inLanding ∨ !s.draining p ∨ s.drainUnmet p ≠ 0 then s
  else
    let was := s.role p
    let s := s.wr (PRT_DRAIN_WAIT.UNMET p) 0
    let s := s.wr (PRT_ROLE.ROLE p) (s.rd (PRT_ROLE.NEXT p))
    let s := s.wr (PRT_ROLE.CHANGED_AT p) s.mer32
    let s := if was = 4 then s.wr (PRT_MERGED.COMPAT_EN p) 0 else s
    (s.inc (PRT_ROLE_CHANGES.COUNT p)).endDrain p .ok

/-- The drain's limit has passed at a landing where some condition fails. -/
def doRoleDrainLimit (p : Fin 64) (s : State) : State :=
  let limit := s.rd (PRT_ROLE_CFG.DRAIN_LIMIT p)
  if !s.inLanding ∨ !s.draining p ∨ limit = 0 ∨ s.mer + 1 < Tab.get (fun _ => 0) s.prt.drainFrom p + limit then s
  else
    let u := s.drainUnmet p
    if u = 0 then s else (s.wr (PRT_DRAIN_WAIT.UNMET p) u).endDrain p .partialDone

/-! ## Loading a map (R393, R394) -/

/-- The bits a byte of an image may hold: none where the layout of R393 defines no field or requires zero. -/
def mapMask (t : Tab Byte) (off : Nat) : Nat :=
  let byteOf (mask at_ : Nat) : Nat := mask / 2 ^ (8 * (off - at_)) % 256
  if off < 0x40 then
    byteOf ([2 ^ 61 - 1, 2 ^ 64 - 1, 2 ^ 64 - 2 ^ 32 + 0x3F, 2 ^ 44 - 1, 2 ^ 63 + 2 ^ 50 - 1, 2 ^ 30 - 1, 2 ^ 64 - 1, 0].getD
      (off / 8) 0) (off / 8 * 8)
  else if off < 0x100 then 0
  else if off < 0x300 then
    if barrierValid t ((off - 0x100) / 8) then byteOf 0xFF7FFF (off / 8 * 8) else 0
  else if off < 0x1000 then 0
  else if off < 0x5000 then
    if (off - 0x1000) / 4 < mapSlots t then byteOf 0x7FFF3FFF (off / 4 * 4) else 0
  else if off < 0x8000 then 0
  else if nodeValid t ((off - 0x8000) / 16) then
    if off % 16 < 8 then byteOf (0x3F_FFFF_0F3F) (off / 8 * 8) else 255
  else 0

/-- Every listed byte keeps to its mask. -/
def mapZeroOk (t : Tab Byte) : Bool :=
  t.all (fun e => (e.2 &&& BitVec.ofNat 8 (255 - mapMask t e.1)) == 0)

/-- The timebase fields of a header (R396). -/
def mapTbEn (t : Tab Byte) : Bool := getBit (mapWord t 32) 63
def mapOriginSec (t : Tab Byte) : Nat := getBits (mapWord t 32) 0 48
def mapLen (t : Tab Byte) : Nat := getBits (mapWord t 32) 48 2
def mapOriginNs (t : Tab Byte) : Nat := getBits (mapWord t 40) 0 30
def mapOriginCount (t : Tab Byte) : Nat := (mapWord t 48).toNat

/-- Check 2 of R394, for the node `me`. -/
def mapOk (t : Tab Byte) (me : Nat) : Bool :=
  let n := mapSlots t
  getBits (mapWord t 0) 0 32 == 0x16203A90 && mapZeroOk t && mapEpoch t != 0 && decide (n ≤ 4096) &&
  (!mapTbEn t || (mapLen t != 3 && decide (mapOriginNs t < 1000000000))) &&
  nodeUsable t me &&
  allBelow n (fun i => nodeUsable t (anchorNode t i) &&
    (!anchorCopy t i || (nodeUsable t (anchorCopyTo t i) && anchorCopyTo t i != anchorNode t i))) &&
  (n == 0 || (firstBelow n (fun i => anchorNode t i != anchorNode t 0)).isSome) &&
  allBelow 64 (fun b => !barrierValid t b ||
    (nodeUsable t (barrierRoot t b) && nodeMember t (barrierRoot t b) b && barrierLocal t b != 0))

/-- The epoch that follows, skipping 0. -/
def nextEpoch (e : Nat) : Nat := if (e + 1) % 65536 = 0 then 1 else (e + 1) % 65536

/-- The copy of the image as memory holds it. -/
def State.mapImage (s : State) (a : Nat) : Tab Byte :=
  (s.mem.filter (fun e => decide (a ≤ e.1) && decide (e.1 < a + mapBytes))).map (fun e => (e.1 - a, e.2))

def State.mapResult (s : State) (st : Status) : State := s.wr (PRT_MAP_STATUS.RESULT 0) st.code

def State.loading (s : State) : Bool := s.on (PRT_MAP_STATUS.BUSY 0)

/-- LOAD, written through instance i. -/
def doMapLoad (a : Agent) (i : Fin 64) (s : State) : State :=
  if !s.mayWriteDevice a then (s.refuseWrite a .PRT i).mapResult .refusedPolicy
  else if s.loading then s.countRefused .PRT i
  else State.wr { s with prt := { s.prt with loadFrom := s.rd (PRT_MAP_SRC.DPA 0) } } (PRT_MAP_STATUS.BUSY 0) 1

/-- The checks of R394 on the copy, in order. -/
def State.mapCheck (s : State) (t : Tab Byte) (access : Status) : Status :=
  if access ≠ .ok then access
  else if !mapOk t s.nodeId then .badLength
  else if s.mapCurrent ∧ mapEpoch t ≠ nextEpoch s.curEpoch then .refusedPolicy
  else .ok

/-- The copy and its check end; `ue`: the read met an uncorrectable error. -/
def doMapLoadDone (ue : Bool) (s : State) : State :=
  if !s.loading then s
  else
    let a := s.prt.loadFrom
    let t := s.mapImage a
    let r := memReport Blk.PRT.code 0 0xFF none a
    let access := s.accessStatus a mapBytes
    let st := s.mapCheck t (if ue ∧ access = .ok then .uncorrected else access)
    let s := if ue ∧ access = .ok then (s.noteUe).report r else s.noteAccess false r a mapBytes
    let s := (s.wr (PRT_MAP_STATUS.BUSY 0) 0).mapResult st
    if st ≠ .ok then s.inc (PRT_MAP_LOAD_FAILS.COUNT 0)
    else
      let s : State := { s with prt := { s.prt with staged := t } }
      (s.wr (PRT_MAP_STATUS.STAGED 0) 1).wr (PRT_MAP_STATUS.STAGED_EPOCH 0) (mapEpoch t)

/-! ## The anchor copy sweep (R399) -/

/-- SWEEP, written through instance i. One sweep runs at a time. -/
def doMapSweep (a : Agent) (i : Fin 64) (s : State) : State :=
  if !s.mayWriteDevice a then (s.refuseWrite a .PRT i).wr (PRT_ANCH_COPY.STATUS 0) Status.refusedPolicy.code
  else if s.on (PRT_ANCH_COPY.BUSY 0) then s.countRefused .PRT i
  else s.startSweep

/-- An OP of 3. -/
def State.mapBad (s : State) (a : Agent) (i : Nat) : State :=
  if s.mayWriteDevice a then s.mapResult .badLength else (s.refuseWrite a .PRT i).mapResult .refusedPolicy

/-! ## Switching maps (R395, R396) -/

/-- The timebase values of the first map (R396). -/
def State.mapTimebase (s : State) (t : Tab Byte) : State :=
  if !mapTbEn t then s
  else
    let s1 := ((s.wr MER_ORIGIN_SEC.SEC (mapOriginSec t)).wr MER_ORIGIN_NS.NS (mapOriginNs t)).wr MER_ORIGIN_COUNT.COUNT
      (mapOriginCount t)
    let s2 :=
      if mapLen t = s.rd MER_LENGTH.LEN then s1
      else if s1.lenFits (mapLen t) then
        State.wr (State.wr { s1 with merp := { s1.merp with switchPending := true, keepOrigin := true } }
          MER_LENGTH.LEN (mapLen t)) MER_SWITCH_AT.COUNT (s.mer + 1)
      else s1.refuseLen
    s2.reacquire s

/-- OPEN null-cipher contexts whose peer the map takes out of the rack fail (R329). -/
def State.dropUnracked (s : State) : State :=
  (s.tp.ctxs.filter (fun e => e.2.state == 2 && !e.2.aes && !s.sameRack e.2.node)).foldl
    (fun s e => s.failCtx e.1 .linkFailed) s

/-- The first apply point that may takes the staged map. -/
def doMapSwitch (s : State) : State :=
  let t := s.prt.staged
  let at_ := mapSwitchAt t
  if !s.inLanding ∨ !s.on (PRT_MAP_STATUS.STAGED 0) ∨ s.mer + 1 < at_ ∨ s.prevMap then s
  else
    let first := !s.prt.everSwitched
    let s := if s.mapCurrent then
        let s : State := { s with prt := { s.prt with prev := s.prt.cur, prevUntil := s.mer + s.rd (PRT_MAP_CFG.DRAIN 0) } }
        (s.wr (PRT_MAP_STATUS.PREV_VALID 0) 1).wr (PRT_MAP_STATUS.PREV_EPOCH 0) s.curEpoch
      else s
    let s : State := { s with prt := { s.prt with cur := t, staged := [], everSwitched := true } }
    let s := ((s.wr (PRT_MAP_STATUS.CUR_EPOCH 0) (mapEpoch t)).wr (PRT_MAP_STATUS.STAGED 0) 0).wr
      (PRT_MAP_STATUS.STAGED_EPOCH 0) 0
    let s := if at_ ≠ 0 ∧ at_ < s.mer + 1 then s.inc (PRT_MAP_LATE.COUNT 0) else s
    let s := if first then s.mapTimebase t else s
    let s := (s.inc (PRT_MAP_SWITCHES.COUNT 0)).dropUnracked
    s.bellIf (s.on (PRT_MAP_CFG.DB_EN 0)) (s.rd (PRT_MAP_CFG.DB_PART 0)) (s.rd (PRT_MAP_CFG.DB_SOURCE 0))

/-- The landing that ends the previous map's drain window retires it, after its apply point. -/
def doMapRetire (s : State) : State :=
  if !s.inLanding ∨ s.cycle < lenBudget s.merLen + 64 ∨ !s.prevMap ∨ s.mer < s.prt.prevUntil then s
  else
    let s : State := { s with prt := { s.prt with prev := [], prevUntil := 0 } }
    (s.wr (PRT_MAP_STATUS.PREV_VALID 0) 0).wr (PRT_MAP_STATUS.PREV_EPOCH 0) 0

/-- PRT_MAP_ENTRY0 and 1 as they read. -/
def State.mapEntry (s : State) (k : Nat) : Word :=
  let n := s.rd (PRT_MAP_QUERY.NODE 0)
  if k = 0 then nodeW0 s.prt.cur n else nodeW1 s.prt.cur n

def execRoleSet (a : Agent) (p : Fin 64) (role : Fin 8) (s : State) : Host.Outcome State Fault Refusal :=
  .next (s.whenReady .PRT p.val (doRoleSet a p role))
def execRoleCancel (a : Agent) (p : Fin 64) (s : State) : Host.Outcome State Fault Refusal :=
  .next (s.whenReady .PRT p.val (doRoleCancel a p))
def execRoleDrainComplete (p : Fin 64) (s : State) : Host.Outcome State Fault Refusal := .next (doRoleDrainComplete p s)
def execRoleDrainLimit (p : Fin 64) (s : State) : Host.Outcome State Fault Refusal := .next (doRoleDrainLimit p s)
def execMapLoad (a : Agent) (i : Fin 64) (s : State) : Host.Outcome State Fault Refusal :=
  .next (s.whenReady .PRT i.val (doMapLoad a i))
def execMapLoadDone (ue : Bool) (s : State) : Host.Outcome State Fault Refusal := .next (doMapLoadDone ue s)
def execMapSweep (a : Agent) (i : Fin 64) (s : State) : Host.Outcome State Fault Refusal :=
  .next (s.whenReady .PRT i.val (doMapSweep a i))
def execMapSwitch (s : State) : Host.Outcome State Fault Refusal := .next (doMapSwitch s)
def execMapRetire (s : State) : Host.Outcome State Fault Refusal := .next (doMapRetire s)

end Sys2Proof.Machine
end

