-- ==== Sys2Proof/Machine/Resets.lean ====
section
/-! DEFINITION. The resets that ATR_RESET requests: of a context, of a partition, and of the module (R427, R434 to R439). -/

namespace Sys2Proof.Machine

/-! ## ATR_RESET_STATUS -/

/-- A request that is decided at once, and its outcome. -/
def State.resetDecided (s : State) (st : Status) : State :=
  (s.wr ATR_RESET_STATUS.STATUS st.code).addMod ATR_RESET_STATUS.SEQ 1

/-- BUSY while a reset runs. -/
def State.showResets (s : State) : State :=
  let a := s.atr
  s.wr ATR_RESET_STATUS.BUSY
    (b01 (!a.ctxResets.isEmpty || !a.partResets.isEmpty || !a.partRunning.isEmpty || a.warm.isSome))

/-- A refused request counts in PREFIX_REFUSED, and in HIF_PART_REFUSED where the sender is a function that may not make it
(R439, R362). -/
def State.resetRefused (s : State) (a : Agent) (allowed : Bool) : State :=
  let s := match a.port with
    | some x => if allowed then s else s.inc (HIF_PART_REFUSED.COUNT x.num)
    | none => s
  (s.countRefused .ATR 0).resetDecided .refusedPolicy

/-- An accepted request is decided, and its reset begins (DEDUCED, log 111). -/
def State.resetBegins (s : State) (type : Nat) : State :=
  (s.showResets.wr ATR_RESET_STATUS.TYPE type).addMod ATR_RESET_STATUS.SEQ 1

/-- A reset has ended: STATUS reads OK (R436). -/
def State.resetEnds (s : State) : State := s.showResets.wr ATR_RESET_STATUS.STATUS Status.ok.code

def State.primaryPf (s : State) (a : Agent) : Bool := decide (a = .pf s.primary)

/-! ## Context resets (R435, R439) -/

/-- The partition a context serves for a partition reset (Table 21-5): the owner of a gallery's bay index 0, or the partition
a newel context is set to. -/
def State.resetPart (s : State) (x : LCtx) : Option Nat :=
  match x with
  | .gal g => s.bayOwner (16 * g.val)
  | .nwl _ _ => s.ctxPart x
  | _ => none

def State.ctxResetting (s : State) (x : LCtx) : Bool := s.atr.ctxResets.any (fun r => r.1 == x.key)

/-- A partition reset of the context's partition is in progress. -/
def State.absorbed (s : State) (x : LCtx) : Bool :=
  match s.resetPart x with
  | some p => s.atr.partResets.contains p || s.atr.partRunning.contains p
  | none => false

def doResetContext (a : Agent) (unit : BitVec 8) (ctx : Fin 8) (s : State) : State :=
  if !s.primaryPf a then s.resetRefused a false
  else
    match ctxOf unit.toNat ctx with
    | none => s.resetDecided .badLength
    | some x =>
      if !s.unitInService x.unit ∨ !(s.installedImage x.unit).present then s.resetRefused a true
      else if s.absorbed x then s.resetDecided .ok
      else if s.ctxResetting x then s.resetRefused a true
      else State.resetBegins { s with atr := { s.atr with ctxResets := s.atr.ctxResets ++ [(x.key, none)] } } 1

/-- The last context reset of a partition has taken effect. -/
def State.endPartReset (s : State) (p : Nat) : State :=
  if s.atr.partRunning.contains p ∧ s.atr.ctxResets.all (fun r => r.2 != some p) then
    State.resetEnds { s with atr := { s.atr with partRunning := s.atr.partRunning.erase p } }
  else s

/-- A gallery whose partition resets: pre-emption state RUN, nothing saved. -/
def State.clearPreempt (s : State) (x : LCtx) : State :=
  match x with
  | .gal g => (s.wr (GAL_PREEMPT_STATUS.STATE g.val) 0).wr (GAL_PREEMPT_STATUS.SAVE_VALID g.val) 0
  | _ => s

/-- A requested reset takes effect: at once for a background context, at a landing with no slice open for a critical one. -/
def doContextResetApply (x : LCtx) (s : State) : State :=
  match s.atr.ctxResets.find? (fun r => r.1 == x.key) with
  | none => s
  | some r =>
    if x.critical ∧ (!s.inLanding ∨ (s.slice x.unit).isOpen) then s
    else
      let s : State := { s with atr := { s.atr with ctxResets := s.atr.ctxResets.erase r } }
      let s := if (s.installedImage x.unit).present then s.restartCtx x else s
      let s := s.inc ATR_CTX_RESETS.COUNT
      match r.2 with
      | none => s.resetEnds
      | some p => (s.clearPreempt x).endPartReset p

/-! ## Partition resets (R436, Table 21-5) -/

def doResetPartition (a : Agent) (p : Fin 64) (s : State) : State :=
  let own : Bool := match a with
    | .pf x => decide (s.primary = x) || decide (s.portOf p = x)
    | _ => false
  if !own then s.resetRefused a false
  else if s.atr.partResets.contains p.val ∨ s.atr.partRunning.contains p.val then s.resetRefused a true
  else State.resetBegins { s with atr := { s.atr with partResets := s.atr.partResets ++ [p.val] } } 2

/-- Batches are DONE with ABANDONED, then every record of the partition that is not FREE is FAILED with ABANDONED, in no
batch, without a completion record (Tables 8-5, 8-11 and 21-5); DEDUCED: without a fault record too (log 111). -/
def State.resetCatalogue (s : State) (p : Nat) : State :=
  let s := (s.cat.batches.filter (fun b => b.part == p)).foldl (fun s b => s.finishBatch b .abandoned) s
  ((List.range recordCount).filter (fun i => s.recF i Rec.PART == p && decide (s.recState i ≠ 0))).foldl
    (fun s i => (s.moveRec i .failed .abandoned).setRec i Rec.IN_BATCH 0) s

/-- Running work requests end and complete, trigger slots are freed, handover entries close without a swap at the anchor. -/
def State.resetHeliostat (s : State) (p : Nat) : State :=
  let s := ((List.finRange 256).filter (fun i => (s.wr? i.val).isSome && (s.wrAt i.val).part == p)).foldl
    (fun s i => doWrComplete i (s.endWrAs i.val .abandoned)) s
  let s := (s.armedSlots.filter (fun i => s.trigPart i == p)).foldl (fun s i => s.abandonSlot i) s
  [false, true].foldl (fun s inb =>
    ((List.range 1024).filter (fun h => s.on (hoValid inb h) && s.rd (hoPart inb h) == p)).foldl
      (fun s h => s.closeHo inb h) s) s

/-- Connection contexts are CLOSED, and what they queue is discarded; the partition's allowance is 0. -/
def State.resetTransport (s : State) (p : Nat) : State :=
  let s := ((s.tp.ctxs.filter (fun e => e.2.part == p && e.2.state != 0)).map (fun e => e.1)).foldl
    (fun s n => ((s.endCtxWork n .abandoned true true).setClosed n).finishCmds n .abandoned) s
  s.setAllowance p 0

/-- Record commands end. -/
def State.resetRecCmds (s : State) (p : Nat) : State :=
  let mine := s.stw.recCmds.filter (fun c => c.part == p)
  let s : State := { s with stw := { s.stw with recCmds := s.stw.recCmds.filter (fun c => c.part != p) } }
  mine.foldl (fun s c =>
    let s := (s.finishRecCmd c .abandoned).1
    let s := s.wrPriv c.agent (STW_P_REC_RESULT.STATUS p) Status.abandoned.code
    let s := (s.wrPriv c.agent (STW_P_REC_RESULT.BUSY p) 0).wrPriv c.agent (STW_P_REC_RESULT.RECORD p) c.record
    s.bellIf (s.on (STW_P_NOTIFY.EN p)) p (s.rd (STW_P_NOTIFY.DB_SOURCE p))) s

/-- Pending words are cleared, targets are QUIET. -/
def State.resetTargets (s : State) (p : Nat) : State :=
  (List.range 8).foldl (fun s i =>
    let t := 8 * p + i
    let s := (List.range 64).foldl (fun s k => s.wr (DBH_T_PENDING.BITS t k) 0) s
    ((s.wr (DBH_T_SUMMARY.WORDS t) 0).wr (DBH_T_STATE.STATE t) 0).setTimer t false) s

/-- The contexts that reset with the partition. -/
def State.partCtxs (s : State) (p : Nat) : List LCtx :=
  (allUnits.flatMap unitCtxs).filter (fun x => s.resetPart x == some p)

/-- At the apply point of the first landing after acceptance. -/
def doPartitionResetApply (p : Fin 64) (s : State) : State :=
  if !s.inLanding ∨ !s.atr.partResets.contains p.val then s
  else
    let xs := s.partCtxs p
    let s := ((s.resetCatalogue p).resetHeliostat p).resetTransport p
    let s := (s.resetRecCmds p).resetTargets p
    let s := if s.draining p then s.endDrain p .abandoned else s
    let rest := s.atr.ctxResets.filter (fun r => !xs.any (fun x => x.key == r.1))
    let s : State := { s with atr := { s.atr with
      partResets := s.atr.partResets.erase p.val, partRunning := s.atr.partRunning ++ [p.val],
      ctxResets := rest ++ xs.map (fun x => (x.key, some p.val)) } }
    (s.inc ATR_PART_RESETS.COUNT).endPartReset p

/-! ## Module resets (R427, R437, R439) -/

/-- TYPE WARM and COLD: the primary PF alone, with CONFIRM 0x1620. -/
def State.moduleResetOk (s : State) (a : Agent) (confirm : BitVec 16) : Bool := s.primaryPf a && confirm == 0x1620

def requesterOf (a : Agent) : Nat :=
  match a with
  | .pf .HA => 1
  | .pf .HB => 2
  | _ => 3

/-- Step Q of a warm start begins: host rings are fetched no more, and every fabric port is DISABLED. The vestibule's boot
follows once what is queued has completed and any live activation has ended. -/
def State.beginWarm (s : State) (requester : Nat) (preserve : Bool) : State :=
  let s := (List.range 4).foldl (fun s f => s.disableLink f) s
  State.resetBegins { s with atr := { s.atr with warm := some preserve, requester := requester } } 3

/-- A cold start turns the rails off and starts them again. -/
def State.beginCold (s : State) (requester : Nat) : State := s.powerDown.powerUp 1 requester

def doResetWarm (a : Agent) (preserve : Bool) (confirm : BitVec 16) (s : State) : State :=
  if !s.moduleResetOk a confirm then s.resetRefused a (s.primaryPf a)
  else if s.atr.warm.isSome then s.resetRefused a true
  else s.beginWarm (requesterOf a) preserve

def doResetCold (a : Agent) (confirm : BitVec 16) (s : State) : State :=
  if !s.moduleResetOk a confirm then s.resetRefused a (s.primaryPf a) else s.beginCold (requesterOf a)

/-- A TYPE of 5 to 7. -/
def State.resetBad (s : State) (a : Agent) : State :=
  if s.primaryPf a then s.resetDecided .badLength else s.resetRefused a false

def execResetContext (a : Agent) (unit : BitVec 8) (ctx : Fin 8) (s : State) : Host.Outcome State Fault Refusal :=
  .next (s.whenReady .ATR 0 (doResetContext a unit ctx))
def execContextResetApply (x : LCtx) (s : State) : Host.Outcome State Fault Refusal := .next (doContextResetApply x s)
def execResetPartition (a : Agent) (p : Fin 64) (s : State) : Host.Outcome State Fault Refusal :=
  .next (s.whenReady .ATR 0 (doResetPartition a p))
def execPartitionResetApply (p : Fin 64) (s : State) : Host.Outcome State Fault Refusal := .next (doPartitionResetApply p s)
def execResetWarm (a : Agent) (preserve : Bool) (confirm : BitVec 16) (s : State) : Host.Outcome State Fault Refusal :=
  .next (s.whenReady .ATR 0 (doResetWarm a preserve confirm))
def execResetCold (a : Agent) (confirm : BitVec 16) (s : State) : Host.Outcome State Fault Refusal :=
  .next (s.whenReady .ATR 0 (doResetCold a confirm))

end Sys2Proof.Machine
end

