-- ==== Sys2Proof/Machine/Management.lean ====
section
/-! DEFINITION. The MCTP endpoint of the vestibule: endpoint control, PLDM monitoring and firmware update, and the vendor-defined
commands (R464 to R467). Command and completion codes are those of the DMTF standards that R464 names (PRESUMED, log 31). -/

namespace Sys2Proof.Machine

/-! ## The endpoint (R464) -/

/-- A message reaches the endpoint: through a port it must be UP, and in recovery I3C alone serves. -/
def State.served (s : State) (x : Binding) : Bool :=
  s.powered &&
  match x with
  | .i3c => s.ready .VES 0 || s.rd VES_STATE.STEP == 7
  | .vdm p => s.ready .VES 0 && s.portUp p

def State.inRecovery (s : State) : Bool := s.rd VES_STATE.STEP == 7

/-- The answer to a message: its type and command as one code, and its words. -/
def State.answer (s : State) (x : Binding) (code : Nat) (ws : List Word) : State := s.emit (.answer x.num code ws)

/-- A message whose answer is `ws`. -/
def State.ask (s : State) (x : Binding) (code : Nat) (ws : List Word) : State :=
  if s.served x then s.answer x code ws else s

/-- The endpoint ID is the binding's: the two ports share one. -/
def Binding.slot : Binding → Nat
  | .i3c => 0
  | .vdm _ => 1

def State.eid (s : State) (x : Binding) : Nat := Tab.get (fun _ => 0) s.mgmt.eids x.slot

def doSetEndpointId (x : Binding) (eid : BitVec 8) (s : State) : State :=
  if !s.served x then s
  else State.answer { s with mgmt := { s.mgmt with eids := Tab.put (fun _ => 0) s.mgmt.eids x.slot eid.toNat } } x 0x01
    [0, eid.setWidth 64]

def doGetEndpointId (x : Binding) (s : State) : State := s.ask x 0x02 [0, BitVec.ofNat 64 (s.eid x)]

def doGetEndpointUuid (x : Binding) (s : State) : State :=
  s.ask x 0x03 [0, Sys2Proof.Config.mgmt 0 0, Sys2Proof.Config.mgmt 0 1]

def doGetMctpVersionSupport (x : Binding) (s : State) : State := s.ask x 0x04 [0, Sys2Proof.Config.mgmt 1 0]

/-- The types of Table 23-5. -/
def doGetMessageTypeSupport (x : Binding) (s : State) : State := s.ask x 0x05 [0, 5, 0x00, 0x01, 0x05, 0x06, 0x7E]

/-! ## PLDM type 0 -/

def doGetTid (x : Binding) (s : State) : State := s.ask x 0x10002 [0, Sys2Proof.Config.mgmt 2 0]

def doGetPldmVersion (x : Binding) (s : State) : State := s.ask x 0x10003 [0, Sys2Proof.Config.mgmt 3 0]

def doGetPldmTypes (x : Binding) (s : State) : State := s.ask x 0x10004 [0, 0, 2, 5]

/-- The commands of a type (Table 23-5, R466); a type that is not supported is answered with an error. -/
def pldmCommands (type : Nat) : Option (List Word) :=
  match type with
  | 0 => some [0x02, 0x03, 0x04, 0x05]
  | 2 => some [0x04, 0x0A, 0x11, 0x21, 0x50, 0x51]
  | 5 => some [0x01, 0x02, 0x10, 0x13, 0x14, 0x16, 0x17, 0x18, 0x1A, 0x1B, 0x1C, 0x1D]
  | _ => none

def doGetPldmCommands (x : Binding) (type : BitVec 6) (s : State) : State :=
  s.ask x 0x10005 (match pldmCommands type.toNat with
    | some l => 0 :: l
    | none => [0x83])

/-! ## Sensors (R465, Table 23-6) -/

/-- What a sensor shows. -/
def State.sensor (s : State) (id : Nat) : Nat :=
  if id = 1 then s.rd ATR_PWR_NOW.VIN_MV
  else if id = 2 then s.rd ATR_PWR_NOW.IIN_MA
  else if id = 3 then s.rd ATR_PWR_NOW.POWER_W
  else if id = 4 then s.rd FLT_THERMAL.DIE_MAX
  else if id ≤ 12 then s.rd (NBU_PWR_NOW.TEMP (id - 5))
  else if id = 13 then s.rd (FAB_LC_A_MON.TEMP 0)
  else if id = 14 then s.rd (FAB_LC_B_MON.TEMP 0)
  else if id ≤ 18 then s.rd (FAB_LINK_STATE.STATE (id - 15))
  else if id = 19 then s.rd FLT_HEALTH.STATE
  else s.rd (HIF_PORT_STATE.STATE (id - 20))

def numericSensor (id : Nat) : Bool := decide (1 ≤ id ∧ id ≤ 14)
def stateSensor (id : Nat) : Bool := decide (15 ≤ id ∧ id ≤ 21)

/-- The band a reading lies in: 0 within its thresholds. -/
def State.band (s : State) (id : Nat) : Nat :=
  let v := s.sensor id
  if id = 1 then (if v < 51000 then 1 else if 59000 < v then 2 else 0)
  else if id = 3 then (if s.rd ATR_PWR_CFG.WARN_W < v then 1 else 0)
  else if id = 4 then (if 110 ≤ v then 2 else if 100 ≤ v then 1 else 0)
  else if 5 ≤ id ∧ id ≤ 12 then (if 105 ≤ v then 2 else if s.rd (NBU_PWR.THROTTLE_C (id - 5)) ≤ v then 1 else 0)
  else 0

/-- What an event message reports of a sensor: the state, or the band. -/
def State.shows (s : State) (id : Nat) : Nat := if numericSensor id then s.band id else s.sensor id

def doGetSensorReading (x : Binding) (id : BitVec 16) (s : State) : State :=
  s.ask x 0x10211 (if numericSensor id.toNat then [0, BitVec.ofNat 64 (s.sensor id.toNat)] else [0x80])

def doGetStateSensorReadings (x : Binding) (id : BitVec 16) (s : State) : State :=
  s.ask x 0x10221 (if stateSensor id.toNat then [0, BitVec.ofNat 64 (s.sensor id.toNat)] else [0x80])

def doGetPdr (x : Binding) (record : BitVec 32) (s : State) : State :=
  s.ask x 0x10251 [0, Sys2Proof.Config.mgmt 4 record.toNat]

def doGetPdrRepositoryInfo (x : Binding) (s : State) : State := s.ask x 0x10250 [0, Sys2Proof.Config.mgmt 5 0]

/-- Note what a sensor shows now. -/
def State.noteShown (s : State) (id : Nat) : State :=
  { s with mgmt := { s.mgmt with shown := Tab.put (fun _ => 0) s.mgmt.shown id (s.shows id) } }

/-- A receiver hears of changes from now on. -/
def doSetEventReceiver (x : Binding) (eid : BitVec 8) (s : State) : State :=
  if !s.served x then s
  else
    let s : State := { s with mgmt := { s.mgmt with receiver := some (x, eid.toNat) } }
    ((List.range 21).foldl (fun s i => s.noteShown (i + 1)) s).answer x 0x10204 [0]

/-- A sensor's state or band has changed: the receiver is told, where its binding serves. -/
def doPlatformEventMessage (id : Fin 22) (s : State) : State :=
  match s.mgmt.receiver with
  | none => s
  | some (x, eid) =>
    if id.val = 0 ∨ s.shows id = Tab.get (fun _ => 0) s.mgmt.shown id then s
    else (s.noteShown id).ask x 0x1020A [BitVec.ofNat 64 eid, BitVec.ofNat 64 id, BitVec.ofNat 64 (s.shows id)]

/-! ## Firmware update (R466, R414) -/

def doQueryDeviceIdentifiers (x : Binding) (s : State) : State := s.ask x 0x10501 [0, Sys2Proof.Config.mgmt 6 0, 0x1620]

/-- Every component's code, active version and staged version. -/
def doGetFirmwareParameters (x : Binding) (s : State) : State :=
  s.ask x 0x10502 (0 :: [1, 2, 3, 4, 5, 6].flatMap (fun c =>
    [BitVec.ofNat 64 c, BitVec.ofNat 64 (s.comp c).active.version,
     BitVec.ofNat 64 (if (s.comp c).staged then ((s.comp c).bank (!(s.comp c).running)).version else 0)]))

def State.setUpdate (s : State) (u : PldmUpdate) : State := { s with ves := { s.ves with update := u } }

/-- STAGE_FW or ACTIVATE of VES_CMD is in hand. -/
def State.fwCmdRuns (s : State) : Bool :=
  s.ves.queue.any (fun q => match q with
    | .cmd _ op _ _ _ => op == 1 || op == 2
    | _ => false)

/-- ALREADY_IN_UPDATE_MODE while an update, STAGE_FW or ACTIVATE runs. -/
def doRequestUpdate (x : Binding) (maxXfer : BitVec 32) (s : State) : State :=
  if !s.served x then s
  else if s.ves.update.phase ≠ .idle ∨ s.fwCmdRuns then s.answer x 0x10510 [0x81]
  else (s.setUpdate { phase := .learn, maxXfer := maxXfer.toNat }).answer x 0x10510 [0]

/-- A command of the update, in the phases it is for. -/
def State.inPhase (s : State) (x : Binding) (code : Nat) (phases : List UpdatePhase) (f : PldmUpdate → State) : State :=
  if !s.served x then s
  else if s.ves.update.phase = .idle then s.answer x code [0x80]
  else if phases.contains s.ves.update.phase then f s.ves.update
  else s.answer x code [0x84]

/-- The component may be updated: in recovery VESTIBULE alone (R410). -/
def State.updatable (s : State) (c : Nat) : Bool := compOk c && (!s.inRecovery || c == 1)

/-- One entry of the component table; the last one ends it. -/
def doPassComponentTable (x : Binding) (comp : BitVec 16) (last : Bool) (s : State) : State :=
  s.inPhase x 0x10513 [.learn] (fun u =>
    let ok := s.updatable comp.toNat
    let u := { u with table := if ok then u.table ++ [comp.toNat] else u.table,
                      phase := if last then .ready else u.phase }
    (s.setUpdate u).answer x 0x10513 [0, BitVec.ofNat 64 (b01 (!ok))])

/-- The longest firmware image: header, 16 MiB, signatures. -/
def maxFirmware : Nat := 128 + 16777216 + 3376

/-- Bytes of the next piece: the lesser of 4,096, the agent's maximum and what is left. -/
def PldmUpdate.piece (u : PldmUpdate) : Nat := min (min 4096 u.maxXfer) (u.size - u.image.length)

/-- RequestFirmwareData of the next piece. -/
def State.pull (s : State) (x : Binding) : State :=
  s.answer x 0x10515 [BitVec.ofNat 64 s.ves.update.image.length, BitVec.ofNat 64 s.ves.update.piece]

/-- The device begins to pull a component's image. -/
def doUpdateComponent (x : Binding) (comp : BitVec 16) (size : BitVec 32) (s : State) : State :=
  s.inPhase x 0x10514 [.ready] (fun u =>
    if !u.table.contains comp.toNat ∨ size.toNat = 0 ∨ maxFirmware < size.toNat ∨ u.maxXfer = 0 then s.answer x 0x10514 [0, 1]
    else
      let u := { u with phase := .download, comp := comp.toNat, size := size.toNat, image := [] }
      ((s.setUpdate u).answer x 0x10514 [0, 0]).pull x)

/-- A piece arrives; one of another length than was asked for is not taken. After the last the device sends TransferComplete. -/
def doRequestFirmwareDataResp (x : Binding) (piece : Bytes) (s : State) : State :=
  let u := s.ves.update
  if !s.served x ∨ u.phase ≠ .download ∨ u.size ≤ u.image.length ∨ piece.length ≠ u.piece then s
  else
    let s := s.setUpdate { u with image := u.image ++ piece }
    if u.image.length + piece.length = u.size then s.answer x 0x10516 [0] else s.pull x

/-- The agent acknowledges TransferComplete: the image is checked. -/
def doTransferComplete (x : Binding) (s : State) : State :=
  let u := s.ves.update
  if !s.served x ∨ u.phase ≠ .download ∨ u.image.length < u.size then s
  else s.setUpdate { u with phase := .transferred }

/-- The check of R408 has ended, with the verdict on digest (1) and signatures (2), and the agent acknowledges VerifyComplete. A
refused image ends the component's update. -/
def doVerifyComplete (x : Binding) (verdict : Fin 3) (s : State) : State :=
  let u := s.ves.update
  if !s.served x ∨ u.phase ≠ .transferred then s
  else
    let d := s.fwDetail (imageOf u.image) u.size u.comp verdict
    let s := s.answer x 0x10517 [BitVec.ofNat 64 (if d = 1 then 0 else d)]
    if d = 1 then (s.inc VES_IMAGES_OK.COUNT).setUpdate { u with phase := .verified, detail := d }
    else
      ((s.inc VES_VERIFY_FAIL.COUNT).setUpdate { u with phase := .ready, image := [], detail := d }).securityRecord (.pf s.primary)
        .refusedPolicy Blk.VES.code u.comp

/-- The image is written to the inactive bank and read back, and the agent acknowledges ApplyComplete; good: both succeeded. -/
def doApplyComplete (x : Binding) (good : Bool) (s : State) : State :=
  let u := s.ves.update
  if !s.served x ∨ u.phase ≠ .verified then s
  else
    let v := s.comp u.comp
    let v := if good then { v.setBank (!v.running) (fwImage (imageOf u.image)) with staged := true }
      else { v.setBank (!v.running) {} with staged := false }
    let s := (s.setComp u.comp v).showComp u.comp
    let s := s.setUpdate { u with phase := .ready, image := [], detail := if good then 1 else 7,
                                  staged := if good then u.staged ++ [u.comp] else u.staged.erase u.comp }
    s.answer x 0x10518 [BitVec.ofNat 64 (b01 (!good))]

/-- ActivateFirmware: the components this update has staged become live one after the other. In recovery the new bank boots next. -/
def doActivateFirmware (x : Binding) (s : State) : State :=
  s.inPhase x 0x1051A [.ready] (fun u =>
    if u.staged.isEmpty then s.answer x 0x1051A [0x85]
    else if s.inRecovery then
      let v := s.comp 1
      ((s.setComp 1 { v with selector := !v.running }).setUpdate {}).answer x 0x1051A [0]
    else
      let s := (s.setUpdate { u with phase := .activate }).answer x 0x1051A [0]
      State.runVes { s with ves := { s.ves with queue := s.ves.queue ++ u.staged.eraseDups.map (fun c => .pldm c) } })

def UpdatePhase.code : UpdatePhase → Nat
  | .idle => 0
  | .learn => 1
  | .ready => 2
  | .download => 3
  | .transferred => 4
  | .verified => 5
  | .activate => 6

def doGetStatus (x : Binding) (s : State) : State :=
  s.ask x 0x1051B [0, BitVec.ofNat 64 s.ves.update.phase.code, BitVec.ofNat 64 s.ves.update.detail]

def doCancelUpdateComponent (x : Binding) (s : State) : State :=
  s.inPhase x 0x1051C [.download, .transferred, .verified] (fun u =>
    (s.setUpdate { u with phase := .ready, image := [] }).answer x 0x1051C [0])

/-- Images already staged stay staged. -/
def doCancelUpdate (x : Binding) (s : State) : State :=
  s.inPhase x 0x1051D [.learn, .ready, .download, .transferred, .verified] (fun _ => (s.setUpdate {}).answer x 0x1051D [0])

/-! ## Vendor-defined commands (R467) -/

/-- The session's requester authenticated with a chain that ends at the owner root. -/
def State.ownerSession (s : State) (x : Binding) (i : Nat) : Bool :=
  match s.ves.sessions[i]? with
  | some e => e.path == x.num && e.finished && e.chain.isSome && e.chain == s.ves.owner
  | none => false

/-- RESET acts as ATR_RESET WARM or COLD with REQUESTER 3. -/
def doVendorReset (x : Binding) (i : Fin 4) (cold preserve : Bool) (confirm : BitVec 16) (s : State) : State :=
  if !s.served x then s
  else if !s.ownerSession x i then s.answer x 0x7E [BitVec.ofNat 64 Status.refusedPolicy.code]
  else if confirm ≠ 0x1620 ∨ (!cold ∧ s.atr.warm.isSome) then
    (s.resetRefused .j7 true).answer x 0x7E [BitVec.ofNat 64 Status.refusedPolicy.code]
  else
    let s := s.answer x 0x7E [0]
    if cold then s.beginCold 3 else s.beginWarm 3 preserve

/-- FAULT_LAST returns FLT_LAST. -/
def doFaultLast (x : Binding) (s : State) : State :=
  s.ask x 0x7E (0 :: (List.range 8).map (fun i => s.reg (FLT_LAST.WORD i).off))

def execSetEndpointId (x : Binding) (eid : BitVec 8) (s : State) : Host.Outcome State Fault Refusal := .next (doSetEndpointId x eid s)
def execGetEndpointId (x : Binding) (s : State) : Host.Outcome State Fault Refusal := .next (doGetEndpointId x s)
def execGetEndpointUuid (x : Binding) (s : State) : Host.Outcome State Fault Refusal := .next (doGetEndpointUuid x s)
def execGetMctpVersionSupport (x : Binding) (s : State) : Host.Outcome State Fault Refusal := .next (doGetMctpVersionSupport x s)
def execGetMessageTypeSupport (x : Binding) (s : State) : Host.Outcome State Fault Refusal := .next (doGetMessageTypeSupport x s)
def execGetTid (x : Binding) (s : State) : Host.Outcome State Fault Refusal := .next (doGetTid x s)
def execGetPldmVersion (x : Binding) (s : State) : Host.Outcome State Fault Refusal := .next (doGetPldmVersion x s)
def execGetPldmTypes (x : Binding) (s : State) : Host.Outcome State Fault Refusal := .next (doGetPldmTypes x s)
def execGetPldmCommands (x : Binding) (type : BitVec 6) (s : State) : Host.Outcome State Fault Refusal := .next (doGetPldmCommands x type s)
def execGetSensorReading (x : Binding) (id : BitVec 16) (s : State) : Host.Outcome State Fault Refusal := .next (doGetSensorReading x id s)
def execGetStateSensorReadings (x : Binding) (id : BitVec 16) (s : State) : Host.Outcome State Fault Refusal := .next (doGetStateSensorReadings x id s)
def execGetPdr (x : Binding) (record : BitVec 32) (s : State) : Host.Outcome State Fault Refusal := .next (doGetPdr x record s)
def execGetPdrRepositoryInfo (x : Binding) (s : State) : Host.Outcome State Fault Refusal := .next (doGetPdrRepositoryInfo x s)
def execSetEventReceiver (x : Binding) (eid : BitVec 8) (s : State) : Host.Outcome State Fault Refusal := .next (doSetEventReceiver x eid s)
def execPlatformEventMessage (id : Fin 22) (s : State) : Host.Outcome State Fault Refusal := .next (doPlatformEventMessage id s)
def execQueryDeviceIdentifiers (x : Binding) (s : State) : Host.Outcome State Fault Refusal := .next (doQueryDeviceIdentifiers x s)
def execGetFirmwareParameters (x : Binding) (s : State) : Host.Outcome State Fault Refusal := .next (doGetFirmwareParameters x s)
def execRequestUpdate (x : Binding) (maxXfer : BitVec 32) (s : State) : Host.Outcome State Fault Refusal := .next (doRequestUpdate x maxXfer s)
def execPassComponentTable (x : Binding) (comp : BitVec 16) (last : Bool) (s : State) : Host.Outcome State Fault Refusal := .next (doPassComponentTable x comp last s)
def execUpdateComponent (x : Binding) (comp : BitVec 16) (size : BitVec 32) (s : State) : Host.Outcome State Fault Refusal := .next (doUpdateComponent x comp size s)
def execRequestFirmwareDataResp (x : Binding) (piece : Bytes) (s : State) : Host.Outcome State Fault Refusal := .next (doRequestFirmwareDataResp x piece s)
def execTransferComplete (x : Binding) (s : State) : Host.Outcome State Fault Refusal := .next (doTransferComplete x s)
def execVerifyComplete (x : Binding) (verdict : Fin 3) (s : State) : Host.Outcome State Fault Refusal := .next (doVerifyComplete x verdict s)
def execApplyComplete (x : Binding) (good : Bool) (s : State) : Host.Outcome State Fault Refusal := .next (doApplyComplete x good s)
def execActivateFirmware (x : Binding) (s : State) : Host.Outcome State Fault Refusal := .next (doActivateFirmware x s)
def execGetStatus (x : Binding) (s : State) : Host.Outcome State Fault Refusal := .next (doGetStatus x s)
def execCancelUpdateComponent (x : Binding) (s : State) : Host.Outcome State Fault Refusal := .next (doCancelUpdateComponent x s)
def execCancelUpdate (x : Binding) (s : State) : Host.Outcome State Fault Refusal := .next (doCancelUpdate x s)
def execVendorReset (x : Binding) (i : Fin 4) (cold preserve : Bool) (confirm : BitVec 16) (s : State) : Host.Outcome State Fault Refusal := .next (doVendorReset x i cold preserve confirm s)
def execFaultLast (x : Binding) (s : State) : Host.Outcome State Fault Refusal := .next (doFaultLast x s)

end Sys2Proof.Machine
end

