-- ==== Sys2Proof/Machine/Photometer.lean ====
section
/-! DEFINITION. The photometer: program counters and traces, request samples, and the debug path but for STEP (R455 to
R463, R468). -/

namespace Sys2Proof.Machine

/-! ## Instructions (Table 3-16) -/

/-- TMARK writes a trace record with DEV 0 (R459). -/
def doTmark (x : LCtx) (f : LFields) (s : State) : State :=
  s.issue x 0x91 f none (fun t =>
    t.trace false (f.im 0 16) x.unit x.ctx (getBits (s.gReg x f.a.toNat) 0 48))

/-- TADD adds to a program counter, which stops at all-ones (R457). -/
def doTadd (x : LCtx) (f : LFields) (s : State) : State :=
  s.issue x 0x92 f none (fun t => t.add (PHO_PROG_CTR.COUNT (f.im 0 10)) (s.gReg x f.a.toNat).toNat)

/-! ## Request samples (R458) -/

/-- The ring between a TAIL and a HEAD has room (R187). A ring of size 0 is not in use. -/
def roomIn (size tail head : Nat) : Bool := decide (0 < size) && decide (ringCount tail head < size)

def phoReport (a : Nat) : Report := memReport Blk.PHO.code 0 0xFF none a

/-- The sample of a record (Table 23-2), written to the ring. -/
def State.writeSample (s : State) (i : Nat) : State :=
  let a := s.rd PHO_SAMPLE_BASE.DPA + 32 * (s.rd PHO_SAMPLE_TAIL.INDEX % s.rd PHO_SAMPLE_SIZE.ENTRIES)
  let ws := [s.recWord i 0, s.recWord i 3, s.recWord i 10, setBits (BitVec.ofNat 64 i) 32 32 s.mer32]
  (s.devWriteWords (phoReport a) a ws).addMod PHO_SAMPLE_TAIL.INDEX 1

/-- The record is sampled: not FREE, its partition chosen. -/
def State.sampled (s : State) (i : Nat) : Bool :=
  !s.inState i .free && bitOf (s.rd PHO_SAMPLE_PARTS.MASK) (s.recF i Rec.PART)

/-- A pass visits records in index order until the meridian's MAX samples are written, the ring is full, or the last record is
past. -/
def State.visit : Nat → Nat → Nat → State → State
  | 0, _, _, s => { s with pho := { s.pho with samplePass := none } }
  | n + 1, left, i, s =>
    if !s.sampled i then State.visit n left (i + 1) s
    else if left = 0 ∨ !roomIn (s.rd PHO_SAMPLE_SIZE.ENTRIES) (s.rd PHO_SAMPLE_TAIL.INDEX) (s.rd PHO_SAMPLE_HEAD.INDEX) then
      { s with pho := { s.pho with samplePass := some i } }
    else State.visit n (left - 1) (i + 1) (s.writeSample i)

/-- A landing's sampling: a pass starts at a multiple of PERIOD, or is skipped and counted; a pass in hand goes on. -/
def doSamplePass (s : State) : State :=
  if !s.inLanding || s.pho.sampledAt == s.mer + 1 then s
  else
    let period := s.rd PHO_SAMPLE_CFG.PERIOD
    let due := decide (0 < period) && s.mer % period == 0
    let s := { s with pho := { s.pho with sampledAt := s.mer + 1 } }
    let s :=
      if !due then s
      else if s.pho.samplePass.isSome then s.inc PHO_SAMPLE_LATE.COUNT
      else { s with pho := { s.pho with samplePass := some 0 } }
    match s.pho.samplePass with
    | none => s
    | some i => s.visit (recordCount - i) (s.rd PHO_SAMPLE_CFG.MAX) i

/-! ## The trace ring (R460) -/

/-- One record moves to the ring. In WRAP the oldest entry of a full ring is overwritten and HEAD advances. -/
def State.drainTrace : Nat → State → State
  | 0, s => s
  | n + 1, s =>
    match s.pho.trace with
    | [] => s
    | r :: rs =>
      let size := s.rd PHO_TRACE_SIZE.ENTRIES
      let room := roomIn size (s.rd PHO_TRACE_TAIL.INDEX) (s.rd PHO_TRACE_HEAD.INDEX)
      if size = 0 ∨ (!room ∧ !s.on PHO_TRACE_CFG.MODE) then s
      else
        let s := if room then s else s.addMod PHO_TRACE_HEAD.INDEX 1
        let a := s.rd PHO_TRACE_BASE.DPA + 16 * (s.rd PHO_TRACE_TAIL.INDEX % size)
        let s := { s with pho := { s.pho with trace := rs } }
        State.drainTrace n ((s.devWriteWords (phoReport a) a [r.1, r.2]).addMod PHO_TRACE_TAIL.INDEX 1)

def doTraceDrain (s : State) : State := s.drainTrace s.pho.trace.length

/-! ## The two debug paths (R420, R461) -/

/-- The debug path of an agent: 0 BAR0 of the primary PF, 1 J7 while VES_DEBUG.J7_EN is 1. -/
def State.debugPath (s : State) (a : Agent) : Option Nat :=
  match a with
  | .pf x => if s.primary = x then some 0 else none
  | .j7 => if s.on VES_DEBUG.J7_EN then some 1 else none
  | _ => none

/-- A register that is held separately for the two paths. -/
def State.dbgRd (s : State) (path : Nat) (f : FieldRef) : Nat :=
  if path = 0 then s.rd f else s.rdPriv Agent.j7.code f

def State.dbgWr (s : State) (path : Nat) (f : FieldRef) (v : Nat) : State :=
  if path = 0 then s.wr f v else s.wrPriv Agent.j7.code f v

def State.dbgStatus (s : State) (path : Nat) (st : Status) : State := s.dbgWr path PHO_DBG_STATUS.STATUS st.code

/-- A debug command of an agent that has a path: the path is noted (R420). Any other agent's is refused. -/
def State.onDebugPath (s : State) (a : Agent) (eff : Nat → State → State) : State :=
  match s.debugPath a with
  | some path => s.whenReady .PHO 0 (fun t => eff path (t.notePath a path))
  | none => s.refuseWrite a .PHO 0

/-- A debug command, whose refusal under R362 shows REFUSED_POLICY in the result register of the agent's path. -/
def State.onDebugCmd (s : State) (a : Agent) (refused : Nat → State → State) (eff : Nat → State → State) : State :=
  match s.debugPath a, a with
  | none, .pf _ => refused 0 (s.onDebugPath a eff)
  | none, .j7 => refused 1 (s.onDebugPath a eff)
  | _, _ => s.onDebugPath a eff

/-- A memory command: refused and counted while BUSY is 1. -/
def State.dbgCommand (s : State) (a : Agent) (write : Bool) : State :=
  s.onDebugCmd a (fun path t => t.dbgStatus path .refusedPolicy) (fun path t =>
    if t.dbgRd path PHO_DBG_STATUS.BUSY = 1 then t.countRefused .PHO 0
    else
      let x : DbgAccess := { path := path, write := write, addr := t.dbgRd path PHO_DBG_ADDR.DPA }
      State.dbgWr { t with pho := { t.pho with dbg := t.pho.dbg ++ [x] } } path PHO_DBG_STATUS.BUSY 1)

def doDbgRead (a : Agent) (s : State) : State := s.dbgCommand a false
def doDbgWrite (a : Agent) (s : State) : State := s.dbgCommand a true

/-- OP 3. -/
def State.dbgBad (s : State) (a : Agent) : State :=
  s.onDebugCmd a (fun path t => t.dbgStatus path .refusedPolicy) (fun path t =>
    if t.dbgRd path PHO_DBG_STATUS.BUSY = 1 then t.countRefused .PHO 0 else t.dbgStatus path .badLength)

/-- The DPAs a debug access may reach. -/
def debugReaches (a : Nat) : Bool :=
  match dpaKind a with
  | .hbm | .galleryStore | .baySram | .record => true
  | _ => false

/-- The access is made: 8 bytes at its address. -/
def State.dbgAccess (s : State) (x : DbgAccess) (ue : Bool) : State × Status :=
  let r := phoReport x.addr
  if !debugReaches x.addr then (s.report r, .uncorrected)
  else if s.accessStatus x.addr 8 ≠ .ok then (s.noteAccess x.write r x.addr 8, s.accessStatus x.addr 8)
  else if x.write then
    let v := BitVec.ofNat 64 (s.dbgRd x.path PHO_DBG_DATA.DATA)
    ((if dpaKind x.addr = .record then s.pokeRec x.addr v else s.setWord x.addr v), .ok)
  else if ue then
    (s.noteUe.report { r with d1 := if dpaKind x.addr = .hbm then dpaStack x.addr * 32 + dpaPc x.addr else 0 }, .uncorrected)
  else (s.dbgWr x.path PHO_DBG_DATA.DATA (s.word x.addr).toNat, .ok)

/-- The access of a path completes; one to a pseudo-channel that holds ordinary accesses waits (R210, R213). -/
def doDbgAccessDone (path : Fin 2) (ue : Bool) (s : State) : State :=
  match s.pho.dbg.find? (fun d => d.path == path.val) with
  | none => s
  | some x =>
    if dpaKind x.addr = .hbm ∧ s.pcHeld (dpaStack x.addr) (dpaPc x.addr) then s
    else
      let t := s.dbgAccess x ue
      let u := (t.1.dbgStatus x.path t.2).dbgWr x.path PHO_DBG_STATUS.BUSY 0
      { u with pho := { u.pho with dbg := u.pho.dbg.filter (fun d => d.path != x.path) } }

/-! ## Stopping contexts (R462) -/

/-- A stop command is decided. -/
def State.stopResult (s : State) (path : Nat) (st : Status) : State :=
  (s.dbgWr path PHO_STOP_STATUS.STATUS st.code).dbgWr path PHO_STOP_STATUS.SEQ
    ((s.dbgRd path PHO_STOP_STATUS.SEQ + 1) % 2 ^ 32)

/-- A stop command on a context: a unit or context that does not exist gives BAD_LENGTH, a unit out of service REFUSED_POLICY. -/
def State.stopCommand (s : State) (a : Agent) (unit ctx : Nat) (eff : LCtx → State → State × Status) : State :=
  s.onDebugCmd a (fun path t => t.stopResult path .refusedPolicy) (fun path t =>
    match ctxOf unit ctx with
    | none => t.stopResult path .badLength
    | some x =>
      if !t.unitInService unit then t.stopResult path .refusedPolicy
      else let r := eff x t; r.1.stopResult path r.2)

/-- The context waits for a remote access or a SPACE 1 access, which no stop abandons. -/
def Ctx.waitsRemote (c : Ctx) : Bool :=
  match c.wait with
  | .remote .. => true
  | .access => true
  | _ => false

/-- STOP. A context that is stopped already, by the debug path, a HALT or a fault, or that is IDLE, is left as it is. -/
def State.stopCtx (s : State) (x : LCtx) : State × Status :=
  match (s.ctx x).state with
  | .debug | .stopped | .faulted | .idle => (s, .ok)
  | _ =>
    if (s.ctx x).waitsRemote then (s.modCtx x (fun c => { c with stopPending := true }), .ok)
    else (s.debugStop x, .ok)

/-- RESUME. -/
def State.resumeCtx (s : State) (x : LCtx) : State × Status :=
  match (s.ctx x).state with
  | .stopped | .faulted => (s, .refusedPolicy)
  | .debug =>
    (s.modCtx x (fun c =>
      if x.critical then { c with state := .waiting, wait := .meridian, resumed := true }
      else { c with state := .running, wait := .none }), .ok)
  | _ => (s, .ok)

def doDbgStop (a : Agent) (unit : BitVec 8) (ctx : Fin 8) (s : State) : State :=
  s.stopCommand a unit.toNat ctx.val (fun x t => t.stopCtx x)

def doDbgResume (a : Agent) (unit : BitVec 8) (ctx : Fin 8) (s : State) : State :=
  s.stopCommand a unit.toNat ctx.val (fun x t => t.resumeCtx x)

/-- The remote access of a context whose stop waited has completed: the context stops. -/
def doStopPendingComplete (x : LCtx) (s : State) : State :=
  if (s.ctx x).stopPending && !(s.ctx x).waitsRemote then s.debugStop x else s

/-! ## Registers of a context (R463) -/

/-- Registers of each FILE; PC has one. -/
def regFileSize (file : Nat) : Nat :=
  match file with
  | 0 => 32
  | 1 => 8
  | 2 => 16
  | 3 => 32
  | 4 => 16
  | 5 => 16
  | _ => 0

def State.ctxReg (s : State) (x : LCtx) (file i word : Nat) : Word :=
  match file with
  | 0 => s.gReg x i
  | 1 => BitVec.ofNat 64 (b01 (s.pReg x i))
  | 2 => descWord (s.tReg x i) word
  | 3 => BitVec.ofNat 64 (s.pc x)
  | 4 => (s.kReg x.unit i).setWidth 64
  | _ => (s.cReg x.unit i).setWidth 64

def State.setCtxReg (s : State) (x : LCtx) (file i word : Nat) (v : Word) : State :=
  match file with
  | 0 => s.setG x i v
  | 1 => s.setP x i (getBit v 0)
  | 2 => s.setT x i (descSetWord (s.tReg x i) word v)
  | 3 => s.setPc x v.toNat
  | 4 => s.setK x.unit i (v.setWidth 32)
  | _ => s.setC x.unit i (v.setWidth 32)

/-- A read or a write of PHO_REG_DATA. -/
def State.regAccess (s : State) (path : Nat) (write : Option Word) : State :=
  let file := s.dbgRd path PHO_REG_SEL.FILE
  let i := s.dbgRd path PHO_REG_SEL.INDEX
  let word := s.dbgRd path PHO_REG_SEL.WORD
  match ctxOf (s.dbgRd path PHO_REG_SEL.UNIT) (s.dbgRd path PHO_REG_SEL.CTX) with
  | none => (s.dbgWr path PHO_REG_DATA.DATA 0).dbgStatus path .badLength
  | some x =>
    if regFileSize file ≤ i then (s.dbgWr path PHO_REG_DATA.DATA 0).dbgStatus path .badLength
    else if file < 4 ∧ (s.ctx x).state ≠ .debug then
      (s.dbgWr path PHO_REG_DATA.DATA 0).dbgStatus path .refusedPolicy
    else match write with
      | none => (s.dbgWr path PHO_REG_DATA.DATA (s.ctxReg x file i word).toNat).dbgStatus path .ok
      | some v =>
        if file = 3 ∧ x.kind.storeWords ≤ v.toNat then s.dbgStatus path .badLength
        else ((s.setCtxReg x file i word v).dbgWr path PHO_REG_DATA.DATA v.toNat).dbgStatus path .ok

def doPhoRegDataAccess (a : Agent) (write : Option Word) (s : State) : State :=
  s.onDebugPath a (fun path t => t.regAccess path write)

/-- A write of 1 to PHO_CLEAR. -/
def doPhoClear (a : Agent) (s : State) : State :=
  match a with
  | .pf x =>
    if s.primary = x then
      s.whenReady .PHO 0 (fun t => allUnits.foldl (fun t u => t.wr (PHO_U_SLICE_MAX.CYCLES u) 0) t)
    else s.refuseWrite a .PHO 0
  | _ => s.refuseWrite a .PHO 0

def execTmark (x : LCtx) (f : LFields) (s : State) : Host.Outcome State Fault Refusal := .next (doTmark x f s)

def execTadd (x : LCtx) (f : LFields) (s : State) : Host.Outcome State Fault Refusal := .next (doTadd x f s)

def execSamplePass (s : State) : Host.Outcome State Fault Refusal := .next (doSamplePass s)
def execTraceDrain (s : State) : Host.Outcome State Fault Refusal := .next (doTraceDrain s)
def execDbgRead (a : Agent) (s : State) : Host.Outcome State Fault Refusal := .next (doDbgRead a s)
def execDbgWrite (a : Agent) (s : State) : Host.Outcome State Fault Refusal := .next (doDbgWrite a s)
def execDbgAccessDone (path : Fin 2) (ue : Bool) (s : State) : Host.Outcome State Fault Refusal := .next (doDbgAccessDone path ue s)
def execDbgStop (a : Agent) (unit : BitVec 8) (ctx : Fin 8) (s : State) : Host.Outcome State Fault Refusal := .next (doDbgStop a unit ctx s)
def execDbgResume (a : Agent) (unit : BitVec 8) (ctx : Fin 8) (s : State) : Host.Outcome State Fault Refusal := .next (doDbgResume a unit ctx s)
def execStopPendingComplete (x : LCtx) (s : State) : Host.Outcome State Fault Refusal := .next (doStopPendingComplete x s)
def execPhoRegDataAccess (a : Agent) (write : Option Word) (s : State) : Host.Outcome State Fault Refusal := .next (doPhoRegDataAccess a write s)
def execPhoClear (a : Agent) (s : State) : Host.Outcome State Fault Refusal := .next (doPhoClear a s)

end Sys2Proof.Machine
end

