-- ==== Sys2Proof/Machine/Flags.lean ====
section
/-! DEFINITION. What a register reads as: IDLE of every block, the fields that show other state, the live copies, and the
per-agent result registers (R23, R41, R361 to R363, R431). -/

namespace Sys2Proof.Machine

/-! ## Where an access goes -/

/-- The row of a block at an offset in the instance. -/
def locRow (b : BlockRow) (loc : Nat) : Option (RegRow × Nat) :=
  match findRow rowsCommon loc with
  | some r => some r
  | none => findRow b.rows loc

/-- Device-wide registers appear in every instance and are held in instance 0 (R342, R374, R403). -/
def homeInst (b : Blk) (inst loc : Nat) : Nat :=
  let basic := if 0x1000 ≤ loc ∧ loc < 0x2000 then loc - 0x1000 else loc
  match b with
  | .FAB => if (0x400 ≤ basic ∧ basic < 0xC00) ∨ 0x80000 ≤ loc then 0 else inst
  | .HIF => if 0x100 ≤ basic ∧ basic < 0x130 then 0 else inst
  | .PRT => if 0x800 ≤ basic ∧ basic < 0x860 then 0 else inst
  | _ => inst

/-- The location of the shadow copy whose live copy stands at a location (R41). -/
def shadowLoc (b : Blk) (loc : Nat) : Option Nat :=
  if b = .DBH ∧ 0x10000 ≤ loc ∧ (loc - 0x10000) % 0x400 = 0x108 then some (loc - 0x100)
  else if 0x1000 ≤ loc ∧ loc < 0x1FE0 then some (loc - 0x1000)
  else if b ≠ .DBH ∧ 0x14000 ≤ loc then some (loc - 0x10000)
  else none

/-- An access to a register: what the map says of it, the offset its only or shadow copy is held under, and whether the access
is to the live copy. -/
structure RegAcc where
  hit : RegHit
  home : Nat
  live : Bool
  deriving Repr

def accOf (b : BlockRow) (inst loc : Nat) (live : Bool) (x : RegRow × Nat) : RegAcc :=
  { hit := ⟨b.blk, inst, x.1, x.2⟩, home := b.base + b.stride * homeInst b.blk inst loc + loc, live := live }

/-- The register at a BAR0 offset; none where the offset is reserved. -/
def accAt (off : Nat) : Option RegAcc :=
  match findBlock blockMap off with
  | none => none
  | some b =>
    let loc := (off - b.base) % b.stride
    let inst := (off - b.base) / b.stride
    match locRow b loc with
    | some x => some (accOf b inst loc false x)
    | none =>
      match shadowLoc b.blk loc with
      | none => none
      | some l =>
        match locRow b l with
        | some x => if x.1.fields.any (fun f => decide (f.access = .sh)) then some (accOf b inst l true x) else none
        | none => none

/-- The registers held separately for each agent (R265, R342, R374, R422). -/
def perAgent (b : Blk) (rowOff : Nat) : Bool :=
  match b with
  | .VES => rowOff == 0x20
  | .HIF => rowOff == 0x118
  | .STW => rowOff == 0x4088 || rowOff == 0x4098
  | .FAB => rowOff == 0x430
  | .ALM => rowOff == 0x8 || rowOff == 0x10 || rowOff == 0x808
  | _ => false

/-! ## IDLE -/

/-- PREFIX_STATUS.IDLE: 1 only while the block holds no work in progress, as its chapter gives. The almanac's chapter gives no
such rule: it is taken to hold work while a move of an entry runs (DEDUCED, log 32). -/
def State.blockIdle (s : State) (b : Blk) (inst : Nat) : Bool :=
  match b with
  | .ATR => !s.on ATR_RESET_STATUS.BUSY
  | .MER => s.rd MER_LOCK.STATE == 0 && s.rd MER_PTP.PORT_EN == 0
  | .VES => s.ves.queue.isEmpty && s.ves.activating.isNone && s.hif.doe.isEmpty
  | .HIF => s.rd (HIF_PORT_STATE.STATE inst) == 0
  | .DBH => allBelow 512 (fun t => s.rd (DBH_T_STATE.STATE t) != 2)
  | .CAT => s.cat.batches.isEmpty
  | .HEL => s.rd HEL_STATE.INFLIGHT == 0 && s.rd HEL_STATE.ARMED == 0 && s.rd HEL_STATE.OUT_OPEN == 0 &&
      s.rd HEL_STATE.IN_OPEN == 0
  | .STW => s.stw.migs.isEmpty && s.stw.recCmds.isEmpty && s.stw.sweep.isEmpty
  | .FAB => s.rd (FAB_LINK_STATE.STATE inst) == 0
  | .ORR => s.queuedPackets == 0
  | .GAL => s.galIdle inst
  | .NBU => s.nbuIdle inst
  | .PRT => s.rd (PRT_ROLE.ROLE inst) == 0 && !s.draining inst
  | .PHO => s.pho.samplePass.isNone && s.pho.dbg.isEmpty && s.larty.ctxs.all (fun e => !e.2.stopPending)
  | .NWL => s.larty.ctxs.all (fun e =>
      decide (e.1 / 8 < 0x20) || (e.2.state != .running && e.2.state != .waiting))
  | .FLT => s.flt.queue.isEmpty
  | .ALM => s.stw.advances.isEmpty && s.stw.migs.all (fun m => match m.kind with
      | .almLoad _ => false
      | .almAdvance _ _ => false
      | .almEvict _ => false
      | _ => true)

/-! ## Fields that show other state -/

/-- GAL_BAYPART0 and 1: the owners of eight bays. -/
def State.bayPart (s : State) (g half : Nat) : Word :=
  (List.range 8).foldl (fun w i =>
    match s.bayOwner (16 * g + 8 * half + i) with
    | some p => setBits (setBits w (8 * i) 6 p) (8 * i + 7) 1 1
    | none => w) 0

/-- The lowest gallery-store offset of a frame of an almanac entry. -/
def State.residentOffset (s : State) (g e : Nat) : Nat :=
  ((List.range (s.almUnits e)).foldl (fun m i =>
    let t := s.entry (s.almPart e) (s.almSpace e) (s.almFirst e + i)
    if t.homed ∧ t.tier = 0 ∧ galleryBase g ≤ t.home ∧ t.home < galleryBase g + 0x2000000 then min m (t.home - galleryBase g)
    else m) 0x2000000)

/-- An entry of GAL_RESIDENT (Table 6-3): its two words, and one of them. -/
def State.residentW0 (s : State) (g e : Nat) : Word :=
  setBits (setBits (setBits (setBits (setBits 0 0 16 e) 16 3 (s.rd (ALM_E_W0.KIND e))) 19 1
    (b01 (s.rd (ALM_E_W0.PINS e) != 0))) 20 1 1) 32 16 (s.residentFrames g e)
def State.residentW1 (s : State) (g e : Nat) : Word := setBits 0 0 25 (s.residentOffset g e)
def State.residentWord (s : State) (g k i : Nat) : Word :=
  ((s.residentList g)[i]?).elim 0 (fun e => if k = 0 then s.residentW0 g e else s.residentW1 g e)

/-- NWL_C_STATE.CTX of a core. -/
def State.ctxCodes (s : State) (w : Word) (c : Nat) : Word :=
  (unitCtxs (0x20 + c)).foldl (fun w x => setBits w (3 * x.ctx) 3 (s.ctx x).state.code) w

/-- PHO STATE of a unit: the contexts a debug stop holds, and those whose stop waits. -/
def State.stopWord (s : State) (u : Nat) : Word :=
  (unitCtxs u).foldl (fun w x =>
    setBits (setBits w x.ctx 1 (b01 ((s.ctx x).state == .debug))) (8 + x.ctx) 1 (b01 (s.ctx x).stopPending)) 0

/-- A register word as it reads, where some of its fields show other state. -/
def State.viewWord (s : State) (h : RegHit) (w : Word) : Word :=
  let o := h.row.off
  if o = 0xFE0 then setBits w 1 1 (b01 (s.blockIdle h.blk h.inst))
  else
    match h.blk with
    | .ATR => if o = 0x28 then s.readyWord else w
    | .HIF => if o = 0x8 then setBits w 8 1 (b01 (s.primary.num == h.inst)) else w
    | .HEL =>
      let op := s.rd (HEL_INFLIGHT_W0.OP h.idx)
      if o = 0x10008 ∧ (op = 1 ∨ op = 2) then s.reg (HEL_INFLIGHT_W2.SENT h.idx).off else w
    | .DBH => if o = 0x10018 then setBits w 8 1 (b01 (s.targetBlocked h.idx)) else w
    | .STW =>
      if o = 0 then
        setBits (setBits (setBits w 0 8 s.stw.migs.length) 8 8 s.stw.recCmds.length) 16 1 (b01 (!s.stw.sweep.isEmpty))
      else if o = 0x40A8 then setBits w 0 26 (s.tierFree h.idx 1)
      else if o = 0x40B0 then setBits (setBits w 0 32 (s.tierFree h.idx 2)) 32 32 (s.tierFree h.idx 3)
      else w
    | .ORR =>
      if o = 8 then setBits (setBits w 32 13 s.slotGrant) 48 15 s.queuedPackets else w
    | .GAL =>
      if o = 0 then
        setBits (setBits w 17 1 (b01 (decide (8 < (s.residentEntries h.inst).length)))) 18 1 (b01 (s.gallerySplit h.inst))
      else if o = 8 then s.bayPart h.inst 0
      else if o = 0x10 then s.bayPart h.inst 1
      else if o = 0x4200 then s.residentWord h.inst 0 h.idx
      else if o = 0x4208 then s.residentWord h.inst 1 h.idx
      else w
    | .PRT =>
      if o = 0x830 then s.mapEntry 0
      else if o = 0x838 then s.mapEntry 1
      else if o = 0 then setBits w 16 1 (b01 (s.draining h.inst))
      else w
    | .PHO => if o = 0x418 then s.stopWord h.idx else w
    | .NWL => if o = 0x100 then s.ctxCodes w h.idx else w
    | .ALM => if o = 0x8008 then setBits w 0 16 (s.adpNamed h.idx) else w
    | _ => w

/-! ## Reads -/

/-- The record window of CAT at 0x20_0000: record i at i × 0x80 (R162). A block that is not READY reads its reset values (R431). -/
def State.recWindow (s : State) (w : Nat) : Word := if s.ready .CAT 0 then s.recWord (w / 128) (w % 128 / 8) else 0

/-- The word an agent reads at a BAR0 offset, a multiple of 8. A block that is not READY reads its reset values (R431); a
reserved offset and the live copy of a code table read 0. -/
def State.readReg (s : State) (a : Agent) (off : Nat) : Word :=
  match accAt off with
  | none =>
    if blockBase .CAT 0 + 0x200000 ≤ off ∧ off < blockBase .CAT 0 + 0x400000 then s.recWindow (off - (blockBase .CAT 0 + 0x200000))
    else 0
  | some x =>
    let h := x.hit
    if !s.ready h.blk h.inst then h.resetWord
    else if x.live then (if h.blk = .GAL ∧ 0x8000 ≤ h.row.off then 0 else s.liveReg x.home)
    else if perAgent h.blk h.row.off then s.privReg x.home a.code
    else s.viewWord h (s.reg x.home)

/-- A read, with what it does: reading STW_P_GRAB allocates a group (R247). -/
def State.readEffect (s : State) (a : Agent) (off : Nat) : Word × State :=
  match accAt off with
  | some x =>
    let t :=
      if x.hit.blk = .STW ∧ x.hit.row.off = 0x4088 ∧ s.ready .STW 0 then
        (match a with
         | .gallery _ => s
         | _ => if h : x.hit.idx < 64 then doStwPGrab a ⟨x.hit.idx, h⟩ s else s)
      else s
    (t.readReg a off, t)
  | none => (s.readReg a off, s)

/-! ## The partition window of a virtual function (Table 17-3) -/

/-- The BAR0 offset that a window offset of partition p shows, where it is a register. -/
def vfOffset (p w : Nat) : Option Nat :=
  if 0x4000 ≤ w ∧ w < 0x4200 then some (blockBase .CAT 0 + w + 0x200 * p)
  else if 0x8000 ≤ w ∧ w < 0x8200 then some (blockBase .HEL 0 + 0x4000 + 0x200 * p + (w - 0x8000))
  else if 0xC000 ≤ w ∧ w < 0xC200 then some (blockBase .STW 0 + 0x4000 + 0x200 * p + (w - 0xC000))
  else if 0x10000 ≤ w ∧ w < 0x10200 then some (blockBase .ORR 0 + 0x4000 + 0x200 * p + (w - 0x10000))
  else if w = 0x14000 then some (blockBase .FAB 0 + 0x420)
  else if w = 0x14008 then some (blockBase .FAB 0 + 0x428)
  else if w = 0x14010 then some (blockBase .FAB 0 + 0x430)
  else if w = 0x14018 then some (blockBase .FAB 0 + 0x800 + 0x10 * p)
  else if w = 0x14020 then some (blockBase .FAB 0 + 0x808 + 0x10 * p)
  else if 0x16000 ≤ w ∧ w < 0x18000 then some (blockBase .FAB 0 + 0x80000 + 0x2000 * p + (w - 0x16000))
  else if 0x18000 ≤ w ∧ w < 0x18018 then some (blockBase .ALM 0 + (w - 0x18000))
  else if w = 0x18018 then some (blockBase .ALM 0 + 0x800)
  else if w = 0x18020 then some (blockBase .ALM 0 + 0x808)
  else if 0x1C000 ≤ w ∧ w < 0x1D000 then some (blockBase .PRT p + (w - 0x1C000))
  else if 0x20000 ≤ w ∧ w < 0x22000 then some (blockBase .DBH 0 + 0x10000 + 0x400 * (8 * p) + (w - 0x20000))
  else none

/-- The window offsets a virtual function may write, by the area they lie in. -/
def vfMayWrite (w : Nat) : Bool :=
  if w < 0x8000 then
    (decide (0x4040 ≤ w ∧ w < 0x40C0) || w == 0x4020 || w == 0x4100)
  else if w < 0xC000 then (decide (0x8020 ≤ w ∧ w < 0x8060) || w == 0x8000 || decide (0x8060 ≤ w ∧ w < 0x80E0))
  else if w < 0x10000 then (w == 0xC090 || w == 0xC0A0)
  else if w < 0x20000 then (w == 0x14000 || w == 0x14008 || w == 0x14020 || w == 0x18000 || w == 0x18008 || w == 0x18018)
  else decide (w % 0x400 = 0) || decide (w % 0x400 = 0x10) || decide (0x200 ≤ w % 0x400)

/-- What a virtual function reads at a window offset, a multiple of 8; unmapped it reads 0 but for HIF_VF_ID. -/
def State.vfRead (s : State) (x : Port) (v : Fin 32) (w : Nat) : Word :=
  match s.vfPart x v with
  | none => if w = 0 then setBits 0 16 6 (v.val + 1) else 0
  | some p =>
    if w = 0 then setBits (setBits (setBits 0 0 6 p) 8 1 1) 16 6 (v.val + 1)
    else if w = 0x10 then BitVec.ofNat 64 (s.fn x (v.val + 1)).recPage
    else if 0x80000 ≤ w ∧ w < 0x100000 then
      let i := 4096 * (s.fn x (v.val + 1)).recPage + (w - 0x80000) / 128
      if s.recF i Rec.PART = p then s.recWord i (w % 128 / 8) else 0
    else match vfOffset p w with
      | some off => s.readReg (.vf x v) off
      | none => 0

end Sys2Proof.Machine
end

