-- ==== Sys2Proof/Machine/Apply.lean ====
section
/-! DEFINITION. The checks a block makes on its shadowed fields at an apply point (R40, R44, R126, R129, R187, R215, R246,
R262, R265, R295, R326, R356, R363, R364, R388, R389, R402, R404). A live write passes the same checks (R42). -/

namespace Sys2Proof.Machine

/-! ## The candidate values -/

/-- What the live registers would hold, by the offset of the shadow copy. -/
abbrev Candidate := Nat → Word

def Candidate.rd (c : Candidate) (f : FieldRef) : Nat := getBits (c f.off) f.lo f.len

/-- A commit offers every shadow copy of the block. -/
def State.shadows (s : State) : Candidate := fun off => s.reg off

/-- A live write offers one word among the live copies. -/
def State.withLive (s : State) (home : Nat) (w : Word) : Candidate := fun off => if off = home then w else s.liveReg off

/-! ## Rings (R187) -/

/-- A ring's new place: it is empty, and its entries lie within one range of Table 1-5. -/
def ringPlaceOk (base size head tail esz : Nat) : Bool := head == tail && (size == 0 || rangeOk base (size * esz))

/-- Entry sizes of the four catalogue rings, and which index software moves. -/
def catEntry (r : Nat) : Nat := if r < 2 then 64 else if r = 2 then 8 else 32

def State.catRingOk (s : State) (c : Candidate) (p r : Nat) : Bool :=
  ringPlaceOk (c.rd (CAT_P_BASE.DPA p r)) (c.rd (CAT_P_SIZE.ENTRIES p r)) (s.rd (catHead p r)) (s.rd (catTail p r))
    (catEntry r)

def State.helRingOk (s : State) (c : Candidate) (p r : Nat) : Bool :=
  ringPlaceOk (c.rd (HEL_P_BASE.DPA p r)) (c.rd (HEL_P_SIZE.ENTRIES p r)) (s.rd (helHead p r)) (s.rd (helTail p r))
    (if r = 0 then 64 else 32)

def State.fltRingOk (s : State) (c : Candidate) : Bool :=
  ringPlaceOk (c.rd FLT_RING_BASE.DPA) (c.rd FLT_RING_SIZE.ENTRIES) (s.rd FLT_RING_HEAD.INDEX) (s.rd FLT_RING_TAIL.INDEX) 64

def State.traceRingOk (s : State) (c : Candidate) : Bool :=
  ringPlaceOk (c.rd PHO_TRACE_BASE.DPA) (c.rd PHO_TRACE_SIZE.ENTRIES) (s.rd PHO_TRACE_HEAD.INDEX) (s.rd PHO_TRACE_TAIL.INDEX) 16

def State.sampleRingOk (s : State) (c : Candidate) : Bool :=
  ringPlaceOk (c.rd PHO_SAMPLE_BASE.DPA) (c.rd PHO_SAMPLE_SIZE.ENTRIES) (s.rd PHO_SAMPLE_HEAD.INDEX)
    (s.rd PHO_SAMPLE_TAIL.INDEX) 32

/-! ## The meridian length (R44) -/

/-- A new length acts from MER_SWITCH_AT, at least two meridians on, and fits every installed image. -/
def State.lenOk (s : State) (c : Candidate) : Bool :=
  decide (s.mer + 2 ≤ c.rd MER_SWITCH_AT.COUNT) && s.lenFits (c.rd MER_LENGTH.LEN)

/-! ## The stairwell (R246, R262, R265) -/

/-- Entries of a 16-byte table of n entries at a base that memory lists a byte of. -/
def State.listedEntries (s : State) (base n : Nat) : List Nat :=
  ((s.mem.filter (fun e => decide (base ≤ e.1) && decide (e.1 < base + 16 * n))).map (fun e => (e.1 - base) / 16)).eraseDups

/-- Some unit of a space is HOMED. -/
def State.anyHomed (s : State) (p sp : Nat) : Bool :=
  !directSpace sp && (s.listedEntries (s.spaceMap p sp) (s.spaceUnits p sp)).any (fun u => (s.entry p sp u).homed)

/-- Every group is FREE. -/
def State.groupsFree (s : State) (p : Nat) : Bool :=
  (s.listedEntries (s.rd (STW_P_GTBL.DPA p)) (s.groupCount p)).all (fun g => s.groupState p g == 0)

/-- UNITS of space 0x1 is a multiple of FRAMES. -/
def groupsWhole (c : Candidate) (p : Nat) : Bool := c.rd (STW_P_SPACE.UNITS p 1) % c.rd (STW_P_GROUP.FRAMES p) == 0

/-- No frame of an extent is in use. -/
def State.t2Unused (s : State) (p e : Nat) : Bool :=
  let b := s.rd (STW_P_T2_W0.DPA p e)
  s.usedIn b (b + 8192 * s.rd (STW_P_T2_W1.FRAMES p e)) == 0

def State.t3Unused (s : State) (p e : Nat) : Bool :=
  let b := 2 ^ 64 + s.rd (STW_P_T3_W0.GFA p e)
  s.usedIn b (b + 8192 * s.rd (STW_P_T3_W2.FRAMES p e)) == 0

/-! ## Grants (R388) -/

def State.grantsOpen (s : State) (p : Nat) : Bool := s.rd (PRT_ROLE.ROLE p) == 0 && !s.draining p

/-- PRT_BAYS n: no bay of another partition, and none that is lost. -/
def State.baysOk (s : State) (p n : Nat) (w : Word) : Bool :=
  s.grantsOpen p && allBelow 64 (fun i =>
    let b := 64 * n + i
    !getBit w i || ((match s.bayOwner b with
      | some q => q == p
      | none => true) && !bitOf (s.rd (GAL_BAYMAP.LOST_MASK (b / 16))) (b % 16)))

/-- The pseudo-channel's range of addresses meets [a, a + n). -/
def pcMeets (h pc a n : Nat) : Bool :=
  n != 0 && decide (a < hbmDpa h pc pcSpan) && decide (hbmDpa h pc 0 < a + n)

/-- A pseudo-channel holds a home or a direct space of the partition, or the anchor table. -/
def State.pcHolds (s : State) (p h pc : Nat) : Bool :=
  s.usedIn (hbmDpa h pc 0) (hbmDpa h pc pcSpan) != 0 ||
  [2, 3].any (fun sp => pcMeets h pc (s.spaceMap p sp) (8192 * s.spaceUnits p sp)) ||
  (s.on HEL_ANCH_CFG.EN && s.rd HEL_ANCH_CFG.PART == p && pcMeets h pc (s.rd HEL_ANCH_BASE.DPA) (16 * s.anchSize))

/-- PRT_PCS n names stacks 2 n and 2 n + 1. -/
def State.pcsOk (s : State) (p n : Nat) (w : Word) : Bool :=
  s.grantsOpen p && allBelow 62 (fun i =>
    let h := 2 * n + i / 31
    let pc := i % 31
    if getBit w (32 * (i / 31) + pc) then
      allBelow 64 (fun q => q == p || !s.pcGranted q h pc) && !bitOf (s.rd (NBU_PCMAP.LOST_MASK h)) pc
    else !(s.pcGranted p h pc && s.pcHolds p h pc))

/-- PRT_CTX: no context of another partition, none removed that is not CLOSED, and the range ends by 65,536. -/
def State.ctxRangeOk (s : State) (p : Nat) (w : Word) : Bool :=
  let lo := getBits w 0 16
  let n := getBits w 16 17
  let mine (k : Nat) : Bool := decide (lo ≤ k) && decide (k < lo + n)
  let disjoint (q : Nat) : Bool :=
    let a := s.rd (PRT_CTX.FIRST q)
    let m := s.rd (PRT_CTX.COUNT q)
    n == 0 || m == 0 || decide (lo + n ≤ a) || decide (a + m ≤ lo)
  s.grantsOpen p && decide (lo + n ≤ 65536) && allBelow 64 (fun q => q == p || disjoint q) &&
  s.tp.ctxs.all (fun e =>
    e.2.state == 0 || mine e.1 || decide (e.1 < s.rd (PRT_CTX.FIRST p)) ||
    decide (s.rd (PRT_CTX.FIRST p) + s.rd (PRT_CTX.COUNT p) ≤ e.1))

/-! ## The check of a field, and of a register that is refused whole -/

/-- Registers whose fields are refused together. -/
def wholeReg (b : Blk) (o : Nat) : Bool :=
  match b with
  | .PRT => o == 0x20 || o == 0x40 || o == 0x60
  | .HIF => o == 0x40 || o == 0x4000
  | .ORR => o == 0xD000
  | _ => false

/-- The segment size of a function's BAR2 (R364). -/
def State.segmentBytes (s : State) (x : Port) (fn : Nat) : Nat := 2 ^ s.barLog2 x fn / 8

def State.regOk (s : State) (h : RegHit) (w : Word) : Bool :=
  let o := h.row.off
  match h.blk with
  | .PRT =>
    if o = 0x20 then s.baysOk h.inst h.idx w
    else if o = 0x40 then s.pcsOk h.inst h.idx w
    else s.ctxRangeOk h.inst w
  | .HIF =>
    if o = 0x40 then getBits w 0 48 % s.segmentBytes (Port.ofNum h.inst) 0 == 0
    else getBits w 0 48 % s.segmentBytes (Port.ofNum h.inst) (h.idx / 8 + 1) == 0
  | .ORR => !getBit w 40 || decide (getBits w 0 15 < getBits w 16 15)
  | _ => true

/-- A save area in HBM granted to the owner of the gallery's bay index 0 (Table 6-9); its alignment is checked at the write (R485). -/
def State.saveBaseOk (s : State) (g v : Nat) : Bool :=
  decide (dpaKind v = .hbm) &&
  (match s.bayOwner (16 * g) with
   | some p => s.pcGranted p (dpaStack v) (dpaPc v)
   | none => false)

/-- A field's new value against the rest of the candidate. `s0` is the block as it stood before the apply point reached it, `s`
as the fields already decided have left it. -/
def fieldOk (s0 s : State) (c : Candidate) (home : Nat) (h : RegHit) (f : FieldRow) : Bool :=
  let o := h.row.off
  let v := getBits (c home) f.lo f.len
  let i := h.idx
  match h.blk with
  | .MER => if o = 0x10 then s0.lenOk c else true
  | .CAT => if o = 0x4040 ∨ o = 0x4048 then s0.catRingOk c (i / 4) (i % 4) else true
  | .HEL =>
    if o = 0x8 ∨ o = 0x10 then s0.rd HEL_ANCH_USE.ENTRIES == 0
    else if o = 0x4020 ∨ o = 0x4028 then s0.helRingOk c (i / 2) (i % 2)
    else true
  | .STW =>
    if o = 0x4000 then !s0.anyHomed (i / 6) (i % 6) && (i % 6 != 1 || groupsWhole c (i / 6))
    else if o = 0x4030 then !s0.anyHomed (i / 6) (i % 6)
    else if o = 0x4060 then !s0.anyHomed i 1 && s0.groupsFree i && groupsWhole c i
    else if o = 0x4120 ∨ o = 0x4128 then s0.t2Unused (i / 8) (i % 8)
    else if o = 0x41A0 ∨ o = 0x41A8 ∨ o = 0x41B0 then s0.t3Unused (i / 4) (i % 4)
    else if o = 0x40C0 then v == 0 || s0.keyState i 0 == 2 || s0.keyState i 1 == 2
    else true
  | .FAB =>
    if o = 0x800 ∧ f.lo = 0 then
      decide ((List.range 64).foldl (fun n q => if q = i then n else n + s.rd (FAB_P_CFG.CREDIT_SHARE 0 q)) 0 + v ≤ 131072)
    else true
  | .ORR =>
    if o = 0 then f.lo != 24 || decide (1 ≤ v ∧ v ≤ 64)
    else if o = 0x100 then f.lo != 4 || decide (232 ≤ v)
    else if o = 0x4010 then f.lo != 0 || decide (v ≤ 1600000)
    else true
  | .GAL =>
    if o = 0x20 then s0.rateOk h.inst v
    else if o = 0x28 then decide (v ≤ s0.rd (GAL_STORE.T0_BASE h.inst)) || s0.t0Ok h.inst v
    else if o = 0x40 then s0.saveBaseOk h.inst v
    else true
  | .NBU => if o = 0x10 then decide (s0.rd (NBU_STATE.CM_COUNT h.inst) ≤ v ∧ v ≤ 24) else true
  | .PRT =>
    if o = 0x68 then allBelow 256 (fun k => decide (k < v) || !s0.on (FAB_RGN_W0.VALID 0 h.inst k))
    else if o = 0x70 ∧ f.lo = 0 then
      let m := s0.installedImage (0x20 + c.rd (PRT_MERGED.AGENT_CORE h.inst))
      v == 0 || (s0.rd (PRT_ROLE.ROLE h.inst) == 4 && m.present && m.agent)
    else if o = 0x800 then !s0.mapCurrent
    else true
  | .PHO =>
    if o = 0 ∨ o = 8 then s0.traceRingOk c else if o = 0x30 ∨ o = 0x38 then s0.sampleRingOk c else true
  | .FLT => if o = 0 ∨ o = 8 then s0.fltRingOk c else true
  | _ => true

/-! ## The virtual-function map (R363) -/

/-- The entries of HIF_VF_MAP m, in ascending order: one that names a partition of the other port, or one that another virtual
function of the port names, keeps its old value. The word, and the entries refused. -/
def State.vfMapWord (s : State) (x : Port) (m : Nat) (w : Word) : Word × Nat :=
  let old := s.liveReg (HIF_VF_MAP.PART0 x.num m).off
  (List.range 8).foldl (fun r i =>
    let e := getBits w (8 * i) 8
    let p := e % 64
    let named (v : Nat) : Bool :=
      let word := if v / 8 = m then r.1 else s.liveReg (HIF_VF_MAP.PART0 x.num (v / 8)).off
      v != 8 * m + i && getBit word (8 * (v % 8) + 7) && getBits word (8 * (v % 8)) 6 == p
    if e = getBits old (8 * i) 8 then r
    else if 128 ≤ e ∧ (s.portOf p ≠ x ∨ !allBelow 32 (fun v => !named v)) then (r.1, r.2 + 1)
    else (setBits r.1 (8 * i) 8 e, r.2)) (old, 0)

end Sys2Proof.Machine
end

