-- ==== Sys2Proof/Machine/Faults.lean ====
section
/-! DEFINITION. The fault recorder's own events, the health monitor, the self-test of spares and the substitution of newel
cores (R441 to R452). -/

namespace Sys2Proof.Machine

/-! ## Reports (R441 to R444) -/

/-- A unit's report reaches the recorder, behind those on their way. -/
def doFaultReport (r : Report) (s : State) : State := s.report r

def doFaultRingDrain (s : State) : State := (State.drainFaults 64 s).settleReports

/-- The highest die temperature. -/
def doDieTempLimit (temp : BitVec 8) (s : State) : State :=
  let s := s.wr FLT_THERMAL.DIE_MAX temp.toNat
  if temp.toNat < 100 then s
  else s.report { cls := 0x08, sev := if temp.toNat < 110 then 2 else 3, blk := Blk.FLT.code, d0 := 4, d1 := temp.toNat }

/-! ## Health (R446 to R449) -/

/-- A change of health state, by a cause of FLT_HEALTH.CAUSE: a HEALTH record. -/
def State.setHealth (s : State) (st cause : Nat) : State :=
  ((s.wr FLT_HEALTH.STATE st).wr FLT_HEALTH.CAUSE cause).report { cls := 0x0D, sev := 0, blk := Blk.FLT.code, d0 := st, d1 := cause }

def State.health (s : State) : Nat := s.rd FLT_HEALTH.STATE

/-- A command of FLT_HEALTH_CMD: the primary PF alone. -/
def State.healthCommand (s : State) (a : Agent) (f : State → State) : State :=
  if a = .pf s.primary then f s else s.refuseWrite a .FLT 0

def doHealthQuarantine (a : Agent) (s : State) : State :=
  s.healthCommand a (fun s => if s.health < 2 then s.setHealth 2 4 else s)

def doHealthRelease (a : Agent) (s : State) : State :=
  s.healthCommand a (fun s =>
    if s.health ≠ 2 then s
    else if s.rd FLT_LATE_SELF.ACC < s.rd FLT_LATE_CFG.LATE_SUSPECT ∧ s.rd FLT_ERR.ACC < s.rd FLT_ERR_CFG.ERR_SUSPECT then
      s.setHealth 0 4
    else s.setHealth 1 4)

/-- The accumulators of the monitor. -/
def healthAccs : List FieldRef := [FLT_LATE_SELF.ACC, FLT_LATE_INPUT.ACC, FLT_LATE_UNLOCKED.ACC, FLT_ERR.ACC]

/-- Every accumulator and the per-unit table become 0. -/
def doHealthClear (a : Agent) (s : State) : State :=
  s.healthCommand a (fun s =>
    (healthAccs ++ (List.range 0x28).map FLT_U_LATE.COUNT).foldl (fun s f => s.wr f 0) s)

/-- The holdoff has elapsed (R449). -/
def State.holdoffOver (s : State) : Bool :=
  let last := s.rd FLT_HEALTH.LAST_SELF_QUAR
  last == 0 || decide (s.rd FLT_HEALTH_CFG.HOLDOFF_MIN * 60000000 / merLenUs s.merLen ≤ (s.mer + 2 ^ 48 - last) % 2 ^ 48)

/-- The cause for which the device would claim QUARANTINE: self-late, error, self-test. -/
def State.quarCause (s : State) : Option Nat :=
  if s.rd FLT_LATE_CFG.LATE_QUAR ≤ s.rd FLT_LATE_SELF.ACC then some 1
  else if s.rd FLT_ERR_CFG.ERR_QUAR ≤ s.rd FLT_ERR.ACC then some 2
  else if s.flt.selftestFailed then some 3
  else none

/-- The state moves as Table 22-6a gives. -/
def State.judgeHealth (s : State) : State :=
  let late := s.rd FLT_LATE_SELF.ACC
  let err := s.rd FLT_ERR.ACC
  let ls := s.rd FLT_LATE_CFG.LATE_SUSPECT
  let es := s.rd FLT_ERR_CFG.ERR_SUSPECT
  if s.health = 0 then
    if ls ≤ late then (s.inc FLT_SUSPECTS.COUNT).setHealth 1 1
    else if es ≤ err then (s.inc FLT_SUSPECTS.COUNT).setHealth 1 2
    else s
  else if s.health = 1 then
    match s.quarCause with
    | some c =>
      if s.holdoffOver then (s.wr FLT_HEALTH.LAST_SELF_QUAR (s.mer % 2 ^ 48)).setHealth 2 c else s.inc FLT_QUAR_HELD.COUNT
    | none =>
      if 2 * late < ls ∧ 2 * err < es ∧ s.rd FLT_SELFTEST.LAST_PASS = 0xFF then s.setHealth 0 (s.rd FLT_HEALTH.CAUSE) else s
  else s

/-- The monitor at a landing: decay at a multiple of 65,536, the meridian's inputs, and the state (R446, R448). -/
def State.updateHealth (s : State) : State :=
  let d := s.rd FLT_HEALTH_CFG.DECAY
  let s := if s.mer % 65536 = 0 then healthAccs.foldl (fun s f => s.wr f (s.rd f * (2 ^ d - 1) / 2 ^ d)) s else s
  let f := s.flt
  let s := ((s.add FLT_LATE_SELF.ACC f.lateSelfNow).add FLT_LATE_INPUT.ACC f.lateInputNow).add FLT_LATE_UNLOCKED.ACC
    f.lateUnlockedNow
  let s := s.add FLT_ERR.ACC f.errNow
  let s : State := { s with flt := { s.flt with lateSelfNow := 0, lateInputNow := 0, lateUnlockedNow := 0, errNow := 0 } }
  let s := s.judgeHealth
  { s with flt := { s.flt with selftestFailed := false } }

/-! ## Self-test of spares (R450, R451) -/

/-- A newel position is a spare that may be used: not failed, and behind no core in service. -/
def State.newelSpareAt (s : State) (pos : Nat) : Bool :=
  !bitOf (s.rd FLT_NWL_MAP.FAILED) pos &&
  allBelow 8 (fun c => !s.on (NWL_C_STATE.IN_SERVICE c) || s.rd (NWL_C_STATE.POSITION c) != pos)

/-- An idle spare of a kind: a gallery's bay, a stack's pseudo-channel, lane 20 f + l, a newel position, a cartridge, a rail's
phases. -/
def State.spareIdle (s : State) (kind i : Nat) : Bool :=
  match kind with
  | 1 => decide (i < 16) && s.rd (GAL_BAYMAP.SPARE_STATE i) == 0
  | 2 => decide (i < 8) && s.rd (NBU_PCMAP.SPARE_STATE i) == 0
  | 3 => decide (i < 80) && s.laneState (i / 20) (i % 20) == 1 && s.linkState (i / 20) == 3
  | 4 => decide (i < 8) && s.newelSpareAt i
  | 5 => decide (i < 2) && s.lcState i == 2
  | 7 => decide (i < 9) && Tab.get (fun _ => 2) s.atr.phases i != 0
  | _ => false

def doSelftestPassStart (kind : Fin 9) (i : Nat) (s : State) : State :=
  if !s.spareIdle kind i then s
  else
    let s := if kind = 1 then s.wr (GAL_BAYMAP.SPARE_STATE i) 3
      else if kind = 2 then s.wr (NBU_PCMAP.SPARE_STATE i) 1 else s
    s.setPass kind true

/-- The spare is being tested. -/
def State.testing (s : State) (kind i : Nat) : Bool :=
  match kind with
  | 1 => decide (i < 16) && s.rd (GAL_BAYMAP.SPARE_STATE i) == 3
  | 2 => decide (i < 8) && s.rd (NBU_PCMAP.SPARE_STATE i) == 1
  | _ => bitOf (s.rd FLT_SELFTEST.RUNNING) (kind - 1) && s.spareIdle kind i

/-- The spare is marked failed in its block, and is one fewer. -/
def State.failSpare (s : State) (kind i : Nat) : State :=
  match kind with
  | 1 => (s.wr (GAL_BAYMAP.SPARE_STATE i) 2).countSpare 1 false
  | 2 => (s.wr (NBU_PCMAP.SPARE_STATE i) 4).countSpare 2 false
  | 3 =>
    let f := i / 20
    let s := s.setLaneState f (i % 20) 3
    let s := s.modLink f (fun k => { k with locked := withoutBit k.locked (i % 20) })
    s.setSpares f ((s.link f).spares - 1)
  | 4 => (s.wr FLT_NWL_MAP.FAILED (withBit (s.rd FLT_NWL_MAP.FAILED) i)).countSpare 4 false
  | 5 => (s.setLc i 6).lcReport i 6
  | _ =>
    let left := Tab.get (fun _ => 2) s.atr.phases i - 1
    State.countSpare { s with atr := { s.atr with phases := Tab.put (fun _ => 2) s.atr.phases i left } } 7 false

/-- The block that owns spares of a kind, with the instance of spare i. -/
def spareOwner (kind i : Nat) : Blk × Nat :=
  match kind with
  | 1 => (.GAL, i)
  | 2 => (.NBU, i)
  | 3 => (.FAB, i / 20)
  | 4 => (.NWL, 0)
  | 5 => (.FAB, 0)
  | _ => (.ATR, 0)

def doSelftestPassEnd (kind : Fin 9) (i : Nat) (passed : Bool) (s : State) : State :=
  if !s.testing kind i then s
  else
    let m := s.rd FLT_SELFTEST.LAST_PASS
    let s := (s.setPass kind false).wr FLT_SELFTEST.LAST_PASS
      (if passed then withBit m (kind - 1) else withoutBit m (kind - 1))
    if passed then
      if kind = 1 then s.wr (GAL_BAYMAP.SPARE_STATE i) 0
      else if kind = 2 then s.wr (NBU_PCMAP.SPARE_STATE i) 0 else s
    else
      let b := spareOwner kind i
      let s := (s.failSpare kind i).inc FLT_SELFTEST_FAIL.COUNT
      let s : State := { s with flt := { s.flt with selftestFailed := s.flt.selftestFailed || s.health == 1 } }
      s.report (spareReport kind 2 b.1 b.2 0xFF i 0xFFFF)

/-! ## Newel cores (R452) -/

/-- A core in service is due for substitution at the next landing. -/
def State.newelDue (s : State) (c : Nat) : State :=
  if !s.on (NWL_C_STATE.IN_SERVICE c) ∨ s.flt.nwlDue.contains c then s
  else { s with flt := { s.flt with nwlDue := s.flt.nwlDue ++ [c] } }

/-- FLT_NWL_SUBST with GO 1: the primary PF alone. A core that is not in service is not substituted. -/
def doFltNwlSubst (a : Agent) (core : Fin 8) (s : State) : State :=
  if a ≠ .pf s.primary then s.refuseWrite a .FLT 0
  else if !s.on (NWL_C_STATE.IN_SERVICE core) then s.countRefused .FLT 0
  else s.newelDue core

def doNewelCoreUe (core : Fin 8) (s : State) : State :=
  if !s.on (NWL_C_STATE.IN_SERVICE core) then s
  else ((s.newelDue core).noteUe).report (memReport Blk.NWL.code 0 (0x20 + core.val) none 0)

/-- A core leaves service: no healthy spare remains. -/
def State.loseNewel (s : State) (c : Nat) : State :=
  let pos := s.rd (NWL_C_STATE.POSITION c)
  let s := s.wr (NWL_C_STATE.IN_SERVICE c) 0
  let s := s.wr FLT_NWL_MAP.LOST (withBit (s.rd FLT_NWL_MAP.LOST) c)
  let s := (unitCtxs (0x20 + c)).foldl (fun s x =>
    (if x.critical then s.leaveSlice x else s.clearStall x.unit x.ctx).setCtx x {}) s
  s.loseCapacity 4 .NWL 0 (0x20 + c) pos

/-- The spare takes the logical number, and installs what the failed core had installed. Its local store holds free values. -/
def State.substNewel (s : State) (c : Nat) : State :=
  let u := 0x20 + c
  let old := s.rd (NWL_C_STATE.POSITION c)
  match firstBelow 8 (fun pos => s.newelSpareAt pos) with
  | none => (s.wr FLT_NWL_MAP.FAILED (withBit (s.rd FLT_NWL_MAP.FAILED) old)).loseNewel c
  | some pos =>
    let s := s.wr FLT_NWL_MAP.FAILED (withBit (s.rd FLT_NWL_MAP.FAILED) old)
    let s := s.wr (NWL_C_STATE.POSITION c) pos
    let s := (s.wr { FLT_NWL_MAP.POS with lo := 3 * c, len := 3 } pos).freeLocal u
    let s := if (s.installedImage u).present then
        let b := progBase u
        let s := (s.wr (PROG_STATUS.INSTALLED_AT b) s.mer32).wr (PROG_STATUS.RESULT b) 1
        (s.showEntries u).restartUnit u
      else s
    s.useSpare 4 .NWL 0 u old pos

/-- The first landing after the cause. -/
def doNewelSubstitute (s : State) : State :=
  if !s.inLanding then s
  else
    let cs := s.flt.nwlDue
    cs.foldl (fun s c => s.substNewel c) { s with flt := { s.flt with nwlDue := [] } }

def execFaultReport (r : Report) (s : State) : Host.Outcome State Fault Refusal :=
  if r.legal then .next (doFaultReport r s) else .fault .illFormed

def execFaultRingDrain (s : State) : Host.Outcome State Fault Refusal := .next (doFaultRingDrain s)
def execDieTempLimit (temp : BitVec 8) (s : State) : Host.Outcome State Fault Refusal := .next (doDieTempLimit temp s)
def execHealthQuarantine (a : Agent) (s : State) : Host.Outcome State Fault Refusal :=
  .next (s.whenReady .FLT 0 (doHealthQuarantine a))
def execHealthRelease (a : Agent) (s : State) : Host.Outcome State Fault Refusal :=
  .next (s.whenReady .FLT 0 (doHealthRelease a))
def execHealthClear (a : Agent) (s : State) : Host.Outcome State Fault Refusal :=
  .next (s.whenReady .FLT 0 (doHealthClear a))
def execFltNwlSubst (a : Agent) (core : Fin 8) (s : State) : Host.Outcome State Fault Refusal :=
  .next (s.whenReady .FLT 0 (doFltNwlSubst a core))
def execNewelSubstitute (s : State) : Host.Outcome State Fault Refusal := .next (doNewelSubstitute s)
def execSelftestPassStart (kind : Fin 9) (i : Nat) (s : State) : Host.Outcome State Fault Refusal := .next (doSelftestPassStart kind i s)
def execSelftestPassEnd (kind : Fin 9) (i : Nat) (passed : Bool) (s : State) : Host.Outcome State Fault Refusal := .next (doSelftestPassEnd kind i passed s)
def execNewelCoreUe (core : Fin 8) (s : State) : Host.Outcome State Fault Refusal := .next (doNewelCoreUe core s)

end Sys2Proof.Machine
end

