-- ==== Sys2Proof/Machine/RegWrite.lean ====
section
/-! DEFINITION. A register write: who may make it, which command it is, the checks of R28 and R485, the shadow copy it enters,
and the live writes of the expert level (R6, R7, R28, R39, R42, R81, R82, R187, R361 to R363, R431, R485, R486). -/

namespace Sys2Proof.Machine

/-! ## Ring indexes (R187) -/

def Ring.blk : Ring → Blk
  | .cat _ _ => .CAT
  | .hel _ _ => .HEL
  | .fault => .FLT
  | .trace => .PHO
  | .sample => .PHO

/-- Software moves TAIL of the rings it fills and HEAD of those it empties. -/
def Ring.movesTail : Ring → Bool
  | .cat _ r => decide (r.val < 3)
  | .hel _ r => r.val == 0
  | _ => false

def Ring.head : Ring → FieldRef
  | .cat p r => catHead p r
  | .hel p r => helHead p r
  | .fault => FLT_RING_HEAD.INDEX
  | .trace => PHO_TRACE_HEAD.INDEX
  | .sample => PHO_SAMPLE_HEAD.INDEX

def Ring.tail : Ring → FieldRef
  | .cat p r => catTail p r
  | .hel p r => helTail p r
  | .fault => FLT_RING_TAIL.INDEX
  | .trace => PHO_TRACE_TAIL.INDEX
  | .sample => PHO_SAMPLE_TAIL.INDEX

def Ring.size : Ring → FieldRef
  | .cat p r => CAT_P_SIZE.ENTRIES p r
  | .hel p r => HEL_P_SIZE.ENTRIES p r
  | .fault => FLT_RING_SIZE.ENTRIES
  | .trace => PHO_TRACE_SIZE.ENTRIES
  | .sample => PHO_SAMPLE_SIZE.ENTRIES

def State.mayWriteRing (s : State) (a : Agent) : Ring → Bool
  | .cat p _ => s.mayWritePart a p
  | .hel p _ => s.mayWritePart a p
  | _ => s.mayWriteDevice a

/-- The index moves forward, and no further than the free entries, or than TAIL. In WRAP mode the recorder moves the trace ring's
HEAD, and software's write of it is refused (R460). -/
def State.indexOk (s : State) (r : Ring) (n : Nat) : Bool :=
  let h := s.rd r.head
  let t := s.rd r.tail
  if r.movesTail then decide (ringCount n t + ringCount t h ≤ s.rd r.size)
  else decide (ringCount n h ≤ ringCount t h) && !(r == .trace && s.on PHO_TRACE_CFG.MODE)

/-- Room in the heliostat's completion ring lets the completions that wait be written. -/
def State.ringMoved (s : State) (r : Ring) : State :=
  match r with
  | .hel p 1 => State.helDrain p s.hel.waiting.length s
  | _ => s

def doRingIndexWrite (a : Agent) (r : Ring) (index : BitVec 32) (s : State) : State :=
  s.whenReady r.blk 0 (fun s =>
    if !s.mayWriteRing a r then s.refuseWrite a r.blk 0
    else if !s.indexOk r index.toNat then s.countRefused r.blk 0
    else (s.wr (if r.movesTail then r.tail else r.head) index.toNat).ringMoved r)

/-- The ring whose index a register holds. -/
def ringOf (h : RegHit) : Option Ring :=
  let o := h.row.off
  match h.blk with
  | .CAT =>
    if o = 0x4058 then some (.cat (Fin.ofNat 64 (h.idx / 3)) (Fin.ofNat 4 (h.idx % 3)))
    else if o = 0x40B0 then some (.cat (Fin.ofNat 64 h.idx) 3) else none
  | .HEL =>
    if o = 0x4038 then some (.hel (Fin.ofNat 64 h.idx) 0)
    else if o = 0x4050 then some (.hel (Fin.ofNat 64 h.idx) 1) else none
  | .FLT => if o = 0x10 then some .fault else none
  | .PHO => if o = 0x10 then some .trace else if o = 0x40 then some .sample else none
  | _ => none

/-! ## Checks of a written value (R28, R485) -/

def State.checkOk (s : State) (h : RegHit) (w : Word) (f : FieldRow) : Bool :=
  let v := getBits w f.lo f.len
  match f.check with
  | .any => true
  | .nonzero => v != 0
  | .range lo hi => decide (lo ≤ v ∧ v ≤ hi)
  | .multiple m => v % m == 0
  | .multipleIn m lo hi => v % m == 0 && decide (lo ≤ v ∧ v ≤ hi)
  | .powerOfTwoOrZero lo hi => v == 0 || (isPowerOfTwo v && decide (lo ≤ v ∧ v ≤ hi))
  | .notPositive4 => v == 0 || decide (8 ≤ v)
  | .oneOf vs => vs.contains v
  | .above lo len => decide (getBits w lo len < v)
  | .atLeast lo len => decide (getBits w lo len ≤ v)
  | .hostWindow m =>
    v % m == 0 && (match dpaKind v with
      | .host _ => true
      | _ => false)

/-- Fields that a write sets. -/
def FieldRow.settable (f : FieldRow) : Bool :=
  match f.access with
  | .rw | .sh => true
  | _ => false

/-- The word a write leaves: each settable field that passes its check, 1s cleared, and a counter cleared by any write. -/
def State.mergeWord (s : State) (h : RegHit) (old w : Word) : Word :=
  h.row.fields.foldl (fun r f =>
    match f.access with
    | .rw | .sh => if s.checkOk h w f then setBits r f.lo f.len (getBits w f.lo f.len) else r
    | .w1c => setBits r f.lo f.len (getBits (old &&& ~~~w) f.lo f.len)
    | .sat => setBits r f.lo f.len 0
    | .ro | .wo => r) old

/-- Some field of the write is refused. -/
def State.refusesField (s : State) (h : RegHit) (w : Word) : Bool :=
  h.row.fields.any (fun f => f.settable && !s.checkOk h w f)

/-! ## Who may write (R82, R362, R420, R422) -/

/-- The partition whose area a location of CAT, HEL or STW lies in. -/
def areaPart (h : RegHit) : Option Nat :=
  match h.blk with
  | .CAT | .HEL | .STW =>
    if 0x4000 ≤ h.row.off ∧ h.row.off < 0x10000 then some (if h.row.n2 = 1 then h.idx else h.idx / h.row.n1) else none
  | _ => none

/-- Registers of a HIF instance that its own PF writes. -/
def ownPortReg (o : Nat) : Bool := o == 0x10 || o == 0x18 || o == 0x20 || o == 0x40 || o == 0x4000

/-- Whether a write is the photometer's debug path. -/
def debugReg (h : RegHit) : Bool := h.blk == .PHO && decide (0x60 ≤ h.row.off ∧ h.row.off < 0xA0)

/-- The limits of R82 on a Larty unit's writes, and of R420 on J7's. -/
def withinLimits (a : Agent) (h : RegHit) : Bool :=
  match a with
  | .newel _ _ => h.blk != .VES
  | .gallery g => h.blk == .GAL && h.inst == g.val
  | .j7 => debugReg h
  | _ => true

/-- The agent may write the register. A virtual function's write has passed Table 17-3. ALM_CMD_ARG is each agent's own. -/
def State.mayWriteReg (s : State) (a : Agent) (h : RegHit) : Bool :=
  match a with
  | .vf _ _ => true
  | .gallery g => h.blk == .GAL && h.inst == g.val
  | .newel _ _ => h.blk != .VES && !debugReg h
  | .j7 => false
  | .pf x =>
    if h.row.off = 0xFE8 ∨ (h.blk = .ALM ∧ h.row.off = 8) then true
    else match areaPart h with
      | some p => s.mayWritePart a p
      | none => (h.blk == .HIF && ownPortReg h.row.off && h.inst == x.num) || s.mayWriteDevice a

/-! ## Commands that a register write is (R486) -/

/-- Run an operation on an index that the register table bounds. -/
def onIf (c : Bool) (f : State → State) (s : State) : State := if c then f s else s

def State.atrCommand (s : State) (a : Agent) (w : Word) : Option State :=
  let t := getBits w 0 3
  let confirm := BitVec.ofNat 16 (getBits w 48 16)
  if t = 0 then none
  else if t = 1 then some (doResetContext a (BitVec.ofNat 8 (getBits w 8 8)) (Fin.ofNat 8 (getBits w 16 3)) s)
  else if t = 2 then some (doResetPartition a (Fin.ofNat 64 (getBits w 24 6)) s)
  else if t = 3 then some (doResetWarm a (getBit w 32) confirm s)
  else if t = 4 then some (doResetCold a confirm s)
  else some (s.resetBad a)

/-- VES_CMD. The layout of an enrolment record is not given: its serial, its keys and the verdict on it are free values. -/
def State.vesWrite (s : State) (a : Agent) (w : Word) : Option State :=
  let op := getBits w 0 4
  if op = 0 then none
  else if op = 4 then
    let serial := s.free
    let rest := serial.2.free
    some (doEnroll a serial.1 (Fin.ofNat 9 (getBits rest.1 0 8)) (getBit rest.1 8) rest.2)
  else some (s.vesOp a op (getBits w 8 8))

def State.hifCommand (s : State) (a : Agent) (h : RegHit) (w : Word) : Option State :=
  let op := getBits w 0 3
  if h.row.off = 0x10 then some (doHifHeartbeat a (Port.ofNum h.inst) s)
  else if h.row.off ≠ 0x110 ∨ op = 0 then none
  else if op = 1 then some (doRebind a (Fin.ofNat 64 (getBits w 8 6)) s)
  else if op = 2 then some (doRebindAll a s)
  else if op = 3 then some (doTakePrimary a s)
  else if op = 4 then some (doGivePrimary a s)
  else some (s.rebindBad a op)

def State.dbhCommand (s : State) (a : Agent) (h : RegHit) (w : Word) : Option State :=
  if h.row.off = 0x10000 then some (doDoorbellRing (.agent a) (Fin.ofNat 512 h.idx) w s)
  else if h.row.off = 0x10010 then some (doTargetIdleWrite a (Fin.ofNat 512 h.idx) (getBit w 0) s)
  else if h.row.off = 0x10200 then some (doPendingWordClear a (Fin.ofNat 512 (h.idx / 64)) (Fin.ofNat 64 (h.idx % 64)) w s)
  else none

def State.catCommand (s : State) (a : Agent) (h : RegHit) (w : Word) : Option State :=
  if h.row.off = 0x4100 ∧ getBit w 32 then
    some (doRecordRelease a (Fin.ofNat 64 h.idx) (Fin.ofNat 16384 (getBits w 0 14)) (BitVec.ofNat 16 (getBits w 16 16)) s)
  else none

def State.helCommand (s : State) (a : Agent) (h : RegHit) (w : Word) : Option State :=
  if h.row.off = 0x28 ∧ (getBit w 0 ∨ getBit w 1) then
    some (onIf (getBit w 1) (doHelMeasStop a) (onIf (getBit w 0) (doHelMeasStart a) s))
  else if h.row.off = 0x40 ∧ getBit w 16 then some (doHelTrigCancel a (Fin.ofNat 1024 (getBits w 0 10)) s)
  else none

def State.stwCommand (s : State) (a : Agent) (h : RegHit) (w : Word) : Option State :=
  let p : Fin 64 := Fin.ofNat 64 h.idx
  if h.row.off = 0x4090 ∧ getBits w 32 2 ≠ 0 then
    some (s.enterRecCmd a p (Fin.ofNat 16384 (getBits w 0 14)) (BitVec.ofNat 16 (getBits w 16 16)) (getBits w 32 2)
      (Fin.ofNat 4 (getBits w 36 2)))
  else if h.row.off = 0x40B8 ∧ (getBit w 0 ∨ getBit w 1) then
    some (onIf (getBit w 1) (doKeyForceRetire a p) (onIf (getBit w 0) (doKeyRotate a p) s))
  else none

/-- FAB_CTX_CMD. -/
def State.ctxWrite (s : State) (a : Agent) (w : Word) : Option State :=
  let n := BitVec.ofNat 16 (getBits w 0 16)
  let op := getBits w 16 4
  if op = 0 then none
  else if op = 1 then some (doCtxCreate a n (Fin.ofNat 64 (getBits w 24 6)) s)
  else if op = 2 then some (doCtxClose a n s)
  else if op = 3 then some (doCtxQuery a n s)
  else if op = 4 then some (doCtxKeyInstall a n s)
  else if op = 5 then some (doCtxKeySwitch a n s)
  else if op = 6 then some (doCtxPin a n s)
  else if op = 7 then some (doCtxUnpin a n s)
  else if op = 8 then some (doCtxReset a n s)
  else some (s.ctxCommand a (s.ctxOwner n.toNat) (fun s => (s, some .badLength)))

/-- FAB_P_RGN_CMD. -/
def State.rgnWrite (s : State) (a : Agent) (p : Fin 64) (w : Word) : Option State :=
  let index : Fin 256 := Fin.ofNat 256 (getBits w 0 8)
  let op := getBits w 8 2
  if op = 0 then none
  else if op = 1 then some (doRgnAdd a p index (BitVec.ofNat 48 (getBits w 16 48)) s)
  else if op = 2 then some (doRgnRemove a p index s)
  else some (s.rgnCommand a p (fun s => (s, .badLength)))

def State.fabCommand (s : State) (a : Agent) (h : RegHit) (w : Word) : Option State :=
  let f : Fin 4 := Fin.ofNat 4 h.inst
  let o := h.row.off
  if o = 0x28 ∧ getBit w 8 then some (doFabSubst a f (Fin.ofNat 32 (getBits w 0 5)) s)
  else if o = 0x30 ∧ getBit w 0 then some (doFabRecal (some a) f s)
  else if o = 0x80 ∧ (getBit w 0 ∨ getBit w 1) then
    some (onIf (getBit w 1) (doLcEjectB a) (onIf (getBit w 0) (doLcEjectA a) s))
  else if o = 0x420 then s.ctxWrite a w
  else if o = 0x440 ∧ getBit w 8 then some (doRlcFlush a (Fin.ofNat 64 (getBits w 0 6)) s)
  else if o = 0x808 then s.rgnWrite a (Fin.ofNat 64 h.idx) w
  else none

def State.galCommand (s : State) (a : Agent) (h : RegHit) (w : Word) : Option State :=
  let g : Fin 16 := Fin.ofNat 16 h.inst
  let o := h.row.off
  if o = 0x68 ∧ getBit w 8 then some (doGalSubst a g (Fin.ofNat 16 (getBits w 0 4)) s)
  else if o = 0x80 ∧ getBits w 0 4 ≠ 0 then some (doGalBatchDone a g (Fin.ofNat 16 (getBits w 0 4)) s)
  else if o = 0x820 ∧ getBit w 0 then some (doTagLoadGo a g s)
  else if o = 0x2008 then some (doGalSrSeedWrite a g (Fin.ofNat 16 h.idx) (BitVec.ofNat 32 (getBits w 0 32)) s)
  else none

def State.nbuCommand (s : State) (a : Agent) (h : RegHit) (w : Word) : Option State :=
  let k : Fin 8 := Fin.ofNat 8 h.inst
  if h.row.off = 0x40 ∧ getBit w 8 then some (doNbuSubst a k (Fin.ofNat 32 (getBits w 0 5)) s)
  else if h.row.off = 0x50 ∧ getBit w 8 then some (doNbuLostClear a k (Fin.ofNat 64 (getBits w 0 6)) s)
  else none

def State.prtCommand (s : State) (a : Agent) (h : RegHit) (w : Word) : Option State :=
  let p : Fin 64 := Fin.ofNat 64 h.inst
  let role := getBits w 8 2
  let map := getBits w 0 2
  if h.row.off = 0x8 then
    (if role = 0 then none
     else if role = 1 then some (doRoleSet a p (Fin.ofNat 8 (getBits w 0 3)) s)
     else if role = 2 then some (doRoleCancel a p s)
     else some (s.roleBad a p))
  else if h.row.off = 0x818 then
    (if map = 0 then none
     else if map = 1 then some (doMapLoad a p s)
     else if map = 2 then some (doMapSweep a p s)
     else some (s.mapBad a p))
  else none

/-- A register of the debug path: held separately for BAR0 and J7. STEP is taken by the writers that may make it. -/
def State.phoCommand (s : State) (a : Agent) (h : RegHit) (w : Word) : Option State :=
  let o := h.row.off
  let plain : Bool := o == 0x60 || o == 0x68 || o == 0x90
  let unit := BitVec.ofNat 8 (getBits w 0 8)
  let ctx : Fin 8 := Fin.ofNat 8 (getBits w 8 3)
  let base := blockBase .PHO 0
  if plain then
    some (s.onDebugPath a (fun path t =>
      if t.refusesField h w then t.countRefused .PHO 0
      else h.row.fields.foldl (fun t f => t.dbgWr path ⟨base + o, f.lo, f.len, false⟩ (getBits w f.lo f.len)) t))
  else if o = 0x70 then
    (if getBits w 0 2 = 0 then none
     else if getBits w 0 2 = 1 then some (doDbgRead a s)
     else if getBits w 0 2 = 2 then some (doDbgWrite a s)
     else some (s.dbgBad a))
  else if o = 0x80 then
    (if getBits w 12 2 = 1 then some (doDbgStop a unit ctx s)
     else if getBits w 12 2 = 3 then some (doDbgResume a unit ctx s)
     else none)
  else if o = 0x98 then some (doPhoRegDataAccess a (some w) s)
  else if o = 0xA0 ∧ getBit w 0 then some (doPhoClear a s)
  else none

def State.fltCommand (s : State) (a : Agent) (h : RegHit) (w : Word) : Option State :=
  let op := getBits w 0 2
  if h.row.off = 0x38 then
    (if op = 1 then some (doHealthQuarantine a s)
     else if op = 2 then some (doHealthRelease a s)
     else if op = 3 then some (doHealthClear a s)
     else none)
  else if h.row.off = 0x90 ∧ getBit w 8 then some (doFltNwlSubst a (Fin.ofNat 8 (getBits w 0 3)) s)
  else none

/-- An almanac command with an OP of 8 to 15: it names no entry's state. -/
def State.almBad (s : State) (a : Agent) (e p : Nat) : State :=
  match s.actingPart a p with
  | none => s.refuseWrite a .ALM 0
  | some q =>
    if s.mayWritePart a q then s.almResult a.code e .badLength else (s.refuseWrite a .ALM 0).almResult a.code e .refusedPolicy

def State.almWrite (s : State) (a : Agent) (w : Word) : Option State :=
  let e : Fin 4096 := Fin.ofNat 4096 (getBits w 0 12)
  let p : Fin 64 := Fin.ofNat 64 (getBits w 16 6)
  let op := getBits w 12 4
  if op = 0 then none
  else if op = 1 then some (doAlmRegister a e p s)
  else if op = 2 then some (doAlmLoad a e p s)
  else if op = 3 then some (doAlmEvict a e p s)
  else if op = 4 then some (doAlmPin a e p s)
  else if op = 5 then some (doAlmUnpin a e p s)
  else if op = 6 then some (doAlmAdvance a e p s)
  else if op = 7 then some (doAlmUnregister a e p s)
  else some (s.almBad a e p)

def State.adpWrite (s : State) (a : Agent) (w : Word) : Option State :=
  let slot : Fin 256 := Fin.ofNat 256 (getBits w 0 8)
  let p : Fin 64 := Fin.ofNat 64 (getBits w 10 6)
  let op := getBits w 8 2
  if op = 0 then none
  else if op = 1 then some (doAdpLoad a slot p (BitVec.ofNat 16 (getBits w 16 16)) s)
  else if op = 2 then some (doAdpRetire a slot p s)
  else some (s.adpCommand a slot p (fun _ => s.adpResult a.code slot .badLength 0))

/-- What a write of a command register does; none where it carries no command. -/
def State.regCommand (s : State) (a : Agent) (h : RegHit) (w : Word) : Option State :=
  match ringOf h with
  | some r => some (doRingIndexWrite a r (BitVec.ofNat 32 (getBits w 0 32)) s)
  | none =>
    match h.blk with
    | .ATR => if h.row.off = 0x18 then s.atrCommand a w else none
    | .VES => if h.row.off = 8 then s.vesWrite a w else none
    | .HIF => s.hifCommand a h w
    | .DBH => s.dbhCommand a h w
    | .CAT => s.catCommand a h w
    | .HEL => s.helCommand a h w
    | .STW => s.stwCommand a h w
    | .FAB => s.fabCommand a h w
    | .GAL => s.galCommand a h w
    | .NBU => s.nbuCommand a h w
    | .PRT => s.prtCommand a h w
    | .PHO => s.phoCommand a h w
    | .FLT => s.fltCommand a h w
    | .ALM => if h.row.off = 0 then s.almWrite a w else if h.row.off = 0x800 then s.adpWrite a w else none
    | .MER | .ORR | .NWL => none

/-! ## Plain writes -/

/-- The unit whose program-load registers a PROG row of a block holds. -/
def progUnit (h : RegHit) : Nat :=
  match h.blk with
  | .GAL => h.inst
  | .NBU => 0x10 + h.inst
  | .HEL => 0x18
  | _ => 0x20 + h.idx

/-- What else a plain write does: a trigger counter's conditions are tested, GAL_XP_SAT_BAY clears with its counter, STAGE starts
a verification. -/
def State.afterWrite (s : State) (a : Agent) (h : RegHit) (w : Word) : State :=
  let o := h.row.off
  if h.blk = .HEL ∧ o = 0x4060 then s.testCounter (h.idx / 16) (h.idx % 16)
  else if h.blk = .GAL ∧ o = 0x850 then s.wr (GAL_XP_SAT_BAY.BUBBLE_BAYS h.inst) 0
  else if o = 0xC10 ∧ getBit w 0 then
    (match h.blk with
     | .GAL | .NBU | .HEL | .NWL => doProgStage a (Fin.ofNat 64 (progUnit h)) s
     | _ => s)
  else s

/-- A write of a register that is no live copy: a field that R28 or R485 refuses keeps its value, and the write counts once. -/
def State.plainWrite (s : State) (a : Agent) (x : RegAcc) (w : Word) : State :=
  let h := x.hit
  let s1 :=
    if perAgent h.blk h.row.off then s.setPriv x.home a.code (s.mergeWord h (s.privReg x.home a.code) w)
    else s.setReg x.home (s.mergeWord h (s.reg x.home) w)
  let s2 := if s.refusesField h w then s1.countRefused h.blk h.inst else s1
  s2.afterWrite a h w

/-- A register of the expert page that is no live copy opens to a write only with the key, and in IDLE (R42). -/
def State.expertWrite (s : State) (a : Agent) (x : RegAcc) (w : Word) : State :=
  if s.expertOpen x.hit.blk x.hit.inst && s.blockIdle x.hit.blk x.hit.inst then s.plainWrite a x w
  else s.countRefused x.hit.blk x.hit.inst

/-! ## Live writes (R42) -/

/-- What new live values do at once: a length waits for its meridian, a port that PTP leaves listens, a timebase whose edges move
acquires again, and a notification that is enabled rings (R44, R46, R433, Table 2-4). -/
def State.newLive (s old : State) (b : Blk) : State :=
  match b with
  | .MER =>
    let same := s.rd MER_LENGTH.LEN == old.rd MER_LENGTH.LEN && s.rd MER_SWITCH_AT.COUNT == old.rd MER_SWITCH_AT.COUNT
    let s : State := { s with merp := { s.merp with
      switchPending := s.rd MER_LENGTH.LEN != s.merLen, keepOrigin := s.merp.keepOrigin && same } }
    let s := (List.range 4).foldl (fun s f =>
      if old.ptpEnabled f && !s.ptpEnabled f then s.setRole f 0 else s) s
    s.reacquire old
  | .ATR =>
    s.bellIf (s.on ATR_NOTIFY.READY_EN && !old.on ATR_NOTIFY.READY_EN) (s.rd ATR_NOTIFY.DB_PART) (s.rd ATR_NOTIFY.DB_SOURCE)
  | _ => s

/-- A live write of the code-table windows is checked as the table it would make. -/
def State.wouldPass (s : State) (h : RegHit) (home : Nat) (w : Word) : Bool :=
  let n := if h.row.off = 0x8080 then h.idx else h.idx / 16
  let c := s.withLive home w
  tablePasses ((List.range 16).map (fun i => c (GAL_TABLE_LEN.LEN16 h.inst n i).off) ++ [c (GAL_TABLE_EXP.EXP_BITS h.inst n).off])

/-- The checks a block makes of a live write: those of a shadow write and those of an apply point. -/
def State.liveOk (s : State) (x : RegAcc) (w : Word) : Bool :=
  let h := x.hit
  let c := s.withLive x.home w
  let fs := h.row.fields.filter (fun f => decide (f.access = .sh))
  fs.all (fun f => s.checkOk h w f && (getBits (s.liveReg x.home) f.lo f.len == getBits w f.lo f.len || fieldOk s s c x.home h f)) &&
  (match h.blk with
   | .HIF => if h.row.off = 0x20 then (s.vfMapWord (Port.ofNum h.inst) h.idx w).2 == 0 else s.regOk h w
   | .GAL => if 0x8000 ≤ h.row.off then s.wouldPass h x.home w else s.regOk h w
   | _ => s.regOk h w)

/-- The SH fields of a word. -/
def shWord (h : RegHit) (old w : Word) : Word :=
  h.row.fields.foldl (fun r f => if f.access = .sh then setBits r f.lo f.len (getBits w f.lo f.len) else r) old

/-- A live write that takes effect: both copies. -/
def State.setBoth (s : State) (x : RegAcc) (w : Word) : State :=
  let s1 := s.setLive x.home (shWord x.hit (s.liveReg x.home) w)
  s1.setReg x.home (shWord x.hit (s1.reg x.home) w)

/-- A live-written SWAP. -/
def State.askSwap (s : State) (u : Nat) (w : Word) : State :=
  { s with larty := { s.larty with liveSwap := Tab.put (fun _ => false) s.larty.liveSwap u (getBit w 1) } }

/-- The effects of a live write beside the copies. A SWAP waits for the next landing (R100). -/
def State.afterLive (s old : State) (x : RegAcc) (w : Word) : State :=
  let h := x.hit
  match h.blk with
  | .STW => if h.row.off = 0x40C0 ∧ getBit w 0 then s.keySwitch h.idx else s
  | .GAL =>
    if 0x8000 ≤ h.row.off then
      let n := if h.row.off = 0x8080 then h.idx else h.idx / 16
      s.useTable h.inst n (s.liveTable h.inst n)
    else if h.row.off = 0xC10 then s.askSwap (progUnit h) w
    else if h.row.off = 0x20 then (List.range 16).foldl State.rateFalls s
    else s
  | .PRT => (List.range 16).foldl State.rateFalls s
  | .NBU | .HEL | .NWL => if h.row.off = 0xC10 then s.askSwap (progUnit h) w else s
  | b => s.newLive old b

/-- A live write (R42). One that R44 refuses counts in MER_LENGTH_REFUSED too. -/
def State.liveWrite (s : State) (x : RegAcc) (w : Word) : State :=
  let h := x.hit
  let free := s.expertOpen h.blk h.inst && s.blockIdle h.blk h.inst && !s.shadowPending h.blk h.inst
  if !free then s.countRefused h.blk h.inst
  else if !s.liveOk x w then
    (if h.blk = .MER ∧ h.row.off = 0x10 ∧ h.row.fields.all (fun f => s.checkOk h w f) then s.refuseLen
     else s.countRefused h.blk h.inst)
  else (s.setBoth x w).afterLive s x w

/-! ## Commit requests (R39) -/

/-- A write of 1 to PREFIX_COMMIT.GO. Any instance of a device-wide register's block commits those registers with it. -/
def State.commitWrite (s : State) (b : Blk) (inst : Nat) (w : Word) : State :=
  if getBit w 0 then s.requestCommit b inst else s

/-! ## Register writes -/

/-- A write of a register by an agent that the register map and its window let reach it. -/
def State.writeReg (s : State) (a : Agent) (x : RegAcc) (w : Word) : State :=
  let h := x.hit
  if !withinLimits a h then s.refuseWrite a h.blk h.inst
  else if h.row.off ≠ 0xFF8 ∧ !s.ready h.blk h.inst then s.countRefused h.blk h.inst
  else
    let cmd := if x.live then none else s.regCommand a h w
    match cmd with
    | some t => t
    | none =>
      if !s.mayWriteReg a h then s.refuseWrite a h.blk h.inst
      else if h.row.off = 0xFE8 then s.commitWrite h.blk h.inst w
      else if x.live then s.liveWrite x w
      else if 0x2000 ≤ h.row.off ∧ h.row.off < 0x4000 then s.expertWrite a x w
      else s.plainWrite a x w

/-- A write at a BAR0 offset; a reserved offset is ignored (R7). -/
def State.writeBar0 (s : State) (a : Agent) (off : Nat) (w : Word) : State :=
  match accAt off with
  | some x => s.writeReg a x w
  | none => s

/-! ## The window of a virtual function (R363) -/

/-- HIF_VF_COMMIT: a commit request to each block named. -/
def State.vfCommit (s : State) (w : Word) : State :=
  (([Blk.CAT, Blk.HEL, Blk.STW, Blk.FAB].zip (List.range 4)).filter (fun e => getBit w e.2)).foldl
    (fun s e => s.requestCommit e.1 0) s

/-- A write at an offset of a virtual function's BAR0. -/
def State.writeVf (s : State) (x : Port) (v : Fin 32) (off : Nat) (w : Word) : State :=
  let refuse := s.refuseWrite (.vf x v) .HIF x.num
  match s.vfPart x v with
  | none => refuse
  | some p =>
    if off = 8 then s.vfCommit w
    else if off = 0x10 then s.setFn x (v.val + 1) { s.fn x (v.val + 1) with recPage := getBits w 0 2 }
    else match vfOffset p off with
      | some o => if vfMayWrite off then s.writeBar0 (.vf x v) o w else refuse
      | none => refuse

/-- A write through BAR0 (R361): of 8 bytes, aligned; any other is discarded and counted. -/
def State.hostWrite (s : State) (a : Agent) (off : Nat) (narrow : Bool) (w : Word) : State :=
  match a.port with
  | none => if narrow ∨ off % 8 ≠ 0 then s else s.writeBar0 a off w
  | some x =>
    if narrow ∨ off % 8 ≠ 0 then s.inc (HIF_NARROW_WR.COUNT x.num)
    else match a with
      | .vf x v => s.writeVf x v off w
      | _ => s.writeBar0 a off w

/-- A write to a live copy, or to a register of the expert page alone. -/
def doExpertLiveWrite (a : Agent) (off : BitVec 26) (w : Word) (s : State) : State :=
  match accAt off.toNat with
  | some x =>
    if x.live ∨ (0x2000 ≤ x.hit.row.off ∧ x.hit.row.off < 0x4000) then s.hostWrite a off.toNat false w else s
  | none => s

/-- A write of 1 to PREFIX_COMMIT.GO of a block instance. An instance the block does not have names no register. -/
def doCommitRequest (a : Agent) (b : Blk) (inst : Fin 64) (s : State) : State :=
  if inst.val < blockInsts b then s.hostWrite a (blockBase b inst + 0xFE8) false 1 else s

def execExpertLiveWrite (a : Agent) (off : BitVec 26) (w : Word) (s : State) : Host.Outcome State Fault Refusal := .next (doExpertLiveWrite a off w s)
def execCommitRequest (a : Agent) (b : Blk) (inst : Fin 64) (s : State) : Host.Outcome State Fault Refusal := .next (doCommitRequest a b inst s)
def execRingIndexWrite (a : Agent) (r : Ring) (index : BitVec 32) (s : State) : Host.Outcome State Fault Refusal := .next (doRingIndexWrite a r index s)

end Sys2Proof.Machine
end

