-- ==== Sys2Proof/Machine/LocalAccess.lean ====
section
/-! DEFINITION. Class 0x2, the local memory instructions, and class 0xA, configuration (R66, R81, R82, R85, R243). -/

namespace Sys2Proof.Machine

/-! ## Addresses -/

/-- ga plus the sign-extended OFFSET, modulo 2^64. -/
def State.localAddr (s : State) (x : LCtx) (f : LFields) : Nat :=
  (s.gReg x f.a.toNat + BitVec.ofInt 64 (f.ims 0 29)).toNat

/-- The access is aligned, in the local store, in a tensor space of the context's partition from a background context, or to a
register with SIZE 3. -/
def State.localLegal (s : State) (x : LCtx) (f : LFields) (n : Nat) : Bool :=
  let a := s.localAddr x f
  let sp := f.im 31 2
  a % n == 0 &&
  (if sp = 0 then localOk x a n
   else if sp = 1 then x.background && (s.ctxPart x).isSome && decide (taSpace a < 6)
   else sp == 2 && n == 8 && decide (a < 0x4000000))

/-- The agent a context is as a writer of registers (R82). -/
def LCtx.agent : LCtx → Agent
  | .nwl c i => .newel c i
  | .gal g => .gallery g
  | _ => .j7

/-- An instruction that may have to wait at its word: while it does, only `stall` happens. -/
def State.issueOrStall (s : State) (x : LCtx) (op : BitVec 8) (f : LFields) (fault : Option Status) (waits : Bool)
    (stall eff : State → State) : State :=
  s.issue x op f fault (fun t =>
    if waits then ((stall t).setPc x (s.pc x)).modCtx x (fun c => { c with wait := .access })
    else eff (t.modCtx x (fun c => { c with wait := .none })))

/-! ## Registers -/

/-- A register read by a Larty unit: outside the limits of R82, and at an offset that names no register, it gives 0. -/
def State.unitRead (s : State) (x : LCtx) (off : Nat) : Word × State :=
  match accAt off with
  | some r => if off % 8 = 0 ∧ withinLimits x.agent r.hit then s.readEffect x.agent off else (0, s)
  | none => (0, s)

/-! ## Reads and writes of a space -/

/-- A read by tensor address waits for a home (R243, R248). -/
def State.readWaits (s : State) (x : LCtx) (f : LFields) (n : Nat) (good : Bool) : Bool :=
  f.im 31 2 == 1 && (s.readTensor ((s.ctxPart x).getD 0) (s.localAddr x f) n good).held

/-- A write by tensor address waits for a home or the end of a transit. -/
def State.storeWaits (s : State) (x : LCtx) (f : LFields) (n : Nat) : Bool :=
  f.im 31 2 == 1 && s.writeWaits ((s.ctxPart x).getD 0) (s.localAddr x f) n

/-- What a waiting write starts. -/
def State.storeStall (s : State) (x : LCtx) (f : LFields) (n : Nat) : State :=
  s.startDemand ((s.ctxPart x).getD 0) (s.localAddr x f) n

/-- The bytes an access reads. A read by tensor address that fails completes with its record; the data it leaves is not given: a
free value. -/
def State.loadBytes (s : State) (x : LCtx) (f : LFields) (n : Nat) (good : Bool) : Bytes × State :=
  let a := s.localAddr x f
  let sp := f.im 31 2
  if sp = 0 then (s.localBytes x.unit a n, s)
  else if sp = 1 then
    let p := (s.ctxPart x).getD 0
    let r := s.readTensor p a n good
    if r.status = .ok then (r.data, s) else (s.noteRead p a n good).freeBytes n
  else
    let r := s.unitRead x a
    (leBytes 8 r.1.toNat, r.2)

/-- Store bytes. A write that fails completes with its record. -/
def State.storeBytes (s : State) (x : LCtx) (f : LFields) (data : Bytes) : State :=
  let a := s.localAddr x f
  let sp := f.im 31 2
  if sp = 0 then s.setLocal x.unit a data
  else if sp = 1 then
    let p := (s.ctxPart x).getD 0
    (s.landWrite p a data).clearTensorTags p a data.length
  else s.hostWrite x.agent a false (BitVec.ofNat 64 (leNat data))

/-! ## Class 0x2 -/

def LFields.size (f : LFields) : Nat := 2 ^ f.im 29 2

/-- `good`: the verdict on an encrypted home (R264). -/
def doLd (x : LCtx) (f : LFields) (good : Bool) (s : State) : State :=
  s.issueOrStall x 0x20 f (faultUnless (s.localLegal x f f.size)) (s.readWaits x f f.size good) id (fun t =>
    let r := t.loadBytes x f f.size good
    r.2.setG x f.d.toNat (BitVec.ofNat 64 (leNat r.1)))

def doSt (x : LCtx) (f : LFields) (s : State) : State :=
  s.issueOrStall x 0x21 f (faultUnless (s.localLegal x f f.size)) (s.storeWaits x f f.size)
    (fun t => t.storeStall x f f.size)
    (fun t => t.storeBytes x f (leBytes f.size (s.gReg x f.b.toNat).toNat))

/-- SIZE 0, and no SPACE 2. -/
def State.descLegal (s : State) (x : LCtx) (f : LFields) : Bool := f.im 29 2 == 0 && s.localLegal x f 32

def doLdt (x : LCtx) (f : LFields) (good : Bool) (s : State) : State :=
  s.issueOrStall x 0x22 f (faultUnless (s.descLegal x f)) (s.readWaits x f 32 good) id (fun t =>
    let r := t.loadBytes x f 32 good
    r.2.setT x f.d.toNat (BitVec.ofNat 256 (leNat r.1)))

def doStt (x : LCtx) (f : LFields) (s : State) : State :=
  s.issueOrStall x 0x23 f (faultUnless (s.descLegal x f)) (s.storeWaits x f 32)
    (fun t => t.storeStall x f 32)
    (fun t => t.storeBytes x f (leBytes 32 (s.tReg x f.b.toNat).toNat))

/-- SIZE 3, in SPACE 0 or 1. -/
def State.atomLegal (s : State) (x : LCtx) (f : LFields) : Bool :=
  f.im 29 2 == 3 && decide (f.im 31 2 < 2) && s.localLegal x f 8

/-- An atomic access: gd takes the old value, and memory the new one where there is one. It waits as a write does. -/
def State.localAtomic (s : State) (x : LCtx) (op : BitVec 8) (f : LFields) (good : Bool) (new : Word → Option Word) : State :=
  s.issueOrStall x op f (faultUnless (s.atomLegal x f)) (s.storeWaits x f 8 || s.readWaits x f 8 good)
    (fun t => t.storeStall x f 8)
    (fun t =>
      let r := t.loadBytes x f 8 good
      let old := BitVec.ofNat 64 (leNat r.1)
      let failed := f.im 31 2 == 1 && (t.readTensor ((t.ctxPart x).getD 0) (t.localAddr x f) 8 good).status != Status.ok
      let t := match new old with
        | some v => if failed then r.2 else r.2.storeBytes x f (leBytes 8 v.toNat)
        | none => r.2
      t.setG x f.d.toNat old)

def doAadd (x : LCtx) (f : LFields) (good : Bool) (s : State) : State :=
  s.localAtomic x 0x24 f good (fun old => some (old + s.gReg x f.b.toNat))

def doAcas (x : LCtx) (f : LFields) (good : Bool) (s : State) : State :=
  s.localAtomic x 0x25 f good (fun old => if old = s.gReg x f.d.toNat then some (s.gReg x f.b.toNat) else none)

/-- A context issues no instruction while an access of its own waits, so every earlier access is complete. -/
def doFencel (x : LCtx) (f : LFields) (s : State) : State := s.issue x 0x26 f none id

/-! ## Class 0xA -/

/-- The block and the instance of a CMT, where the block has that instance. -/
def cmtTarget (f : LFields) : Option (Blk × Nat) :=
  match Blk.ofCode (f.im 0 5) with
  | some b => if f.im 5 6 < blockInsts b then some (b, f.im 5 6) else none
  | none => none

/-- Whether a unit may reach a block instance (R82). -/
def unitReaches (x : LCtx) (b : Blk) (inst : Nat) : Bool :=
  match x with
  | .nwl _ _ => b != .VES
  | .gal g => b == .GAL && inst == g.val
  | _ => false

def doCmt (x : LCtx) (f : LFields) (s : State) : State :=
  s.issue x 0xA0 f (faultUnless (cmtTarget f).isSome) (fun t =>
    match cmtTarget f with
    | some (b, i) => if unitReaches x b i then t.requestCommit b i else t.countRefused b i
    | none => t)

/-- CFGW. An offset that names no register is reached by nothing. -/
def doCfgw (x : LCtx) (f : LFields) (s : State) : State :=
  s.issue x 0xA1 f none (fun t => t.hostWrite x.agent (s.gReg x f.a.toNat).toNat false (s.gReg x f.b.toNat))

def doCfgr (x : LCtx) (f : LFields) (s : State) : State :=
  s.issue x 0xA2 f none (fun t =>
    let r := t.unitRead x (s.gReg x f.a.toNat).toNat
    r.2.setG x f.d.toNat r.1)

def execLd (x : LCtx) (f : LFields) (good : Bool) (s : State) : Host.Outcome State Fault Refusal := .next (doLd x f good s)
def execSt (x : LCtx) (f : LFields) (s : State) : Host.Outcome State Fault Refusal := .next (doSt x f s)

def execStt (x : LCtx) (f : LFields) (s : State) : Host.Outcome State Fault Refusal := .next (doStt x f s)

def execFencel (x : LCtx) (f : LFields) (s : State) : Host.Outcome State Fault Refusal := .next (doFencel x f s)

def execCmt (x : LCtx) (f : LFields) (s : State) : Host.Outcome State Fault Refusal := .next (doCmt x f s)

def execCfgw (x : LCtx) (f : LFields) (s : State) : Host.Outcome State Fault Refusal := .next (doCfgw x f s)

def execCfgr (x : LCtx) (f : LFields) (s : State) : Host.Outcome State Fault Refusal := .next (doCfgr x f s)
def execLdt (x : LCtx) (f : LFields) (good : Bool) (s : State) : Host.Outcome State Fault Refusal := .next (doLdt x f good s)
def execAadd (x : LCtx) (f : LFields) (good : Bool) (s : State) : Host.Outcome State Fault Refusal := .next (doAadd x f good s)
def execAcas (x : LCtx) (f : LFields) (good : Bool) (s : State) : Host.Outcome State Fault Refusal := .next (doAcas x f good s)

end Sys2Proof.Machine
end

