-- ==== Sys2Proof/Machine/Scalar.lean ====
section
/-! DEFINITION. Class 0x1 instructions: scalar arithmetic, comparisons, predicates and TDSET (Table 3-7). -/

namespace Sys2Proof.Machine

/-- A three-register operation on g registers: gd takes `r` of ga and gb. -/
def State.alu (s : State) (x : LCtx) (op : BitVec 8) (f : LFields) (r : Word → Word → Word) : State :=
  s.issue x op f none (fun t => t.setG x f.d.toNat (r (s.gReg x f.a.toNat) (s.gReg x f.b.toNat)))

/-- Shift amounts: AMT when USE_IMM is 1, else gb[5:0] (Table 3-7). -/
def LFields.shiftAmount (f : LFields) (gb : Word) : Nat := if f.im 6 1 = 1 then f.im 0 6 else gb.toNat % 64

/-- When USE_IMM is 0, IMM[5:0] must be 0. -/
def LFields.shiftLegal (f : LFields) : Bool := f.im 6 1 == 1 || f.im 0 6 == 0

def State.shift (s : State) (x : LCtx) (op : BitVec 8) (f : LFields) (r : Word → Nat → Word) : State :=
  s.issue x op f (faultUnless f.shiftLegal)
    (fun t => t.setG x f.d.toNat (r (s.gReg x f.a.toNat) (f.shiftAmount (s.gReg x f.b.toNat))))

/-- The comparisons of COND: EQ, NE, LTU, GEU, LTS, GES. -/
def condHolds (cond : Nat) (a b : Word) : Bool :=
  if cond = 0 then a == b
  else if cond = 1 then a != b
  else if cond = 2 then a.ult b
  else if cond = 3 then !a.ult b
  else if cond = 4 then a.slt b
  else !a.slt b

def doAdd (x : LCtx) (f : LFields) (s : State) : State := s.alu x 0x10 f (fun a b => a + b)
def doSub (x : LCtx) (f : LFields) (s : State) : State := s.alu x 0x11 f (fun a b => a - b)
def doAnd (x : LCtx) (f : LFields) (s : State) : State := s.alu x 0x12 f (fun a b => a &&& b)
def doOr (x : LCtx) (f : LFields) (s : State) : State := s.alu x 0x13 f (fun a b => a ||| b)
def doXor (x : LCtx) (f : LFields) (s : State) : State := s.alu x 0x14 f (fun a b => a ^^^ b)
def doShl (x : LCtx) (f : LFields) (s : State) : State := s.shift x 0x15 f (fun a n => a <<< n)
def doShr (x : LCtx) (f : LFields) (s : State) : State := s.shift x 0x16 f (fun a n => a >>> n)
def doSra (x : LCtx) (f : LFields) (s : State) : State := s.shift x 0x17 f (fun a n => a.sshiftRight n)
def doMul (x : LCtx) (f : LFields) (s : State) : State := s.alu x 0x18 f (fun a b => a * b)

def doAddi (x : LCtx) (f : LFields) (s : State) : State :=
  s.issue x 0x19 f none (fun t => t.setG x f.d.toNat (s.gReg x f.a.toNat + f.imm.signExtend 64))

def doMovl (x : LCtx) (f : LFields) (s : State) : State :=
  s.issue x 0x1A f none (fun t => t.setG x f.d.toNat ((f.imm.setWidth 32).signExtend 64))

def doMovh (x : LCtx) (f : LFields) (s : State) : State :=
  s.issue x 0x1B f none
    (fun t => t.setG x f.d.toNat (setBits (s.gReg x f.d.toNat) 32 32 (f.im 0 32)))

/-- COND 6 and 7 are reserved (R62). -/
def doCmp (x : LCtx) (f : LFields) (s : State) : State :=
  s.issue x 0x1C f (faultUnless (decide (f.im 0 3 < 6)))
    (fun t => t.setP x f.d.toNat (condHolds (f.im 0 3) (s.gReg x f.a.toNat) (s.gReg x f.b.toNat)))

def doCmpi (x : LCtx) (f : LFields) (s : State) : State :=
  s.issue x 0x1D f (faultUnless (decide (f.im 30 3 < 6)))
    (fun t => t.setP x f.d.toNat (condHolds (f.im 30 3) (s.gReg x f.a.toNat) ((f.imm.setWidth 30).signExtend 64)))

/-- pd takes bit 2 * pa + pb of TRUTH. -/
def doPset (x : LCtx) (f : LFields) (s : State) : State :=
  s.issue x 0x1E f none
    (fun t => t.setP x f.d.toNat (bitOf (f.im 0 4) (2 * b01 (s.pReg x f.a.toNat) + b01 (s.pReg x f.b.toNat))))

/-- Word WORD of td takes ga; writing an illegal descriptor is no fault (R58). -/
def doTdset (x : LCtx) (f : LFields) (s : State) : State :=
  s.issue x 0x1F f none
    (fun t => t.setT x f.d.toNat (descSetWord (s.tReg x f.d.toNat) (f.im 0 2) (s.gReg x f.a.toNat)))

def execAdd (x : LCtx) (f : LFields) (s : State) : Host.Outcome State Fault Refusal := .next (doAdd x f s)

def execSub (x : LCtx) (f : LFields) (s : State) : Host.Outcome State Fault Refusal := .next (doSub x f s)

def execAnd (x : LCtx) (f : LFields) (s : State) : Host.Outcome State Fault Refusal := .next (doAnd x f s)

def execOr (x : LCtx) (f : LFields) (s : State) : Host.Outcome State Fault Refusal := .next (doOr x f s)

def execXor (x : LCtx) (f : LFields) (s : State) : Host.Outcome State Fault Refusal := .next (doXor x f s)

def execShl (x : LCtx) (f : LFields) (s : State) : Host.Outcome State Fault Refusal := .next (doShl x f s)

def execShr (x : LCtx) (f : LFields) (s : State) : Host.Outcome State Fault Refusal := .next (doShr x f s)

def execSra (x : LCtx) (f : LFields) (s : State) : Host.Outcome State Fault Refusal := .next (doSra x f s)

def execMul (x : LCtx) (f : LFields) (s : State) : Host.Outcome State Fault Refusal := .next (doMul x f s)

def execAddi (x : LCtx) (f : LFields) (s : State) : Host.Outcome State Fault Refusal := .next (doAddi x f s)

def execMovl (x : LCtx) (f : LFields) (s : State) : Host.Outcome State Fault Refusal := .next (doMovl x f s)

def execMovh (x : LCtx) (f : LFields) (s : State) : Host.Outcome State Fault Refusal := .next (doMovh x f s)

def execCmp (x : LCtx) (f : LFields) (s : State) : Host.Outcome State Fault Refusal := .next (doCmp x f s)

def execCmpi (x : LCtx) (f : LFields) (s : State) : Host.Outcome State Fault Refusal := .next (doCmpi x f s)

def execPset (x : LCtx) (f : LFields) (s : State) : Host.Outcome State Fault Refusal := .next (doPset x f s)

def execTdset (x : LCtx) (f : LFields) (s : State) : Host.Outcome State Fault Refusal := .next (doTdset x f s)

end Sys2Proof.Machine
end

