-- ==== Sys2Proof/Machine/Tokens.lean ====
section
/-! DEFINITION. Class 0x4 instructions: tokens and credits, the waits, and the arrival of a give (R11 to R13, R69 to
R72). -/

namespace Sys2Proof.Machine

/-- The count a GIVE or RETC gives: IMM[15:0], or gb[31:0] when NREG is 1. -/
def State.giveCount (s : State) (x : LCtx) (f : LFields) : Nat :=
  if f.im 16 1 = 1 then (s.gReg x f.b.toNat).toNat % 2 ^ 32 else f.im 0 16

/-- UNIT must name a unit (R72); the b field or IMM[15:0], whichever NREG leaves unused, must be 0. -/
def giveLegal (f : LFields) : Bool :=
  (unitKind (f.im 17 8)).isSome && (if f.im 16 1 = 1 then f.im 0 16 == 0 else f.b == 0)

/-- A give to a unit in service is issued; one to a unit that is not is discarded with a fault record that names the
target (R69, R487) and holds the PC and the instruction word (Table 22-2). -/
def State.giveOrDiscard (s : State) (x : LCtx) (credit : Bool) (f : LFields) (count : Nat) : State :=
  let u := f.im 17 8
  if count = 0 then s
  else if s.unitInService u then
    s.issueGive { unit := u, credit := credit, ctr := f.im 25 4, count := count, giver := x.unit }
  else s.report { cls := 0x01, status := Status.linkFailed.code, sev := 3, blk := x.block.1, inst := x.block.2,
                  unit := u, d0 := s.pc x - 1, d1 := (encodeWord (if credit then 0x41 else 0x40) f).toNat }

def doGive (x : LCtx) (f : LFields) (s : State) : State :=
  s.issue x 0x40 f (faultUnless (giveLegal f)) (fun t => t.giveOrDiscard x false f (s.giveCount x f))

def doRetc (x : LCtx) (f : LFields) (s : State) : State :=
  s.issue x 0x41 f (faultUnless (giveLegal f)) (fun t => t.giveOrDiscard x true f (s.giveCount x f))

/-- Take n from a counter that holds at least n (R11); a take from a token counter is remembered for BARF (R65). -/
def State.take (s : State) (credit : Bool) (unit ctr n : Nat) : State :=
  let s := s.setCounter credit unit ctr (s.counter credit unit ctr - n)
  if credit then s
  else { s with larty := { s.larty with
    lastTake := Tab.put (fun _ => (0, 0)) s.larty.lastTake (unit * 16 + ctr) (s.mer, s.cycle) } }

/-- One try of a take: PRES says whether it succeeded (R70). -/
def State.tryTake (s : State) (x : LCtx) (credit : Bool) (ctr n pres : Nat) : State :=
  if n ≤ s.counter credit x.unit ctr then (s.take credit x.unit ctr n).setP x pres true
  else s.setP x pres false

def doTakek (x : LCtx) (f : LFields) (s : State) : State :=
  s.issue x 0x42 f none (fun t => t.tryTake x false f.d.toNat (f.im 0 16) (f.im 16 3))

def doTakec (x : LCtx) (f : LFields) (s : State) : State :=
  s.issue x 0x43 f none (fun t => t.tryTake x true f.d.toNat (f.im 0 16) (f.im 16 3))

/-- A wait tries once; without success and with a LIMIT above 0 the context waits (R70). -/
def State.startWait (s : State) (x : LCtx) (credit : Bool) (f : LFields) : State :=
  let ctr := f.d.toNat
  let n := f.im 0 12
  let limit := f.im 12 16
  let pres := f.im 28 3
  if n ≤ s.counter credit x.unit ctr then s.tryTake x credit ctr n pres
  else if limit = 0 then (s.setP x pres false).traceDev 0x0008 x.unit x.ctx ctr
  else s.modCtx x (fun c => { c with state := .waiting, wait := .take credit ctr n pres limit })

def doWaitk (x : LCtx) (f : LFields) (s : State) : State :=
  s.issue x 0x44 f none (fun t => t.startWait x false f)

def doWaitc (x : LCtx) (f : LFields) (s : State) : State :=
  s.issue x 0x45 f none (fun t => t.startWait x true f)

/-- A waiting context finds enough in its counter: it takes N, sets PRES to 1 and runs on (R70). A context that does not
wait for a take, or whose counter holds less, is unchanged. -/
def doWaitTakeSuccess (x : LCtx) (s : State) : State :=
  match (s.ctx x).wait with
  | .take credit ctr n pres _ =>
    if n ≤ s.counter credit x.unit ctr then
      (s.tryTake x credit ctr n pres).modCtx x (fun c => { c with state := .running, wait := .none })
    else s
  | _ => s

/-- LIMIT cycles have passed without success: PRES becomes 0 and the context runs on (R70). -/
def doWaitLimitExpired (x : LCtx) (s : State) : State :=
  match (s.ctx x).wait with
  | .take credit ctr n pres _ =>
    if n ≤ s.counter credit x.unit ctr then s
    else
      let s := s.setP x pres false
      let s := s.modCtx x (fun c => { c with state := .running, wait := .none })
      s.traceDev 0x0008 x.unit x.ctx ctr
  | _ => s

def doRdk (x : LCtx) (f : LFields) (s : State) : State :=
  s.issue x 0x46 f none (fun t => t.setG x f.d.toNat ((s.kReg x.unit f.a.toNat).setWidth 64))

def doRdc (x : LCtx) (f : LFields) (s : State) : State :=
  s.issue x 0x47 f none (fun t => t.setG x f.d.toNat ((s.cReg x.unit f.a.toNat).setWidth 64))

def doSetk (x : LCtx) (f : LFields) (s : State) : State :=
  s.issue x 0x48 f none (fun t => t.setK x.unit f.d.toNat ((s.gReg x f.a.toNat).setWidth 32))

def doSetc (x : LCtx) (f : LFields) (s : State) : State :=
  s.issue x 0x49 f none (fun t => t.setC x.unit f.d.toNat ((s.gReg x f.a.toNat).setWidth 32))

/-- A give adds its count; one that would carry the counter past 0xFFFF_FFFF leaves it there, and a fault record names
the counter and the giver (R13, R487, Table 22-2). -/
def State.applyGive (s : State) (x : Give) : State :=
  let v := s.counter x.credit x.unit x.ctr + x.count
  if v < 2 ^ 32 then s.setCounter x.credit x.unit x.ctr v
  else (s.setCounter x.credit x.unit x.ctr (2 ^ 32 - 1)).report
    { cls := 0x0E, status := Status.badLength.code, sev := 3, blk := (unitBlk x.unit).1.code, inst := (unitBlk x.unit).2,
      unit := x.unit, d0 := x.ctr + (if x.credit then 256 else 0), d1 := x.giver }

/-- The i-th give on its way becomes visible in its counter (R12). -/
def doTokenGiveArrive (i : Nat) (s : State) : State :=
  match s.larty.gives[i]? with
  | some x => State.applyGive { s with larty := { s.larty with gives := s.larty.gives.eraseIdx i } } x
  | none => s

def execGive (x : LCtx) (f : LFields) (s : State) : Host.Outcome State Fault Refusal := .next (doGive x f s)

def execRetc (x : LCtx) (f : LFields) (s : State) : Host.Outcome State Fault Refusal := .next (doRetc x f s)

def execTakek (x : LCtx) (f : LFields) (s : State) : Host.Outcome State Fault Refusal := .next (doTakek x f s)

def execTakec (x : LCtx) (f : LFields) (s : State) : Host.Outcome State Fault Refusal := .next (doTakec x f s)

def execWaitk (x : LCtx) (f : LFields) (s : State) : Host.Outcome State Fault Refusal := .next (doWaitk x f s)

def execWaitc (x : LCtx) (f : LFields) (s : State) : Host.Outcome State Fault Refusal := .next (doWaitc x f s)

def execRdk (x : LCtx) (f : LFields) (s : State) : Host.Outcome State Fault Refusal := .next (doRdk x f s)

def execRdc (x : LCtx) (f : LFields) (s : State) : Host.Outcome State Fault Refusal := .next (doRdc x f s)

def execSetk (x : LCtx) (f : LFields) (s : State) : Host.Outcome State Fault Refusal := .next (doSetk x f s)

def execSetc (x : LCtx) (f : LFields) (s : State) : Host.Outcome State Fault Refusal := .next (doSetc x f s)

def execWaitTakeSuccess (x : LCtx) (s : State) : Host.Outcome State Fault Refusal := .next (doWaitTakeSuccess x s)

def execWaitLimitExpired (x : LCtx) (s : State) : Host.Outcome State Fault Refusal := .next (doWaitLimitExpired x s)

def execTokenGiveArrive (i : Nat) (s : State) : Host.Outcome State Fault Refusal := .next (doTokenGiveArrive i s)

end Sys2Proof.Machine
end

