-- ==== Sys2Proof/Machine/Debug.lean ====
section
/-! DEFINITION. STEP of the debug path, the debug link on J7, and the host's register write, which may be a STEP (R361, R461,
R462, R478). -/

namespace Sys2Proof.Machine

/-! ## One instruction -/

/-- Run the instruction of an opcode (Tables 3-6 to 3-18). A reserved opcode faults (R83). `good` is the verdict on an encrypted
home that a SPACE 1 access reads. -/
def State.runLarty (s : State) (x : LCtx) (op : BitVec 8) (f : LFields) (good : Bool) : State :=
  match op.toNat with
  | 0x01 => doBr x f s
  | 0x02 => doCall x f s
  | 0x03 => doJr x f s
  | 0x04 => doMyld x f s
  | 0x05 => doMchk x f s
  | 0x06 => doMcnt x f s
  | 0x07 => doHalt x f s
  | 0x08 => doBarf x f s
  | 0x09 => doBrk x f s
  | 0x10 => doAdd x f s
  | 0x11 => doSub x f s
  | 0x12 => doAnd x f s
  | 0x13 => doOr x f s
  | 0x14 => doXor x f s
  | 0x15 => doShl x f s
  | 0x16 => doShr x f s
  | 0x17 => doSra x f s
  | 0x18 => doMul x f s
  | 0x19 => doAddi x f s
  | 0x1A => doMovl x f s
  | 0x1B => doMovh x f s
  | 0x1C => doCmp x f s
  | 0x1D => doCmpi x f s
  | 0x1E => doPset x f s
  | 0x1F => doTdset x f s
  | 0x20 => doLd x f good s
  | 0x21 => doSt x f s
  | 0x22 => doLdt x f good s
  | 0x23 => doStt x f s
  | 0x24 => doAadd x f good s
  | 0x25 => doAcas x f good s
  | 0x26 => doFencel x f s
  | 0x30 => doRld x f s
  | 0x31 => doRst x f s
  | 0x32 => doRadd x f s
  | 0x33 => doRcas x f s
  | 0x34 => doRpost x f s
  | 0x35 => doRfl x f s
  | 0x36 => doRinv x f s
  | 0x37 => doMbox x f s
  | 0x40 => doGive x f s
  | 0x41 => doRetc x f s
  | 0x42 => doTakek x f s
  | 0x43 => doTakec x f s
  | 0x44 => doWaitk x f s
  | 0x45 => doWaitc x f s
  | 0x46 => doRdk x f s
  | 0x47 => doRdc x f s
  | 0x48 => doSetk x f s
  | 0x49 => doSetc x f s
  | 0x50 => doTmma x f s
  | 0x51 => doTload x f s
  | 0x52 => doTstore x f s
  | 0x53 => doTew x f s
  | 0x54 => doTfn x f s
  | 0x55 => doTred x f s
  | 0x56 => doTsync x f s
  | 0x60 => doAttn x f s
  | 0x61 => doAmrg x f s
  | 0x62 => doAmode x f s
  | 0x63 => doAsync x f s
  | 0x70 => doMove x f s
  | 0x71 => doMigr x f s
  | 0x72 => doPark x f s
  | 0x80 => doCrd x f s
  | 0x81 => doCwr x f s
  | 0x82 => doCstate x f s
  | 0x83 => doCadmit x f s
  | 0x84 => doCcommit x f s
  | 0x85 => doCtrim x f s
  | 0x86 => doCprog x f s
  | 0x90 => doBell x f s
  | 0x91 => doTmark x f s
  | 0x92 => doTadd x f s
  | 0xA0 => doCmt x f s
  | 0xA1 => doCfgw x f s
  | 0xA2 => doCfgr x f s
  | _ => doNop x op f s

/-- What a stepped context is left in. A wait has tried once, as with LIMIT 0; a remote or SPACE 1 access goes on, and the
context stops when it completes; a fault, a HALT and a BRK stay as they are. -/
def State.endStep (s : State) (x : LCtx) : State :=
  let c := s.ctx x
  let stop (s : State) : State := s.modCtx x (fun c => { c with state := .debug, wait := .none })
  match c.state, c.wait with
  | .running, .access => s.modCtx x (fun c => { c with stopPending := true })
  | .running, _ => stop s
  | .waiting, .take _ ctr _ pres _ => stop ((s.setP x pres false).traceDev 0x0008 x.unit x.ctx ctr)
  | .waiting, .remote .. => s.modCtx x (fun c => { c with stopPending := true })
  | .waiting, .tsync _ => stop (s.modCtx x (fun c => { c with pc := c.pc - 1 }))
  | .waiting, .async _ => stop (s.modCtx x (fun c => { c with pc := c.pc - 1 }))
  | .waiting, _ => stop s
  | _, _ => s

/-- STEP of a context that the debug path holds: one instruction, with its normal effect. -/
def State.stepCtx (s : State) (x : LCtx) (good : Bool) : State :=
  let s := s.modCtx x (fun c => { c with state := .running, wait := .none })
  let s := if x.critical then s.setSlice x.unit { isOpen := true, stepping := true } else s
  let pc := s.pc x
  let w := s.workWord x.unit pc
  let s := s.runLarty x (decodeOp w) (decodeFields w) good
  let s := if x.critical then s.closeSlice x.unit else s
  (s.endStep x).traceDev 0x0006 x.unit x.ctx pc

/-- A STEP of a context in FAULTED or STOPPED gives REFUSED_POLICY; one of a context that is not stopped changes nothing. -/
def doDbgStep (a : Agent) (unit : BitVec 8) (ctx : Fin 8) (good : Bool) (s : State) : State :=
  s.stopCommand a unit.toNat ctx.val (fun x t =>
    match (t.ctx x).state with
    | .stopped | .faulted => (t, .refusedPolicy)
    | .debug => (t.stepCtx x good, .ok)
    | _ => (t, .ok))

/-! ## Register writes -/

/-- A write of PHO_STOP_CMD whose OP is STEP: its unit and context. -/
def stepWrite (a : Agent) (off : Nat) (w : Word) : Option (BitVec 8 × Fin 8) :=
  let vf : Bool := match a with
    | .vf _ _ => true
    | _ => false
  if off = blockBase .PHO 0 + 0x80 ∧ getBits w 12 2 = 2 ∧ !vf then
    some (BitVec.ofNat 8 (getBits w 0 8), Fin.ofNat 8 (getBits w 8 3))
  else none

/-- A register write of an agent. A narrow one is not of 8 bytes. The verdict on an encrypted home that a STEP reads is a free
value. -/
def doRegisterWrite (a : Agent) (off : BitVec 26) (narrow : Bool) (w : Word) (s : State) : State :=
  match stepWrite a off.toNat w with
  | some (u, c) =>
    if narrow then s.hostWrite a off.toNat narrow w
    else
      let v := s.free
      doDbgStep a u c (getBit v.1 0) v.2
  | none => s.hostWrite a off.toNat narrow w

/-! ## The debug link on J7 (R478) -/

/-- The link answers frames: J7 is enabled, a probe is present, and the offset is in range. -/
def State.j7Open (s : State) (off : Nat) (present : Bool) : Bool :=
  s.on VES_DEBUG.J7_EN && present && decide (0x60 ≤ off ∧ off ≤ 0x98)

def State.j7Answer (s : State) (st : Status) (data : Word) : State := s.emit (.answer 5 st.code [data])

/-- What J7 reads: its copy of a register; a command register reads 0, as does an offset that names none. -/
def State.j7Read (s : State) (off : Nat) : Word :=
  match accAt (blockBase .PHO 0 + off) with
  | some x =>
    if off % 8 ≠ 0 then 0
    else if !s.ready .PHO 0 then x.hit.resetWord
    else s.privReg x.home Agent.j7.code
  | none => 0

/-- A frame with command 0x01. A read of PHO_REG_DATA fetches the selected register (R463). -/
def doJ7DebugRead (offset : BitVec 16) (present : Bool) (s : State) : State :=
  let o := offset.toNat
  if !s.j7Open o present then s.j7Answer .refusedPolicy 0
  else
    let s := if o = 0x98 then doPhoRegDataAccess .j7 none s else s
    s.j7Answer .ok (s.j7Read o)

/-- A frame with command 0x02. -/
def doJ7DebugWrite (offset : BitVec 16) (w : Word) (present : Bool) (s : State) : State :=
  let o := offset.toNat
  if !s.j7Open o present then s.j7Answer .refusedPolicy 0
  else (doRegisterWrite .j7 (BitVec.ofNat 26 (blockBase .PHO 0 + o)) false w s).j7Answer .ok 0

def execDbgStep (a : Agent) (unit : BitVec 8) (ctx : Fin 8) (good : Bool) (s : State) : Host.Outcome State Fault Refusal := .next (doDbgStep a unit ctx good s)
def execRegisterWrite (a : Agent) (off : BitVec 26) (narrow : Bool) (w : Word) (s : State) : Host.Outcome State Fault Refusal := .next (doRegisterWrite a off narrow w s)
def execJ7DebugRead (offset : BitVec 16) (present : Bool) (s : State) : Host.Outcome State Fault Refusal := .next (doJ7DebugRead offset present s)
def execJ7DebugWrite (offset : BitVec 16) (w : Word) (present : Bool) (s : State) : Host.Outcome State Fault Refusal := .next (doJ7DebugWrite offset w present s)

end Sys2Proof.Machine
end

