-- ==== Sys2Proof/Machine/Meridian.lean ====
section
/-! DEFINITION. The meridian: its start, the drain, the apply point, and the clock between them (R33 to R40, R44, R45, R49, R100,
R272, R273, R336, R353). -/

namespace Sys2Proof.Machine

/-- The meridian count runs (R50). -/
def State.clockRuns (s : State) : Bool := s.ready .MER 0

/-! ## The start of a meridian (R33, R44, R45, R49) -/

/-- The adjustment of a landing, within the limit, as the field holds it. -/
def adjField (limit v : Nat) : Nat := (256 + v % (2 * limit + 1) - limit) % 256

/-- The landing adjustment and the step extension of the new meridian. The spec does not give the adjustment: a free value within
the limit. -/
def State.newPhase (s : State) : State :=
  let step := s.merp.stepNext
  let s : State := { s with merp := { s.merp with stepNext := 0 } }
  let s := ((s.wr MER_PHASE.CYCLE 0).wr MER_PHASE.LANDING 0).wr MER_PHASE.STEP step
  if step = 0 ∧ s.adjusts then
    let v := s.free
    v.2.wr MER_PHASE.ADJ (adjField (s.rd MER_ADJ.LIMIT) v.1.toNat)
  else s.wr MER_PHASE.ADJ 0

/-- The new meridian's count: that of R45 where one was loaded, else the next. -/
def State.newCount (s : State) : State :=
  let n := match s.merp.countNext with
    | some k => if s.mer < k then k else s.mer + 1
    | none => s.mer + 1
  State.wr { s with merp := { s.merp with countNext := none } } MER_COUNT.COUNT n

/-- New origin values, in both copies: the time the old length gives for MER_SWITCH_AT (a negative one is 0). -/
def State.moveOrigin (s : State) : State :=
  let n := s.rd MER_SWITCH_AT.COUNT
  let t := (edgeNs s.originNs s.originCount s.merLen n).toNat
  ((s.wr MER_ORIGIN_SEC.SEC (t / 1000000000)).wr MER_ORIGIN_NS.NS (t % 1000000000)).wr MER_ORIGIN_COUNT.COUNT n

/-- A length switch takes effect at meridian MER_SWITCH_AT. A map's switch leaves the origin that the map wrote (R396). -/
def State.switchLength (s : State) : State :=
  if s.merp.switchPending ∧ s.rd MER_SWITCH_AT.COUNT ≤ s.mer then
    let s := if s.merp.keepOrigin then s else s.moveOrigin
    { s with merp := { s.merp with lenNow := s.rd MER_LENGTH.LEN, switchPending := false, keepOrigin := false } }
  else s

/-- A slice starts: what Table 2-2a asks of it from its first cycle. -/
def State.openSlice (s : State) (x : LCtx) : State :=
  let c := s.ctx x
  let v : Slice := {
    isOpen := true, budget := lenBudget s.merLen, byDebug := c.resumed,
    rateOver := (match x with
      | .gal g => s.on (GAL_STATE.RATE_OVER g)
      | _ => false),
    stack := (match x with
      | .nb h => s.rd (NBU_STATE.PWR_STATE h) != 0
      | _ => false),
    bayCopy := (match x with
      | .gal g => (List.range 16).any (fun b => Tab.get (fun _ => false) s.gal.copying (16 * g.val + b))
      | _ => false) }
  let s := s.setCtx x { c with state := .running, wait := .none, resumed := false }
  (s.setSlice x.unit v).traceDev 0x0001 x.unit 0 0

/-- A critical context that waits for its meridian may start: its unit is in service, and no pre-emption holds its gallery. -/
def State.mayStart (s : State) (x : LCtx) : Bool :=
  (s.ctx x).state == .waiting && (s.ctx x).wait == .meridian && s.unitInService x.unit &&
  (match x with
   | .gal g => s.galState g == 0 || s.galState g == 3
   | _ => true)

/-- A newel background context leaves its MYLD. -/
def State.wakeCtx (s : State) (x : LCtx) : State :=
  let c := s.ctx x
  if x.critical then (if s.mayStart x then s.openSlice x else s)
  else if c.state == .waiting && c.wait == .meridian then s.setCtx x { c with state := .running, wait := .none }
  else s

/-- Slices that cross into the new meridian carry the cycles of the one that ended. -/
def State.carrySlices (s : State) (cycles : Nat) : State :=
  allUnits.foldl (fun s u => s.markSlice u (fun v => { v with carried := v.carried + cycles })) s

/-- What counts each meridian begun: stacks in THROTTLE or CRITICAL, the age of remote accesses (R336), completion records that
wait; and admissions are counted afresh. -/
def State.countMeridian (s : State) : State :=
  let s := (List.range 8).foldl (fun s h =>
    if s.rd (NBU_STATE.PWR_STATE h) = 0 then s else s.inc (NBU_THROTTLED.COUNT h)) s
  let s := (List.range 32).foldl (fun s k => if s.on (FAB_STALL.VALID 0 k) then s.add (FAB_STALL.AGE 0 k) 1 else s) s
  let s := (List.range 64).foldl (fun s p =>
    let s := if s.cat.waiting.any (fun e => e.1 == p) then s.countStall p else s
    if s.hel.waiting.any (fun e => e.1 == p) then s.helStall p else s) s
  { s with cat := { s.cat with admits := [] } }

/-- The gate lists in force for the meridian. -/
def State.latchGates (s : State) : State :=
  { s with orr := { s.orr with gates := (List.range 32).foldl (fun t k =>
      Tab.put (fun _ => 0) t k (s.liveReg (ORR_GATE_W0.START (k / 8) (k % 8)).off)) [] } }

/-- The settle part of a landing ends, and a meridian starts. -/
def doMeridianStart (s : State) : State :=
  if !s.clockRuns ∨ !s.inLanding ∨ s.cycle < lenBudget s.merLen + 64 then s
  else
    let s := s.carrySlices s.cyclesNow
    let s := s.newCount.switchLength.newPhase
    let s := s.countMeridian.latchGates
    (allUnits.flatMap unitCtxs).foldl (fun s x => s.wakeCtx x) s

/-! ## The drain (R35 to R37) -/

/-- The record of a slip: at most one per unit in 1,024 meridians. -/
def State.slipRecord (s : State) (x : LCtx) (cause : Nat) : State :=
  let u := x.unit
  let last := Tab.get (fun _ => 0) s.flt.lastSlip u
  if last ≠ 0 ∧ s.mer + 1 - last < 1024 then s
  else
    let v := s.slice u
    State.report { s with flt := { s.flt with lastSlip := Tab.put (fun _ => 0) s.flt.lastSlip u (s.mer + 1) } }
      { cls := 0x02, sev := 2, blk := x.block.1, inst := x.block.2, unit := u, d0 := v.counted,
        d1 := v.crossed % 2 ^ 32 + 2 ^ 32 * cause }

/-- A unit inside its slice at the drain has slipped. -/
def State.slip (s : State) (x : LCtx) : State :=
  let u := x.unit
  if !(s.slice u).isOpen then s
  else
    let cause := s.slipCause u
    let s := (s.countLate u).markSlice u (fun v => { v with crossed := v.crossed + 1 })
    let s := s.inc MER_SLIP.COUNT
    let s := ((s.wr MER_SLIP_LAST.UNIT u).wr MER_SLIP_LAST.CAUSE cause).wr MER_SLIP_LAST.MERIDIAN s.mer32
    (s.slipRecord x cause).traceDev 0x0003 u 0 (s.slice u).crossed

/-- The critical context of every unit. -/
def criticals : List LCtx := (allUnits.flatMap unitCtxs).filter (fun x => x.critical)

def doDrainStart (s : State) : State :=
  if !s.clockRuns ∨ s.inLanding then s
  else
    let s := (s.wr MER_PHASE.CYCLE (lenBudget s.merLen)).wr MER_PHASE.LANDING 1
    criticals.foldl (fun s x => s.slip x) s

/-! ## The apply point (R38, R40) -/

/-- The unit that drives a register, where one does: the block's, or the core of a per-core register of NWL. -/
def driver (h : RegHit) : Option Nat :=
  match h.blk with
  | .GAL => some h.inst
  | .NBU => some (0x10 + h.inst)
  | .HEL => some 0x18
  | .NWL => if h.row.n1 = 8 then some (0x20 + h.idx) else none
  | _ => none

/-- A commit of the register is held back: its unit's slice crosses the landing. -/
def State.heldBack (s : State) (h : RegHit) : Bool :=
  match driver h with
  | some u => (s.slice u).isOpen
  | none => false

/-- The SH fields of a register whose copies differ. -/
def State.changedFields (s : State) (h : RegHit) (off : Nat) : List FieldRow :=
  h.row.fields.filter (fun f =>
    decide (f.access = .sh) && getBits (s.reg off) f.lo f.len != getBits (s.liveReg off) f.lo f.len)

/-- Insert an offset in rising order. -/
def insertOff (n : Nat) : List Nat → List Nat
  | [] => [n]
  | m :: ms => if n < m then n :: m :: ms else if n = m then m :: ms else m :: insertOff n ms

/-- The shadowed registers a commit of the instance applies, in rising order of their offsets: its own, and the device-wide ones
whichever instance is committed (R342, R403). The windows of the code tables are left to R146. -/
def State.committed (s : State) (b : Blk) (inst : Nat) : List (Nat × RegHit) :=
  let lo := blockBase b inst
  let hi := blockBase b (inst + 1)
  let wide := blockBase b 0
  let mine (k : Nat) : Bool :=
    (decide (lo ≤ k) && decide (k < hi)) || (decide (wide ≤ k) && decide (k < hi) && homeInst b 1 (k - wide) == 0)
  let offs := ((s.regs.map (fun e => e.1) ++ s.live.map (fun e => e.1)).filter mine).foldl (fun l k => insertOff k l) []
  offs.filterMap (fun k =>
    match accAt k with
    | some x =>
      let h : RegHit := { x.hit with inst := if lo ≤ k then inst else x.hit.inst }
      if x.live ∨ x.home ≠ k ∨ (b = .GAL ∧ 0x8000 ≤ h.row.off) ∨ (s.changedFields h k).isEmpty then none else some (k, h)
    | none => none)

/-- The shadow copy of a field goes back to the live value, and the refusal is counted. -/
def State.refuseShadow (s : State) (b : Blk) (inst off : Nat) (f : FieldRow) : State :=
  (s.setReg off (setBits (s.reg off) f.lo f.len (getBits (s.liveReg off) f.lo f.len))).countRefused b inst

def State.copyField (s : State) (off : Nat) (f : FieldRow) : State :=
  s.setLive off (setBits (s.liveReg off) f.lo f.len (getBits (s.reg off) f.lo f.len))

/-- A refused length counts in MER_LENGTH_REFUSED as well (R44). -/
def State.noteLength (s : State) (h : RegHit) : State :=
  if h.blk = .MER ∧ h.row.off = 0x10 then s.inc MER_LENGTH_REFUSED.COUNT else s

/-- Apply one register. `s0` is the state as the apply point found it. -/
def State.applyReg (s0 s : State) (inst : Nat) (e : Nat × RegHit) : State :=
  let off := e.1
  let h := e.2
  let fs := s.changedFields h off
  if h.blk = .HIF ∧ h.row.off = 0x20 then
    let r := s.vfMapWord (Port.ofNum inst) h.idx (s.reg off)
    let t := (s.setLive off r.1).setReg off r.1
    (List.range r.2).foldl (fun t _ => t.countRefused .HIF inst) t
  else if wholeReg h.blk h.row.off then
    if s.regOk h (s.reg off) then fs.foldl (fun t f => t.copyField off f) s
    else (s.setReg off (shWord h (s.reg off) (s.liveReg off))).countRefused h.blk inst
  else
    fs.foldl (fun t f =>
      if fieldOk s0 t s0.shadows off h f then t.copyField off f
      else (t.refuseShadow h.blk inst off f).noteLength h) s

/-- What an applied register starts: a key switch (R262), or a program swap (R100), which the settle part installs. -/
def State.startApplied (s : State) (e : Nat × RegHit) : State :=
  let h := e.2
  if h.blk = .STW ∧ h.row.off = 0x40C0 ∧ s.on (STW_P_KEYSW.SWITCH h.idx) then s.keySwitch h.idx
  else if h.row.off = 0xC10 ∧ (h.blk = .GAL ∨ h.blk = .NBU ∨ h.blk = .HEL ∨ h.blk = .NWL) ∧
      s.on (PROG_CTL.SWAP (progBase (progUnit h))) then
    { s with larty := { s.larty with liveSwap := Tab.put (fun _ => false) s.larty.liveSwap (progUnit h) true } }
  else s

/-- The whole instance is held back by its one unit's slice. -/
def State.instanceHeld (s : State) (b : Blk) (inst : Nat) : Bool :=
  match b with
  | .GAL => (s.slice inst).isOpen
  | .NBU => (s.slice (0x10 + inst)).isOpen
  | .HEL => (s.slice 0x18).isOpen
  | _ => false

/-- One block instance with a commit due: in one cycle every committed field is copied or refused. NWL stays pending while a core's
registers are held. -/
def State.applyBlock (s : State) (b : Blk) (inst : Nat) : State :=
  if !s.shadowPending b inst ∨ s.instanceHeld b inst then s
  else
    let es := s.committed b inst
    let due := es.filter (fun e => !s.heldBack e.2)
    let t := due.foldl (fun t e => s.applyReg t inst e) s
    let t := due.foldl (fun t e => t.startApplied e) t
    let t := if b = .GAL then (List.range 16).foldl (fun t n => t.offerTable inst n) t else t
    t.wr (PREFIX_STATUS.SHADOW_PENDING (blockBase b inst)) (b01 (es.length != due.length))

/-- Every block applies at the same apply point, galleries and partitions in the order of their numbers (R129, R388). -/
def State.applyBlocks (s : State) : State :=
  Blk.all.foldl (fun s b => (List.range (blockInsts b)).foldl (fun s i => s.applyBlock b i) s) s

/-! ## The settle part -/

/-- Program swaps that are due and that no slice holds back (R38, R100). -/
def State.installSwaps (s : State) : State :=
  allUnits.foldl (fun s u =>
    if Tab.get (fun _ => false) s.larty.liveSwap u ∧ !(s.slice u).isOpen then
      State.swap { s with larty := { s.larty with liveSwap := Tab.put (fun _ => false) s.larty.liveSwap u false } } u
    else s) s

/-- RATE_OVER rises at an apply point at which one of its conditions holds (R130). -/
def State.rateApply (s : State) (g : Nat) : State :=
  let above := s.rateOver g
  let s := s.wr (GAL_STATE.RATE_OVER g) (b01 above)
  if above then s.markSlice g (fun v => { v with rateOver := true }) else s

/-- What a gallery does in the settle part: tables and pre-emption (R134, R135, R146); RATE_OVER falls where an install has left
neither of its conditions (R130). -/
def State.settleGallery (s : State) (g : Nat) : State :=
  let s := (s.settleTables g).preemptApply g
  s.rateFalls g

/-- Progress words of running handovers, checkpoints and restores (R272), and of the records of open handover entries (R273). -/
def State.helProgress (s : State) : State :=
  let s := s.hel.wrs.foldl (fun s e =>
    let op := wrOp e.2.words
    if op = 0x09 ∨ op = 0x0A ∨ op = 0x0B then
      s.wr (HEL_INFLIGHT_W1.PROGRESS e.1) (s.wrProgress e.1 e.2 .partialDone).toNat
    else s) s
  [false, true].foldl (fun s inb =>
    ((List.range 1024).filter (fun h => s.on (hoValid inb h))).foldl (fun s h =>
      let w := s.hoProgress inb h (s.hoStatus inb h)
      let k := 1024 * b01 inb + h
      if Tab.get (fun _ => 0) s.hel.lastProgress k = w then s
      else
        State.setRecWord { s with hel := { s.hel with lastProgress := Tab.put (fun _ => 0) s.hel.lastProgress k w } }
          (s.rd (hoRecord inb h)) 10 w) s) s

/-- An inbound entry whose record has left HANDOVER_IN with no close on its way is closed. -/
def State.dropInbound (s : State) : State :=
  ((List.range 1024).filter (fun h => s.on (hoValid true h))).foldl (fun s h =>
    let v := s.inn h
    if s.inState (s.rd (hoRecord true h)) .handoverIn ∨ v.due ∨ v.sent ∨ v.retryAtMap ∨ v.retryAtLanding then s
    else s.closeHo true h) s

/-- What follows the copies of an apply point, which found the state `old`: what the new live values do, and the settle part. -/
def State.settleLanding (s old : State) : State :=
  let t := (s.newLive old .MER).newLive old .ATR
  let t := (List.range 16).foldl (fun t g => t.rateApply g) t
  let t := t.installSwaps
  let t := (List.range 16).foldl (fun t g => t.settleGallery g) t
  let t := (List.range 8).foldl (fun t h => t.dropLostCm h) t
  let t := t.batchProgressWrites.helProgress.dropInbound
  t.orrModeStep.showDrains.updateHealth

/-- The apply point and the settle part of a landing. -/
def doApplyPoint (s : State) : State :=
  if !s.clockRuns ∨ !s.inLanding ∨ lenBudget s.merLen + 64 ≤ s.cycle then s
  else
    let s := s.wr MER_PHASE.CYCLE (lenBudget s.merLen + 64)
    s.applyBlocks.settleLanding s

/-! ## The clock between the commands -/

/-- The cycle at which the clock waits: the drain, the apply point or the meridian start is due next. -/
def State.clockWaits (s : State) : Bool :=
  let b := lenBudget s.merLen
  if s.inLanding then s.cycle == b + 63 || decide (s.cyclesNow ≤ s.cycle + 1) else decide (b ≤ s.cycle + 1)

/-- One arithmetic cycle passes while no command waits; a control cycle is two of them, and the orrery counts its waits in each. -/
def State.tick (s : State) : State :=
  if !s.clockRuns || s.clockWaits then s
  else
    let s := s.wr MER_PHASE.CYCLE (s.cycle + 1)
    if s.cycle % 2 = 0 then s.countWaits else s

def execMeridianStart (s : State) : Host.Outcome State Fault Refusal := .next (doMeridianStart s)
def execDrainStart (s : State) : Host.Outcome State Fault Refusal := .next (doDrainStart s)
def execApplyPoint (s : State) : Host.Outcome State Fault Refusal := .next (doApplyPoint s)

end Sys2Proof.Machine
end

