-- ==== Sys2Proof/Machine/Dispatch.lean ====
section
/-! DEFINITION. One arm per command: each arm is one direct call of the command's meaning. -/

namespace Sys2Proof.Machine

open Sys2Proof

def exec (i : Instr) (s : State) : Host.Outcome State Fault Refusal :=
  match i with
  | .registerWrite a off narrow w => Sys2Proof.Machine.execRegisterWrite a off narrow w s
  | .expertLiveWrite a off w => Sys2Proof.Machine.execExpertLiveWrite a off w s
  | .commitRequest a b inst => Sys2Proof.Machine.execCommitRequest a b inst s
  | .d2dBlockReceive m good => Sys2Proof.Machine.execD2dBlockReceive m good s
  | .d2dLinkFail m => Sys2Proof.Machine.execD2dLinkFail m s
  | .tokenGiveArrive ix => Sys2Proof.Machine.execTokenGiveArrive ix s
  | .meridianStart => Sys2Proof.Machine.execMeridianStart s
  | .drainStart => Sys2Proof.Machine.execDrainStart s
  | .applyPoint => Sys2Proof.Machine.execApplyPoint s
  | .ptpMessageReceive f m => Sys2Proof.Machine.execPtpMessageReceive f m s
  | .ptpSyncSend f => Sys2Proof.Machine.execPtpSyncSend f s
  | .syncLossTimeout => Sys2Proof.Machine.execSyncLossTimeout s
  | .acquireTimeout => Sys2Proof.Machine.execAcquireTimeout s
  | .holdoverTimeout => Sys2Proof.Machine.execHoldoverTimeout s
  | .nop x op f => Sys2Proof.Machine.execNop x op f s
  | .br x f => Sys2Proof.Machine.execBr x f s
  | .call x f => Sys2Proof.Machine.execCall x f s
  | .jr x f => Sys2Proof.Machine.execJr x f s
  | .myld x f => Sys2Proof.Machine.execMyld x f s
  | .mchk x f => Sys2Proof.Machine.execMchk x f s
  | .mcnt x f => Sys2Proof.Machine.execMcnt x f s
  | .halt x f => Sys2Proof.Machine.execHalt x f s
  | .barf x f => Sys2Proof.Machine.execBarf x f s
  | .brk x f => Sys2Proof.Machine.execBrk x f s
  | .add x f => Sys2Proof.Machine.execAdd x f s
  | .sub x f => Sys2Proof.Machine.execSub x f s
  | .and x f => Sys2Proof.Machine.execAnd x f s
  | .or x f => Sys2Proof.Machine.execOr x f s
  | .xor x f => Sys2Proof.Machine.execXor x f s
  | .shl x f => Sys2Proof.Machine.execShl x f s
  | .shr x f => Sys2Proof.Machine.execShr x f s
  | .sra x f => Sys2Proof.Machine.execSra x f s
  | .mul x f => Sys2Proof.Machine.execMul x f s
  | .addi x f => Sys2Proof.Machine.execAddi x f s
  | .movl x f => Sys2Proof.Machine.execMovl x f s
  | .movh x f => Sys2Proof.Machine.execMovh x f s
  | .cmp x f => Sys2Proof.Machine.execCmp x f s
  | .cmpi x f => Sys2Proof.Machine.execCmpi x f s
  | .pset x f => Sys2Proof.Machine.execPset x f s
  | .tdset x f => Sys2Proof.Machine.execTdset x f s
  | .ld x f good => Sys2Proof.Machine.execLd x f good s
  | .st x f => Sys2Proof.Machine.execSt x f s
  | .ldt x f good => Sys2Proof.Machine.execLdt x f good s
  | .stt x f => Sys2Proof.Machine.execStt x f s
  | .aadd x f good => Sys2Proof.Machine.execAadd x f good s
  | .acas x f good => Sys2Proof.Machine.execAcas x f good s
  | .fencel x f => Sys2Proof.Machine.execFencel x f s
  | .rld x f => Sys2Proof.Machine.execRld x f s
  | .rst x f => Sys2Proof.Machine.execRst x f s
  | .radd x f => Sys2Proof.Machine.execRadd x f s
  | .rcas x f => Sys2Proof.Machine.execRcas x f s
  | .rpost x f => Sys2Proof.Machine.execRpost x f s
  | .rfl x f => Sys2Proof.Machine.execRfl x f s
  | .rinv x f => Sys2Proof.Machine.execRinv x f s
  | .mbox x f => Sys2Proof.Machine.execMbox x f s
  | .give x f => Sys2Proof.Machine.execGive x f s
  | .retc x f => Sys2Proof.Machine.execRetc x f s
  | .takek x f => Sys2Proof.Machine.execTakek x f s
  | .takec x f => Sys2Proof.Machine.execTakec x f s
  | .waitk x f => Sys2Proof.Machine.execWaitk x f s
  | .waitc x f => Sys2Proof.Machine.execWaitc x f s
  | .waitTakeSuccess x => Sys2Proof.Machine.execWaitTakeSuccess x s
  | .waitLimitExpired x => Sys2Proof.Machine.execWaitLimitExpired x s
  | .rdk x f => Sys2Proof.Machine.execRdk x f s
  | .rdc x f => Sys2Proof.Machine.execRdc x f s
  | .setk x f => Sys2Proof.Machine.execSetk x f s
  | .setc x f => Sys2Proof.Machine.execSetc x f s
  | .tmma x f => Sys2Proof.Machine.execTmma x f s
  | .tload x f => Sys2Proof.Machine.execTload x f s
  | .tstore x f => Sys2Proof.Machine.execTstore x f s
  | .tew x f => Sys2Proof.Machine.execTew x f s
  | .tfn x f => Sys2Proof.Machine.execTfn x f s
  | .tred x f => Sys2Proof.Machine.execTred x f s
  | .tsync x f => Sys2Proof.Machine.execTsync x f s
  | .bayInstructionComplete g bay good bubbles busy => Sys2Proof.Machine.execBayInstructionComplete g bay good bubbles busy s
  | .attn x f => Sys2Proof.Machine.execAttn x f s
  | .amrg x f => Sys2Proof.Machine.execAmrg x f s
  | .amode x f => Sys2Proof.Machine.execAmode x f s
  | .async x f => Sys2Proof.Machine.execAsync x f s
  | .attnSegmentEnd h pc ue ce good => Sys2Proof.Machine.execAttnSegmentEnd h pc ue ce good s
  | .move x f => Sys2Proof.Machine.execMove x f s
  | .moveComplete ix ue good => Sys2Proof.Machine.execMoveComplete ix ue good s
  | .migr x f => Sys2Proof.Machine.execMigr x f s
  | .park x f => Sys2Proof.Machine.execPark x f s
  | .crd x f => Sys2Proof.Machine.execCrd x f s
  | .cwr x f => Sys2Proof.Machine.execCwr x f s
  | .cstate x f => Sys2Proof.Machine.execCstate x f s
  | .cadmit x f => Sys2Proof.Machine.execCadmit x f s
  | .ccommit x f => Sys2Proof.Machine.execCcommit x f s
  | .ctrim x f => Sys2Proof.Machine.execCtrim x f s
  | .cprog x f => Sys2Proof.Machine.execCprog x f s
  | .bell x f => Sys2Proof.Machine.execBell x f s
  | .tmark x f => Sys2Proof.Machine.execTmark x f s
  | .tadd x f => Sys2Proof.Machine.execTadd x f s
  | .cmt x f => Sys2Proof.Machine.execCmt x f s
  | .cfgw x f => Sys2Proof.Machine.execCfgw x f s
  | .cfgr x f => Sys2Proof.Machine.execCfgr x f s
  | .progStage a u => Sys2Proof.Machine.execProgStage a u s
  | .progVerifyDone verdict => Sys2Proof.Machine.execProgVerifyDone verdict s
  | .segReq h pc => Sys2Proof.Machine.execSegReq h pc s
  | .segGrant h pc => Sys2Proof.Machine.execSegGrant h pc s
  | .nbStatus h position => Sys2Proof.Machine.execNbStatus h position s
  | .remap h pc position => Sys2Proof.Machine.execRemap h pc position s
  | .sptest h start => Sys2Proof.Machine.execSptest h start s
  | .segmentGrantExpiry h pc => Sys2Proof.Machine.execSegmentGrantExpiry h pc s
  | .boundaryGapEnd h pc gap hold => Sys2Proof.Machine.execBoundaryGapEnd h pc gap hold s
  | .ordinaryAccess addr write len data ue => Sys2Proof.Machine.execOrdinaryAccess addr write len data ue s
  | .refreshDue h pc => Sys2Proof.Machine.execRefreshDue h pc s
  | .refreshRateChange h temp => Sys2Proof.Machine.execRefreshRateChange h temp s
  | .nbuThrottleEnter h power temp => Sys2Proof.Machine.execNbuThrottleEnter h power temp s
  | .nbuThrottleExit h power temp => Sys2Proof.Machine.execNbuThrottleExit h power temp s
  | .nbuCriticalEnter h power temp => Sys2Proof.Machine.execNbuCriticalEnter h power temp s
  | .nbuCriticalExit h power temp => Sys2Proof.Machine.execNbuCriticalExit h power temp s
  | .nbuSubst a h index => Sys2Proof.Machine.execNbuSubst a h index s
  | .pcFaultSubst h pc ue => Sys2Proof.Machine.execPcFaultSubst h pc ue s
  | .pcCopyEnd h lost => Sys2Proof.Machine.execPcCopyEnd h lost s
  | .pcRemapApply h => Sys2Proof.Machine.execPcRemapApply h s
  | .nbuLostClear a h entry => Sys2Proof.Machine.execNbuLostClear a h entry s
  | .galSubst a g index => Sys2Proof.Machine.execGalSubst a g index s
  | .bayUe g bay => Sys2Proof.Machine.execBayUe g bay s
  | .baySubstitute g => Sys2Proof.Machine.execBaySubstitute g s
  | .bayCopyDone g bay => Sys2Proof.Machine.execBayCopyDone g bay s
  | .preemptDrainDone g => Sys2Proof.Machine.execPreemptDrainDone g s
  | .preemptSaveDone g good => Sys2Proof.Machine.execPreemptSaveDone g good s
  | .preemptRestoreDone g good => Sys2Proof.Machine.execPreemptRestoreDone g good s
  | .galBatchDone a g count => Sys2Proof.Machine.execGalBatchDone a g count s
  | .galSrSeedWrite a g n seed => Sys2Proof.Machine.execGalSrSeedWrite a g n seed s
  | .tagLoadGo a g => Sys2Proof.Machine.execTagLoadGo a g s
  | .tagLoadDone g => Sys2Proof.Machine.execTagLoadDone g s
  | .admissionEntry p => Sys2Proof.Machine.execAdmissionEntry p s
  | .batchValidate p => Sys2Proof.Machine.execBatchValidate p s
  | .batchDispatch p => Sys2Proof.Machine.execBatchDispatch p s
  | .batchPreemptRequest p => Sys2Proof.Machine.execBatchPreemptRequest p s
  | .recordExpiry ix => Sys2Proof.Machine.execRecordExpiry ix s
  | .deadlineMissed ix => Sys2Proof.Machine.execDeadlineMissed ix s
  | .handoverInTimeout ix => Sys2Proof.Machine.execHandoverInTimeout ix s
  | .recordUe ix => Sys2Proof.Machine.execRecordUe ix s
  | .completionRingDrain p => Sys2Proof.Machine.execCompletionRingDrain p s
  | .recordRelease a p record gen => Sys2Proof.Machine.execRecordRelease a p record gen s
  | .ringIndexWrite a r index => Sys2Proof.Machine.execRingIndexWrite a r index s
  | .stwPGrab a p => Sys2Proof.Machine.execStwPGrab a p s
  | .groupHomed frames => Sys2Proof.Machine.execGroupHomed frames s
  | .tensorRead p ta len good => Sys2Proof.Machine.execTensorRead p ta len good s
  | .tensorWrite p ta data => Sys2Proof.Machine.execTensorWrite p ta data s
  | .migrationConfirm ix frames => Sys2Proof.Machine.execMigrationConfirm ix frames s
  | .migrationFail ix read => Sys2Proof.Machine.execMigrationFail ix read s
  | .groupExpiry p g => Sys2Proof.Machine.execGroupExpiry p g s
  | .recPark a p record gen tier => Sys2Proof.Machine.execRecPark a p record gen tier s
  | .recUnpark a p record gen tier => Sys2Proof.Machine.execRecUnpark a p record gen tier s
  | .recFree a p record gen tier => Sys2Proof.Machine.execRecFree a p record gen tier s
  | .recCommandEnd => Sys2Proof.Machine.execRecCommandEnd s
  | .demotionStart p => Sys2Proof.Machine.execDemotionStart p s
  | .keyRotate a p => Sys2Proof.Machine.execKeyRotate a p s
  | .keyForceRetire a p => Sys2Proof.Machine.execKeyForceRetire a p s
  | .keyInstallDone p keyId => Sys2Proof.Machine.execKeyInstallDone p keyId s
  | .keySweepStep p t3 => Sys2Proof.Machine.execKeySweepStep p t3 s
  | .keySlotEmpty p => Sys2Proof.Machine.execKeySlotEmpty p s
  | .almRegister a e p => Sys2Proof.Machine.execAlmRegister a e p s
  | .almLoad a e p => Sys2Proof.Machine.execAlmLoad a e p s
  | .almEvict a e p => Sys2Proof.Machine.execAlmEvict a e p s
  | .almPin a e p => Sys2Proof.Machine.execAlmPin a e p s
  | .almUnpin a e p => Sys2Proof.Machine.execAlmUnpin a e p s
  | .almAdvance a e p => Sys2Proof.Machine.execAlmAdvance a e p s
  | .almUnregister a e p => Sys2Proof.Machine.execAlmUnregister a e p s
  | .almMoveConfirmed e frames => Sys2Proof.Machine.execAlmMoveConfirmed e frames s
  | .almEvictDone e => Sys2Proof.Machine.execAlmEvictDone e s
  | .adpLoad a slot p entry => Sys2Proof.Machine.execAdpLoad a slot p entry s
  | .adpRetire a slot p => Sys2Proof.Machine.execAdpRetire a slot p s
  | .adpSlotReady slot => Sys2Proof.Machine.execAdpSlotReady slot s
  | .adpSlotEmpty slot => Sys2Proof.Machine.execAdpSlotEmpty slot s
  | .wrNop => Sys2Proof.Machine.execWrNop s
  | .wrWrite => Sys2Proof.Machine.execWrWrite s
  | .wrRead => Sys2Proof.Machine.execWrRead s
  | .wrCas => Sys2Proof.Machine.execWrCas s
  | .wrFadd => Sys2Proof.Machine.execWrFadd s
  | .wrFlush => Sys2Proof.Machine.execWrFlush s
  | .wrOwnCas => Sys2Proof.Machine.execWrOwnCas s
  | .wrOwnRead => Sys2Proof.Machine.execWrOwnRead s
  | .wrOwnMirror => Sys2Proof.Machine.execWrOwnMirror s
  | .wrLayer => Sys2Proof.Machine.execWrLayer s
  | .wrCkpt good => Sys2Proof.Machine.execWrCkpt good s
  | .wrRestore => Sys2Proof.Machine.execWrRestore s
  | .wrComplete ix => Sys2Proof.Machine.execWrComplete ix s
  | .triggerFire ix => Sys2Proof.Machine.execTriggerFire ix s
  | .helTrigCancel a ix => Sys2Proof.Machine.execHelTrigCancel a ix s
  | .messageComplete ix => Sys2Proof.Machine.execMessageComplete ix s
  | .flushComplete ix => Sys2Proof.Machine.execFlushComplete ix s
  | .handoverClose inb h => Sys2Proof.Machine.execHandoverClose inb h s
  | .ownRetry inb h => Sys2Proof.Machine.execOwnRetry inb h s
  | .helMeasStart a => Sys2Proof.Machine.execHelMeasStart a s
  | .helMeasStop a => Sys2Proof.Machine.execHelMeasStop a s
  | .linkBlockReceive f ty seq ack good missing => Sys2Proof.Machine.execLinkBlockReceive f ty seq ack good missing s
  | .linkResendTimeout f seq => Sys2Proof.Machine.execLinkResendTimeout f seq s
  | .linkControlSend f => Sys2Proof.Machine.execLinkControlSend f s
  | .linkRetrain f dark => Sys2Proof.Machine.execLinkRetrain f dark s
  | .linkEnableChange f => Sys2Proof.Machine.execLinkEnableChange f s
  | .lanesLocked f mask => Sys2Proof.Machine.execLanesLocked f mask s
  | .trainingTimeout f mask light => Sys2Proof.Machine.execTrainingTimeout f mask light s
  | .alignAgree f node port => Sys2Proof.Machine.execAlignAgree f node port s
  | .alignTimeout f => Sys2Proof.Machine.execAlignTimeout f s
  | .laneFail f lane => Sys2Proof.Machine.execLaneFail f lane s
  | .laneSubstitute f => Sys2Proof.Machine.execLaneSubstitute f s
  | .fabSubst a f lane => Sys2Proof.Machine.execFabSubst a f lane s
  | .fabRecal a f => Sys2Proof.Machine.execFabRecal a f s
  | .laneRecalDone f => Sys2Proof.Machine.execLaneRecalDone f s
  | .lcInsert x => Sys2Proof.Machine.execLcInsert x s
  | .lcWavelengthLock x => Sys2Proof.Machine.execLcWavelengthLock x s
  | .lcWarmTimeout x => Sys2Proof.Machine.execLcWarmTimeout x s
  | .lcEjectA a => Sys2Proof.Machine.execLcEjectA a s
  | .lcEjectB a => Sys2Proof.Machine.execLcEjectB a s
  | .lcReleaseDone x => Sys2Proof.Machine.execLcReleaseDone x s
  | .lcRemove x => Sys2Proof.Machine.execLcRemove x s
  | .lcLoss x removed => Sys2Proof.Machine.execLcLoss x removed s
  | .ctxCreate a n p => Sys2Proof.Machine.execCtxCreate a n p s
  | .ctxClose a n => Sys2Proof.Machine.execCtxClose a n s
  | .ctxQuery a n => Sys2Proof.Machine.execCtxQuery a n s
  | .ctxKeyInstall a n => Sys2Proof.Machine.execCtxKeyInstall a n s
  | .ctxKeySwitch a n => Sys2Proof.Machine.execCtxKeySwitch a n s
  | .ctxPin a n => Sys2Proof.Machine.execCtxPin a n s
  | .ctxUnpin a n => Sys2Proof.Machine.execCtxUnpin a n s
  | .ctxReset a n => Sys2Proof.Machine.execCtxReset a n s
  | .ctxFetchDone n good => Sys2Proof.Machine.execCtxFetchDone n good s
  | .openPacket h srcCtx aes => Sys2Proof.Machine.execOpenPacket h srcCtx aes s
  | .openAck h => Sys2Proof.Machine.execOpenAck h s
  | .close h => Sys2Proof.Machine.execClose h s
  | .closeAck h => Sys2Proof.Machine.execCloseAck h s
  | .ack h base map => Sys2Proof.Machine.execAck h base map s
  | .nack h psn status units => Sys2Proof.Machine.execNack h psn status units s
  | .credit h granted => Sys2Proof.Machine.execCredit h granted s
  | .creditReq h want => Sys2Proof.Machine.execCreditReq h want s
  | .revoke h => Sys2Proof.Machine.execRevoke h s
  | .revokeAck h returned => Sys2Proof.Machine.execRevokeAck h returned s
  | .keychg h gen => Sys2Proof.Machine.execKeychg h gen s
  | .keychgAck h gen => Sys2Proof.Machine.execKeychgAck h gen s
  | .inval h addr => Sys2Proof.Machine.execInval h addr s
  | .invalAck h addr => Sys2Proof.Machine.execInvalAck h addr s
  | .cLoad h addr key size line req good => Sys2Proof.Machine.execCLoad h addr key size line req good s
  | .cStore h addr key size data => Sys2Proof.Machine.execCStore h addr key size data s
  | .cAdd h addr key req data good => Sys2Proof.Machine.execCAdd h addr key req data good s
  | .cCas h addr key req compare swap good => Sys2Proof.Machine.execCCas h addr key req compare swap good s
  | .cMbox h addr key source data => Sys2Proof.Machine.execCMbox h addr key source data s
  | .cResp h req status data line => Sys2Proof.Machine.execCResp h req status data line s
  | .sWrite h addr off len key tag msg ctrInc data => Sys2Proof.Machine.execSWrite h addr off len key tag msg ctrInc data s
  | .sRead h addr len key req => Sys2Proof.Machine.execSRead h addr len key req s
  | .sReadData h req off len data good => Sys2Proof.Machine.execSReadData h req off len data good s
  | .sAtom h addr key req op compare operand good => Sys2Proof.Machine.execSAtom h addr key req op compare operand good s
  | .sOwn h req op reqId expected new mirror mirrorNode mirrorPart => Sys2Proof.Machine.execSOwn h req op reqId expected new mirror mirrorNode mirrorPart s
  | .sResp h req status mf result => Sys2Proof.Machine.execSResp h req status mf result s
  | .sLayer h reqId hkey epoch rec_ layer total units addr data => Sys2Proof.Machine.execSLayer h reqId hkey epoch rec_ layer total units addr data s
  | .sFlush h req upto => Sys2Proof.Machine.execSFlush h req upto s
  | .packetResendTimeout n psn => Sys2Proof.Machine.execPacketResendTimeout n psn s
  | .sResponseTimeout n req => Sys2Proof.Machine.execSResponseTimeout n req s
  | .idleRevokeTimeout n => Sys2Proof.Machine.execIdleRevokeTimeout n s
  | .ackSend n => Sys2Proof.Machine.execAckSend n s
  | .rgnAdd a p index desc => Sys2Proof.Machine.execRgnAdd a p index desc s
  | .rgnRemove a p index => Sys2Proof.Machine.execRgnRemove a p index s
  | .rlcFlush a p => Sys2Proof.Machine.execRlcFlush a p s
  | .wheelSlot => Sys2Proof.Machine.execWheelSlot s
  | .bucketFill => Sys2Proof.Machine.execBucketFill s
  | .portBlockStart f good => Sys2Proof.Machine.execPortBlockStart f good s
  | .bar2Access x fn off write len data ue => Sys2Proof.Machine.execBar2Access x fn off write len data ue s
  | .hostPortLinkUp x speed width => Sys2Proof.Machine.execHostPortLinkUp x speed width s
  | .hostPortLinkDown x => Sys2Proof.Machine.execHostPortLinkDown x s
  | .pfFlr x => Sys2Proof.Machine.execPfFlr x s
  | .vfFlr x v => Sys2Proof.Machine.execVfFlr x v s
  | .hifHeartbeat a x => Sys2Proof.Machine.execHifHeartbeat a x s
  | .heartbeatTimeout x => Sys2Proof.Machine.execHeartbeatTimeout x s
  | .rebind a p => Sys2Proof.Machine.execRebind a p s
  | .rebindAll a => Sys2Proof.Machine.execRebindAll a s
  | .takePrimary a => Sys2Proof.Machine.execTakePrimary a s
  | .givePrimary a => Sys2Proof.Machine.execGivePrimary a s
  | .rebindApply => Sys2Proof.Machine.execRebindApply s
  | .msixSend => Sys2Proof.Machine.execMsixSend s
  | .msixHeldRelease ix => Sys2Proof.Machine.execMsixHeldRelease ix s
  | .doeObject x kind len => Sys2Proof.Machine.execDoeObject x kind len s
  | .doeAbort x => Sys2Proof.Machine.execDoeAbort x s
  | .doorbellRing r t w => Sys2Proof.Machine.execDoorbellRing r t w s
  | .pendingWordClear a t k bits => Sys2Proof.Machine.execPendingWordClear a t k bits s
  | .targetIdleWrite a t v => Sys2Proof.Machine.execTargetIdleWrite a t v s
  | .moderationTimerExpire t => Sys2Proof.Machine.execModerationTimerExpire t s
  | .deliveryUnblock t => Sys2Proof.Machine.execDeliveryUnblock t s
  | .roleSet a p role => Sys2Proof.Machine.execRoleSet a p role s
  | .roleCancel a p => Sys2Proof.Machine.execRoleCancel a p s
  | .roleDrainComplete p => Sys2Proof.Machine.execRoleDrainComplete p s
  | .roleDrainLimit p => Sys2Proof.Machine.execRoleDrainLimit p s
  | .mapLoad a ix => Sys2Proof.Machine.execMapLoad a ix s
  | .mapSweep a ix => Sys2Proof.Machine.execMapSweep a ix s
  | .mapSwitch => Sys2Proof.Machine.execMapSwitch s
  | .mapRetire => Sys2Proof.Machine.execMapRetire s
  | .anchCopySweepEnd => Sys2Proof.Machine.execAnchCopySweepEnd s
  | .vestibuleBoot bad => Sys2Proof.Machine.execVestibuleBoot bad s
  | .stageFw a comp => Sys2Proof.Machine.execStageFw a comp s
  | .activate a comp => Sys2Proof.Machine.execActivate a comp s
  | .liveActivationEnd => Sys2Proof.Machine.execLiveActivationEnd s
  | .commitSvn a comp => Sys2Proof.Machine.execCommitSvn a comp s
  | .enroll a serial keys good => Sys2Proof.Machine.execEnroll a serial keys good s
  | .debugEnable a => Sys2Proof.Machine.execDebugEnable a s
  | .debugDisable a => Sys2Proof.Machine.execDebugDisable a s
  | .logRead a => Sys2Proof.Machine.execLogRead a s
  | .getVersion x => Sys2Proof.Machine.execGetVersion x s
  | .getCapabilities x => Sys2Proof.Machine.execGetCapabilities x s
  | .negotiateAlgorithms x => Sys2Proof.Machine.execNegotiateAlgorithms x s
  | .getDigests x => Sys2Proof.Machine.execGetDigests x s
  | .getCertificate x slot => Sys2Proof.Machine.execGetCertificate x slot s
  | .challenge x slot => Sys2Proof.Machine.execChallenge x slot s
  | .getMeasurements x index signed => Sys2Proof.Machine.execGetMeasurements x index signed s
  | .keyExchange x => Sys2Proof.Machine.execKeyExchange x s
  | .spdmFinish x ix good chain => Sys2Proof.Machine.execSpdmFinish x ix good chain s
  | .spdmHeartbeat x ix => Sys2Proof.Machine.execSpdmHeartbeat x ix s
  | .keyUpdate x ix => Sys2Proof.Machine.execKeyUpdate x ix s
  | .endSession x ix => Sys2Proof.Machine.execEndSession x ix s
  | .takeOwnership x ix root => Sys2Proof.Machine.execTakeOwnership x ix root s
  | .fabricRoot x ix serial activeAt => Sys2Proof.Machine.execFabricRoot x ix serial activeAt s
  | .fabricRootActivate => Sys2Proof.Machine.execFabricRootActivate s
  | .inputValid => Sys2Proof.Machine.execInputValid s
  | .inputInvalid => Sys2Proof.Machine.execInputInvalid s
  | .inputOutOfRange mv => Sys2Proof.Machine.execInputOutOfRange mv s
  | .railPowerGood => Sys2Proof.Machine.execRailPowerGood s
  | .railTimeout => Sys2Proof.Machine.execRailTimeout s
  | .railLoss r => Sys2Proof.Machine.execRailLoss r s
  | .powerRetry => Sys2Proof.Machine.execPowerRetry s
  | .pwrDis high => Sys2Proof.Machine.execPwrDis high s
  | .thermalTrip stack temp => Sys2Proof.Machine.execThermalTrip stack temp s
  | .powerOverWarn power => Sys2Proof.Machine.execPowerOverWarn power s
  | .phaseLost r => Sys2Proof.Machine.execPhaseLost r s
  | .resetContext a unit ctx => Sys2Proof.Machine.execResetContext a unit ctx s
  | .resetPartition a p => Sys2Proof.Machine.execResetPartition a p s
  | .resetWarm a preserve confirm => Sys2Proof.Machine.execResetWarm a preserve confirm s
  | .resetCold a confirm => Sys2Proof.Machine.execResetCold a confirm s
  | .contextResetApply x => Sys2Proof.Machine.execContextResetApply x s
  | .partitionResetApply p => Sys2Proof.Machine.execPartitionResetApply p s
  | .blockReady b ix => Sys2Proof.Machine.execBlockReady b ix s
  | .faultReport r => Sys2Proof.Machine.execFaultReport r s
  | .faultRingDrain => Sys2Proof.Machine.execFaultRingDrain s
  | .dieTempLimit temp => Sys2Proof.Machine.execDieTempLimit temp s
  | .healthQuarantine a => Sys2Proof.Machine.execHealthQuarantine a s
  | .healthRelease a => Sys2Proof.Machine.execHealthRelease a s
  | .healthClear a => Sys2Proof.Machine.execHealthClear a s
  | .fltNwlSubst a core => Sys2Proof.Machine.execFltNwlSubst a core s
  | .newelSubstitute => Sys2Proof.Machine.execNewelSubstitute s
  | .selftestPassStart kind ix => Sys2Proof.Machine.execSelftestPassStart kind ix s
  | .selftestPassEnd kind ix passed => Sys2Proof.Machine.execSelftestPassEnd kind ix passed s
  | .samplePass => Sys2Proof.Machine.execSamplePass s
  | .traceDrain => Sys2Proof.Machine.execTraceDrain s
  | .dbgRead a => Sys2Proof.Machine.execDbgRead a s
  | .dbgWrite a => Sys2Proof.Machine.execDbgWrite a s
  | .dbgAccessDone path ue => Sys2Proof.Machine.execDbgAccessDone path ue s
  | .dbgStop a unit ctx => Sys2Proof.Machine.execDbgStop a unit ctx s
  | .dbgStep a unit ctx good => Sys2Proof.Machine.execDbgStep a unit ctx good s
  | .dbgResume a unit ctx => Sys2Proof.Machine.execDbgResume a unit ctx s
  | .stopPendingComplete x => Sys2Proof.Machine.execStopPendingComplete x s
  | .phoRegDataAccess a write => Sys2Proof.Machine.execPhoRegDataAccess a write s
  | .phoClear a => Sys2Proof.Machine.execPhoClear a s
  | .setEndpointId x eid => Sys2Proof.Machine.execSetEndpointId x eid s
  | .getEndpointId x => Sys2Proof.Machine.execGetEndpointId x s
  | .getMctpVersionSupport x => Sys2Proof.Machine.execGetMctpVersionSupport x s
  | .getMessageTypeSupport x => Sys2Proof.Machine.execGetMessageTypeSupport x s
  | .getEndpointUuid x => Sys2Proof.Machine.execGetEndpointUuid x s
  | .getTid x => Sys2Proof.Machine.execGetTid x s
  | .getPldmVersion x => Sys2Proof.Machine.execGetPldmVersion x s
  | .getPldmTypes x => Sys2Proof.Machine.execGetPldmTypes x s
  | .getPldmCommands x type => Sys2Proof.Machine.execGetPldmCommands x type s
  | .getSensorReading x id => Sys2Proof.Machine.execGetSensorReading x id s
  | .getStateSensorReadings x id => Sys2Proof.Machine.execGetStateSensorReadings x id s
  | .getPdr x record => Sys2Proof.Machine.execGetPdr x record s
  | .getPdrRepositoryInfo x => Sys2Proof.Machine.execGetPdrRepositoryInfo x s
  | .setEventReceiver x eid => Sys2Proof.Machine.execSetEventReceiver x eid s
  | .platformEventMessage id => Sys2Proof.Machine.execPlatformEventMessage id s
  | .queryDeviceIdentifiers x => Sys2Proof.Machine.execQueryDeviceIdentifiers x s
  | .getFirmwareParameters x => Sys2Proof.Machine.execGetFirmwareParameters x s
  | .requestUpdate x maxXfer => Sys2Proof.Machine.execRequestUpdate x maxXfer s
  | .passComponentTable x comp last => Sys2Proof.Machine.execPassComponentTable x comp last s
  | .updateComponent x comp size => Sys2Proof.Machine.execUpdateComponent x comp size s
  | .requestFirmwareDataResp x piece => Sys2Proof.Machine.execRequestFirmwareDataResp x piece s
  | .transferComplete x => Sys2Proof.Machine.execTransferComplete x s
  | .verifyComplete x verdict => Sys2Proof.Machine.execVerifyComplete x verdict s
  | .applyComplete x good => Sys2Proof.Machine.execApplyComplete x good s
  | .activateFirmware x => Sys2Proof.Machine.execActivateFirmware x s
  | .getStatus x => Sys2Proof.Machine.execGetStatus x s
  | .cancelUpdateComponent x => Sys2Proof.Machine.execCancelUpdateComponent x s
  | .cancelUpdate x => Sys2Proof.Machine.execCancelUpdate x s
  | .vendorReset x ix cold preserve confirm => Sys2Proof.Machine.execVendorReset x ix cold preserve confirm s
  | .faultLast x => Sys2Proof.Machine.execFaultLast x s
  | .j7DebugRead offset present => Sys2Proof.Machine.execJ7DebugRead offset present s
  | .j7DebugWrite offset w present => Sys2Proof.Machine.execJ7DebugWrite offset w present s
  | .connKeyInstallDone n => Sys2Proof.Machine.execConnKeyInstallDone n s
  | .busyRetryExpiry n => Sys2Proof.Machine.execBusyRetryExpiry n s
  | .mapLoadDone ue => Sys2Proof.Machine.execMapLoadDone ue s
  | .stageFwDone verdict => Sys2Proof.Machine.execStageFwDone verdict s
  | .newelCoreUe core => Sys2Proof.Machine.execNewelCoreUe core s
  | .pcieCompletionTimeout x => Sys2Proof.Machine.execPcieCompletionTimeout x s
  | .configSpaceWrite x fn w => Sys2Proof.Machine.execConfigSpaceWrite x fn w s
  | .ptpDelayReqSend f => Sys2Proof.Machine.execPtpDelayReqSend f s
  | .ptpAnnounceSend f => Sys2Proof.Machine.execPtpAnnounceSend f s

end Sys2Proof.Machine
end

