-- ==== Sys2Proof/Safety.lean ====
section
/-! DEFINITION. The terms the statements are written in: when a Larty context issues an instruction, the canonical form of
memory and of the register tables, and what it means that a command completes. -/

namespace Sys2Proof.Machine

open Sys2Proof

/-! ## Larty issue (R52, R59 to R62) -/

/-- The context can issue, and the word at its PC, inside the program, is a legal one with this opcode and these fields. -/
abbrev State.issues (s : State) (x : LCtx) (op : BitVec 8) (f : LFields) : Prop :=
  s.canIssue x = true ∧ s.pc x < (s.installedImage x.unit).codeWords ∧
  s.workWord x.unit (s.pc x) = encodeWord op f ∧ wordLegal x.kind op f = true

/-- It issues an instruction whose guard holds (R60). -/
abbrev State.runs (s : State) (x : LCtx) (op : BitVec 8) (f : LFields) : Prop := s.issues x op f ∧ s.guard x f = true

/-- The state with the context's PC at the next word. -/
def State.advance (s : State) (x : LCtx) : State := s.setPc x (s.pc x + 1)

/-- The same for an instruction of class 0x2, which may have waited at its word for a home. -/
def State.proceed (s : State) (x : LCtx) : State := (s.advance x).modCtx x (fun c => { c with wait := .none })

/-- The state in which an instruction of class 0x2 waits at its word. -/
def State.stallAt (s t : State) (x : LCtx) : State := (t.setPc x (s.pc x)).modCtx x (fun c => { c with wait := .access })

/-! ## Heliostat issue (R268, R269) -/

/-- The engine takes this entry next, from this queue, as a request of partition `p`, into in-flight slot `i`. -/
abbrev State.takesWr (s : State) (q : Nat) (e : QEntry) (p i : Nat) : Prop :=
  s.nextQueue = some q ∧ s.queueFront q = some e ∧
  (if e.unit = 0x18 then some (getBits (e.words.getD 0 0) 16 6) else e.part) = some p ∧ s.freeWr = some i

/-- The state with that entry out of its queue, in its slot, and counted. -/
def State.takenWr (s : State) (q : Nat) (e : QEntry) (p i : Nat) : State :=
  let t := s.popQueue q
  let t : State := { t with hel := { t.hel with lastQueue := q, starts := t.hel.starts + 1 } }
  let w : Wr := { words := e.words, unit := e.unit, ictx := e.ictx, part := p, fired := e.fired, start := s.hel.starts }
  (t.openWr i w).inc (HEL_P_WRS.COUNT p)

/-! ## Blocks and packets -/

/-- An instance of the block is READY: a write of one of its device-wide registers is served (R431). -/
abbrev State.anyReady (s : State) (b : Blk) : Prop := ∃ i, i < blockInsts b ∧ s.ready b i = true

/-- The agent may act for a connection context: for its partition, or for the device where no partition holds it. -/
def State.mayCtx (s : State) (a : Agent) (p : Option Nat) : Bool :=
  match p with
  | some p => s.mayWritePart a p
  | none => s.mayWriteDevice a

/-- A control packet passes its checks: a generation that is known, a tag that holds, an epoch that is not retired. -/
abbrev State.hearsControl (s : State) (h : PktHdr) : Prop :=
  (s.tpc h.ctx.toNat).knowsGen h.kgen.toNat = true ∧ ((s.tpc h.ctx.toNat).aes = true → h.auth = true) ∧
  s.epochRetired h.epoch.toNat = false

/-- The state in which it has its effect: an epoch ahead of the current one is counted. -/
def State.heardControl (s : State) (h : PktHdr) : State :=
  if s.epochAhead h.epoch.toNat then s.inc (FAB_TP_AHEAD.COUNT 0) else s

/-- A packet with a PSN passes: its context is cached and OPEN or CLOSING, its PSN is in the window and not seen, and its
generation, tag and epoch pass. The epoch of an S_OWN (0x24) is judged at the anchor. -/
abbrev State.hearsPsn (s : State) (h : PktHdr) (kind : Nat) : Prop :=
  let c := s.tpc h.ctx.toNat
  c.cached = true ∧ (c.state = 2 ∨ c.state = 3) ∧ psnDist c.rxBase h.psn.toNat < 4096 ∧ h.psn.toNat ∉ c.rxSeen ∧
  c.knowsGen h.kgen.toNat = true ∧ (c.aes = true → h.auth = true) ∧ (kind ≠ 0x24 → s.epochRetired h.epoch.toNat = false)

/-- The units a packet of this kind and length took. -/
def State.unitsOf (s : State) (h : PktHdr) (kind bytes : Nat) : Nat :=
  if creditKind kind then (s.tpc h.ctx.toNat).units bytes else 0

/-- The state in which it has its effect. -/
def State.heardPsn (s : State) (h : PktHdr) (kind bytes : Nat) : State :=
  let t := if kind ≠ 0x24 ∧ s.epochAhead h.epoch.toNat then s.inc (FAB_TP_AHEAD.COUNT 0) else s
  if s.unitsOf h kind bytes = 0 then t else (t.touch h.ctx.toNat).modTpc h.ctx.toNat (fun c => { c with lastArrival := t.mer })

/-- The PSN is marked received, and the peer is to hear of it. -/
def State.markPsn (t : State) (h : PktHdr) : State :=
  (t.modTpc h.ctx.toNat (fun c => c.mark h.psn.toNat h.kgen.toNat)).noteArrival h.ctx.toNat

/-- A packet that took `u` units has had its effect. -/
def State.tookPsn (t : State) (h : PktHdr) (u : Nat) : State :=
  ((t.markPsn h).placed h.ctx.toNat u).afterRx h.ctx.toNat

/-- A packet is refused with a NACK; its place in the window is kept. -/
def State.refusePsn (t : State) (h : PktHdr) (kind u : Nat) (st : Status) : State :=
  (((t.markPsn h).noteRefused h.ctx.toNat kind h.psn.toNat).sendNack h.ctx.toNat h.psn.toNat st u).afterRx h.ctx.toNat

/-- A packet is refused with a NACK, and is to be sent again. -/
def State.againPsn (t : State) (h : PktHdr) (u : Nat) (st : Status) : State :=
  (t.sendNack h.ctx.toNat h.psn.toNat st u).afterRx h.ctx.toNat

/-! ## Canonical forms -/

/-- Memory in canonical form: addresses strictly rising, and no entry that reads as an unlisted address does. -/
abbrev Memory.wf (m : List Host.Cell) : Bool := Tab.wf memDefault m

/-- The register tables in canonical form. -/
abbrev Registers.wf (s : State) : Bool :=
  Tab.wf regReset s.regs && Tab.wf regReset s.live && Tab.wf (fun _ => 0) s.priv

/-- Memory and the register tables are in canonical form: an invariant of every step. -/
def State.Formed (s : State) : Prop := Memory.wf s.mem = true ∧ Registers.wf s = true

/-! ## Completion -/

/-- The command answers this next state. -/
def Completes (c : Instr) (s t : State) : Prop := exec c s = .next t

end Sys2Proof.Machine
end

