-- ==== Sys2Proof/Certificates/Slice0/Obligations.lean ====
section
/-! DEFINITION. The statements for the provers. A statement with several parts names them: each part is a definition under
Claims, with its own docstring, and the statement is their conjunction. -/

open Sys2Proof Sys2Proof.Machine

/-! ## Steps -/

/-- A step runs the command at the front of the queue on the state whose queue is the rest. -/
def Obligations.StepRunsFront : Prop :=
  ∀ (c : Instr) (rest : List Instr) (s : State), s.pending = c :: rest →
    step s = exec c { s with pending := rest }

/-- On an empty queue a step is a clock tick (the model's choice, DESIGN CHOICE, log 1): it advances MER_PHASE.CYCLE by one arithmetic
cycle, unless the meridian count does not run or the cycle stands before a boundary that a command of the queue crosses. -/
def Obligations.IdleStepTicks : Prop :=
  ∀ s : State, s.pending = [] →
    ((s.clockRuns = false ∨ s.clockWaits = true) → step s = .next s) ∧
    (s.clockRuns = true → s.clockWaits = false → (s.cycle + 1) % 2 = 1 →
      step s = .next (s.wr MER_PHASE.CYCLE (s.cycle + 1)))

/-! ## Larty: the issue of an instruction -/

/-- The word of every Larty command, read back in its context, stands for that command, and every 64-bit word is the word of
the command it stands for: no field of Table 3-5 is dropped. -/
def Obligations.LartyDecodeOfEncode : Prop :=
  (∀ (c : Instr) (x : LCtx) (op : BitVec 8) (f : LFields), c.larty = some (x, op, f) →
    ((∃ o g, c = .nop x o g) → op = 0 ∨ opForm op.toNat = none) →
    ∃ good, lartyInstr x (encodeWord op f) good = c) ∧
  (∀ (x : LCtx) (w : Word) (good : Bool),
    (lartyInstr x w good).larty = some (x, decodeOp w, decodeFields w) ∧ encodeWord (decodeOp w) (decodeFields w) = w) ∧
  (∀ (op : BitVec 8) (f : LFields), decodeOp (encodeWord op f) = op ∧ decodeFields (encodeWord op f) = f)

/-- A context that cannot issue, and one whose PC is at another word, are left as they are by every Larty command. -/
def Claims.LartyNotIssued : Prop :=
  ∀ (c : Instr) (x : LCtx) (op : BitVec 8) (f : LFields) (s : State), c.larty = some (x, op, f) →
    (s.canIssue x = false → exec c s = .next s) ∧
    (s.pc x < (s.installedImage x.unit).codeWords → s.workWord x.unit (s.pc x) ≠ encodeWord op f → exec c s = .next s)

/-- A fetch at or past CODE_WORDS faults with a word of 0, and a word that breaks R51, R60, R61 or R83 faults with its own
word, both with BAD_LENGTH, whatever the guard (R62). -/
def Claims.LartyIllegalWordsFault : Prop :=
  ∀ (c : Instr) (x : LCtx) (op : BitVec 8) (f : LFields) (s : State), c.larty = some (x, op, f) → s.canIssue x = true →
    ((s.installedImage x.unit).codeWords ≤ s.pc x → exec c s = .next (s.instrFault x 0 .badLength)) ∧
    (s.pc x < (s.installedImage x.unit).codeWords → s.workWord x.unit (s.pc x) = encodeWord op f →
      wordLegal x.kind op f = false → exec c s = .next (s.instrFault x (encodeWord op f) .badLength))

/-- A guarded instruction whose guard is false has no effect but the PC's advance, or it is an instruction fault, since faults
are checked whether or not the guard holds (R60, R62). -/
def Claims.LartyFalseGuard : Prop :=
  ∀ (c : Instr) (x : LCtx) (op : BitVec 8) (f : LFields) (s : State), c.larty = some (x, op, f) → s.issues x op f →
    s.guard x f = false →
    exec c s = .next (s.advance x) ∨ ∃ st, exec c s = .next (s.instrFault x (encodeWord op f) st)

/-- A faulting instruction leaves its context FAULTED, with a critical context's slice closed, every other context and every
register and counter of the Larty files as they were, and memory outside the fault ring as it was (R64). -/
def Claims.LartyFaultEffect : Prop :=
  ∀ (s : State) (x : LCtx) (w : Word) (st : Status),
    ((s.instrFault x w st).ctx x).state = .faulted ∧
    (s.instrFault x w st).pc x = s.pc x ∧
    (x.critical = true → ((s.instrFault x w st).slice x.unit).isOpen = false) ∧
    (∀ y : LCtx, y ≠ x → (s.instrFault x w st).ctx y = s.ctx y) ∧
    (∀ (y : LCtx) (n : Nat), (s.instrFault x w st).gReg y n = s.gReg y n ∧ (s.instrFault x w st).pReg y n = s.pReg y n ∧
      (s.instrFault x w st).tReg y n = s.tReg y n) ∧
    (∀ u n : Nat, (s.instrFault x w st).kReg u n = s.kReg u n ∧ (s.instrFault x w st).cReg u n = s.cReg u n)

/-- Register g0 reads as zero and p0 as 1, and writes to them are ignored (R55). -/
def Obligations.RegisterZero : Prop :=
  ∀ (s : State) (x : LCtx) (w : Word) (b : Bool),
    s.gReg x 0 = 0 ∧ s.pReg x 0 = true ∧ s.setG x 0 w = s ∧ s.setP x 0 b = s

/-- A write of a register of a context changes that register alone: no other register of its file, no other context's, no
register of another file, no counter, no memory byte and no BAR0 register (R54, R55). -/
def Obligations.RegisterFileFrame : Prop :=
  ∀ (s : State) (x y : LCtx) (n m : Nat) (w : Word) (d : Desc) (b : Bool), n < 32 → m < 32 →
    (n ≠ 0 → (s.setG x n w).gReg x n = w) ∧
    ((x ≠ y ∨ n ≠ m) → (s.setG x n w).gReg y m = s.gReg y m) ∧
    (n < 8 → m < 8 → n ≠ 0 → (s.setP x n b).pReg x n = b) ∧
    (n < 8 → m < 8 → (x ≠ y ∨ n ≠ m) → (s.setP x n b).pReg y m = s.pReg y m) ∧
    (n < 16 → (s.setT x n d).tReg x n = d) ∧
    (n < 16 → m < 16 → (x ≠ y ∨ n ≠ m) → (s.setT x n d).tReg y m = s.tReg y m) ∧
    (s.setG x n w).pReg y m = s.pReg y m ∧ (s.setG x n w).tReg y m = s.tReg y m ∧ (s.setG x n w).ctx y = s.ctx y ∧
    (s.setP x n b).gReg y m = s.gReg y m ∧ (s.setT x n d).gReg y m = s.gReg y m ∧
    (s.setG x n w).mem = s.mem ∧ (s.setG x n w).regs = s.regs ∧ (s.setG x n w).larty.k = s.larty.k ∧
    (s.setG x n w).larty.c = s.larty.c

/-! ## Larty: results -/

/-- NOP, BR, CALL, JR, MCHK, MCNT, FENCEL: the PC, and the register that CALL, MCHK and MCNT write; nothing else (Table 3-6,
Table 3-8). A BR or CALL target, and a CALL's return word, lie inside the instruction store; a JR target has ga[63:16] 0. -/
def Claims.ControlResults : Prop :=
  ∀ (x : LCtx) (f : LFields) (s : State),
    (s.runs x 0x00 f → exec (.nop x 0x00 f) s = .next (s.advance x)) ∧
    (s.runs x 0x26 f → exec (.fencel x f) s = .next (s.advance x)) ∧
    (∀ t : Nat, s.runs x 0x01 f → (s.pc x : Int) + f.ims 0 32 = t → t < x.kind.storeWords →
      exec (.br x f) s = .next ((s.advance x).setPc x t)) ∧
    (∀ t : Nat, s.runs x 0x02 f → (s.pc x : Int) + f.ims 0 32 = t → t < x.kind.storeWords →
      s.pc x + 1 < x.kind.storeWords →
      exec (.call x f) s = .next (((s.advance x).setG x f.d.toNat (BitVec.ofNat 64 (s.pc x + 1))).setPc x t)) ∧
    (s.runs x 0x03 f → (s.gReg x f.a.toNat).toNat < 65536 →
      exec (.jr x f) s = .next ((s.advance x).setPc x (s.gReg x f.a.toNat).toNat)) ∧
    (s.runs x 0x05 f → exec (.mchk x f) s =
      .next ((s.advance x).setG x f.d.toNat (BitVec.ofNat 64 (lenBudget s.merLen - s.cycle)))) ∧
    (s.runs x 0x06 f → exec (.mcnt x f) s = .next ((s.advance x).setG x f.d.toNat (BitVec.ofNat 64 s.mer)))

/-- MYLD ends a critical context's slice, or makes a background context wait, until the next meridian start; HALT stops the
context and closes its slice; BRK has the effect of a debug stop (R52, R53, Table 3-6). -/
def Claims.ContextStops : Prop :=
  ∀ (x : LCtx) (f : LFields) (s : State),
    (s.runs x 0x04 f → x.critical = false → exec (.myld x f) s =
      .next ((s.advance x).modCtx x (fun c => { c with state := .waiting, wait := .meridian }))) ∧
    (s.runs x 0x04 f → x.critical = true → exec (.myld x f) s =
      .next ((((s.advance x).countSlice x.unit).closeSlice x.unit).modCtx x
        (fun c => { c with state := .waiting, wait := .meridian }))) ∧
    (s.runs x 0x07 f → x.critical = false → exec (.halt x f) s =
      .next ((s.advance x).modCtx x (fun c => { c with state := .stopped, wait := .none }))) ∧
    (s.runs x 0x07 f → x.critical = true → exec (.halt x f) s =
      .next ((((s.advance x).countSlice x.unit).closeSlice x.unit).modCtx x
        (fun c => { c with state := .stopped, wait := .none }))) ∧
    (s.runs x 0x09 f → exec (.brk x f) s = .next ((s.advance x).debugStop x))

/-- Class 0x1 (Table 3-7): the result register takes the value the table gives, the PC advances, and nothing else changes. -/
def Claims.ScalarResults : Prop :=
  ∀ (x : LCtx) (f : LFields) (s : State),
    let a := s.gReg x f.a.toNat
    let b := s.gReg x f.b.toNat
    let n := if f.im 6 1 = 1 then f.im 0 6 else b.toNat % 64
    let put (v : Word) : Host.Outcome State Fault Refusal := .next ((s.advance x).setG x f.d.toNat v)
    let shiftOk : Prop := f.im 6 1 = 1 ∨ f.im 0 6 = 0
    (s.runs x 0x10 f → exec (.add x f) s = put (a + b)) ∧
    (s.runs x 0x11 f → exec (.sub x f) s = put (a - b)) ∧
    (s.runs x 0x12 f → exec (.and x f) s = put (a &&& b)) ∧
    (s.runs x 0x13 f → exec (.or x f) s = put (a ||| b)) ∧
    (s.runs x 0x14 f → exec (.xor x f) s = put (a ^^^ b)) ∧
    (s.runs x 0x15 f → shiftOk → exec (.shl x f) s = put (BitVec.ofNat 64 (a.toNat * 2 ^ n))) ∧
    (s.runs x 0x16 f → shiftOk → exec (.shr x f) s = put (BitVec.ofNat 64 (a.toNat / 2 ^ n))) ∧
    (s.runs x 0x17 f → shiftOk → exec (.sra x f) s = put (BitVec.ofInt 64 (a.toInt / 2 ^ n))) ∧
    (s.runs x 0x18 f → exec (.mul x f) s = put (a * b)) ∧
    (s.runs x 0x19 f → exec (.addi x f) s = put (a + f.imm.signExtend 64)) ∧
    (s.runs x 0x1A f → exec (.movl x f) s = put ((f.imm.setWidth 32).signExtend 64)) ∧
    (s.runs x 0x1B f → exec (.movh x f) s =
      put ((f.imm.setWidth 32 : BitVec 32) ++ ((s.gReg x f.d.toNat).setWidth 32 : BitVec 32)))

/-- CMP, CMPI, PSET and TDSET: the predicate takes the comparison, or the bit of TRUTH; the descriptor's word takes ga. A
COND of 6 or 7 faults (Table 3-7, R62). -/
def Claims.PredicateResults : Prop :=
  ∀ (x : LCtx) (f : LFields) (s : State),
    let a := s.gReg x f.a.toNat
    let b := s.gReg x f.b.toNat
    let v : Word := (f.imm.setWidth 30 : BitVec 30).signExtend 64
    let holds (c : Nat) (u w : Word) : Bool :=
      match c with
      | 0 => decide (u = w)
      | 1 => decide (u ≠ w)
      | 2 => decide (u.toNat < w.toNat)
      | 3 => decide (w.toNat ≤ u.toNat)
      | 4 => decide (u.toInt < w.toInt)
      | _ => decide (w.toInt ≤ u.toInt)
    (s.runs x 0x1C f → f.im 0 3 < 6 →
      exec (.cmp x f) s = .next ((s.advance x).setP x f.d.toNat (holds (f.im 0 3) a b))) ∧
    (s.issues x 0x1C f → 6 ≤ f.im 0 3 → exec (.cmp x f) s = .next (s.instrFault x (encodeWord 0x1C f) .badLength)) ∧
    (s.runs x 0x1D f → f.im 30 3 < 6 →
      exec (.cmpi x f) s = .next ((s.advance x).setP x f.d.toNat (holds (f.im 30 3) a v))) ∧
    (s.issues x 0x1D f → 6 ≤ f.im 30 3 → exec (.cmpi x f) s = .next (s.instrFault x (encodeWord 0x1D f) .badLength)) ∧
    (s.runs x 0x1E f → exec (.pset x f) s = .next ((s.advance x).setP x f.d.toNat
      (f.imm.getLsbD (2 * (s.pReg x f.a.toNat).toNat + (s.pReg x f.b.toNat).toNat)))) ∧
    (s.runs x 0x1F f → ∃ t, exec (.tdset x f) s = .next t ∧ t = (s.advance x).setT x f.d.toNat (t.tReg x f.d.toNat) ∧
      ∀ i < 4, descWord (t.tReg x f.d.toNat) i = if i = f.im 0 2 then a else descWord (s.tReg x f.d.toNat) i)

/-- Class 0x2 in the core's local store (SPACE 0): loads are zero-extended and little-endian, stores write the low bytes, the
atomics give the old value; an aligned access inside the store completes at once (R66, Table 3-8). -/
def Claims.LocalStoreAccess : Prop :=
  ∀ (x : LCtx) (f : LFields) (good : Bool) (s : State),
    let a := s.localAddr x f
    let n := 2 ^ f.im 29 2
    let t := s.proceed x
    let old : Word := BitVec.ofNat 64 (leNat (s.localBytes x.unit a 8))
    let fits (k : Nat) : Prop := f.im 31 2 = 0 ∧ a % k = 0 ∧ a + k ≤ x.kind.localBytes
    (s.runs x 0x20 f → fits n → exec (.ld x f good) s =
      .next (t.setG x f.d.toNat (BitVec.ofNat 64 (leNat (s.localBytes x.unit a n))))) ∧
    (s.runs x 0x21 f → fits n → exec (.st x f) s =
      .next (t.setLocal x.unit a (leBytes n (s.gReg x f.b.toNat).toNat))) ∧
    (s.runs x 0x22 f → f.im 29 2 = 0 → fits 32 → exec (.ldt x f good) s =
      .next (t.setT x f.d.toNat (BitVec.ofNat 256 (leNat (s.localBytes x.unit a 32))))) ∧
    (s.runs x 0x23 f → f.im 29 2 = 0 → fits 32 → exec (.stt x f) s =
      .next (t.setLocal x.unit a (leBytes 32 (s.tReg x f.b.toNat).toNat))) ∧
    (s.runs x 0x24 f → f.im 29 2 = 3 → fits 8 → exec (.aadd x f good) s =
      .next ((t.setLocal x.unit a (leBytes 8 (old + s.gReg x f.b.toNat).toNat)).setG x f.d.toNat old)) ∧
    (s.runs x 0x25 f → f.im 29 2 = 3 → fits 8 → exec (.acas x f good) s =
      .next ((if old = s.gReg x f.d.toNat then t.setLocal x.unit a (leBytes 8 (s.gReg x f.b.toNat).toNat) else t).setG x
        f.d.toNat old))

/-- Class 0x2 by tensor address (SPACE 1), from a background context with a partition, in an aligned tensor space that is not
reserved: a read whose homes answer gives their bytes, a store lands at its homes, and an access whose home is missing or in
transit waits at its word (R63, R66, R85, R243). -/
def Claims.TensorLocalAccess : Prop :=
  ∀ (x : LCtx) (f : LFields) (good : Bool) (s : State) (p : Nat),
    let a := s.localAddr x f
    let n := 2 ^ f.im 29 2
    let t := s.proceed x
    let fits (k : Nat) : Prop := f.im 31 2 = 1 ∧ a % k = 0 ∧ x.background = true ∧ s.ctxPart x = some p ∧ taSpace a < 6
    let read (k : Nat) : TRead := t.readTensor p a k good
    let answers (k : Nat) : Prop := (s.readTensor p a k good).held = false ∧ (read k).status = .ok
    let old : Word := BitVec.ofNat 64 (leNat (read 8).data)
    let store (u : State) (bs : Bytes) : State := (u.landWrite p a bs).clearTensorTags p a bs.length
    (s.runs x 0x20 f → fits n → answers n → exec (.ld x f good) s =
      .next (t.setG x f.d.toNat (BitVec.ofNat 64 (leNat (read n).data)))) ∧
    (s.runs x 0x20 f → fits n → (s.readTensor p a n good).held = true → exec (.ld x f good) s =
      .next (s.stallAt (s.advance x) x)) ∧
    (s.runs x 0x21 f → fits n → s.writeWaits p a n = false → exec (.st x f) s =
      .next (store t (leBytes n (s.gReg x f.b.toNat).toNat))) ∧
    (s.runs x 0x21 f → fits n → s.writeWaits p a n = true → exec (.st x f) s =
      .next (s.stallAt ((s.advance x).startDemand p a n) x)) ∧
    (s.runs x 0x22 f → f.im 29 2 = 0 → fits 32 → answers 32 → exec (.ldt x f good) s =
      .next (t.setT x f.d.toNat (BitVec.ofNat 256 (leNat (read 32).data)))) ∧
    (s.runs x 0x23 f → f.im 29 2 = 0 → fits 32 → s.writeWaits p a 32 = false → exec (.stt x f) s =
      .next (store t (leBytes 32 (s.tReg x f.b.toNat).toNat))) ∧
    (s.runs x 0x24 f → f.im 29 2 = 3 → fits 8 → answers 8 → s.writeWaits p a 8 = false → exec (.aadd x f good) s =
      .next ((store t (leBytes 8 (old + s.gReg x f.b.toNat).toNat)).setG x f.d.toNat old)) ∧
    (s.runs x 0x25 f → f.im 29 2 = 3 → fits 8 → answers 8 → s.writeWaits p a 8 = false → exec (.acas x f good) s =
      .next ((if old = s.gReg x f.d.toNat then store t (leBytes 8 (s.gReg x f.b.toNat).toNat) else t).setG x f.d.toNat old))

/-- Configuration: a class 0x2 access with SPACE 2, CFGW and CFGR reach the registers as the unit's own accesses, and CMT makes a
commit request to a READY instance that the unit may reach; outside the limits of R82 a commit and a write have no effect but
the count in the target block's PREFIX_REFUSED, and a read gives 0 (R66, R81, R82). -/
def Claims.ConfigurationAccess : Prop :=
  ∀ (x : LCtx) (f : LFields) (good : Bool) (s : State),
    let a := s.localAddr x f
    let fits : Prop := f.im 31 2 = 2 ∧ f.im 29 2 = 3 ∧ a % 8 = 0 ∧ a < 0x4000000
    let off := (s.gReg x f.a.toNat).toNat
    (s.runs x 0x20 f → fits → exec (.ld x f good) s =
      .next (((s.proceed x).unitRead x a).2.setG x f.d.toNat ((s.proceed x).unitRead x a).1)) ∧
    (s.runs x 0x21 f → fits → exec (.st x f) s = .next ((s.proceed x).hostWrite x.agent a false (s.gReg x f.b.toNat))) ∧
    (s.runs x 0xA1 f → exec (.cfgw x f) s = .next ((s.advance x).hostWrite x.agent off false (s.gReg x f.b.toNat))) ∧
    (s.runs x 0xA2 f → exec (.cfgr x f) s =
      .next (((s.advance x).unitRead x off).2.setG x f.d.toNat ((s.advance x).unitRead x off).1)) ∧
    (∀ r, accAt off = some r → withinLimits x.agent r.hit = false → s.runs x 0xA2 f →
      exec (.cfgr x f) s = .next ((s.advance x).setG x f.d.toNat 0)) ∧
    (∀ b i, cmtTarget f = some (b, i) → s.runs x 0xA0 f → unitReaches x b i = true → s.ready b i = true →
      exec (.cmt x f) s = .next ((s.advance x).wr (PREFIX_STATUS.SHADOW_PENDING (blockBase b i)) 1)) ∧
    (∀ b i, cmtTarget f = some (b, i) → s.runs x 0xA0 f → unitReaches x b i = false →
      exec (.cmt x f) s = .next ((s.advance x).countRefused b i)) ∧
    (∀ op a', s.issues x 0xA0 f → op = f.im 0 5 → 0x10 < op → a' = encodeWord 0xA0 f →
      exec (.cmt x f) s = .next (s.instrFault x a' .badLength))

/-- Takes and counter moves: TAKEK and TAKEC try once, RDK and RDC read, SETK and SETC load (R70, R71, Table 3-10). -/
def Claims.CounterResults : Prop :=
  ∀ (x : LCtx) (f : LFields) (s : State),
    let u := x.unit
    let n := f.im 0 16
    let pres := f.im 16 3
    let k := (s.kReg u f.d.toNat).toNat
    let c := (s.cReg u f.d.toNat).toNat
    (s.runs x 0x42 f → n ≤ k → ∃ t, exec (.takek x f) s = .next t ∧ (t.kReg u f.d.toNat).toNat = k - n ∧
      (pres ≠ 0 → t.pReg x pres = true) ∧ t.pc x = (s.pc x + 1) % 65536 ∧ t.regs = s.regs ∧ t.mem = s.mem ∧
      ∀ v m, m < 16 → (v ≠ u ∨ m ≠ f.d.toNat) → t.kReg v m = s.kReg v m) ∧
    (s.runs x 0x42 f → k < n → exec (.takek x f) s = .next ((s.advance x).setP x pres false)) ∧
    (s.runs x 0x43 f → n ≤ c → exec (.takec x f) s =
      .next (((s.advance x).setC u f.d.toNat (BitVec.ofNat 32 (c - n))).setP x pres true)) ∧
    (s.runs x 0x43 f → c < n → exec (.takec x f) s = .next ((s.advance x).setP x pres false)) ∧
    (s.runs x 0x46 f → exec (.rdk x f) s = .next ((s.advance x).setG x f.d.toNat ((s.kReg u f.a.toNat).setWidth 64))) ∧
    (s.runs x 0x47 f → exec (.rdc x f) s = .next ((s.advance x).setG x f.d.toNat ((s.cReg u f.a.toNat).setWidth 64))) ∧
    (s.runs x 0x48 f → exec (.setk x f) s = .next ((s.advance x).setK u f.d.toNat ((s.gReg x f.a.toNat).setWidth 32))) ∧
    (s.runs x 0x49 f → exec (.setc x f) s = .next ((s.advance x).setC u f.d.toNat ((s.gReg x f.a.toNat).setWidth 32)))

/-- WAITK and WAITC: with enough in the counter the take succeeds at once; with LIMIT 0 it fails at once; otherwise the context
waits, until a take succeeds or LIMIT has passed (R70). -/
def Claims.CounterWaits : Prop :=
  ∀ (x : LCtx) (f : LFields) (s : State),
    let u := x.unit
    let d := f.d.toNat
    let n := f.im 0 12
    let pres := f.im 28 3
    (s.runs x 0x44 f → n ≤ (s.kReg u d).toNat → exec (.waitk x f) s = .next ((s.advance x).tryTake x false d n pres)) ∧
    (s.runs x 0x44 f → (s.kReg u d).toNat < n → f.im 12 16 ≠ 0 → exec (.waitk x f) s =
      .next ((s.advance x).modCtx x (fun c => { c with state := .waiting, wait := .take false d n pres (f.im 12 16) }))) ∧
    (s.runs x 0x44 f → (s.kReg u d).toNat < n → f.im 12 16 = 0 → exec (.waitk x f) s =
      .next (((s.advance x).setP x pres false).traceDev 0x0008 u x.ctx d)) ∧
    (s.runs x 0x45 f → n ≤ (s.cReg u d).toNat → exec (.waitc x f) s = .next ((s.advance x).tryTake x true d n pres)) ∧
    (s.runs x 0x45 f → (s.cReg u d).toNat < n → f.im 12 16 ≠ 0 → exec (.waitc x f) s =
      .next ((s.advance x).modCtx x (fun c => { c with state := .waiting, wait := .take true d n pres (f.im 12 16) }))) ∧
    (∀ credit ctr m q l, (s.ctx x).wait = .take credit ctr m q l → m ≤ s.counter credit u ctr →
      exec (.waitTakeSuccess x) s =
        .next ((s.tryTake x credit ctr m q).modCtx x (fun c => { c with state := .running, wait := .none }))) ∧
    (∀ credit ctr m q l, (s.ctx x).wait = .take credit ctr m q l → s.counter credit u ctr < m →
      exec (.waitLimitExpired x) s =
        .next (((s.setP x q false).modCtx x (fun c => { c with state := .running, wait := .none })).traceDev 0x0008 u x.ctx
          ctr))

/-- GIVE and RETC: a count of 0 gives nothing; a give to a unit in service is on its way with its count; one to a unit out of
service is discarded with a fault record that names the target, and the context goes on (R27, R69, R72). -/
def Claims.GivesIssued : Prop :=
  ∀ (x : LCtx) (f : LFields) (s : State),
    let u := f.im 17 8
    let n := if f.im 16 1 = 1 then (s.gReg x f.b.toNat).toNat % 2 ^ 32 else f.im 0 16
    let legal : Prop := unitKind u ≠ none ∧ (f.im 16 1 = 1 → f.im 0 16 = 0) ∧ (f.im 16 1 = 0 → f.b = 0)
    let g (credit : Bool) : Give := { unit := u, credit := credit, ctr := f.im 25 4, count := n, giver := x.unit }
    let lost (op : BitVec 8) : Report := { cls := 0x01, status := 0x31, sev := 3, blk := x.block.1, inst := x.block.2, unit := u,
                                           d0 := (s.advance x).pc x - 1, d1 := (encodeWord op f).toNat }
    let put (e : Give) : State :=
      { s.advance x with larty := { (s.advance x).larty with gives := s.larty.gives ++ [e] } }
    (s.runs x 0x40 f → legal → n = 0 → exec (.give x f) s = .next (s.advance x)) ∧
    (s.runs x 0x40 f → legal → 0 < n → s.unitInService u = true → exec (.give x f) s = .next (put (g false))) ∧
    (s.runs x 0x40 f → legal → 0 < n → s.unitInService u = false → exec (.give x f) s = .next ((s.advance x).report (lost 0x40))) ∧
    (s.runs x 0x41 f → legal → n = 0 → exec (.retc x f) s = .next (s.advance x)) ∧
    (s.runs x 0x41 f → legal → 0 < n → s.unitInService u = true → exec (.retc x f) s = .next (put (g true))) ∧
    (s.runs x 0x41 f → legal → 0 < n → s.unitInService u = false → exec (.retc x f) s = .next ((s.advance x).report (lost 0x41))) ∧
    (s.issues x 0x40 f → unitKind u = none →
      exec (.give x f) s = .next (s.instrFault x (encodeWord 0x40 f) .badLength))

/-- A give that arrives adds its count to its counter; one that would carry the counter past 0xFFFF_FFFF leaves it there with a
fault record (R12, R13). -/
def Claims.GiveArrives : Prop :=
  ∀ (s : State) (i : Nat) (g : Give), s.larty.gives[i]? = some g →
    let t : State := { s with larty := { s.larty with gives := s.larty.gives.eraseIdx i } }
    let v := s.counter g.credit g.unit g.ctr + g.count
    (v < 2 ^ 32 → exec (.tokenGiveArrive i) s = .next (t.setCounter g.credit g.unit g.ctr v)) ∧
    (v < 2 ^ 32 → ∀ t', exec (.tokenGiveArrive i) s = .next t' → t'.counter g.credit g.unit g.ctr = v) ∧
    (2 ^ 32 ≤ v → exec (.tokenGiveArrive i) s = .next ((t.setCounter g.credit g.unit g.ctr (2 ^ 32 - 1)).report
      { cls := 0x0E, status := 0x22, sev := 3, blk := (unitBlk g.unit).1.code, inst := (unitBlk g.unit).2, unit := g.unit,
        d0 := g.ctr + (if g.credit then 256 else 0), d1 := g.giver }))

/-- The six tile instructions: one whose operands keep the rules of their class enters the queue of its bay, in order; it waits
unissued while that queue holds 16 entries; an empty operand does nothing; a bay that no partition owns, or that is lost,
takes nothing and is counted (R58, R73, R128). A breach of the operand rules is an instruction fault. -/
def Claims.TileInstructionsQueue : Prop :=
  ∀ (g : Fin 16) (f : LFields) (s : State),
    let x : LCtx := .gal g
    let bay := f.im 0 4
    let d := s.tileOf x f.d
    let a := s.tileOf x f.a
    let b := s.tileOf x f.b
    let enters (op : BitVec 8) (c : Instr) (ok : Bool) (empty : Bool) : Prop :=
      (s.runs x op f → ok = true → empty = false → (s.bayQueue g bay).length < 16 → s.bayRefused g bay = false →
        exec c s = .next ((s.advance x).setBayQueue g bay (s.bayQueue g bay ++ [s.tileOp x op.toNat f]))) ∧
      (s.runs x op f → ok = true → empty = false → 16 ≤ (s.bayQueue g bay).length → exec c s = .next s) ∧
      (s.runs x op f → ok = true → empty = true → exec c s = .next (s.advance x)) ∧
      (s.runs x op f → ok = true → empty = false → (s.bayQueue g bay).length < 16 → s.bayRefused g bay = true →
        exec c s = .next ((s.advance x).inc (GAL_TILE_REFUSED.COUNT g))) ∧
      (s.issues x op f → ok = false → exec c s = .next (s.instrFault x (encodeWord op f) .badLength))
    enters 0x50 (.tmma x f) (s.tmmaOk g bay d a b) (d.isEmpty || a.isEmpty || b.isEmpty) ∧
    enters 0x51 (.tload x f) (s.tloadOk g bay d a) (d.isEmpty || a.isEmpty) ∧
    enters 0x52 (.tstore x f) (s.tstoreOk g bay d a (f.im 4 3) (f.im 7 1 == 1)) (d.isEmpty || a.isEmpty) ∧
    enters 0x53 (.tew x f) (s.tewOk g bay d a b (f.im 4 4)) (d.isEmpty || a.isEmpty || b.isEmpty) ∧
    enters 0x54 (.tfn x f) (s.tfnOk g bay d a (f.im 4 4)) (d.isEmpty || a.isEmpty) ∧
    enters 0x55 (.tred x f) (s.tredOk g bay d a (f.im 4 4)) (d.isEmpty || a.isEmpty) ∧
    (s.runs x 0x56 f → s.baysDone g (f.im 0 16) = true → exec (.tsync x f) s = .next (s.advance x)) ∧
    (s.runs x 0x56 f → s.baysDone g (f.im 0 16) = false → exec (.tsync x f) s =
      .next ((s.advance x).modCtx x (fun c => { c with state := .waiting, wait := .tsync (f.im 0 16) })))

/-- A bay completes the oldest instruction of its queue, unless the bay is stopped or a TLOAD's source waits for its home: the
instruction leaves the queue and has its effect, the busy cycles and the operand bubbles are counted, and a TSYNC whose bays
have finished ends (R73, R90, R138, R248). -/
def Claims.BayCompletes : Prop :=
  ∀ (g bay : Fin 16) (good : Bool) (bubbles busy : Nat) (s : State) (o : TileOp) (q : List TileOp) (p : Nat),
    s.bayQueue g bay = o :: q → s.bayOwner (16 * g.val + bay.val) = some p → s.bayStopped g bay = false →
    (o.op = 0x51 → s.tileHeld p (descTile o.a) = false) →
    exec (.bayInstructionComplete g bay good bubbles busy) s =
      .next (((((((s.noteHomes p g (descTile o.a)).noteHomes p g (descTile o.d)).setBayQueue g bay q).runTileOp p g bay o
        good).countPart p 4 busy).noteBubbles g bay bubbles).releaseTsync g)

/-- Class 0x6 of a near-bank sequencer: ATTN issues one segment on an idle pseudo-channel in compute mode, and waits unissued
while one runs there or while the stack is in CRITICAL; AMODE sets the compute-mode set within the quota and outside
the lost channels; ASYNC waits until the named pseudo-channels have completed (R76, R77, R92, R215, R216). -/
def Claims.AttentionIssue : Prop :=
  ∀ (h : Fin 8) (f : LFields) (s : State),
    let x : LCtx := .nb h
    let pc := f.im 0 5
    let item := (s.gReg x f.b.toNat).toNat
    let itemOk : Prop := rangeHbm item 64 = true ∧ item % 8 = 0
    let seg : Seg := { phase := .issued, item := item, ta := s.tReg x f.a.toNat, td := s.tReg x f.d.toNat }
    let m := getBits (s.gReg x f.a.toNat) 0 31
    let fits : Prop := popCount 31 m ≤ s.rd (NBU_QUOTA.QUOTA h) ∧ m &&& s.rd (NBU_PCMAP.LOST_MASK h) = 0
    (s.runs x 0x60 f → pc ≤ 30 → s.inCm h pc = true → itemOk → s.nbBusy h pc = false → s.pwrState h = 0 →
      exec (.attn x f) s = .next ((s.advance x).setSeg h pc seg)) ∧
    (s.runs x 0x60 f → pc ≤ 30 → s.inCm h pc = true → itemOk → (s.nbBusy h pc = true ∨ s.pwrState h = 2) →
      exec (.attn x f) s = .next s) ∧
    (s.issues x 0x60 f → (30 < pc ∨ s.inCm h pc = false) →
      exec (.attn x f) s = .next (s.instrFault x (encodeWord 0x60 f) .badLength)) ∧
    (s.runs x 0x62 f → fits → exec (.amode x f) s =
      .next (((List.range 16).foldl State.rateFalls
        (((s.advance x).wr (NBU_CM.SET h) m).wr (NBU_STATE.CM_COUNT h) (popCount 31 m))).setP x (f.im 0 3) true)) ∧
    (s.runs x 0x62 f → ¬ fits → exec (.amode x f) s = .next ((s.advance x).setP x (f.im 0 3) false)) ∧
    (s.runs x 0x63 f → s.asyncDone h (f.im 0 31) = true → exec (.async x f) s = .next (s.advance x)) ∧
    (s.runs x 0x63 f → s.asyncDone h (f.im 0 31) = false → exec (.async x f) s =
      .next ((s.advance x).modCtx x (fun c => { c with state := .waiting, wait := .async (f.im 0 31) })))

/-- AMRG merges the rows of two partial results of the stack's merge store into a third; three partials of different shapes, or
outside the merge store, fault (R207). -/
def Claims.PartialMerge : Prop :=
  ∀ (h : Fin 8) (f : LFields) (s : State),
    let x : LCtx := .nb h
    let d := s.tileOf x f.d
    let a := s.tileOf x f.a
    let b := s.tileOf x f.b
    let ok : Prop := d.mergeOk = true ∧ a.mergeOk = true ∧ b.mergeOk = true ∧ d.rows = a.rows ∧ a.rows = b.rows ∧
      d.cols = a.cols ∧ a.cols = b.cols
    let row (r : Nat) : List Nat := mergeRows (s.mergeTileRow h a r) (s.mergeTileRow h b r)
    (s.runs x 0x61 f → ok → exec (.amrg x f) s =
      .next ((List.range d.rows).foldl (fun u r => u.mergeWrite h (d.base + r * d.stride) (packBytes 32 (row r)))
        (s.advance x))) ∧
    (s.issues x 0x61 f → ¬ ok → exec (.amrg x f) s = .next (s.instrFault x (encodeWord 0x61 f) .badLength))

/-- Class 0x7: a MOVE of length 0 gives its token at once; a MOVE enters the unit's move queue with the addresses and the
partition as they stand, or finds it full; MIGR and PARK ask the stairwell where the queue has room. Without a partition a
MOVE by tensor address, MIGR and PARK fault (R27, R78, R79, R85). -/
def Claims.MoveIssue : Prop :=
  ∀ (x : LCtx) (f : LFields) (s : State),
    let u := x.unit
    let t := s.advance x
    let n := if f.im 28 1 = 1 then (s.gReg x (f.b.toNat + 1)).toNat else f.im 0 28
    let legal : Prop := (f.im 28 1 = 1 → f.b.toNat ≤ 30) ∧ (f.im 29 1 = 0 → s.ctxPart x ≠ none)
    let m : MoveOp := { unit := u, ctx := x.ctx, part := (s.ctxPart x).getD 0, ctr := f.d.toNat, src := s.gReg x f.a.toNat,
                        dst := s.gReg x f.b.toNat, len := n, phys := f.im 29 1 == 1 }
    let token : Give := { unit := u, credit := false, ctr := f.d.toNat, count := 1, giver := 0xFF }
    let queued : State := { t with larty := { t.larty with moveQueue := s.larty.moveQueue ++ [m] } }
    (s.runs x 0x70 f → legal → n = 0 → exec (.move x f) s =
      .next (State.setP { t with larty := { t.larty with gives := s.larty.gives ++ [token] } } x (f.im 30 3) true)) ∧
    (s.runs x 0x70 f → legal → 0 < n → s.moveCount u < 32 → exec (.move x f) s = .next (queued.setP x (f.im 30 3) true)) ∧
    (s.runs x 0x70 f → legal → 0 < n → 32 ≤ s.moveCount u → exec (.move x f) s = .next (t.setP x (f.im 30 3) false)) ∧
    (∀ p, s.ctxPart x = some p → s.runs x 0x71 f → s.moveCount u < 32 → exec (.migr x f) s =
      .next ((t.setP x (f.im 2 3) true).decideMove { part := p, base := (s.gReg x f.a.toNat).toNat, tier := f.im 0 2,
                                                     kind := .migr u f.d.toNat })) ∧
    (∀ p, s.ctxPart x = some p → s.runs x 0x72 f → s.moveCount u < 32 → exec (.park x f) s =
      .next ((t.setP x (f.im 0 3) true).decideMove
        { part := p, base := (s.gReg x f.a.toNat).toNat, tier := s.rd (STW_P_POLICY.PARK_TIER p),
          kind := .park u f.d.toNat (getBits (s.gReg x f.b.toNat) 0 16) })) ∧
    (s.ctxPart x ≠ none → s.runs x 0x71 f → 32 ≤ s.moveCount u → exec (.migr x f) s = .next (t.setP x (f.im 2 3) false)) ∧
    (s.ctxPart x ≠ none → s.runs x 0x72 f → 32 ≤ s.moveCount u → exec (.park x f) s = .next (t.setP x (f.im 0 3) false)) ∧
    (s.ctxPart x = none → s.issues x 0x71 f → exec (.migr x f) s = .next (s.instrFault x (encodeWord 0x71 f) .badLength)) ∧
    (s.ctxPart x = none → s.issues x 0x72 f → exec (.park x f) s = .next (s.instrFault x (encodeWord 0x72 f) .badLength))

/-- The oldest MOVE of its unit by DPA copies its bytes and gives its token, its queue entry gone; one that touches a reserved
DPA, or meets an uncorrectable read, writes nothing and gives no token (R26, R78). -/
def Claims.MoveCompletes : Prop :=
  ∀ (s : State) (i : Nat) (m : MoveOp) (good : Bool),
    oldestMove s.larty.moveQueue i = some m → m.phys = true →
    let out : State := { s with larty := { s.larty with moveQueue := s.larty.moveQueue.eraseIdx i } }
    (s.accessStatus m.src.toNat m.len = .ok → s.storeStatus m.dst.toNat m.len = .ok →
      exec (.moveComplete i false good) s =
        .next ((out.setBytes m.dst.toNat (s.bytes m.src.toNat m.len)).issueGive
          { unit := m.unit, credit := false, ctr := m.ctr, count := 1, giver := 0xFF })) ∧
    (s.accessStatus m.src.toNat m.len ≠ .ok → ∃ t, exec (.moveComplete i false good) s = .next t ∧
      t.larty.moveQueue = s.larty.moveQueue.eraseIdx i) ∧
    (∃ t, exec (.moveComplete i true good) s = .next t ∧ t.larty.moveQueue = s.larty.moveQueue.eraseIdx i)

/-- Posted class 0x3 instructions: with 64 entries in the unit's remote issue queue PRES becomes 0 and nothing else happens;
RPOST enters the 64 bytes at a local address, and faults outside the local store (R67, R68, R268). -/
def Claims.RemotePosts : Prop :=
  ∀ (x : LCtx) (f : LFields) (s : State),
    let t := s.advance x
    let a := (s.gReg x f.a.toNat).toNat
    let e : Posted := { unit := x.unit, ctx := x.ctx, part := s.ctxPart x, words := s.localWords x.unit a 8 }
    let refused : Host.Outcome State Fault Refusal := .next (t.setP x (f.im 0 3) false)
    let full : Prop := 64 ≤ s.remoteCount x.unit
    (s.runs x 0x34 f → a + 64 ≤ x.kind.localBytes → ¬ full → exec (.rpost x f) s =
      .next (State.setP { t with hel := { t.hel with posted := s.hel.posted ++ [e] } } x (f.im 0 3) true)) ∧
    (s.issues x 0x34 f → x.kind.localBytes < a + 64 →
      exec (.rpost x f) s = .next (s.instrFault x (encodeWord 0x34 f) .badLength)) ∧
    (s.runs x 0x34 f → a + 64 ≤ x.kind.localBytes → full → exec (.rpost x f) s = refused) ∧
    (s.runs x 0x31 f → full → exec (.rst x f) s = refused) ∧
    (s.runs x 0x35 f → full → exec (.rfl x f) s = refused) ∧
    (s.runs x 0x36 f → full → exec (.rinv x f) s = refused) ∧
    (s.runs x 0x37 f → full → exec (.mbox x f) s = refused)

/-- Class 0x3 over an open connection: RST and MBOX send their write as one message of the unit, RFL issues a flush whose token
goes to kd, RINV sends an INVAL of the line, each with PRES 1 (R67, R335, R338, R339). -/
def Claims.RemotePostsSent : Prop :=
  ∀ (x : LCtx) (f : LFields) (s : State) (n : Nat),
    let t := (s.advance x).setP x (f.im 0 3) true
    let gfa := (s.gReg x f.a.toNat).toNat
    let key := getBits (s.gReg x f.b.toNat) 0 32
    let v := (s.gReg x f.d.toNat).toNat
    let room : Prop := s.remoteCount x.unit < 64
    let path : Prop := (s.advance x).remoteCtx x (gfaNode gfa) (some (gfaPart gfa)) = some n
    let line := gfa / 64 * 64
    let node := getBits (s.gReg x f.b.toNat) 0 14
    (s.runs x 0x31 f → room → s.nodeNear (gfaNode gfa) = true → path → exec (.rst x f) s =
      .next (t.postWrite x n gfa (2 ^ f.im 3 2) 0x11 [gfaOff gfa, key, f.im 3 2, v])) ∧
    (s.runs x 0x37 f → room → path → exec (.mbox x f) s =
      .next (t.postWrite x n gfa 8 0x14 [gfaOff gfa, key, f.im 3 12, v])) ∧
    (s.runs x 0x35 f → room → path → exec (.rfl x f) s =
      .next (t.issueFlush n (.flush x.unit f.d.toNat) 3 x.unit none (gfaNode gfa) (gfaPart gfa) (some x.unit))) ∧
    (s.runs x 0x36 f → room → s.nodeNear node = true → (s.advance x).remoteCtx x node none = some n →
      ∃ u, exec (.rinv x f) s = .next u ∧ ∃ m, u.tp.express = s.tp.express ++
        [{ ctx := n, kind := 0x0D, unit := some x.unit, msg := m, flds := [line] }])

/-- RLD, RADD and RCAS of a background context: a target beyond one stage, or without a connection, is refused at issue with its
status in gd and PRES 0; RLD is served by a cached line that its partition holds under its key; otherwise the request is sent
and the context waits for its answer. In a critical context they fault (R63, R67, R68, R316, R337). -/
def Claims.RemoteReads : Prop :=
  ∀ (x : LCtx) (f : LFields) (s : State) (n : Nat),
    let t := s.advance x
    let gfa := (s.gReg x f.a.toNat).toNat
    let key := getBits (s.gReg x f.b.toNat) 0 32
    let d := f.d.toNat
    let pres := f.im 0 3
    let near : Prop := s.nodeNear (gfaNode gfa) = true
    let path : Prop := t.remoteCtx x (gfaNode gfa) (some (gfaPart gfa)) = some n
    let size := 2 ^ f.im 3 2
    let whole : Prop := gfa % 64 + size ≤ 64
    (s.runs x 0x30 f → x.background = true → ¬ near → exec (.rld x f) s =
      .next (t.remoteRefused x d pres .badLength gfa 0x10)) ∧
    (s.runs x 0x30 f → x.background = true → near → t.remoteOpen x (gfaNode gfa) (some (gfaPart gfa)) = none →
      exec (.rld x f) s = .next (t.remoteRefused x d pres .linkFailed gfa 0x10)) ∧
    (∀ l, s.runs x 0x30 f → x.background = true → near → path → t.rlcServes x gfa size key = some l →
      exec (.rld x f) s = .next ((((t.useLine l).inc (FAB_RLC_HIT.COUNT 0)).setG x d
        (BitVec.ofNat 64 (leNat ((l.data.drop (gfa % 64)).take size)))).setP x pres true)) ∧
    (s.runs x 0x30 f → x.background = true → near → path → whole → t.rlcServes x gfa size key = none → exec (.rld x f) s =
      .next (t.waitRemote x n 0x30 0x10 gfa d pres (f.im 3 2) (some (gfa / 64 * 64, key, (s.ctxPart x).getD 0))
        (fun r => [gfaOff gfa, key, f.im 3 2, 1, r]))) ∧
    (s.runs x 0x32 f → x.background = true → near → path → exec (.radd x f) s =
      .next ((t.dropLines gfa 8).waitRemote x n 0x32 0x12 gfa d pres 3 none
        (fun r => [gfaOff gfa, key, r, (s.gReg x d).toNat]))) ∧
    (s.runs x 0x33 f → x.background = true → d % 2 = 0 → d ≤ 30 → near → path → exec (.rcas x f) s =
      .next ((t.dropLines gfa 8).waitRemote x n 0x33 0x13 gfa d pres 3 none
        (fun r => [gfaOff gfa, key, r, (s.gReg x d).toNat, (s.gReg x (d + 1)).toNat]))) ∧
    (s.issues x 0x30 f → x.background = false → exec (.rld x f) s = .next (s.instrFault x (encodeWord 0x30 f) .badLength)) ∧
    (s.issues x 0x32 f → x.background = false → exec (.radd x f) s = .next (s.instrFault x (encodeWord 0x32 f) .badLength)) ∧
    (s.issues x 0x33 f → x.background = false → exec (.rcas x f) s = .next (s.instrFault x (encodeWord 0x33 f) .badLength))

/-- Class 0x8 on a record index below 16,384: CRD reads a word, CWR writes a program-writable one, CSTATE makes one transition of
Table 8-5 from the state named, CCOMMIT moves tentative tokens to committed, CTRIM drops them and frees their pages, CPROG
writes the progress word; what is refused leaves the record as it was with PRES 0. A larger index faults (R80, R165, R166,
R169, Table 3-15). -/
def Claims.CatalogueInstructionsAll : Prop :=
  ∀ (x : LCtx) (f : LFields) (s : State),
    let t := s.advance x
    let i := (s.gReg x f.a.toNat).toNat
    let v := s.gReg x f.b.toNat
    let n := v.toNat
    let refused (c : Instr) (pres : Nat) : Prop := exec c s = .next (t.setP x pres false)
    (s.runs x 0x80 f → i < 16384 → exec (.crd x f) s = .next (t.setG x f.d.toNat (s.recWord i (f.im 0 4)))) ∧
    (s.runs x 0x81 f → i < 16384 → s.cwrLegal i (f.im 0 4) v = true →
      exec (.cwr x f) s = .next ((t.cwrWrite i (f.im 0 4) v).setP x (f.im 4 3) true)) ∧
    (s.runs x 0x81 f → i < 16384 → s.cwrLegal i (f.im 0 4) v = false → refused (.cwr x f) (f.im 4 3)) ∧
    (s.runs x 0x82 f → i < 16384 → s.recState i = f.im 0 4 → cstateAllowed (f.im 0 4) (f.im 4 4) = true →
      (f.im 4 4 = 0 → s.recF i Rec.IN_BATCH = 0) →
      exec (.cstate x f) s = .next ((t.cstate i (f.im 4 4)).setP x (f.im 8 3) true)) ∧
    (s.runs x 0x82 f → i < 16384 → (s.recState i ≠ f.im 0 4 ∨ cstateAllowed (f.im 0 4) (f.im 4 4) = false) →
      refused (.cstate x f) (f.im 8 3)) ∧
    (s.runs x 0x84 f → i < 16384 → n = 0 → s.recOpen i = true → s.recF i Rec.COMMITTED ≤ s.recF i Rec.MAX_LEN →
      exec (.ccommit x f) s = .next (t.setP x (f.im 0 3) true)) ∧
    (s.runs x 0x84 f → i < 16384 → 0 < n → s.recOpen i = true → n ≤ s.recF i Rec.TENTATIVE →
      s.recF i Rec.COMMITTED + n ≤ s.recF i Rec.MAX_LEN →
      exec (.ccommit x f) s = .next (((((t.setRec i Rec.COMMITTED (s.recF i Rec.COMMITTED + n)).setRec i Rec.TENTATIVE
        (s.recF i Rec.TENTATIVE - n)).setRec i Rec.P_TOKENS (s.recF i Rec.COMMITTED + n)).countPart (s.recF i Rec.PART) 0
        n).setP x (f.im 0 3) true)) ∧
    (s.runs x 0x84 f → i < 16384 → s.recF i Rec.TENTATIVE < n → refused (.ccommit x f) (f.im 0 3)) ∧
    (s.runs x 0x85 f → i < 16384 → s.recOpen i = false → refused (.ctrim x f) (f.im 0 3)) ∧
    (s.runs x 0x85 f → i < 16384 → s.recOpen i = true → exec (.ctrim x f) s =
      .next (((((((t.trimEntries i ((s.recF i Rec.COMMITTED + 15) / 16) (s.recF i Rec.PL_LEN)).countPart (s.recF i Rec.PART) 1
        (s.recF i Rec.TENTATIVE)).countPart (s.recF i Rec.PART) 2 1).setRec i Rec.TENTATIVE 0).setRec i Rec.PL_LEN
        ((s.recF i Rec.COMMITTED + 15) / 16))).setP x (f.im 0 3) true)) ∧
    (s.runs x 0x86 f → i < 16384 → exec (.cprog x f) s = .next (t.setRecWord i 10 v)) ∧
    (s.issues x 0x80 f → 16384 ≤ i → exec (.crd x f) s = .next (s.instrFault x (encodeWord 0x80 f) .badLength))

/-- CADMIT runs the admission of the request at a local address for its context's partition: gd takes the record, the status, the
reason and the retry meridian, and PRES is 1 only on OK (R85, R174). -/
def Claims.AdmissionByProgram : Prop :=
  ∀ (x : LCtx) (f : LFields) (s : State) (p : Nat), s.ctxPart x = some p →
    let a := (s.gReg x f.a.toNat).toNat
    (s.runs x 0x83 f → a + 64 ≤ x.kind.localBytes →
      ∃ t, exec (.cadmit x f) s = .next t ∧
        let r := ((s.advance x).admitWords p 3 0 (s.localWords x.unit a 8))
        ∃ w : Word, t = (r.1.setG x f.d.toNat w).setP x (f.im 0 3) (r.2.status == .ok) ∧
          getBits w 16 8 = r.2.status.code ∧
          (r.2.status = .ok → getBits w 0 14 = r.2.record % 16384) ∧ (r.2.status ≠ .ok → getBits w 0 14 = 0)) ∧
    (s.issues x 0x83 f → x.kind.localBytes < a + 64 →
      exec (.cadmit x f) s = .next (s.instrFault x (encodeWord 0x83 f) .badLength))

/-- Class 0x9: BELL rings the doorbell target whose address ga holds, and any other address faults; TMARK adds a trace record of
the program; TADD adds to a program counter, which stops at all-ones (R378, R457, R459, Table 3-16). -/
def Claims.DoorbellAndTelemetry : Prop :=
  ∀ (x : LCtx) (f : LFields) (s : State),
    let t := s.advance x
    let a := s.gReg x f.a.toNat
    let r := PHO_PROG_CTR.COUNT (f.im 0 10)
    (∀ k, doorbellTarget a.toNat = some k → s.runs x 0x90 f → exec (.bell x f) s =
      .next ((t.ring (some k) true (f.im 12 6) (f.im 0 12)).settleReports)) ∧
    (doorbellTarget a.toNat = none → s.issues x 0x90 f →
      exec (.bell x f) s = .next (s.instrFault x (encodeWord 0x90 f) .badLength)) ∧
    (s.runs x 0x91 f → bitOf (s.rd PHO_TRACE_EN.UNITS) x.unit = false → exec (.tmark x f) s = .next t) ∧
    (s.runs x 0x91 f → bitOf (s.rd PHO_TRACE_EN.UNITS) x.unit = true → s.pho.trace.length < 2048 →
      ∃ u e, exec (.tmark x f) s = .next u ∧ u.pho.trace = s.pho.trace ++ [e] ∧ getBits e.1 0 16 = f.im 0 16 ∧
        getBits e.1 16 1 = 0 ∧ getBits e.1 24 8 = x.unit ∧ getBits e.1 32 3 = x.ctx ∧ getBits e.2 16 48 = getBits a 0 48) ∧
    (s.runs x 0x91 f → bitOf (s.rd PHO_TRACE_EN.UNITS) x.unit = true → 2048 ≤ s.pho.trace.length →
      exec (.tmark x f) s = .next (t.inc PHO_TRACE_DROPPED.COUNT)) ∧
    (s.runs x 0x92 f → exec (.tadd x f) s = .next (t.wr r (min (s.rd r + a.toNat) (2 ^ 64 - 1))))

/-- BARF records its context's arrival and does not wait: its lateness is the arithmetic cycles from the due edge, or 0 before
it, and with GATE_EN the input-late part is at most the cycles to the last take on its gate (R65, R401). -/
def Claims.BarrierArrival : Prop :=
  ∀ (x : LCtx) (f : LFields) (s : State), s.runs x 0x08 f →
    let due := getBits (s.gReg x f.a.toNat) 0 32
    let late := s.lateness due
    let input := if f.im 10 1 = 1 then min late (s.takeLateness due x.unit (f.im 6 4)) else 0
    exec (.barf x f) s = .next (((s.advance x).noteLate x.unit late input).barArrive x (encodeWord 0x08 f) (f.im 0 6) due f.d.toNat) ∧
    input ≤ late

/-! ## Register writes -/

/-- A host's register write: one that is not of 8 aligned bytes is discarded and counted, one at a reserved offset is ignored,
one to a block that is not READY or by a function that may not make it is refused and counted, and a permitted write of a
plain register leaves the settable fields that pass their checks, with 1s cleared and counters reset (R6, R7, R28, R361,
R362, R431). -/
def Claims.RegisterWritesPlain : Prop :=
  ∀ (s : State) (x : Port) (off : BitVec 26) (w : Word),
    let a : Agent := .pf x
    let o := off.toNat
    let cmd : Instr := .registerWrite a off false w
    (∀ narrow : Bool, (narrow = true ∨ o % 8 ≠ 0) → exec (.registerWrite a off narrow w) s = .next (s.inc (HIF_NARROW_WR.COUNT x.num))) ∧
    (o % 8 = 0 → accAt o = none → exec cmd s = .next s) ∧
    (∀ r, o % 8 = 0 → accAt o = some r → stepWrite a o w = none →
      let h := r.hit
      (h.row.off ≠ 0xFF8 → s.ready h.blk h.inst = false → exec cmd s = .next (s.countRefused h.blk h.inst)) ∧
      (h.row.off ≠ 0xFF8 → s.ready h.blk h.inst = true → (r.live = true ∨ s.regCommand a h w = none) →
        s.mayWriteReg a h = false → exec cmd s = .next (s.inc (HIF_PART_REFUSED.COUNT x.num))) ∧
      (h.row.off ≠ 0xFF8 → s.ready h.blk h.inst = true → r.live = false → s.regCommand a h w = none →
        s.mayWriteReg a h = true → h.row.off ≠ 0xFE8 → ¬ (0x2000 ≤ h.row.off ∧ h.row.off < 0x4000) →
        perAgent h.blk h.row.off = false → s.refusesField h w = false →
        exec cmd s = .next ((s.setReg r.home (s.mergeWord h (s.reg r.home) w)).afterWrite a h w)))

/-- A write that enters a register word keeps every bit outside the fields it sets, and each settable field that passes its check
takes the written value (R6, R28), for the fields of a row of the register map. -/
def Claims.RegisterWordFields : Prop :=
  ∀ (s : State) (off : Nat) (r : RegAcc) (old w : Word) (f : FieldRow), accAt off = some r → f ∈ r.hit.row.fields →
    (f.settable = true → s.checkOk r.hit w f = true →
      getBits (s.mergeWord r.hit old w) f.lo f.len = getBits w f.lo f.len) ∧
    (f.settable = true → s.checkOk r.hit w f = false →
      getBits (s.mergeWord r.hit old w) f.lo f.len = getBits old f.lo f.len) ∧
    (f.access = .ro ∨ f.access = .wo → getBits (s.mergeWord r.hit old w) f.lo f.len = getBits old f.lo f.len) ∧
    (f.access = .sat → getBits (s.mergeWord r.hit old w) f.lo f.len = 0) ∧
    (f.access = .w1c → getBits (s.mergeWord r.hit old w) f.lo f.len = getBits (old &&& ~~~w) f.lo f.len)

/-- The expert level and commits: a live write is refused unless the page is open, the block idle and no commit pending; one that
passes the block's checks sets both copies of its fields. A commit request of a READY instance sets SHADOW_PENDING, and one to
a block that is not READY is refused (R39, R42, R431). -/
def Claims.ExpertWrites : Prop :=
  ∀ (s : State) (x : Port) (off : BitVec 26) (w : Word),
    let a : Agent := .pf x
    let cmd : Instr := .expertLiveWrite a off w
    (∀ r, accAt off.toNat = some r → off.toNat % 8 = 0 → s.ready r.hit.blk r.hit.inst = true → r.live = true →
      s.mayWriteReg a r.hit = true → r.hit.row.off ≠ 0xFE8 →
      let h := r.hit
      let isOpen : Prop := s.expertOpen h.blk h.inst = true ∧ s.blockIdle h.blk h.inst = true ∧
        s.shadowPending h.blk h.inst = false
      (isOpen → s.liveOk r w = true → exec cmd s = .next ((s.setBoth r w).afterLive s r w)) ∧
      (¬ isOpen → exec cmd s = .next (s.countRefused h.blk h.inst))) ∧
    (∀ (b : Blk) (i : Fin 64), i.val < blockInsts b → s.ready b i = true →
      exec (.commitRequest a b i) s = .next (s.wr (PREFIX_STATUS.SHADOW_PENDING (blockBase b i)) 1)) ∧
    (∀ (b : Blk) (i : Fin 64), i.val < blockInsts b → s.ready b i = false →
      exec (.commitRequest a b i) s = .next (s.countRefused b i))

/-- Ring indexes: an index that moves forward, by no more than the free entries of a ring that software fills or than the TAIL of
one it empties, is written; any other is refused and counted (R187). An index moved so leaves the ring's count within its
size, or no larger than it was. -/
def Claims.RingIndexes : Prop :=
  ∀ (s : State) (x : Port) (r : Ring) (v : BitVec 32),
    let a : Agent := .pf x
    let f := if r.movesTail then r.tail else r.head
    (s.ready r.blk 0 = true → s.mayWriteRing a r = true → s.indexOk r v.toNat = true →
      exec (.ringIndexWrite a r v) s = .next ((s.wr f v.toNat).ringMoved r)) ∧
    (s.ready r.blk 0 = true → s.mayWriteRing a r = true → s.indexOk r v.toNat = false →
      exec (.ringIndexWrite a r v) s = .next (s.countRefused r.blk 0)) ∧
    (s.ready r.blk 0 = true → s.mayWriteRing a r = false →
      exec (.ringIndexWrite a r v) s = .next (s.inc (HIF_PART_REFUSED.COUNT x.num))) ∧
    (s.ready r.blk 0 = false → exec (.ringIndexWrite a r v) s = .next (s.countRefused r.blk 0)) ∧
    (s.indexOk r v.toNat = true →
      if r.movesTail then ringCount v.toNat (s.rd r.head) ≤ s.rd r.size
      else ringCount (s.rd r.tail) v.toNat ≤ ringCount (s.rd r.tail) (s.rd r.head))

/-! ## The meridian timebase -/

/-- The lock states of Table 2-4: a lost Sync leaves LOCKED for HOLDOVER, an acquisition or a holdover that runs out ends in
FREE_RUN with a TIME record, and each change counts once; in any other state a timeout changes nothing (R47). -/
def Claims.LockTimeouts : Prop :=
  ∀ s : State,
    let to_ (n : Nat) : State := s.setLock n
    (s.lock = 2 → exec .syncLossTimeout s = .next (to_ 3)) ∧ (s.lock ≠ 2 → exec .syncLossTimeout s = .next s) ∧
    (s.lock = 1 → exec .acquireTimeout s = .next (to_ 0).timeRecord) ∧ (s.lock ≠ 1 → exec .acquireTimeout s = .next s) ∧
    (s.lock = 3 → exec .holdoverTimeout s = .next (to_ 0).timeRecord) ∧ (s.lock ≠ 3 → exec .holdoverTimeout s = .next s)

/-- PTP (R46): a message at a port that is not enabled has no effect; an Announce gives the port its state; a Follow_Up completes
the Sync of its sequence number; a master sends Sync with its Follow_Up, and Announce; a slave sends Delay_Req under the
end-to-end mechanism, and every enabled port Pdelay_Req under the peer-to-peer one. -/
def Claims.PtpExchange : Prop :=
  ∀ (s : State) (f : Fin 4) (q : BitVec 16) (o p : BitVec 32) (t : BitVec 80) (r : Fin 4) (m : PtpMsg),
    let port := s.ptpPort f
    (s.ptpEnabled f = false → exec (.ptpMessageReceive f m) s = .next s ∧ exec (.ptpDelayReqSend f) s = .next s ∧
      exec (.ptpSyncSend f) s = .next s ∧ exec (.ptpAnnounceSend f) s = .next s) ∧
    (s.ptpEnabled f = true → exec (.ptpMessageReceive f (.announce r)) s = .next (s.setRole f r)) ∧
    (s.ptpEnabled f = true → port.role = 1 → exec (.ptpMessageReceive f (.sync q)) s =
      .next (s.setPtpPort f { port with syncSeq := q.toNat + 1 })) ∧
    (s.ptpEnabled f = true → port.role = 1 → port.syncSeq = q.toNat + 1 →
      exec (.ptpMessageReceive f (.followUp q o p t)) s =
        .next ((s.setPtpPort f { port with syncSeq := 0 }).syncPair f o p t.toNat)) ∧
    (s.ptpEnabled f = true → port.syncSeq ≠ q.toNat + 1 → exec (.ptpMessageReceive f (.followUp q o p t)) s = .next s) ∧
    (s.mayMaster f = true → exec (.ptpSyncSend f) s = .next (((s.setRole f 2).sendPtp f 0).sendPtp f 1)) ∧
    (s.mayMaster f = true → exec (.ptpAnnounceSend f) s = .next ((s.setRole f 2).sendPtp f 4)) ∧
    (s.ptpEnabled f = true → s.on MER_PTP.DELAY_MECH = false → port.role = 1 →
      exec (.ptpDelayReqSend f) s = .next (s.sendPtp f 2)) ∧
    (s.ptpEnabled f = true → s.on MER_PTP.DELAY_MECH = true → exec (.ptpDelayReqSend f) s = .next (s.sendPtp f 3))

/-- A Sync pair writes the offset and the path delay, and moves the lock state by Table 2-4: from FREE_RUN to ACQUIRING; from
LOCKED to HOLDOVER when the offset exceeds 20 ns; from HOLDOVER back to LOCKED when it does not; the sixteenth good pair in
a row locks (R47, R49). -/
def Claims.SyncPairLocks : Prop :=
  ∀ (s : State) (f : Nat) (o p : BitVec 32) (t : Nat),
    let u := (s.wr MER_OFFSET.OFFSET_NS o.toNat).wr MER_OFFSET.PATH_NS p.toNat
    let off := o.toInt.natAbs
    (s.lock = 0 → s.syncPair f o p t = ((u.setGood 0).wr MER_LOCK.PORT f).setLock 1) ∧
    (s.lock = 1 → 20 < off → off ≤ 1000 → s.syncPair f o p t = u.setGood 0) ∧
    (s.lock = 1 → off ≤ 20 → s.merp.goodSyncs + 1 < 16 → s.syncPair f o p t = u.setGood (s.merp.goodSyncs + 1)) ∧
    (s.lock = 1 → off ≤ 20 → s.merp.goodSyncs = 15 → s.mer ≤ (u.nextEdge t).2 →
      s.syncPair f o p t = ((u.setGood 0).loadCount (u.nextEdge t).2).setLock 2) ∧
    (s.lock = 2 → off ≤ 20 → s.syncPair f o p t = u) ∧
    (s.lock = 2 → 20 < off → s.syncPair f o p t = u.setLock 3) ∧
    (s.lock = 3 → off ≤ 20 → s.syncPair f o p t = u.setLock 2) ∧
    (s.lock = 3 → 20 < off → s.syncPair f o p t = (u.setGood 0).setLock 1)

/-- The die-to-die links: a block that arrives whole is delivered, one that fails its check is asked for again, and after the first
sending and 16 re-sends the link fails with a D2D record; a failed link takes nothing (R9, R10). -/
def Claims.DieToDieLinks : Prop :=
  ∀ (s : State) (m : Fin 16),
    let d := s.d2d m
    (d.failed = false → exec (.d2dBlockReceive m true) s =
      .next (s.setD2d m { d with delivered := d.delivered + 1, bad := 0 })) ∧
    (d.failed = false → exec (.d2dBlockReceive m false) s =
      .next (s.setD2d m { d with bad := d.bad + 1, resent := d.resent + 1 })) ∧
    (d.failed = false → 17 ≤ d.bad → exec (.d2dLinkFail m) s =
      .next ((s.setD2d m { d with failed := true }).report { cls := 0x05, sev := 0, blk := Blk.ATR.code, d0 := m, d1 := 5 })) ∧
    (d.failed = false → d.bad < 17 → exec (.d2dLinkFail m) s = .next s) ∧
    (d.failed = true → ∀ good, exec (.d2dBlockReceive m good) s = .next s ∧ exec (.d2dLinkFail m) s = .next s)

/-- The three moments of a meridian, with the count running: at the drain, MER_PHASE shows the budget and LANDING, and every unit
inside its slice slips; at the apply point the landing stands 64 cycles further on and every block with a commit applies it;
the next meridian's start advances the count by 1, or to the value a landing loads, at cycle 0 with LANDING 0. A moment that
is not due changes nothing (R33, R35, R37, R38, R49). -/
def Obligations.MeridianMoments : Prop :=
  ∀ s : State, s.clockRuns = true →
    let b := lenBudget s.merLen
    let d := (s.wr MER_PHASE.CYCLE b).wr MER_PHASE.LANDING 1
    let a := s.wr MER_PHASE.CYCLE (b + 64)
    (s.inLanding = false → exec .drainStart s = .next (criticals.foldl (fun t x => t.slip x) d)) ∧
    (s.inLanding = false → (∀ x ∈ criticals, (s.slice x.unit).isOpen = false) → exec .drainStart s = .next d) ∧
    (s.inLanding = true → exec .drainStart s = .next s) ∧
    (s.inLanding = true → s.cycle < b + 64 → exec .applyPoint s = .next (a.applyBlocks.settleLanding a)) ∧
    (s.inLanding = true → b + 64 ≤ s.cycle → exec .applyPoint s = .next s) ∧
    (s.inLanding = true → s.cycle < b + 64 → exec .meridianStart s = .next s) ∧
    (s.inLanding = true → b + 64 ≤ s.cycle → ∃ t, exec .meridianStart s = .next t ∧ t.cycle = 0 ∧ t.inLanding = false ∧
      t.mer = (match s.merp.countNext with
        | some k => if s.mer < k then k else s.mer + 1
        | none => s.mer + 1) % 2 ^ 64) ∧
    (s.inLanding = false → exec .meridianStart s = .next s ∧ exec .applyPoint s = .next s)

/-- At an apply point a block instance without a commit due, or held back by its unit's slice, is left as it was (R38); and a
field that is copied takes its shadow value in the live copy, with every other bit of every register as it was (R40). -/
def Claims.ApplyOneField : Prop :=
  ∀ (s : State) (b : Blk) (i off off' : Nat) (f : FieldRow), f.lo + f.len ≤ 64 →
    ((s.shadowPending b i = false ∨ s.instanceHeld b i = true) → s.applyBlock b i = s) ∧
    getBits ((s.copyField off f).liveReg off) f.lo f.len = getBits (s.reg off) f.lo f.len ∧
    (∀ lo len, lo + len ≤ f.lo ∨ f.lo + f.len ≤ lo →
      getBits ((s.copyField off f).liveReg off) lo len = getBits (s.liveReg off) lo len) ∧
    (off' ≠ off → (s.copyField off f).liveReg off' = s.liveReg off') ∧
    (s.copyField off f).regs = s.regs ∧ (s.copyField off f).mem = s.mem
/-! ## Program images -/

/-- A program image: STAGE by an agent that may load the unit sends it to the vestibule, with BUSY 1, and is refused while BUSY is
1; an image that verifies is staged with RESULT 1, one whose header, hash or signature fails is counted and recorded with its
RESULT; SWAP installs a staged image that passes R100's checks, and otherwise counts a failure and installs nothing (R97 to
R101). -/
def Obligations.ProgramImages : Prop :=
  ∀ (s : State) (u : Fin 64) (k : UnitKind), unitKind u = some k →
    let b := progBase u
    let blk := (unitBlk u).1
    let inst := (unitBlk u).2
    let busy := s.wr (PROG_STATUS.BUSY b) 1
    let r (v : Fin 4) : Nat := s.progResult (s.rd (PROG_IMAGE.DPA b)) (s.rd (PROG_LEN.BYTES b)) k v
    let ends (t : State) (n : Nat) : State := ((t.wr (PROG_STATUS.RESULT b) n).wr (PROG_STATUS.BUSY b) 0).popVes.runVes
    (∀ a, s.ready blk inst = true → s.mayLoad a u = true → s.on (PROG_STATUS.BUSY b) = false → exec (.progStage a u) s =
      .next (State.runVes { busy with ves := { busy.ves with queue := busy.ves.queue ++ [.prog u] } })) ∧
    (∀ a, s.ready blk inst = true → s.mayLoad a u = true → s.on (PROG_STATUS.BUSY b) = true →
      exec (.progStage a u) s = .next (s.countRefused blk inst)) ∧
    (∀ q v, s.ves.queue = .prog u :: q → s.ready .VES 0 = true → r v = 1 → exec (.progVerifyDone v) s =
      .next (ends (s.stageImage u (s.rd (PROG_IMAGE.DPA b)) k) 1)) ∧
    (∀ q v, s.ves.queue = .prog u :: q → s.ready .VES 0 = true → (r v = 2 ∨ r v = 3 ∨ r v = 4) →
      exec (.progVerifyDone v) s = .next (ends (((s.inc VES_VERIFY_FAIL.COUNT).report
        { cls := 0x0C, status := Status.refusedPolicy.code, sev := 3, blk := Blk.VES.code, unit := u, d0 := u }).inc
        (PROG_FAILS.COUNT b)) (r v))) ∧
    (s.installResult u = 1 → s.swap u = ((s.wr (PROG_CTL.SWAP b) 0).install u).wr (PROG_STATUS.RESULT b) 1) ∧
    (s.installResult u ≠ 1 → s.swap u =
      ((s.wr (PROG_CTL.SWAP b) 0).inc (PROG_FAILS.COUNT b)).wr (PROG_STATUS.RESULT b) (s.installResult u)) ∧
    (∀ n, s.installResult u ≠ 1 → (s.swap u).workWord u n = s.workWord u n)

/-! ## Near-bank units -/

/-- The course of a segment: an issued one asks for the banks with its entries and time fixed; the controller grants a request
outside CRITICAL, on a pseudo-channel of the compute-mode set that owes no forced refresh, and counts it; the unit ends it
once; a grant ends only after its unit has; at the gap's end the held accesses are served in order and the pseudo-channel is
idle (R92, R202, R203, R211, R212, R216, R217). -/
def Claims.SegmentCourse : Prop :=
  ∀ (s : State) (h : Fin 8) (pc : Fin 31),
    let g := s.seg h pc
    let step (p : SegPhase) : State := s.setSeg h pc { g with phase := p }
    (∀ n t l o, g.phase = .issued → s.nbPlan h pc g.item (descTile g.ta) (descTile g.td) = .run n t l o →
      exec (.segReq h pc) s =
        .next ((s.setSeg h pc { g with phase := .requested, take := n, cycles := t }).forceRefreshes h pc)) ∧
    (g.phase ≠ .issued → exec (.segReq h pc) s = .next s) ∧
    (g.phase = .requested → s.pwrState h ≠ 2 → s.inCm h pc = true → s.forced h pc = 0 →
      exec (.segGrant h pc) s = .next ((step .running).inc (NBU_SEGMENTS.COUNT h))) ∧
    (s.pwrState h = 2 → exec (.segGrant h pc) s = .next s) ∧
    (∀ ue ce good, g.phase = .running → g.ended = false →
      let u := ((((s.setSeg h pc { g with ended := true }).add (NBU_CE.COUNT h) ce).noteCe ce).countPart
        (s.nbItem g.item).part 5 1)
      let plan := u.nbPlan h pc g.item (descTile g.ta) (descTile g.td)
      (∀ n c l off, plan = .run n c l off →
        exec (.attnSegmentEnd h pc ue ce good) s = .next (u.runSegment h pc g l off ue good)) ∧
      (plan = .nothing → exec (.attnSegmentEnd h pc ue ce good) s = .next (u.setNbLast h pc .ok 0)) ∧
      (plan = .finish .badLength → exec (.attnSegmentEnd h pc ue ce good) s =
        .next ((u.nbProgress g.item (s.nbItem g.item).pos (s.nbItem g.item).skipped (some .badLength)).setNbLast h pc .ok 0))) ∧
    (g.phase = .running → g.ended = true → exec (.segmentGrantExpiry h pc) s = .next (step .gap)) ∧
    ((g.phase ≠ .running ∨ g.ended = false) → exec (.segmentGrantExpiry h pc) s = .next s) ∧
    (∀ gap hold, g.phase = .gap → ∃ t, exec (.boundaryGapEnd h pc gap hold) s = .next t ∧ t.seg h pc = {}) ∧
    (∀ gap hold, g.phase ≠ .gap → exec (.boundaryGapEnd h pc gap hold) s = .next s)

/-- Ordinary accesses and refreshes of a pseudo-channel: while a segment or its gap runs, an access is held in order, up to 32, and
a refresh is postponed with OWED 1 more; otherwise a write lands and a read is answered, and a refresh pays what is owed; a
temperature of 85 °C or more doubles the refresh rate; NB_STATUS reads the last result (R210, R213, R217, R218, R219). -/
def Claims.NearBankAccesses : Prop :=
  ∀ (s : State) (a : BitVec 48) (write : Bool) (len : Nat) (data : Bytes) (ue : Bool) (h : Fin 8) (pc : Fin 31)
    (temp : BitVec 8) (position : Fin 32),
    let n := if write then data.length else len
    let x : HeldAccess := { write := write, addr := a.toNat, len := n, data := data }
    let sa := dpaStack a.toNat
    let pa := dpaPc a.toNat
    let hbm : Prop := dpaKind a.toNat = .hbm ∧ n ≤ 64
    (hbm → s.pcHeld sa pa = true → (s.heldOn sa pa).length < 32 → exec (.ordinaryAccess a write len data ue) s =
      .next ((s.setHeldOn sa pa (s.heldOn sa pa ++ [x])).inc (NBU_HELD.COUNT sa))) ∧
    (hbm → s.pcHeld sa pa = true → 32 ≤ (s.heldOn sa pa).length → exec (.ordinaryAccess a write len data ue) s =
      .next (s.inc (NBU_HOLD_FULL.CYCLES sa))) ∧
    (hbm → s.pcHeld sa pa = false → s.inCm sa pa = true → (ue = false ∨ write = true) →
      exec (.ordinaryAccess a write len data ue) s = .next (s.serve x)) ∧
    (write = true → s.storeStatus a.toNat data.length = .ok → s.serve x = s.setBytes a.toNat data) ∧
    (write = false → s.accessStatus a.toNat len = .ok → s.serve x = s.emit (.readData a.toNat 0 (s.bytes a.toNat len))) ∧
    (s.pcHeld h pc = true → exec (.refreshDue h pc) s =
      .next ((s.setOwed h pc (s.owed h pc + 1)).inc (NBU_REF_POSTPONED.COUNT h))) ∧
    (s.pcHeld h pc = false → (s.seg h pc).phase ≠ .requested → exec (.refreshDue h pc) s = .next (s.setOwed h pc 0)) ∧
    (exec (.refreshRateChange h temp) s = .next ((s.setTemp h temp.toNat).wr (NBU_STATE.REF_DOUBLED h)
      (if 85 ≤ temp.toNat then 1 else 0))) ∧
    (exec (.nbStatus h position) s = .next (s.emit (.nbStatus h position
      (Tab.get (fun _ => (0, 0)) s.nb.last (nbKey h position)).1 (Tab.get (fun _ => (0, 0)) s.nb.last (nbKey h position)).2)))

/-- The power states of a stack (Table 10-4): THROTTLE is entered above the cap or at the throttle temperature, and left below both
margins; CRITICAL is entered at 105 °C and left for THROTTLE below 100 °C; entering either makes a THERMAL record. A
measurement that meets no condition only updates the measured values (R216). -/
def Claims.StackPowerStates : Prop :=
  ∀ (s : State) (h : Fin 8) (power : BitVec 16) (temp : BitVec 8),
    let t := s.setPower h power.toNat temp.toNat
    let hot : Prop := 100 * s.rd (NBU_PWR.CAP h) < power.toNat ∨ s.rd (NBU_PWR.THROTTLE_C h) ≤ temp.toNat
    let cool : Prop := power.toNat + 200 < 100 * s.rd (NBU_PWR.CAP h) ∧ temp.toNat + 5 < s.rd (NBU_PWR.THROTTLE_C h)
    let rec_ := stackThermal h temp.toNat
    (s.pwrState h = 0 → hot → exec (.nbuThrottleEnter h power temp) s = .next ((t.setPwrState h 1).report rec_)) ∧
    ((s.pwrState h ≠ 0 ∨ ¬ hot) → exec (.nbuThrottleEnter h power temp) s = .next t) ∧
    (s.pwrState h = 1 → cool → exec (.nbuThrottleExit h power temp) s = .next (t.setPwrState h 0)) ∧
    ((s.pwrState h ≠ 1 ∨ ¬ cool) → exec (.nbuThrottleExit h power temp) s = .next t) ∧
    (s.pwrState h ≠ 2 → 105 ≤ temp.toNat → exec (.nbuCriticalEnter h power temp) s = .next ((t.setPwrState h 2).report rec_)) ∧
    ((s.pwrState h = 2 ∨ temp.toNat < 105) → exec (.nbuCriticalEnter h power temp) s = .next t) ∧
    (s.pwrState h = 2 → temp.toNat < 100 → exec (.nbuCriticalExit h power temp) s = .next (t.setPwrState h 1)) ∧
    ((s.pwrState h ≠ 2 ∨ 100 ≤ temp.toNat) → exec (.nbuCriticalExit h power temp) s = .next t)

/-- The spare pseudo-channel: a substitution of a served one starts the copy to an idle or testing spare, waits behind a running
copy, and removes the pseudo-channel where the spare is used; the copy that loses no frame makes it ready, and the remap at a
landing with no segment running moves the logical pseudo-channel to position 31; the spare's self-test starts only where it is
enabled; a lost frame that is cleared reads as zero (R220 to R223). -/
def Claims.SparePseudoChannel : Prop :=
  ∀ (s : State) (a : Agent) (h : Fin 8) (i : Fin 32) (pc : Fin 31) (e : Fin 64),
    let st := s.rd (NBU_PCMAP.SPARE_STATE h)
    let copy (n : Nat) : State := (((s.wr (NBU_PCMAP.SPARE_STATE h) 2).wr (NBU_PCMAP.SPARE_FOR h) n).wr
      (NBU_COPY.FRAMES h) 0).wr (NBU_COPY.STATUS h) 0
    let ok : Prop := s.ready .NBU h = true ∧ s.mayWriteDevice a = true
    let remapped (n : Nat) : Prop := Tab.get (fun _ => false) s.nb.remap h = true ∧ s.inLanding = true ∧
      s.rd (NBU_PCMAP.SPARE_FOR h) = n ∧ s.pcHeld h n = false
    let moved : State := (((s.setRemap h false).failPcPosition h pc).wr (NBU_PCMAP.SPARE_STATE h) 3).useSpare 2 .NBU h (0x10 + h)
      pc 31
    (ok → i.val < 31 → s.pcLost h i = false → (st = 0 ∨ st = 1) → exec (.nbuSubst a h i) s = .next (copy i)) ∧
    (ok → (i.val = 31 ∨ s.pcLost h i = true) → exec (.nbuSubst a h i) s = .next (s.countRefused .NBU h)) ∧
    (s.pcLost h pc = false → (st = 0 ∨ st = 1) → exec (.pcFaultSubst h pc false) s = .next (copy pc)) ∧
    (s.pcLost h pc = false → st = 3 → exec (.pcFaultSubst h pc false) s = .next (s.losePc h pc)) ∧
    (st = 2 → Tab.get (fun _ => false) s.nb.remap h = false → s.pcLost h (s.rd (NBU_PCMAP.SPARE_FOR h)) = false →
      exec (.pcCopyEnd h []) s = .next ((s.wr (NBU_COPY.FRAMES h) pcFrames).setRemap h true)) ∧
    (st ≠ 2 → exec (.pcCopyEnd h []) s = .next s) ∧
    (remapped pc → exec (.pcRemapApply h) s = .next ((moved.pcDue h).foldl (fun u n => u.substPc h n) (moved.setPcDue h []))) ∧
    (remapped pc → exec (.remap h pc 31) s = .next ((moved.pcDue h).foldl (fun u n => u.substPc h n) (moved.setPcDue h []))) ∧
    (s.inLanding = false → exec (.pcRemapApply h) s = .next s ∧ exec (.remap h pc i) s = .next s) ∧
    (st = 0 → s.on (NBU_SPARE_TEST.EN h) = true → exec (.sptest h true) s = .next (s.wr (NBU_PCMAP.SPARE_STATE h) 1)) ∧
    (s.on (NBU_SPARE_TEST.EN h) = false → exec (.sptest h true) s = .next s) ∧
    (st = 1 → exec (.sptest h false) s = .next (s.wr (NBU_PCMAP.SPARE_STATE h) 0)) ∧
    (ok → s.on (NBU_LOST.VALID h e) = true → exec (.nbuLostClear a h e) s =
      .next (((s.zeroRange (s.rd (NBU_LOST.DPA h e)) 8192).setReg (NBU_LOST.VALID h e).off 0).wr (NBU_PCMAP.LOST_COUNT h)
        (s.rd (NBU_PCMAP.LOST_COUNT h) - 1)))

/-! ## Galleries -/

/-- Spare bays: a substitution is asked for, takes effect at a landing with no slice open, and gives the index to the free spare;
an uncorrectable error empties the bay's queue and makes a record; without a free spare the bay leaves service (R137 to
R139). -/
def Claims.SpareBays : Prop :=
  ∀ (s : State) (a : Agent) (g bay : Fin 16) (rest : List (Nat × Bool)),
    let due (ue : Bool) : Prop := s.substDue g = (bay.val, ue) :: rest ∧ s.inLanding = true ∧ (s.slice g).isOpen = false ∧
      s.bayLost g bay = false
    let t := s.setSubstDue g rest
    (s.ready .GAL g = true → s.mayWriteGal a g = true → s.bayFree g = true → s.bayLost g bay = false →
      exec (.galSubst a g bay) s = .next (s.setSubstDue g (s.substDue g ++ [(bay.val, false)]))) ∧
    (s.ready .GAL g = true → s.mayWriteGal a g = true → (s.bayFree g = false ∨ s.bayLost g bay = true) →
      exec (.galSubst a g bay) s = .next (s.countRefused .GAL g)) ∧
    (due false → s.bayQueue g bay = [] → s.bayFree g = true → exec (.baySubstitute g) s = .next (t.standIn g bay false)) ∧
    (due true → s.bayFree g = true → exec (.baySubstitute g) s = .next (t.standIn g bay true)) ∧
    (due true → s.bayFree g = false → exec (.baySubstitute g) s = .next (t.loseBay g bay)) ∧
    (s.inLanding = false → exec (.baySubstitute g) s = .next s) ∧
    (s.bayLost g bay = false → exec (.bayUe g bay) s =
      .next ((((s.setBayQueue g bay []).setSubstDue g (s.substDue g ++ [(bay.val, true)])).noteUe.releaseTsync g).report
        { cls := 0x03, status := 0x32, sev := 3, part := s.bayOwner (16 * g.val + bay.val), blk := 10, inst := g, unit := g,
          d0 := (s.bayQueue g bay).length, d1 := bay })) ∧
    (exec (.bayCopyDone g bay) s = .next (s.setCopying g bay false))

/-- Pre-emption of a gallery (Table 6-4): in DRAIN with every queue empty, the save header is written and the state is SAVE; a save
whose writes succeed copies its ranges, sets SAVE_VALID, counts and is HELD with the context at ENTRY; one that fails clears
SAVE_VALID with a record; a restore with a valid save loads the ranges and the context and is RUN, one without gives ABANDONED
and restarts the context (R134 to R136, R153). -/
def Claims.Preemption : Prop :=
  ∀ (s : State) (g : Fin 16),
    let x : LCtx := .gal g
    let base := s.rd (GAL_SAVE_BASE.DPA g)
    let saved : State := (placed 4096 (s.saveRanges g)).foldl (fun u r => u.copy (r.1.dpa g) (base + r.2) r.1.len) s
    let held (u : State) (ok : Nat) : State :=
      (((((u.wr (GAL_PREEMPT_STATUS.SAVE_VALID g) ok).inc (GAL_PREEMPTIONS.COUNT g))).wr (GAL_PREEMPT_TIME.SAVE_CYCLES g)
        (s.cyclesSince (s.saveInfo g))).wr (GAL_PREEMPT_STATUS.STATE g) 3).startAt x
        (BitVec.ofNat 16 (s.rd (GAL_PREEMPT.ENTRY g)))
    let run (st : Status) : State :=
      let u := s.wr (GAL_PREEMPT_STATUS.LAST_STATUS g) st.code
      ((u.wr (GAL_PREEMPT_TIME.RESTORE_CYCLES g) (u.cyclesSince (s.saveInfo g))).wr (GAL_PREEMPT_STATUS.STATE g) 0).restoreTags
        (s.saveInfo g).tags (st == .ok)
    (s.galState g = 1 → s.queuesEmpty g = true → ∃ t, exec (.preemptDrainDone g) s = .next t ∧ t.galState g = 2) ∧
    ((s.galState g ≠ 1 ∨ s.queuesEmpty g = false) → exec (.preemptDrainDone g) s = .next s) ∧
    (s.galState g = 2 → rangeHbm base (s.savedBytes g) = true → exec (.preemptSaveDone g true) s = .next (held saved 1)) ∧
    (s.galState g = 2 → exec (.preemptSaveDone g false) s =
      .next (((held s 0).wr (GAL_PREEMPT_STATUS.LAST_STATUS g) 0x32).preemptFault g .uncorrected)) ∧
    (s.galState g ≠ 2 → ∀ good, exec (.preemptSaveDone g good) s = .next s) ∧
    (s.galState g = 4 → s.queuesEmpty g = true → s.on (GAL_PREEMPT_STATUS.SAVE_VALID g) = true →
      s.word (base + 8) = s.reg (PROG_ID.HASH (blockBase .GAL g)).off →
      exec (.preemptRestoreDone g true) s = .next (State.resumeBatches (((placed 4096 ((run .ok).saveRanges g)).foldl
        (fun u r => u.copy (base + r.2) (r.1.dpa g) r.1.len) (run .ok)).loadSaved g base) g)) ∧
    (s.galState g = 4 → s.queuesEmpty g = true → s.on (GAL_PREEMPT_STATUS.SAVE_VALID g) = false → ∀ good,
      exec (.preemptRestoreDone g good) s = .next (State.resumeBatches
        ((((run .abandoned).restartCtx x).preemptFault g .abandoned).markBatches g .abandoned) g)) ∧
    (s.galState g ≠ 4 → ∀ good, exec (.preemptRestoreDone g good) s = .next s)

/-- Seeds and the tag-load engine of a gallery: a non-zero seed is written in IDLE with the expert key and refused otherwise; GO
starts an idle engine with STATUS and DONE 0, unless COUNT is 0, and is refused while BUSY; the engine that meets no failure
ends with BUSY 0, STATUS OK and DONE the tags written (R113, R141, R154). -/
def Claims.GalleryEngines : Prop :=
  ∀ (s : State) (a : Agent) (g n : Fin 16) (seed : BitVec 32), s.ready .GAL g = true → s.mayWriteGal a g = true →
    let start := (s.wr (GAL_XP_TAGSTAT.STATUS g) 0).wr (GAL_XP_TAGSTAT.DONE g) 0
    let r := State.loadTags g (s.rd (GAL_XP_TAGDST.LOC g)) (s.rd (GAL_XP_TAGDST.BAY g)) (s.rd (GAL_XP_TAGCNT.COUNT g))
      (s.rd (GAL_XP_TAGSRC.DPA g)) (s.rd (GAL_XP_TAGDST.ADDR g)) 0 s
    (s.expertOpen .GAL g = true → s.galIdle g = true → seed ≠ 0 →
      exec (.galSrSeedWrite a g n seed) s = .next (s.wr (GAL_SR_SEED.SEED g n) seed.toNat)) ∧
    ((s.expertOpen .GAL g = false ∨ s.galIdle g = false ∨ seed = 0) →
      exec (.galSrSeedWrite a g n seed) s = .next (s.countRefused .GAL g)) ∧
    (s.on (GAL_XP_TAGSTAT.BUSY g) = false → s.rd (GAL_XP_TAGCNT.COUNT g) ≠ 0 →
      exec (.tagLoadGo a g) s = .next (start.wr (GAL_XP_TAGSTAT.BUSY g) 1)) ∧
    (s.on (GAL_XP_TAGSTAT.BUSY g) = false → s.rd (GAL_XP_TAGCNT.COUNT g) = 0 → exec (.tagLoadGo a g) s = .next start) ∧
    (s.on (GAL_XP_TAGSTAT.BUSY g) = true → exec (.tagLoadGo a g) s = .next (s.countRefused .GAL g)) ∧
    (s.on (GAL_XP_TAGSTAT.BUSY g) = true → r.2.2 ≠ .uncorrected → exec (.tagLoadDone g) s =
      .next (((r.1.wr (GAL_XP_TAGSTAT.BUSY g) 0).wr (GAL_XP_TAGSTAT.STATUS g) r.2.2.code).wr (GAL_XP_TAGSTAT.DONE g) r.2.1)) ∧
    (s.on (GAL_XP_TAGSTAT.BUSY g) = false → exec (.tagLoadDone g) s = .next s)
/-! ## The catalogue of requests -/

/-- The submission ring: the first entry of the LC ring, else of the BE ring, is taken where the completion ring has room and none
waits; HEAD moves on, the request is decided, and its completion record is made. A ring record that waits is written in order
when there is room. A finished record goes to FREE by its partition's release (R172, R173, R176, R187). -/
def Claims.CatalogueRings : Prop :=
  ∀ (s : State) (p : Fin 64),
    let r := if s.catHas p 0 then 0 else 1
    let k := s.rd (catHead p r)
    let a := ringSlot (s.rd (CAT_P_BASE.DPA p r)) (s.catSize p r) k 64
    let ready : Prop := s.catHas p r = true ∧ s.cqRoom p = true ∧ s.cqClear p = true
    let d := (s.addMod (catHead p r) 1).admitWords p r k (s.words a 8)
    (ready → s.storeStatus a 64 = .ok → exec (.admissionEntry p) s =
      .next (d.1.completeAdmission p d.2 (s.word (a + 56)))) ∧
    (¬ ready → exec (.admissionEntry p) s = .next s) ∧
    (s.cqClear p = true → exec (.completionRingDrain p) s = .next s) ∧
    (∀ ws, s.cat.waiting = [(p.val, ws)] → s.cqRoom p = true → exec (.completionRingDrain p) s =
      .next (State.writeCompletion { s with cat := { s.cat with waiting := [] } } p ws)) ∧
    (∀ b (i : Fin 16384) gen, s.ready .CAT 0 = true → s.mayWritePart b p = true →
      ((s.inState i .done = true ∨ s.inState i .failed = true) ∧ s.recF i Rec.GEN = gen.toNat ∧ s.recF i Rec.PART = p.val ∧
        s.recF i Rec.IN_BATCH = 0) → exec (.recordRelease b p i gen) s = .next (s.releaseRec i)) ∧
    (∀ b (i : Fin 16384) gen, s.ready .CAT 0 = true → s.mayWritePart b p = true →
      ((s.inState i .done = false ∧ s.inState i .failed = false) ∨ s.recF i Rec.GEN ≠ gen.toNat ∨
        s.recF i Rec.PART ≠ p.val ∨ s.recF i Rec.IN_BATCH ≠ 0) →
      exec (.recordRelease b p i gen) s = .next (s.countRefused .CAT 0))

/-- Admission by Table 8-7: the first check that fails in its order gives the status and the reason; a request that passes takes
the lowest FREE record (R173). -/
def Obligations.AdmissionOrder : Prop :=
  ∀ (s : State) (p : Nat) (be : Bool),
    let r := s.admissionCheck p be
    let full : Prop := ∀ i, i < 16384 → s.inState i .free = false
    let idle : Prop := s.role p = 0
    let draining : Prop := s.on (PRT_ROLE.DRAINING p) = true
    let quota : Prop := s.rd (CAT_P_QUOTA.QUOTA p) ≤ s.rd (CAT_P_USE.IN_USE p)
    let reserve : Prop := be = true ∧ s.rd CAT_FREE.FREE ≤ s.rd CAT_RESERVE.RESERVE
    let rate : Prop := s.rd (CAT_P_ADMIT.RATE p) ≤ s.admits p
    let pressure : Prop := be = true ∧ s.rd (CAT_P_ADMIT.BE_PRESSURE p) ≠ 0 ∧
      s.rd (CAT_P_ADMIT.BE_PRESSURE p) ≤ s.rd (CAT_P_USE.LC_WAITING p)
    let policy (n : Nat) : Prop := r.status = .refusedPolicy ∧ r.reason = n
    (full → r.status = .refusedFull) ∧
    (¬ full → idle → policy 5) ∧
    (¬ full → ¬ idle → draining → policy 6) ∧
    (¬ full → ¬ idle → ¬ draining → quota → policy 1) ∧
    (¬ full → ¬ idle → ¬ draining → ¬ quota → reserve → policy 2) ∧
    (¬ full → ¬ idle → ¬ draining → ¬ quota → ¬ reserve → rate →
      r.status = .deferred ∧ r.reason = 3 ∧ r.retry = (s.mer + 1) % 2 ^ 32) ∧
    (¬ full → ¬ idle → ¬ draining → ¬ quota → ¬ reserve → ¬ rate → pressure →
      r.status = .deferred ∧ r.reason = 4 ∧ r.retry = (s.mer + s.rd (CAT_P_ADMIT.BE_BACKOFF p)) % 2 ^ 32) ∧
    (¬ full → ¬ idle → ¬ draining → ¬ quota → ¬ reserve → ¬ rate → ¬ pressure →
      r.status = .ok ∧ r.reason = 0 ∧ s.inState r.record .free = true ∧ r.record < 16384 ∧
      ∀ i, i < r.record → s.inState i .free = false)

/-- Batches: an empty descriptor completes at once, one that fails a check of R179 completes with its status, and one that passes
enters the table; the catalogue dispatches the first queued batch to the group R132 chooses, and to a pre-empted group before
it; a latency-critical batch that has waited asks for pre-emption of a best-effort group; a gallery's returns are credited, and
one beyond its outstanding slots is refused (R131, R132, R178 to R183). -/
def Obligations.Batches : Prop :=
  ∀ (s : State) (p : Fin 64) (c : Agent) (g n : Fin 16),
    let k := s.rd (catHead p 2)
    let slot := ringSlot (s.rd (CAT_P_BASE.DPA p 2)) (s.catSize p 2) k 8
    let a := getBits (s.word slot) 0 48
    let hdr := s.words a 8
    let t := s.addMod (catHead p 2) 1
    let ready : Prop := s.catHas p 2 = true ∧ s.cqRoom p = true ∧ s.cqClear p = true ∧ s.cat.batches.length < 256 ∧
      s.storeStatus slot 8 = .ok ∧ getBits (s.word slot) 48 16 = 0 ∧ a % 64 = 0 ∧ s.accessStatus a 64 = .ok
    let count := getBits (hdr.getD 0 0) 0 16
    let pre := s.cat.preempts.find? (fun x => x.part == p.val && x.gals.all (fun y => s.galState y == 3))
    (ready → count = 0 → exec (.batchValidate p) s = .next (t.endDescriptor p k {} (hdr.getD 1 0))) ∧
    (ready → count ≠ 0 → (s.batchCheck p a hdr).status = .ok →
      exec (.batchValidate p) s = .next (t.enterBatch (t.makeBatch p a hdr) hdr)) ∧
    (ready → count ≠ 0 → ((s.batchCheck p a hdr).status = .refusedPolicy ∨ (s.batchCheck p a hdr).status = .badLength) →
      exec (.batchValidate p) s = .next (t.endDescriptor p k (s.batchCheck p a hdr) (hdr.getD 1 0))) ∧
    (256 ≤ s.cat.batches.length → exec (.batchValidate p) s = .next s) ∧
    (∀ b grp, pre = none → s.firstQueued p false = some b → s.chooseGroup b = some grp →
      exec (.batchDispatch p) s = .next (s.dispatch b grp (s.groupGals p grp) false)) ∧
    (∀ x, pre = some x → exec (.batchDispatch p) s = .next (s.dispatchPreempting x)) ∧
    (pre = none → s.firstQueued p false = none → exec (.batchDispatch p) s = .next s) ∧
    (∀ b grp, s.firstQueued p true = some b → s.on (CAT_P_ADMIT.PREEMPT_EN p) = true →
      s.rd (CAT_P_ADMIT.PREEMPT_WAIT p) ≤ s.mer - b.waitFrom → s.chooseGroup b = none →
      (∀ x ∈ s.cat.preempts, x.part ≠ p.val) →
      firstBy (fun y => s.cat.nextDispatch + 1 - s.newestDispatch p y) ((List.range 16).filter (fun y => s.preemptable p y)) =
        some grp →
      exec (.batchPreemptRequest p) s = .next (State.commitPreempt { s with cat := { s.cat with
        preempts := s.cat.preempts ++ [{ part := p, group := grp, gals := s.groupGals p grp }] } } (s.groupGals p grp) 1)) ∧
    (s.on (CAT_P_ADMIT.PREEMPT_EN p) = false → exec (.batchPreemptRequest p) s = .next s) ∧
    (s.ready .GAL g = true → s.mayWriteGal c g = true → n.val ≤ s.outstanding g →
      exec (.galBatchDone c g n) s = .next (State.returnSlots g n s)) ∧
    (s.ready .GAL g = true → s.mayWriteGal c g = true → s.outstanding g < n.val →
      exec (.galBatchDone c g n) s = .next (s.countRefused .GAL g))

/-- Records and time: at a landing a PAUSED or PARKED record past its EXPIRY is DONE, its groups free, with a completion record;
the first landing past a serving record's DEADLINE sets DL_MISSED and counts; a record too long in HANDOVER_IN fails with
LINK_FAILED, one that meets an uncorrectable error with UNCORRECTED; otherwise nothing (R167, R168, Table 8-5). -/
def Claims.RecordsAndTime : Prop :=
  ∀ (s : State) (i : Fin 16384),
    let held : Prop := s.inState i .paused = true ∨ s.inState i .parked = true
    let at_ := s.recF i Rec.EXPIRY
    let v := (s.setRec i Rec.EXPIRED 1).moveRec i .done .ok
    let serves : Prop := s.inStates i [.admitted, .prefill, .handoverOut, .handoverIn, .decode] = true
    let dl := s.recF i Rec.DEADLINE
    let lim := s.rd (CAT_P_TIMEOUT.HANDOVER_IN_LIMIT (s.recF i Rec.PART))
    let age := (s.mer32 + 2 ^ 32 - s.recF i Rec.CHANGED_AT) % 2 ^ 32
    (s.inLanding = true → held → at_ ≠ 0 → at_ ≤ s.mer → exec (.recordExpiry i) s =
      .next (((v.inc (CAT_P_EXPIRED.COUNT (v.recF i Rec.PART))).freeRecGroups i).completeRecord i 3 0)) ∧
    ((s.inLanding = false ∨ ¬ held ∨ at_ = 0 ∨ s.mer < at_) → exec (.recordExpiry i) s = .next s) ∧
    (s.inLanding = true → serves → dl ≠ 0 → s.recF i Rec.DL_MISSED = 0 → s.deadlinePassed dl = true →
      exec (.deadlineMissed i) s =
        .next ((s.setRec i Rec.DL_MISSED 1).inc (CAT_P_DL_MISS.COUNT ((s.setRec i Rec.DL_MISSED 1).recF i Rec.PART)))) ∧
    ((s.inLanding = false ∨ ¬ serves ∨ dl = 0 ∨ s.recF i Rec.DL_MISSED = 1 ∨ s.deadlinePassed dl = false) →
      exec (.deadlineMissed i) s = .next s) ∧
    (s.inState i .handoverIn = true → lim ≠ 0 → lim ≤ age →
      exec (.handoverInTimeout i) s = .next (s.failRecord i .linkFailed)) ∧
    ((s.inState i .handoverIn = false ∨ lim = 0 ∨ age < lim) → exec (.handoverInTimeout i) s = .next s) ∧
    (s.recLive i = true → exec (.recordUe i) s = .next (s.noteUe.failRecord i .uncorrected)) ∧
    (s.recLive i = false → exec (.recordUe i) s = .next s.noteUe)
/-- STATE takes the codes of Table 8-2 and CSTATE the same ones in FROM and TO; a CSTATE that names code 0xA to 0xF sets PRES to 0
and changes nothing (R163). -/
def Obligations.StateCodes : Prop :=
  [ReqState.free, .admitted, .prefill, .handoverOut, .handoverIn, .decode, .paused, .parked, .done, .failed].map
    ReqState.code = [0x0, 0x1, 0x2, 0x3, 0x4, 0x5, 0x6, 0x7, 0x8, 0x9] ∧
  (∀ (s : State) (i : Nat) (st : ReqState), s.inState i st = true ↔ getBits (s.recWord i 0) 0 4 = st.code) ∧
  ∀ (x : LCtx) (f : LFields) (s : State), s.runs x 0x82 f → (s.gReg x f.a.toNat).toNat < 16384 →
    let i := (s.gReg x f.a.toNat).toNat
    let src := f.im 0 4
    let dst := f.im 4 4
    ((10 ≤ src ∨ 10 ≤ dst) → exec (.cstate x f) s = .next ((s.advance x).setP x (f.im 8 3) false)) ∧
    (∀ a b : ReqState, src = a.code → dst = b.code → s.inState i a = true → cstateAllowed a.code b.code = true → b ≠ .free →
      exec (.cstate x f) s = .next (((s.advance x).cstate i b.code).setP x (f.im 8 3) true))

/-! ## The stairwell -/

/-- Accesses by tensor address: a read of a homed unit answers its bytes, one of a group without a home is held; a write lands at
its home, or starts the demand migration it needs and is held while a home is missing or in transit (R243). -/
def Obligations.TensorAccesses : Prop :=
  ∀ (s : State) (p : Fin 64) (ta : BitVec 57) (len : Nat) (good : Bool) (data : Bytes),
    let a := ta.toNat
    let r := s.readTensor p a len good
    (r.held = true → exec (.tensorRead p ta len good) s = .next
      { s with stw := { s.stw with heldReads := s.stw.heldReads ++ [{ part := p, addr := a, len := len }] } }) ∧
    (r.held = false → r.status = .ok → exec (.tensorRead p ta len good) s =
      .next ((s.noteRead p a len good).emit (.tensor p a 0 r.data))) ∧
    (r.held = false → r.status ≠ .ok → exec (.tensorRead p ta len good) s =
      .next ((s.noteRead p a len good).emit (.tensor p a r.status.code []))) ∧
    (s.writeWaits p a data.length = false → exec (.tensorWrite p ta data) s =
      .next ((s.landWrite p a data).clearTensorTags p a data.length)) ∧
    (s.writeWaits p a data.length = true → ∃ t, exec (.tensorWrite p ta data) s = .next t ∧
      t.stw.heldWrites = (s.startDemand p a data.length).stw.heldWrites ++ [{ part := p, addr := a, data := data }])

/-- KV groups: a grab allocates the FREE group of the lowest number and gives its base, or 0 and a count with none; an ALLOCATED
group passed for homing is homed at free frames where the placement rule puts it, its held accesses released, or is refused
where too few are free; at a landing a parked group past its EXPIRY is freed; below LOW, parked groups are demoted (R197, R247
to R249, R253, R256). -/
def Claims.GroupLives : Prop :=
  ∀ (s : State) (a : Agent) (p : Fin 64) (g : Nat) (frames : List Nat),
    let free (k : Nat) : Prop := s.groupState p k = 0
    (free g → g < s.groupCount p → (∀ k, k < g → ¬ free k) → exec (.stwPGrab a p) s =
      .next ((s.setGroupState p g .allocated).setPriv (STW_P_GRAB.ENTRY p).off a.code
        (pageEntryOf ((s.setGroupState p g .allocated).groupFirst p g * 8192)))) ∧
    ((∀ k, k < s.groupCount p → ¬ free k) → exec (.stwPGrab a p) s =
      .next ((s.setPriv (STW_P_GRAB.ENTRY p).off a.code 0).inc (STW_P_HOME_REFUSED.COUNT p))) ∧
    (∀ r i rest c, s.stw.homing = (p.val, r, i) :: rest → s.recGroup r i = some g → s.groupState p g = 1 →
      let pl := s.placement p (if i = 0 then none else some (r, i - 1))
      pl = (some c, false) → s.groupFrames p ≤ s.freeOn p c → frames.length = s.groupFrames p →
      (∀ h ∈ frames, dpaStack h * 32 + dpaPc h = c) → s.framesFree p 1 frames = true →
      let u : State := { s with stw := { s.stw with homing := rest } }
      let v := (u.homeUnits p 1 (u.groupFirst p g) 1 frames).setGroupState p g .homed
      exec (.groupHomed frames) s =
        .next (v.releaseHeld p 1 (v.groupFirst p g * 8192) ((v.groupFirst p g + v.groupFrames p) * 8192))) ∧
    (s.stw.homing = [] → exec (.groupHomed frames) s = .next s) ∧
    (s.inLanding = true → g < s.groupCount p → s.groupState p g = 2 → s.groupParked p g = true → s.groupExpiry p g ≠ 0 →
      s.groupExpiry p g ≤ s.mer → exec (.groupExpiry p g) s = .next ((s.freeGroup p g).inc (STW_P_EXPIRED.COUNT p))) ∧
    ((s.inLanding = false ∨ s.groupParked p g = false ∨ s.groupExpiry p g = 0 ∨ s.mer < s.groupExpiry p g) →
      exec (.groupExpiry p g) s = .next s) ∧
    (s.tierFree p 1 < s.rd (STW_P_T1.LOW p) → exec (.demotionStart p) s =
      .next (State.demote p (s.groupCount p + 4097) 0 s)) ∧
    (s.rd (STW_P_T1.LOW p) ≤ s.tierFree p 1 → exec (.demotionStart p) s = .next s)

/-- Migrations and record commands: a confirmed migration moves every unit to its new frame in one change and counts it; a failed
one leaves the units where they were, with STW_LAST_ERR and a MEMORY record; a record command enters the queue of 64 with BUSY
1, or is refused; the command at the front ends with its status in the agent's result, and leaves the queue (R250 to R255). -/
def Claims.MigrationsAndCommands : Prop :=
  ∀ (s : State) (i : Nat) (m : Migration) (frames : List Nat) (a : Agent) (p : Fin 64) (r : Fin 16384) (gen : BitVec 16)
    (tier : Fin 4),
    let out : State := { s with stw := { s.stw with migs := s.stw.migs.eraseIdx i } }
    let moved : State := ((frames.zip (List.range m.count)).foldl (fun t x => t.moveUnit m (m.first + x.2) x.1) out).inc
      (STW_P_MIGRATIONS.COUNT m.part)
    let back : State := out.setTransit m.part m.space m.first m.count false
    let done (t : State) (st : Status) : State :=
      (((t.releaseHeld m.part m.space (m.first * 8192) ((m.first + m.count) * 8192)).endMigration m st).retryMoves).runRecCmds
    let enters (op : Nat) : State :=
      let t := (s.wrPriv a.code (STW_P_REC_RESULT.BUSY p) 1).wrPriv a.code (STW_P_REC_RESULT.RECORD p) r
      let c : RecCmd := { agent := a.code, part := p, record := r, gen := gen.toNat, op := op, tier := tier }
      State.runRecCmds { t with stw := { t.stw with recCmds := t.stw.recCmds ++ [c] } }
    let ok : Prop := s.ready .STW 0 = true ∧ s.mayWritePart a p = true
    (s.stw.migs[i]? = some m → m.kind.entry = none →
      (∀ u c, m.kind = .migr u c → m.tier ≠ 1 ∨ (s.role m.part ≠ 2 ∧ s.role m.part ≠ 4) ∨ s.considered m.part = [] ∨ ∀ h ∈ frames,
        argmin (s.groupsOn m.part) (s.considered m.part) = some (dpaStack h * 32 + dpaPc h)) → frames.length = m.count → s.framesFree m.part m.tier frames = true →
      exec (.migrationConfirm i frames) s = .next (done moved .ok)) ∧
    (s.stw.migs[i]? = none → exec (.migrationConfirm i frames) s = .next s ∧ ∀ read, exec (.migrationFail i read) s = .next s) ∧
    (s.stw.migs[i]? = some m → ∀ read : Bool,
      let st : Status := if read || decide (m.tier < 2) then .uncorrected else .linkFailed
      let u := ((back.inc (STW_P_MIG_FAILED.COUNT m.part)).wr STW_LAST_ERR.STATUS st.code).wr STW_LAST_ERR.PART m.part
      let u := u.wr STW_LAST_ERR.MERIDIAN u.mer32
      let u := if read then u.noteUe else u
      let e : Report := { cls := 0x03, status := st.code, sev := 3, part := some m.part, blk := 7,
                          addr := tensorAddr m.space (m.first * 8192) }
      exec (.migrationFail i read) s = .next (done (u.report e) st)) ∧
    (ok → s.stw.recCmds.length < 64 → exec (.recPark a p r gen tier) s = .next (enters 1) ∧
      exec (.recUnpark a p r gen tier) s = .next (enters 2) ∧ exec (.recFree a p r gen tier) s = .next (enters 3)) ∧
    (ok → 64 ≤ s.stw.recCmds.length → exec (.recPark a p r gen tier) s = .next (s.countRefused .STW 0) ∧
      exec (.recUnpark a p r gen tier) s = .next (s.countRefused .STW 0) ∧
      exec (.recFree a p r gen tier) s = .next (s.countRefused .STW 0)) ∧
    (∀ c cs, s.stw.recCmds = c :: cs → c.status = none → exec .recCommandEnd s = .next s) ∧
    (∀ c cs st, s.stw.recCmds = c :: cs → c.status = some st →
      let f := s.finishRecCmd c st
      let t := ((f.1.wrPriv c.agent (STW_P_REC_RESULT.STATUS c.part) f.2.code).wrPriv c.agent (STW_P_REC_RESULT.BUSY c.part)
        0).wrPriv c.agent (STW_P_REC_RESULT.RECORD c.part) c.record
      f.1.on (STW_P_NOTIFY.EN c.part) = false →
      exec .recCommandEnd s = .next (State.runRecCmds { t with stw := { t.stw with recCmds := cs } }))

/-- Page keys (Table 12-7): ROTATE installs a new generation, one above the last and never 0, in an EMPTY slot beside an EMPTY or
ACTIVE one; the installed key is PENDING; a switch makes it ACTIVE and the old key DRAINING with its sweep; the sweep
re-encrypts up to FRAMES units a meridian; a swept slot with IN_USE 0 is erased at a landing; FORCE_RETIRE gives up what is
left; a command no slot allows is refused (R262, R263). -/
def Obligations.PageKeys : Prop :=
  ∀ (s : State) (a : Agent) (p : Fin 64) (id : Word) (t3 : Bool),
    let ok : Prop := s.ready .STW 0 = true ∧ s.mayWritePartPf a p = true
    let refused : State := s.refuseKey p
    let g := s.nextGen p
    let numbered : State := { s with stw := { s.stw with lastGen := Tab.put (fun _ => 0) s.stw.lastGen p g } }
    let x := s.keyState p 0
    let y := s.keyState p 1
    (1 ≤ s.lastGen p → s.lastGen p < 256 → 1 ≤ g ∧ g < 256 ∧ g ≠ s.lastGen p) ∧
    (ok → x = 0 → (y = 0 ∨ y = 3) → exec (.keyRotate a p) s =
      .next (((numbered.setKeyState p 0 1).setKeyGen p 0 g).keyStatus p .ok)) ∧
    (ok → x = 3 → y = 0 → exec (.keyRotate a p) s = .next (((numbered.setKeyState p 1 1).setKeyGen p 1 g).keyStatus p .ok)) ∧
    (ok → s.rotateSlot p = none → exec (.keyRotate a p) s = .next refused) ∧
    (x = 1 → s.on VES_STATE.RESTARTING = false → exec (.keyInstallDone p id) s =
      .next ((s.setKeyState p 0 2).setKeySlot p 0 { keyId := id, counter := 0 })) ∧
    (s.on VES_STATE.RESTARTING = true → exec (.keyInstallDone p id) s = .next s) ∧
    (ok → s.drainingSlot p = none → exec (.keyForceRetire a p) s = .next refused) ∧
    (ok → ∀ k, s.drainingSlot p = some k → exec (.keyForceRetire a p) s =
      .next ((((s.sealedUnits p (s.keyGen p k)).foldl (fun t u =>
        (t.setEntry p u.1 u.2 { t.entry p u.1 u.2 with gone := true }).addInUse p k false) s).wr (STW_P_KEYSTAT.SWEEPING p)
          0).keyStatus p .ok)) ∧
    (∀ k c, s.drainingSlot p = some k → s.activeSlot p = some c → s.on (STW_P_KEYSTAT.SWEEPING p) = true →
      let t := State.sweepUnits p c t3 ((s.sealedUnits p (s.keyGen p k)).take (s.rd (STW_P_SWEEP.FRAMES p))) s
      exec (.keySweepStep p t3) s = .next (if t.sealedUnits p (s.keyGen p k) = [] then t.wr (STW_P_KEYSTAT.SWEEPING p) 0 else t)) ∧
    (s.on (STW_P_KEYSTAT.SWEEPING p) = false → exec (.keySweepStep p t3) s = .next s) ∧
    (∀ k, s.drainingSlot p = some k → s.inLanding = true → s.on (STW_P_KEYSTAT.SWEEPING p) = false →
      (if k = 0 then s.rd (STW_P_INUSE.A p) else s.rd (STW_P_INUSE.B p)) = 0 → s.on (STW_P_NOTIFY.EN p) = false →
      exec (.keySlotEmpty p) s = .next ((s.setKeyState p k 0).setKeySlot p k {})) ∧
    (s.inLanding = false → exec (.keySlotEmpty p) s = .next s)

/-! ## The almanac -/

/-- Almanac commands, each with its outcome in the agent's result (Table 12-6): a command that its state or its partition does not
allow is refused with REFUSED_POLICY; PIN and UNPIN move PINS by 1; a LOAD of an ABSENT entry starts to move its units; EVICT
and UNREGISTER need PINS 0; an ADVANCE of the first window layer starts the next; the end of an eviction leaves ABSENT (R257 to
R259). -/
def Claims.AlmanacCommands : Prop :=
  ∀ (s : State) (a : Agent) (e : Fin 4096) (p : Fin 64) (q : Nat), s.actingPart a p = some q → s.mayWritePart a q = true →
    s.ready .ALM 0 = true →
    let ends (r : State × Status) : State := (r.1.almLast q e r.2).almResult a.code e r.2
    let refused : State := ends (s, .refusedPolicy)
    let mine : Prop := s.almPart e = q
    let st := s.almState e
    let pins := s.rd (ALM_E_W0.PINS e)
    let some4 : Prop := st = 1 ∨ st = 2 ∨ st = 3 ∨ st = 4
    (exec (.almRegister a e p) s = .next (ends (s.almRegister a e q))) ∧
    (let d := s.rdPriv a.code ALM_CMD_ARG.ARG
     let ws := s.words d 8
     s.accessStatus d 64 = .ok → s.registerBad q ws = false → getBits (ws.getD 4 0) 0 48 = 0 → st = 0 →
     (∀ i, i < getBits (ws.getD 2 0) 0 32 →
       (s.entry q (kindSpace (getBits (ws.getD 0 0) 4 3)) (getBits (ws.getD 1 0) 0 53 / 8192 + i)).homed = false) →
     s.almRegister a e q = (((s.writeAlmEntry e q ws).homeBacking e 0).countResident e, .ok)) ∧
    (mine → some4 → pins < 65535 → exec (.almPin a e p) s = .next (ends (s.wr (ALM_E_W0.PINS e) (pins + 1), .ok))) ∧
    ((¬ mine ∨ st = 0 ∨ pins = 65535) → exec (.almPin a e p) s = .next refused) ∧
    (mine → some4 → 0 < pins → exec (.almUnpin a e p) s = .next (ends (s.wr (ALM_E_W0.PINS e) (pins - 1), .ok))) ∧
    ((¬ mine ∨ st = 0 ∨ pins = 0) → exec (.almUnpin a e p) s = .next refused) ∧
    (mine → st = 1 → s.almBacked e = true → exec (.almLoad a e p) s = .next (ends (s.almLoad e q)) ∧
      (s.almLoad e q).2 = .ok) ∧
    ((¬ mine ∨ st ≠ 1) → exec (.almLoad a e p) s = .next refused ∧ exec (.almUnregister a e p) s = .next refused) ∧
    (mine → (st = 2 ∨ st = 3) → pins = 0 → exec (.almEvict a e p) s = .next (ends (s.startEvict e, .ok))) ∧
    ((¬ mine ∨ (st ≠ 2 ∧ st ≠ 3) ∨ pins ≠ 0) → exec (.almEvict a e p) s = .next refused) ∧
    (mine → st = 1 → pins = 0 → ∃ t : State, exec (.almUnregister a e p) s = .next (ends (t, .ok)) ∧
      t.rd (ALM_E_W0.STATE e) = 0) ∧
    (mine → st = 3 → s.advancing e = false → exec (.almAdvance a e p) s =
      .next (ends (s.almAdvance e q (s.rdPriv a.code ALM_CMD_ARG.ARG % 65536)))) ∧
    (mine → st = 3 → s.almWindow e ≠ 0 → (s.almAdvance e q (s.rd (ALM_E_W5.WIN_FIRST e))).2 = .ok) ∧
    (st = 4 → exec (.almEvictDone e) s = .next ((s.toBacking e (s.almFirst e) (s.almUnits e)).wr (ALM_E_W0.STATE e) 1)) ∧
    (st ≠ 4 → exec (.almEvictDone e) s = .next s)

/-- A confirmed load makes its entry RESIDENT with its token, its units at the frames given; with no move running nothing changes
(R258, R259). -/
def Claims.AlmanacMoves : Prop :=
  ∀ (s : State) (e : Fin 4096) (frames : List Nat) (m : Migration),
    let found := s.stw.migs.find? (fun x => x.kind.entry == some e.val)
    let out : State := { s with stw := { s.stw with migs := s.stw.migs.erase m } }
    let moved : State := (List.range m.count).foldl (fun t i => t.moveUnit m (m.first + i) (frames.getD i 0)) out
    (found = some m → m.kind = .almLoad e → frames.length = (if s.almBacked e then 0 else m.count) →
      s.framesFree m.part m.tier frames = true → exec (.almMoveConfirmed e frames) s =
        .next ((((((moved.countResident e).inc (STW_P_MIGRATIONS.COUNT m.part)).wr (ALM_E_W7.LAST_STATUS e) 0).wr
          (ALM_E_W0.STATE e) 3).inc ALM_LOADS.COUNT).almToken e)) ∧
    (found = none → exec (.almMoveConfirmed e frames) s = .next s)

/-- Adapter slots: a LOAD of an EMPTY slot with an adapter entry of the partition that backs no slot takes the next version, never
0, and a pin; an entry number past the table gives BAD_LENGTH; RETIRE of a LOADING or READY slot of the partition makes it
RETIRING; at a landing a LOADING slot whose frames are in memory is READY, and a RETIRING one that no batch binds is EMPTY with
its pin released; any other command is refused (R232 to R237, Table 11-4). -/
def Claims.AdapterSlots : Prop :=
  ∀ (s : State) (a : Agent) (i : Fin 256) (p : Fin 64) (e : BitVec 16) (q : Nat),
    let ok : Prop := s.ready .ALM 0 = true ∧ s.actingPart a p = some q ∧ s.mayWritePart a q = true
    let n := e.toNat
    let fit : Prop := s.adpState i = 0 ∧ s.almState n ≠ 0 ∧ s.rd (ALM_E_W0.KIND n) = 2 ∧ s.almPart n = q ∧
      s.adpBacks n = false ∧ s.rd (ALM_E_W0.PINS n) ≠ 65535
    let ver := s.rd ALM_ADP_NEXTVER.VERSION
    let refused : State := s.adpRefuse a.code i .refusedPolicy
    let owner := s.rd (ALM_ADP_W0.PART i)
    let back := s.rd (ALM_ADP_W0.ALM_ENTRY i)
    (ok → 4096 ≤ n → exec (.adpLoad a i p e) s = .next (s.adpResult a.code i .badLength 0)) ∧
    (ok → n < 4096 → ¬ fit → exec (.adpLoad a i p e) s = .next refused) ∧
    (ok → n < 4096 → fit →
      let u := (((((s.wr ALM_ADP_NEXTVER.VERSION (if ver = 65535 then 1 else ver + 1)).wr (ALM_ADP_W0.PART i) q).wr
        (ALM_ADP_W0.VERSION i) ver).wr (ALM_ADP_W0.ALM_ENTRY i) n).wr (ALM_ADP_W0.REFS i) 0).setAdpState i 1
      let v := (u.almPin n q).1
      let v := if v.almState n = 1 then (v.almLoad n q).1.almLast q n (v.almLoad n q).2 else v
      exec (.adpLoad a i p e) s = .next ((v.inc ALM_ADP_LOADS.COUNT).adpResult a.code i .ok ver)) ∧
    (ok → (s.adpState i = 1 ∨ s.adpState i = 2) → owner = q →
      exec (.adpRetire a i p) s = .next ((s.setAdpState i 3).adpResult a.code i .ok 0)) ∧
    (ok → ((s.adpState i ≠ 1 ∧ s.adpState i ≠ 2) ∨ owner ≠ q) → exec (.adpRetire a i p) s = .next refused) ∧
    (s.inLanding = true → s.adpState i = 1 → s.almInMemory back = true → exec (.adpSlotReady i) s =
      .next ((s.setAdpState i 2).adpBell owner)) ∧
    ((s.inLanding = false ∨ s.adpState i ≠ 1 ∨ s.almInMemory back = false) → exec (.adpSlotReady i) s = .next s) ∧
    (s.inLanding = true → s.adpState i = 3 → s.rd (ALM_ADP_W0.REFS i) = 0 → exec (.adpSlotEmpty i) s =
      .next (((((((s.wr (ALM_E_W0.PINS back) (s.rd (ALM_E_W0.PINS back) - 1)).wr (ALM_ADP_W0.VERSION i) 0).wr
        (ALM_ADP_W0.ALM_ENTRY i) 0).wr (ALM_ADP_W0.PART i) 0).setAdpState i 0).inc ALM_ADP_RETIRED.COUNT).adpBell owner)) ∧
    ((s.inLanding = false ∨ s.adpState i ≠ 3 ∨ s.rd (ALM_ADP_W0.REFS i) ≠ 0) → exec (.adpSlotEmpty i) s = .next s)
/-! ## The heliostat -/

/-- What each work request does once the engine has taken it (Table 13-2, R270, R282, R288, R292, R293): NOP and an empty range
complete at once; WRITE, READ, CAS, FADD and FLUSH go to the context of their path, or end with LINK_FAILED; an OWN op goes to its
anchor, unless EXPECTED is older than the record it names; a LAYER is checked and takes its handover entry; CKPT and RESTORE are
checked against their record. A command of another OP leaves the state as it is. -/
def Obligations.WorkRequests : Prop :=
  ∀ (s : State) (q : Nat) (e : QEntry) (p i : Nat) (good : Bool), s.takesWr q e p i →
    let t := s.takenWr q e p i
    let op := wrOp e.words
    let w (k : Nat) : Word := e.words.getD k 0
    let node := wrNode e.words
    let peer := wrPart e.words
    let gfa := wrRemote e.words
    let off := gfaOff gfa
    let key := wrKey e.words
    let path := t.pathTo p node peer
    let lost (kind : Nat) : State := (t.issueFailed p e.unit gfa kind).endWrAs i .linkFailed
    let ends (st : Status) : State := t.endWrAs i st
    let len := wrLen e.words
    let at_ := wrLocal e.words p
    let atom (n code : Nat) (compare operand : Word) : State :=
      let r := t.newReq { ctx := n, req := 0, kind := 0x23, owner := .wr i }
      let x : Send := { ctx := n, kind := 0x23, tk := 3, owner := .wr i, flds := [off, key, r.2, code, compare.toNat, operand.toNat] }
      r.1.offer x
    let rc := getBits (w 4) 24 14
    let room := getBits (w 5) 0 40
    (wrLegal e.words = true → (wrArm e.words = true → e.fired = true) →
      (op = 0x00 → exec .wrNop s = .next (ends .ok)) ∧
      (op = 0x01 → len = 0 → exec .wrWrite s = .next (ends .ok)) ∧
      (op = 0x01 → len ≠ 0 → path = none → exec .wrWrite s = .next (lost 0x20)) ∧
      (op = 0x01 → len ≠ 0 → ∀ n, path = some n → exec .wrWrite s =
        .next (t.sendWrite n i off key (wrTag e.words) (getBits (w 5) 0 5) (some at_) len [])) ∧
      (op = 0x02 → len = 0 → exec .wrRead s = .next (ends .ok)) ∧
      (op = 0x02 → len ≠ 0 → path = none → exec .wrRead s = .next (lost 0x21)) ∧
      (op = 0x02 → len ≠ 0 → ∀ n, path = some n → exec .wrRead s = .next (t.sendRead n i off len key (some at_) 0)) ∧
      (op = 0x03 → path = none → exec .wrCas s = .next (lost 0x23)) ∧
      (op = 0x03 → ∀ n, path = some n → exec .wrCas s = .next (atom n 0 (w 5) (w 6))) ∧
      (op = 0x04 → path = none → exec .wrFadd s = .next (lost 0x23)) ∧
      (op = 0x04 → ∀ n, path = some n → exec .wrFadd s = .next (atom n 1 0 (w 5))) ∧
      (op = 0x05 → path = none → exec .wrFlush s = .next (lost 0x27)) ∧
      (op = 0x05 → ∀ n, path = some n → exec .wrFlush s =
        .next (t.issueFlush n (.wr i) 3 e.unit (some e.ictx) node peer none)) ∧
      (let stale : Prop := getBit (w 7) 46 = true ∧ ownEpoch (w 5) < t.recF (getBits (w 7) 32 14) Rec.OWN_EPOCH
       op = 0x06 → (stale → exec .wrOwnCas s = .next (ends .notOwner)) ∧
        (¬ stale → exec .wrOwnCas s = .next (t.sendOwn p (.wr i) node peer 0 (w 4) (w 5) (w 6) (wrMirror e.words)
          (getBits (w 7) 0 14) (getBits (w 7) 16 6)))) ∧
      (op = 0x07 → exec .wrOwnRead s = .next (t.sendOwn p (.wr i) node peer 1 (w 4) 0 0 false 0 0)) ∧
      (op = 0x08 → exec .wrOwnMirror s = .next (t.sendOwn p (.wr i) node peer 2 (w 4) 0 (w 6) false 0 0)) ∧
      (let count := getBits (w 4) 8 8
       let x := t.wrAt i
       op = 0x09 →
        (count = 0 → wrFinal e.words = false → exec .wrLayer s = .next (ends .ok)) ∧
        ((count ≠ 0 ∨ wrFinal e.words = true) →
          (t.layerCheck x ≠ .ok → exec .wrLayer s = .next (ends (t.layerCheck x))) ∧
          (t.layerCheck x = .ok → t.layerOpen x = none → exec .wrLayer s = .next (ends .refusedFull)) ∧
          (∀ u, t.layerCheck x = .ok → t.layerOpen x = some u → u.pathTo p node peer = none →
            exec .wrLayer s = .next ((u.issueFailed p e.unit gfa 0x26).endWrAs i .linkFailed)) ∧
          (∀ u n, t.layerCheck x = .ok → t.layerOpen x = some u → u.pathTo p node peer = some n →
            let pl := u.recF rc Rec.PL_LEN
            exec .wrLayer s = .next (if count = 0 ∨ pl = 0 ∨ (u.layoutAt p (getBits (w 1) 0 57)).noPages = true then
              u.layerPages i else u.readLists n i)))) ∧
      (op = 0x0A →
        ((t.recF rc Rec.PART ≠ p ∨ t.inStates rc [.paused, .parked] = false ∨
            room < 4096 + t.recF rc Rec.PL_LEN * t.groupFrames p * 8224) →
          exec (.wrCkpt good) s = .next (ends .badLength)) ∧
        (t.recF rc Rec.PART = p → t.inStates rc [.paused, .parked] = true →
            4096 + t.recF rc Rec.PL_LEN * t.groupFrames p * 8224 ≤ room →
          (t.recF rc Rec.PL_LEN = 0 → exec (.wrCkpt good) s = .next (ends .ok)) ∧
          (t.recF rc Rec.PL_LEN ≠ 0 → t.activeSlot p = none → exec (.wrCkpt good) s = .next (ends .refusedPolicy)) ∧
          (∀ sl, t.recF rc Rec.PL_LEN ≠ 0 → t.activeSlot p = some sl → path = none → exec (.wrCkpt good) s = .next (lost 0x20)) ∧
          (∀ sl n, t.recF rc Rec.PL_LEN ≠ 0 → t.activeSlot p = some sl → path = some n →
            let b := t.buildImage rc sl good
            let x : Wr := { t.wrAt i with phase := 1, keySlot := sl, recState := t.recState rc, recGen := t.recF rc Rec.GEN }
            let u := (b.1.addInUse p sl true).setWr i x
            (b.2.1 = .ok → exec (.wrCkpt good) s = .next (u.sendWrite n i off key (wrTag e.words) 0 none 0 b.2.2.1)) ∧
            (b.2.1 ≠ .ok → exec (.wrCkpt good) s =
              .next ((u.modWr i (fun y => { y with progress := u.imageProgress rc b.2.1 0 })).endWrAs i b.2.1))))) ∧
      (op = 0x0B →
        ((t.recF rc Rec.PART ≠ p ∨ t.inState rc .admitted = false ∨ room < 4096) →
          exec .wrRestore s = .next (ends .badLength)) ∧
        (t.recF rc Rec.PART = p → t.inState rc .admitted = true → 4096 ≤ room →
          (path = none → exec .wrRestore s = .next (lost 0x21)) ∧
          (∀ n, path = some n → exec .wrRestore s =
            .next ((t.setWr i { t.wrAt i with phase := 1 }).sendRead n i off 4096 key none 0))))) ∧
    (op ≠ 0 → op < 0x0C → exec .wrNop s = .next s) ∧ (op ≠ 1 → exec .wrWrite s = .next s) ∧
    (op ≠ 2 → exec .wrRead s = .next s) ∧ (op ≠ 3 → exec .wrCas s = .next s) ∧ (op ≠ 4 → exec .wrFadd s = .next s) ∧
    (op ≠ 5 → exec .wrFlush s = .next s) ∧ (op ≠ 6 → exec .wrOwnCas s = .next s) ∧ (op ≠ 7 → exec .wrOwnRead s = .next s) ∧
    (op ≠ 8 → exec .wrOwnMirror s = .next s) ∧ (op ≠ 9 → exec .wrLayer s = .next s) ∧
    (op ≠ 10 → exec (.wrCkpt good) s = .next s) ∧ (op ≠ 11 → exec .wrRestore s = .next s)

/-- Requests that do not start, and the end of one that has ended: a request that breaks a rule on its form, or of a reserved OP,
ends with BAD_LENGTH; an armed one takes the lowest free trigger slot and leaves its in-flight slot, or ends with the status of the
arm; one of a context without a partition makes a REQUEST record; nothing to take leaves the state. An ended request leaves its
slot; with OK and SIGNAL 0 nothing else changes, with OK and SIGNAL 1 its record is written or waits (R85, R269 to R271, R275,
Table 13-3). -/
def Claims.WorkRequestEnds : Prop :=
  ∀ (s : State) (q : Nat) (e : QEntry),
    (s.nextQueue = none → exec .wrNop s = .next s ∧ exec .wrWrite s = .next s ∧ exec .wrFlush s = .next s) ∧
    (∀ p i, s.takesWr q e p i →
      let t := s.takenWr q e p i
      (wrOp e.words = 0 → wrLegal e.words = false → exec .wrNop s = .next (t.endWrAs i .badLength)) ∧
      (0x0C ≤ wrOp e.words → exec .wrNop s = .next (t.endWrAs i .badLength)) ∧
      (wrOp e.words = 1 → wrLegal e.words = false → exec .wrWrite s = .next (t.endWrAs i .badLength)) ∧
      (wrOp e.words = 1 → wrLegal e.words = true → wrArm e.words = true → e.fired = false →
        (t.armStatus p e.words ≠ .ok → exec .wrWrite s = .next (t.endWrAs i (t.armStatus p e.words))) ∧
        (∀ k, t.armStatus p e.words = .ok → firstBelow 1024 (fun j => !t.trigUsed j) = some k →
          exec .wrWrite s = .next ((t.closeWr i).armSlot k p e.words)))) ∧
    (s.nextQueue = some q → s.queueFront q = some e → e.unit ≠ 0x18 → e.part = none → wrOp e.words = 1 →
      let u := s.popQueue q
      let u : State := { u with hel := { u.hel with lastQueue := q } }
      let u := ((u.wr HEL_LAST_ERR.STATUS 0x22).wr HEL_LAST_ERR.OP 1).wr HEL_LAST_ERR.PART 0
      exec .wrWrite s = .next (State.report (u.wr HEL_LAST_ERR.MERIDIAN u.mer32)
        { cls := 0x0B, status := 0x22, sev := 3, blk := 6, unit := e.unit, ctx := e.ictx })) ∧
    (∀ (i : Fin 256) (w : Wr) (st : Status), s.wr? i = some w →
      (w.done = none → exec (.wrComplete i) s = .next s) ∧
      (let u := (if wrOp w.words = 0x0A ∧ w.phase ≠ 0 then s.addInUse w.part w.keySlot false else s).closeWr i
       let prog := s.wrProgress i w st
       let u := if st = .ok then u
         else ((((u.inc (HEL_P_FAILED.COUNT w.part)).wr HEL_LAST_ERR.STATUS st.code).wr HEL_LAST_ERR.OP
           (wrOp w.words)).wr HEL_LAST_ERR.PART w.part)
       let u := if st = .ok then u else (u.wr HEL_LAST_ERR.MERIDIAN u.mer32).noteWrFail w st prog
       w.done = some st → exec (.wrComplete i) s = .next (if wrSignal w.words = true ∨ st ≠ .ok then
         u.helComplete w.part (helRecord st.code (wrOp w.words) w.part w.mirrorFailed w.fired w.unit
           (if w.unit = 0xFF then 0 else w.ictx) (wrTag w.words) (wrNode w.words) prog w.result) else u))) ∧
    (∀ i : Fin 256, s.wr? i = none → exec (.wrComplete i) s = .next s)

/-- A completion record is written at TAIL1 of its partition's ring, with its MERIDIAN, and TAIL1 rises by 1, only where the ring has
room and nothing of the partition waits; otherwise it waits behind the others, and is not dropped (R271). -/
def Claims.CompletionRecords : Prop :=
  ∀ (s : State) (p : Nat) (ws : List Word),
    let a := ringSlot (s.rd (HEL_P_BASE.DPA p 1)) (s.helSize p 1) (s.rd (helTail p 1)) 32
    (let u := (s.devWriteWords (memReport Blk.HEL.code 0 0xFF (some p) a) a
       (ws.set 3 (setBits (ws.getD 3 0) 32 32 s.mer32))).addMod (helTail p 1) 1
     s.helRoom p = true → s.helClear p = true → u.on (HEL_P_NOTIFY.EN p) = false → u.on (HEL_P_NOTIFY.DB_EN p) = false →
      s.helComplete p ws = u) ∧
    ((s.helRoom p = false ∨ s.helClear p = false) →
      (s.helComplete p ws).hel.waiting = s.hel.waiting ++ [(p, ws)] ∧ (s.helComplete p ws).mem = s.mem ∧
      ((s.helComplete p ws).rd (helTail p 1)) = s.rd (helTail p 1))

/-- Trigger slots and measuring: a slot whose condition holds moves its request to the front of its partition's queue and is
counted; one that waits, or is empty, stays; one whose record has ended, or that is cancelled, ends with a completion record of
ABANDONED; a measurement starts from zero and ends (R275, R278, R294). -/
def Claims.TriggersAndMeasuring : Prop :=
  ∀ (s : State) (i : Fin 1024) (a : Agent),
    let ok : Prop := s.ready .HEL 0 = true ∧ s.mayWriteDevice a = true
    let p := s.trigPart i
    let ws := s.trigWords i
    let t := s.freeSlot i
    let gone := (t.inc (HEL_P_FAILED.COUNT p)).helComplete p
      (helRecord 0x30 (wrOp ws) p false false 0xFF 0 (wrTag ws) (wrNode ws) 0 0)
    (s.trigUsed i = true → (s.trig i).dead = false → (s.trig i).holds = true → exec (.triggerFire i) s =
      .next (State.inc { t with hel := { t.hel with fired := (p, ws) :: t.hel.fired } } HEL_TRIG_FIRED.COUNT)) ∧
    (s.trigUsed i = true → (s.trig i).dead = true → exec (.triggerFire i) s = .next gone) ∧
    ((s.trigUsed i = false ∨ ((s.trig i).dead = false ∧ (s.trig i).holds = false)) → exec (.triggerFire i) s = .next s) ∧
    (ok → s.trigUsed i = true → exec (.helTrigCancel a i) s = .next gone) ∧
    (ok → s.trigUsed i = false → exec (.helTrigCancel a i) s = .next s) ∧
    (s.ready .HEL 0 = true → s.mayWriteDevice a = false →
      exec (.helTrigCancel a i) s = .next (s.refuseWrite a .HEL 0) ∧ exec (.helMeasStart a) s = .next (s.refuseWrite a .HEL 0)) ∧
    (let u := (s.wr HEL_MEAS_BYTES.BYTES 0).wr HEL_MEAS_CYCLES.CYCLES 0
     ok → exec (.helMeasStart a) s =
       .next { u with hel := { u.hel with measuring := true, measFrom := none, measMsgs := [] } }) ∧
    (ok → exec (.helMeasStop a) s = .next { s with hel := { s.hel with measuring := false, measMsgs := [] } })

/-- The ends of messages, flushes and handovers: a message all of whose bytes are placed leaves the table, raises its trigger
counter and meets its triggers, or sets its layer's bit and makes a full handover's close due; a flush waits for the INVAL it
covers, then confirms what it covers with OK, or ends with LINK_FAILED and the true status recorded; a due close, and a failed one
whose time has come, is made at its anchor (R274, R276, R287, R289, R335, R338, R400). -/
def Claims.MessagesFlushesAndCloses : Prop :=
  ∀ (s : State) (i : Nat) (inb : Bool) (h : Fin 1024),
    (s.tp.inMsgs[i]? = none → exec (.messageComplete i) s = .next s) ∧
    (∀ m, s.tp.inMsgs[i]? = some m →
      let t := State.countTp { s with tp := { s.tp with inMsgs := s.tp.inMsgs.eraseIdx i } }
      (m.placed < m.len → exec (.messageComplete i) s = .next s) ∧
      (m.len ≤ m.placed → m.layer = none → exec (.messageComplete i) s =
        .next ((t.bumpCounter m.part m.ctrInc).markTrigs 1 (fun k => t.trigPart k == m.part &&
          getBits (t.trigWord k 7) 2 14 == m.node && getBits (t.trigWord k 7) 32 32 == m.tag))) ∧
      (∀ r e l k, m.len ≤ m.placed → m.layer = some (r, e, l) →
        t.findHo true (fun k => t.rd (hoRecord true k) == r && t.rd (hoEpoch true k) == e) = some k →
        let u := t.setHoBit true k l
        exec (.messageComplete i) s = .next (if u.hoFull true k = true ∧ (u.inn k).sent = false then
          u.setInn k { u.inn k with due := true } else u))) ∧
    (s.hel.flushes[i]? = none → exec (.flushComplete i) s = .next s) ∧
    (∀ f, s.hel.flushes[i]? = some f →
      let cov := s.tp.msgs.filter (fun m => m.coveredBy f.covers)
      let t : State := { s with hel := { s.hel with flushes := s.hel.flushes.eraseIdx i } }
      (cov.any (fun m => m.inval.isSome) = true → exec (.flushComplete i) s = .next s) ∧
      (∀ st, cov.any (fun m => m.inval.isSome) = false → cov.findSome? (fun m => m.failed) = some st →
        let u : State := { t with tp := { t.tp with
          msgs := t.tp.msgs.filter (fun m => !(m.coveredBy f.covers && m.failed.isSome)) } }
        exec (.flushComplete i) s = .next ((u.noteFlushFail f.ctx st).endOwner f.owner .linkFailed 0 false 0 0)) ∧
      (cov.any (fun m => m.inval.isSome) = false → (∀ m ∈ cov, m.failed = none) → f.status = .ok →
        let u := cov.foldl (fun u m => u.confirmMsg f.owner m) t
        let v : State := { u with tp := { u.tp with msgs := u.tp.msgs.filter (fun m => !m.coveredBy f.covers) } }
        exec (.flushComplete i) s = .next (v.endOwner f.owner .ok 0 false 0 0)) ∧
      (cov.any (fun m => m.inval.isSome) = false → (∀ m ∈ cov, m.failed = none) → f.status ≠ .ok →
        exec (.flushComplete i) s = .next (t.endOwner f.owner .linkFailed 0 false 0 0))) ∧
    (let e := if inb then s.inn h else s.out h
     let again : Prop := (e.retryAtMap = true ∧ e.epoch ≠ s.curEpoch) ∨ (e.retryAtLanding = true ∧ s.inLanding = true)
     let open_ := s.on (hoValid inb h)
     (open_ = true → e.due = true → exec (.handoverClose inb h) s = .next (s.makeClose inb h)) ∧
     ((open_ = false ∨ e.due = false) → exec (.handoverClose inb h) s = .next s) ∧
     (open_ = true → again → exec (.ownRetry inb h) s = .next (s.makeClose inb h)) ∧
     ((open_ = false ∨ ¬ again) → exec (.ownRetry inb h) s = .next s))

/-- The anchor decides an ownership op in the steps of R282: a wrong partition, a malformed op, another map epoch and a table that
memory cannot serve are refused; READ answers what stands; a CAS answers OK where the word already stands, stores where EXPECTED
stands, and is NOT_OWNER otherwise; a MIRROR stores only a newer word (R280 to R283). -/
def Obligations.OwnershipDecisions : Prop :=
  ∀ (s : State) (o : OwnOp),
    let cur := s.anchCurrent o.req
    (o.part ≠ s.rd HEL_ANCH_CFG.PART ∨ s.on HEL_ANCH_CFG.EN = false → s.ownDecide o = (s, { status := .keyMismatch })) ∧
    (s.ownCheck o = none →
      o.req ≠ 0 ∧ o.epoch = s.curEpoch ∧ (o.kind ≠ 1 → ownLegal o.new = true) ∧
      (o.kind = 1 → s.ownDecide o = (s, { status := .ok, back := cur })) ∧
      (o.kind = 0 → cur = o.new → s.ownDecide o = (s, { status := .ok, back := cur })) ∧
      (o.kind = 0 → cur ≠ o.new → cur = o.expected → s.ownDecide o = s.ownStore o cur) ∧
      (o.kind = 0 → cur ≠ o.new → cur ≠ o.expected → s.ownDecide o = (s, { status := .notOwner, back := cur })) ∧
      (o.kind = 2 → ownNewer o.new cur = true → s.ownDecide o = s.ownStore o cur) ∧
      (o.kind = 2 → ownNewer o.new cur = false → s.ownDecide o = (s, { status := .ok, back := cur }))) ∧
    (∀ k, s.anchLookup o.req = some k → o.new ≠ 0 → s.ownStore o cur =
      (s.setWord (s.anchSlotDpa k + 8) o.new, { status := .ok, back := cur, stored := some o.new })) ∧
    (s.anchLookup o.req = none → s.anchRoom o.req = none → o.new ≠ 0 → s.ownStore o cur =
      (s.inc HEL_ANCH_FULL.COUNT, { status := .refusedFull, back := cur })) ∧
    (∀ x y : Word, ownNewer x y = true → ownNewer y x = false)

/-! ## Fabric links and laser cartridges -/

/-- Link blocks (R303, R304): only an UP port receives; a bad check is counted; an acknowledged block leaves the replay buffer; a
CONTROL block has its missing blocks sent again; a DATA block in order is delivered, a duplicate is counted, one past a gap is
held with a CONTROL block at once. A block is sent again after its time, and CONTROL blocks go out of an aligning or UP port. -/
def Claims.LinkBlocks : Prop :=
  ∀ (s : State) (f : Fin 4) (ty : Fin 4) (seq ack : BitVec 24) (good : Bool) (missing : List (BitVec 24)),
    let t := s.modLink f (fun k => { k with replay := k.replay.filter (fun r =>
      !(decide (1 ≤ seqDist r.seq ack.toNat) && decide (seqDist r.seq ack.toNat < 2 ^ 23))) })
    let d := seqDist (s.link f).rxSeq seq.toNat
    let rx (g : Bool) := exec (.linkBlockReceive f ty seq ack g missing) s
    let up : Prop := s.linkState f = 3
    (¬ up → rx good = .next s) ∧
    (up → rx false = .next (s.inc (FAB_CHECK_FAIL.COUNT f))) ∧
    (up → (ty = 0 ∨ ty = 3) → rx true = .next t) ∧
    (up → ty = 2 → rx true = .next (missing.foldl (fun u q => u.resendBlock f q.toNat) t)) ∧
    (up → ty = 1 → (2 ^ 23 ≤ d ∨ seq.toNat ∈ (s.link f).reorder) → rx true = .next (t.inc (FAB_DUPLICATES.COUNT f))) ∧
    (up → ty = 1 → 1 ≤ d → d < 1024 → seq.toNat ∉ (s.link f).reorder → rx true = .next
      ((t.setLink f { t.link f with reorder := seq.toNat :: (s.link f).reorder }).emitUngated f 1 0)) ∧
    (up → ty = 1 → d = 0 → (s.link f).reorder = [] → rx true = .next
      ((t.setLink f { t.link f with rxSeq := ((s.link f).rxSeq + 1) % 2 ^ 24 }).inc (FAB_BLOCKS_RX.COUNT f))) ∧
    (up → exec (.linkResendTimeout f seq) s = .next (s.resendBlock f seq.toNat)) ∧
    (¬ up → exec (.linkResendTimeout f seq) s = .next s) ∧
    ((s.linkState f = 2 ∨ up) → exec (.linkControlSend f) s = .next (s.emitUngated f 1 0)) ∧
    ((s.linkState f = 0 ∨ s.linkState f = 1 ∨ s.linkState f = 5) → exec (.linkControlSend f) s = .next s)

/-- The states of a link (Table 14-4, R306): EN with a feeding cartridge starts training, EN 0 disables; 16 locked lanes, or MIN_LANES
after 50 ms, give ALIGN; a failed attempt counts, and at RETRAIN_LIMIT the port fails; agreement gives UP with the partner, and a
RETRAIN must find the partner it had; an UP port with too few lanes, in the dark, or with a block sent 16 times retrains. -/
def Claims.LinkStates : Prop :=
  ∀ (s : State) (f : Fin 4) (mask : BitVec 20) (light dark : Bool) (node : BitVec 14) (port : Fin 4),
    let st := s.linkState f
    let en := s.on (FAB_LINK_CFG.EN f)
    let retraining : Prop := st = 4 ∧ (s.link f).aligning = true
    let locked := popCount 20 mask.toNat
    (st = 0 → en = true → s.fed f = true → exec (.linkEnableChange f) s = .next (s.startTraining f)) ∧
    (st = 0 → (en = false ∨ s.fed f = false) → exec (.linkEnableChange f) s = .next s) ∧
    (st ≠ 0 → en = false → exec (.linkEnableChange f) s = .next (s.disableLink f)) ∧
    (st ≠ 0 → en = true → exec (.linkEnableChange f) s = .next s) ∧
    (s.training f = true → 16 ≤ locked → s.fed f = true → exec (.lanesLocked f mask) s = .next (s.goAlign f mask.toNat)) ∧
    ((s.training f = false ∨ locked < 16 ∨ s.fed f = false) → exec (.lanesLocked f mask) s = .next s) ∧
    (s.training f = true → s.fed f = true → s.rd (FAB_LINK_CFG.MIN_LANES f) ≤ locked →
      exec (.trainingTimeout f mask true) s = .next (s.goAlign f mask.toNat)) ∧
    (s.training f = true → s.fed f = true → locked < s.rd (FAB_LINK_CFG.MIN_LANES f) →
      exec (.trainingTimeout f mask true) s = .next (s.failAttempt f true)) ∧
    (exec (.trainingTimeout f mask false) s = .next s) ∧
    (s.training f = false → exec (.trainingTimeout f mask light) s = .next s) ∧
    (st = 2 → exec (.alignAgree f node port) s = .next (((((s.wr (FAB_PARTNER.NODE f) node.toNat).wr (FAB_PARTNER.PORT f)
      port).wr (FAB_PARTNER.VALID f) 1).wr (FAB_LINK_STATE.ATTEMPTS f) 0).setLinkState f 3)) ∧
    (retraining → (s.rd (FAB_PARTNER.NODE f) ≠ node.toNat ∨ s.rd (FAB_PARTNER.PORT f) ≠ port.val) →
      exec (.alignAgree f node port) s = .next (s.failLink f)) ∧
    (st ≠ 2 → ¬ retraining → exec (.alignAgree f node port) s = .next s ∧ exec (.alignTimeout f) s = .next s) ∧
    (st = 2 → exec (.alignTimeout f) s = .next (s.failAttempt f false)) ∧
    (retraining → exec (.alignTimeout f) s = .next (s.failAttempt f true)) ∧
    (st = 3 → (dark = true ∨ s.activeLanes f < s.rd (FAB_LINK_CFG.MIN_LANES f) ∨
      ∃ r ∈ (s.link f).replay, 16 ≤ r.resends) → exec (.linkRetrain f dark) s = .next (s.enterRetrain f)) ∧
    ((st ≠ 3 ∨ (dark = false ∧ s.rd (FAB_LINK_CFG.MIN_LANES f) ≤ s.activeLanes f ∧
      ∀ r ∈ (s.link f).replay, r.resends < 16)) → exec (.linkRetrain f dark) s = .next s)

/-- Lanes (R307 to R309): a lane of an UP port that fails leaves service, and its position waits for a spare with AUTO_SUBST, or is
lost; substitutions take effect at a landing; a command to substitute an active lane waits likewise, or is refused; a
recalibration starts, is deferred by a cartridge move, or is refused; a retuned lane is in service again with its time. -/
def Claims.LaneHealth : Prop :=
  ∀ (s : State) (a : Agent) (f : Fin 4) (lane : Fin 20) (x : Fin 32) (l : Nat) (rest : List Nat),
    let up : Prop := s.linkState f = 3
    let t := (s.setLaneState f lane 3).showLanes f
    (up → s.laneState f lane ≠ 3 → s.laneState f lane ≠ 1 → ∀ pos, t.posOf f lane = some pos →
      (s.on (FAB_LINK_CFG.AUTO_SUBST f) = true → s.spareFree f = true →
        exec (.laneFail f lane) s = .next (t.modLink f (fun k => { k with
          substs := (pos, lane.val) :: k.substs.filter (fun e => e.2 != lane.val) }))) ∧
      (s.spareFree f = false → exec (.laneFail f lane) s = .next (t.loseCapacity 3 .FAB f 0xFF lane))) ∧
    ((¬ up ∨ s.laneState f lane = 3) → exec (.laneFail f lane) s = .next s) ∧
    (up → s.inLanding = true → exec (.laneSubstitute f) s = .next ((s.link f).substs.foldl (fun u e => u.substLane f e.1 e.2)
      (s.modLink f (fun k => { k with substs := [] })))) ∧
    ((¬ up ∨ s.inLanding = false) → exec (.laneSubstitute f) s = .next s) ∧
    (s.ready .FAB f = true → s.mayWriteDevice a = true →
      let may : Prop := up ∧ x.val < 20 ∧ s.laneState f x = 0 ∧ s.spareFree f = true ∧ ∀ e ∈ (s.link f).substs, e.2 ≠ x.val
      (∀ pos, s.posOf f x = some pos → may → exec (.fabSubst a f x) s =
        .next (s.modLink f (fun k => { k with substs := k.substs ++ [(pos, x.val)] }))) ∧
      ((s.posOf f x = none ∨ ¬ may) → exec (.fabSubst a f x) s = .next (s.countRefused .FAB f)) ∧
      (up → s.on (FAB_RECAL_STATUS.BUSY f) = false → s.lcMoving = false →
        exec (.fabRecal (some a) f) s = .next (s.startRecal f)) ∧
      (up → s.on (FAB_RECAL_STATUS.BUSY f) = false → s.lcMoving = true →
        exec (.fabRecal (some a) f) s = .next (s.modLink f (fun k => { k with deferred := true }))) ∧
      ((¬ up ∨ s.on (FAB_RECAL_STATUS.BUSY f) = true) → exec (.fabRecal (some a) f) s = .next (s.countRefused .FAB f))) ∧
    (s.on (FAB_LINK_CFG.AUTO_RECAL f) = false → exec (.fabRecal none f) s = .next s) ∧
    (up → s.on (FAB_LINK_CFG.AUTO_RECAL f) = true → s.on (FAB_RECAL_STATUS.BUSY f) = false → s.lcMoving = false →
      exec (.fabRecal none f) s = .next (s.startRecal f)) ∧
    ((s.link f).recal = l :: rest → up → s.laneState f l = 2 →
      let u := (s.setLaneState f l (if (s.posOf f l).isSome then 0 else 1))
      exec (.laneRecalDone f) s = .next ((((u.wr (FAB_LANE_W3.CAL_AT f l) u.mer32).modLink f (fun k =>
        { k with recal := rest })).showLanes f).recalNext f)) ∧
    ((s.link f).recal = [] → exec (.laneRecalDone f) s = .next s)

/-- Laser cartridges (Table 14-5, R310 to R313): an inserted cartridge warms; locked, it is READY and rings, and feeds where it is
needed; it fails after 2 s without lock; EJECT of a FEEDING cartridge with the other able to feed makes it RELEASING; with every
lane moved it is RELEASED and rings; it may then be taken out; the loss of a feeding cartridge makes a LASER record. -/
def Claims.LaserCartridges : Prop :=
  ∀ (s : State) (a : Agent) (x : Fin 2) (removed : Bool),
    let y := 1 - x.val
    let st := s.lcState x
    let ok : Prop := s.anyReady .FAB ∧ s.mayWriteDevice a = true
    let can (k : Nat) : Prop := s.lcState k = 3 ∧ (s.lcState (1 - k) = 2 ∨ s.lcState (1 - k) = 3)
    let fed := if s.lcState y = 2 then s.setLc y 3 else s
    let moved := ((List.range 4).filter (fun f => fed.feederOf f == x.val)).foldl (fun u f => u.moveFeed f y) fed
    let lost := if removed then 0 else 6
    let cut := ((List.range 4).filter (fun f => s.feederOf f == x.val)).foldl (fun u f =>
      if u.linkState f = 3 then u.enterRetrain f else u) ((s.setLc x lost).lcReport x lost)
    ((st = 0 ∨ st = 5) → exec (.lcInsert x) s = .next (s.setLc x 1)) ∧
    (st ≠ 0 → st ≠ 5 → exec (.lcInsert x) s = .next s) ∧
    (st = 1 → exec (.lcWavelengthLock x) s = .next (((s.setLc x 2).lcBell x).lcFeed x) ∧
      exec (.lcWarmTimeout x) s = .next (((s.setLc x 6).lcReport x 6).lcFeed y)) ∧
    (st ≠ 1 → exec (.lcWavelengthLock x) s = .next s ∧ exec (.lcWarmTimeout x) s = .next s) ∧
    (ok → can 0 → exec (.lcEjectA a) s = .next (s.setLc 0 4)) ∧
    (ok → ¬ can 0 → exec (.lcEjectA a) s = .next (s.countRefused .FAB 0)) ∧
    (ok → can 1 → exec (.lcEjectB a) s = .next (s.setLc 1 4)) ∧
    (ok → ¬ can 1 → exec (.lcEjectB a) s = .next (s.countRefused .FAB 0)) ∧
    (s.anyReady .FAB → s.mayWriteDevice a = false → exec (.lcEjectA a) s = .next (s.refuseWrite a .FAB 0)) ∧
    (st = 4 → exec (.lcReleaseDone x) s = .next (((moved.setLc x 5).lcBell x).runDeferred)) ∧
    (st ≠ 4 → exec (.lcReleaseDone x) s = .next s) ∧
    ((st = 5 ∨ st = 6) → exec (.lcRemove x) s = .next (s.setLc x 0)) ∧
    (st ≠ 5 → st ≠ 6 → exec (.lcRemove x) s = .next s) ∧
    (st ≠ 3 → st ≠ 4 → exec (.lcLoss x removed) s = .next s) ∧
    ((st = 3 ∨ st = 4) → (cut.lcState y = 2 ∨ cut.lcState y = 3 ∨ cut.lcState y = 4) →
      exec (.lcLoss x removed) s = .next ((((List.range 4).foldl (fun u f => u.setFeed f y) (cut.setLc y 3)).noteSub.report
        (spareReport 5 2 .FAB 0 0xFF x y)).runDeferred)) ∧
    ((st = 3 ∨ st = 4) → cut.lcState y ≠ 2 → cut.lcState y ≠ 3 → cut.lcState y ≠ 4 →
      exec (.lcLoss x removed) s = .next ((List.range 4).foldl (fun u f => if u.linkState f = 4 then u.failLink f else u)
        (cut.loseCapacity 5 .FAB 0 0xFF x))) ∧
    (s.setLc x 5).lcState x = 5

/-! ## The Rilcy transport -/

/-- The arrival of a packet with a PSN (R321, R330, R331, R341), shown on an S_FLUSH: at a context that is not cached and open it is
late; one seen, or behind the window, is a duplicate whose kept reply goes again; one 4,096 or more ahead is dropped; an unknown
generation, a tag that fails and a retired epoch are refused or counted, with no effect; one that passes has its effect, and is
marked received. -/
def Claims.PacketArrival : Prop :=
  ∀ (s : State) (h : PktHdr) (req : BitVec 16) (upto : BitVec 32),
    let n := h.ctx.toNat
    let psn := h.psn.toNat
    let c := s.tpc n
    let d := psnDist c.rxBase psn
    let rx := exec (.sFlush h req upto) s
    let in_ : Prop := c.cached = true ∧ (c.state = 2 ∨ c.state = 3)
    let fresh : Prop := in_ ∧ d < 4096 ∧ psn ∉ c.rxSeen
    let u := c.units 0
    ((c.cached = false ∨ (c.state ≠ 2 ∧ c.state ≠ 3)) → rx = .next ((s.inc (FAB_TP_LATE.COUNT 0)).afterRx n)) ∧
    (in_ → (2 ^ 31 ≤ d ∨ psn ∈ c.rxSeen) →
      rx = .next ((((s.inc (FAB_TP_DUP.COUNT 0)).resendKept n psn).noteArrival n).afterRx n)) ∧
    (in_ → 4096 ≤ d → d < 2 ^ 31 → psn ∉ c.rxSeen → rx = .next ((s.inc (FAB_TP_DUP.COUNT 0)).afterRx n)) ∧
    (fresh → c.knowsGen h.kgen.toNat = false → rx = .next (s.refusePsn h 0x27 u .keyGenGone)) ∧
    (fresh → c.knowsGen h.kgen.toNat = true → c.aes = true → h.auth = false →
      rx = .next ((s.inc (FAB_TP_AUTH_FAIL.COUNT 0)).afterRx n)) ∧
    (fresh → c.knowsGen h.kgen.toNat = true → (c.aes = true → h.auth = true) → s.epochRetired h.epoch.toNat = true →
      rx = .next ((((s.inc (FAB_TP_STALE_TX.COUNT 0)).sendNack n psn .staleMap u)).afterRx n)) ∧
    (s.hearsPsn h 0x27 → rx = .next (((s.heardPsn h 0x27 0).modTpc n (fun c => { c with
      waitF := c.waitF ++ [(psn, req.toNat, upto.toNat)] })).tookPsn h u))

/-- Class C packets (R325, R333, R337, R339, R340): each that passes waits for its turn in PSN order; in its turn a range outside
every region with its key and permission is refused and counted; a STORE or MBOX writes its bytes, an MBOX then rings; a LOAD
answers the value; an ADD or CAS answers the old value and writes the new one. -/
def Claims.ClassCPackets : Prop :=
  ∀ (s : State) (h : PktHdr) (addr : BitVec 44) (key : BitVec 32) (size : BitVec 2) (line good : Bool) (req : BitVec 16)
    (data swap : Word) (source : BitVec 12),
    let n := h.ctx.toNat
    let c := s.tpc n
    let psn := h.psn.toNat
    let waits (k : CPkt) : State :=
      (((s.heardPsn h k.kind 0).modTpc n (fun c => { c with waitC := c.waitC ++ [k] })).markPsn h).afterRx n
    let pkt (kind : Nat) : CPkt := { kind := kind, psn := psn, addr := addr.toNat, key := key.toNat }
    (s.hearsPsn h 0x10 → exec (.cLoad h addr key size line req good) s =
      .next (waits { pkt 0x10 with size := size.toNat, line := line, req := req.toNat, good := good })) ∧
    (s.hearsPsn h 0x11 → exec (.cStore h addr key size data) s =
      .next (waits { pkt 0x11 with size := size.toNat, data := data })) ∧
    (s.hearsPsn h 0x12 → exec (.cAdd h addr key req data good) s =
      .next (waits { pkt 0x12 with req := req.toNat, data := data, good := good })) ∧
    (s.hearsPsn h 0x13 → exec (.cCas h addr key req data swap good) s =
      .next (waits { pkt 0x13 with req := req.toNat, data := data, swap := swap, good := good })) ∧
    (s.hearsPsn h 0x14 → exec (.cMbox h addr key source data) s =
      .next (waits { pkt 0x14 with source := source.toNat, data := data })) ∧
    (∀ k : CPkt, s.regionAt c.part k.addr (if k.kind = 0x10 ∨ k.kind = 0x11 then 2 ^ k.size else 8) k.key
        (if k.kind = 0x10 then 0 else if k.kind = 0x11 ∨ k.kind = 0x14 then 1 else 2) = none →
      s.applyC n k = some ((s.inc (FAB_TP_KEY_MISMATCH.COUNT 0)).refuseC n k .keyMismatch)) ∧
    (∀ (k : CPkt) (r : Nat), k.kind = 0x11 → s.regionAt c.part k.addr (2 ^ k.size) k.key 1 = some r →
      s.writeSrcStatus (s.regionSrc c.part r k.addr) (2 ^ k.size) = .ok → s.applyC n k =
        some ((s.writeSrc (s.regionSrc c.part r k.addr) (leBytes (2 ^ k.size) k.data.toNat)).placed n (c.units 0))) ∧
    (∀ (k : CPkt) (r : Nat), k.kind = 0x14 → s.regionAt c.part k.addr 8 k.key 1 = some r →
      s.writeSrcStatus (s.regionSrc c.part r k.addr) 8 = .ok → s.applyC n k =
        some (((s.writeSrc (s.regionSrc c.part r k.addr) (leBytes 8 k.data.toNat)).placed n (c.units 0)).bell c.part
          k.source)) ∧
    (∀ (k : CPkt) (r : Nat), k.kind = 0x10 → k.line = false → s.regionAt c.part k.addr (2 ^ k.size) k.key 0 = some r →
      let d := s.readSrc (s.regionSrc c.part r k.addr) (2 ^ k.size) k.good
      d.held = false → d.status = .ok → s.applyC n k =
        some ((s.sendReply n k.psn 0x15 [k.req, 0, leNat (d.data.take (2 ^ k.size))] []).placed n (c.units 0))) ∧
    (∀ (k : CPkt) (r : Nat), k.kind = 0x12 ∨ k.kind = 0x13 → s.regionAt c.part k.addr 8 k.key 2 = some r →
      let d := s.readSrc (s.regionSrc c.part r k.addr) 8 k.good
      let old := BitVec.ofNat 64 (leNat d.data)
      let new := if k.kind = 0x12 then old + k.data else if old = k.data then k.swap else old
      d.held = false → d.status = .ok → s.applyC n k = some (((if new = old then s else
        s.writeSrc (s.regionSrc c.part r k.addr) (leBytes 8 new.toNat)).sendReply n k.psn 0x15 [k.req, 0, old.toNat]
          []).placed n (c.units 0)))

/-- Class S requests (R277, R282, R289, R325, R334, R335, R344): an S_WRITE inside a region is placed and noted for its message, one
outside is refused; an S_READ is answered by data that is read as it is sent; an S_ATOM answers the old value; an S_OWN reaches
the anchor; a first S_LAYER opens its inbound entry, moves its record to HANDOVER_IN and is placed. -/
def Claims.ClassSRequests : Prop :=
  ∀ (s : State) (h : PktHdr) (addr : BitVec 44) (off len : BitVec 40) (key tag : BitVec 32) (msg : BitVec 16)
    (inc : BitVec 5) (data : Bytes) (req : BitVec 16) (op : Bool) (x y : Word) (good : Bool) (own : BitVec 2) (id exp new : Word)
    (mir : Bool) (mn : BitVec 14) (mp : BitVec 6) (ep : BitVec 32) (r : Fin 16384) (layer total : BitVec 8)
    (la : BitVec 53) (g : Nat), 1 ≤ data.length → data.length ≤ 4036 →
    let n := h.ctx.toNat
    let c := s.tpc n
    let p := c.part
    let psn := h.psn.toNat
    (let t := s.heardPsn h 0x20 data.length
     let u := s.unitsOf h 0x20 data.length
     let dst := t.regionSrc p g addr.toNat
     s.hearsPsn h 0x20 →
      (t.regionAt p addr.toNat data.length key.toNat 1 = none → exec (.sWrite h addr off len key tag msg inc data) s =
        .next ((t.inc (FAB_TP_KEY_MISMATCH.COUNT 0)).refusePsn h 0x20 u .keyMismatch)) ∧
      (t.regionAt p addr.toNat data.length key.toNat 1 = some g → t.msgRoom n none msg.toNat = false →
        exec (.sWrite h addr off len key tag msg inc data) s =
          .next ((t.inc (FAB_TP_MSG_FULL.COUNT 0)).againPsn h u .refusedFull)) ∧
      (t.regionAt p addr.toNat data.length key.toNat 1 = some g → t.msgRoom n none msg.toNat = true →
        t.writeSrcStatus dst data.length = .ok →
        let m : InMsg := { ctx := n, msg := msg.toNat, part := p, node := c.node, tag := tag.toNat, ctrInc := inc.toNat,
                           len := len.toNat }
        let v := ((t.writeSrc dst data).countRx p data.length).notePiece m off.toNat data.length
        let slot := (addr.toNat - v.barReleaseOff 0) / 8
        let v := if v.mapCurrent && p == mapBarPart v.prt.cur && decide (v.barReleaseOff 0 ≤ addr.toNat) && decide (slot < 64) &&
          data.length == 8 then v.barRelease slot (leNat data) else v
        exec (.sWrite h addr off len key tag msg inc data) s = .next (v.tookPsn h u)) ∧
      (t.regionAt p addr.toNat data.length key.toNat 1 = some g → t.msgRoom n none msg.toNat = true →
        t.writeSrcStatus dst data.length ≠ .ok → exec (.sWrite h addr off len key tag msg inc data) s =
          .next ((t.writeSrc dst data).refusePsn h 0x20 u (t.writeSrcStatus dst data.length)))) ∧
    (let t := s.heardPsn h 0x21 0
     let u := s.unitsOf h 0x21 0
     s.hearsPsn h 0x21 →
      (t.regionAt p addr.toNat len.toNat key.toNat 0 = none → exec (.sRead h addr len key req) s =
        .next ((t.inc (FAB_TP_KEY_MISMATCH.COUNT 0)).refusePsn h 0x21 u .keyMismatch)) ∧
      (t.regionAt p addr.toNat len.toNat key.toNat 0 = some g →
        let d : Send := { ctx := n, kind := 0x22, tk := 4, flds := [req.toNat, 0, len.toNat],
                          src := some (t.regionSrc p g addr.toNat), left := len.toNat }
        exec (.sRead h addr len key req) s = .next ((t.offer d).tookPsn h u))) ∧
    (let t := s.heardPsn h 0x23 0
     let u := s.unitsOf h 0x23 0
     let f (old : Word) : Word := if op then old + y else if old = x then y else old
     s.hearsPsn h 0x23 →
      (t.regionAt p addr.toNat 8 key.toNat 2 = none → exec (.sAtom h addr key req op x y good) s =
        .next ((t.inc (FAB_TP_KEY_MISMATCH.COUNT 0)).refusePsn h 0x23 u .keyMismatch)) ∧
      (∀ v, t.regionAt p addr.toNat 8 key.toNat 2 = some g → t.atomic (t.regionSrc p g addr.toNat) good f = some v →
        let w := v.1.sendReply n psn 0x25 [req.toNat, v.2.1.code, 0, v.2.2.toNat] []
        exec (.sAtom h addr key req op x y good) s = .next ((if w.mapCurrent && p == mapBarPart w.prt.cur then
          w.barRoot addr.toNat else w).tookPsn h u)) ∧
      (t.regionAt p addr.toNat 8 key.toNat 2 = some g → t.atomic (t.regionSrc p g addr.toNat) good f = none →
        exec (.sAtom h addr key req op x y good) s = .next (t.againPsn h u .ctxBusy))) ∧
    (let o : OwnOp := { src := some (n, psn, req.toNat), kind := own.toNat, part := ((s.heardPsn h 0x24 0).tpc n).part,
                        epoch := h.epoch.toNat, req := id, expected := exp, new := new, mirror := mir,
                        mirrorNode := mn.toNat, mirrorPart := mp.toNat }
     s.hearsPsn h 0x24 → own ≠ 3 → exec (.sOwn h req own id exp new mir mn mp) s =
       .next (((s.heardPsn h 0x24 0).ownArrive o).tookPsn h (s.unitsOf h 0x24 0))) ∧
    (let t := s.heardPsn h 0x26 data.length
     let u := s.unitsOf h 0x26 data.length
     let st := t.layerRefusal p id key.toNat ep.toNat r total.toNat
     let dst : Src := { part := some p, addr := tensorAddr 1 la.toNat }
     let l : Option (Nat × Nat × Nat) := some (r.val, ep.toNat, layer.toNat)
     s.hearsPsn h 0x26 →
      (st ≠ .ok → st ≠ .keyMismatch → st ≠ .notOwner →
        exec (.sLayer h id key ep r layer total len la data) s = .next (t.refusePsn h 0x26 u st)) ∧
      (st = .keyMismatch → exec (.sLayer h id key ep r layer total len la data) s =
        .next ((t.inc (FAB_TP_KEY_MISMATCH.COUNT 0)).refusePsn h 0x26 u .keyMismatch)) ∧
      (st = .notOwner → exec (.sLayer h id key ep r layer total len la data) s = .next ((if t.staleLayer ep.toNat r then
        t.inc HEL_STALE_EPOCH.COUNT else t).refusePsn h 0x26 u .notOwner)) ∧
      (∀ v, st = .ok → t.msgRoom n l 0 = true → t.writeSrcStatus dst data.length = .ok →
        t.inboundEntry r p c.node id ep.toNat total.toNat = some v →
        let w := ((v.1.writeSrc dst data).countRx p data.length).add (hoBytes true v.2) data.length
        let w := if w.inState r .admitted then w.setRecState r .handoverIn else w
        let m : InMsg := { ctx := n, layer := l, part := p, node := c.node, len := len.toNat * 64 / total.toNat }
        exec (.sLayer h id key ep r layer total len la data) s =
          .next ((w.notePiece m la.toNat data.length).tookPsn h u)))

/-- Responses (R274, R332, R335 to R338): one that no request waits for is late, counted and recorded; a C_RESP, S_RESP or
S_READ_DATA ends the request it answers, or gathers its data until all of it is there. -/
def Claims.Responses : Prop :=
  ∀ (s : State) (h : PktHdr) (req : BitVec 16) (st : Status) (data : Word) (line : Bytes) (mf : Bool) (off len : BitVec 40)
    (bytes : Bytes) (good : Bool) (r : Req),
    let n := h.ctx.toNat
    let q := req.toNat
    let late (t : State) (kind : Nat) : State :=
      (t.inc (FAB_TP_LATE.COUNT 0)).report { tpReport .ok (some (t.tpc n).part) 0xFF n 0 kind with sev := 0 }
    let t := s.heardPsn h 0x25 0
    let c := s.heardPsn h 0x15 0
    let d := s.heardPsn h 0x22 bytes.length
    let sized : Prop := 1 ≤ bytes.length ∧ bytes.length ≤ 4036
    (s.hearsPsn h 0x25 → t.findReq n q = none → exec (.sResp h req st mf data) s = .next ((late t 0x25).tookPsn h 0)) ∧
    (s.hearsPsn h 0x25 → t.findReq n q = some r →
      exec (.sResp h req st mf data) s = .next ((t.endReq r st data mf).tookPsn h 0)) ∧
    (s.hearsPsn h 0x15 → c.findReq n q = none → exec (.cResp h req st data []) s = .next ((late c 0x15).tookPsn h 0)) ∧
    (s.hearsPsn h 0x15 → c.findReq n q = some r → (c.dropReq r).stillWaits r = true →
      exec (.cResp h req st data []) s = .next (((c.dropReq r).finishReq r st data false).tookPsn h 0)) ∧
    (let c := s.heardPsn h 0x15 64
     ∀ l, s.hearsPsn h 0x15 → line.length = 64 → c.findReq n q = some r → (c.dropReq r).stillWaits r = true → r.line = some l →
      let v := (c.dropReq r).inc (FAB_RLC_MISS.COUNT 0)
      let x : RlcLine := { line := l.1, key := l.2.1, part := l.2.2, data := line }
      exec (.cResp h req .ok data line) s =
        .next (((if r.keep then v.useLine x else v).finishReq r .ok data false).tookPsn h 0)) ∧
    (sized → s.hearsPsn h 0x22 → d.findReq n q = none →
      exec (.sReadData h req off len bytes good) s = .next ((late d 0x22).tookPsn h 0)) ∧
    (sized → s.hearsPsn h 0x22 → d.findReq n q = some r → ∀ i a, r.owner = .wr i → r.dst = some a →
      d.writeSrcStatus (a.plus off.toNat) bytes.length = .ok →
      let v := (d.writeSrc (a.plus off.toNat) bytes).countRx (d.tpc n).part bytes.length
      let w := v.wr (HEL_INFLIGHT_W2.SENT i) (r.got + bytes.length)
      (len.toNat ≤ r.got + bytes.length → exec (.sReadData h req off len bytes good) s =
        .next (((w.dropReq r).readDone i (r.got + bytes.length) good).tookPsn h 0))) ∧
    ((line.length ≠ 0 ∧ line.length ≠ 64) → exec (.cResp h req st data line) s = .fault .illFormed) ∧
    (bytes = [] → exec (.sReadData h req off len bytes good) s = .fault .illFormed)

/-- Control packets (R317, R326, R327, R329 to R331, R338): OPEN is answered, and opens an OPENING context; OPEN_ACK opens one;
CLOSE is answered and closes; CLOSE_ACK closes a CLOSING context; ACK frees what it covers; CREDIT adds the units granted since;
REVOKE has its answer due; REVOKE_ACK brings the units back; KEYCHG and KEYCHG_ACK change the key; INVAL drops the line and is
answered; INVAL_ACK ends the invalidation. One that a cached context cannot be due is late. -/
def Claims.ControlPackets : Prop :=
  ∀ (s : State) (h : PktHdr) (src : BitVec 16) (aes : Bool) (base granted back : BitVec 32) (map addr : BitVec 64)
    (want : BitVec 18) (gen : BitVec 8),
    let n := h.ctx.toNat
    let c := s.tpc n
    let t := s.heardControl h
    let ends : State :=
      (((t.endCtxWork n .linkFailed true false).setClosed n).finishCmd n opClose .ok).finishCmds n .linkFailed
    (s.hearsControl h → c.cached = true →
      (c.state = 1 → src.toNat = c.peerCtx → aes = c.aes → t.rd (FAB_P_CFG.CREDIT_SHARE 0 c.part) ≠ 0 →
        (aes = true ∨ t.sameRack c.node = true) →
        exec (.openPacket h src aes) s = .next ((t.sendExpress n 0x02 [n, b01 aes]).goOpen n)) ∧
      (c.state = 1 → src.toNat = c.peerCtx → aes = c.aes → t.rd (FAB_P_CFG.CREDIT_SHARE 0 c.part) = 0 →
        exec (.openPacket h src aes) s = .next (t.sendNack n 0 .refusedPolicy 0)) ∧
      (c.state = 1 → exec (.openAck h) s = .next (t.goOpen n)) ∧
      (c.state ≠ 1 → exec (.openAck h) s = .next (t.inc (FAB_TP_LATE.COUNT 0))) ∧
      ((c.state = 2 ∨ c.state = 3) → exec (.close h) s = .next (ends.sendExpress n 0x04 [])) ∧
      (c.state = 3 → exec (.closeAck h) s = .next ends) ∧
      (c.state ≠ 3 → exec (.closeAck h) s = .next (t.inc (FAB_TP_LATE.COUNT 0))) ∧
      (exec (.ack h base map) s = .next (((t.tp.sent.filter (fun e => e.send.ctx == n &&
        ackCovers base.toNat map.toNat e.psn)).foldl (fun u e => u.ackOne e) t).modTpc n (fun k =>
          if psnDist k.txBase base.toNat < 2 ^ 31 then { k with txBase := base.toNat } else k))) ∧
      (c.state = 2 →
        let g := t.grant n want.toNat
        exec (.creditReq h want) s = .next (if (g.tpc n).rxGranted = (t.tpc n).rxGranted then
          g.sendExpress n 0x07 [(t.tpc n).rxGranted] else g)) ∧
      (c.state ≠ 2 → exec (.creditReq h want) s = .next t) ∧
      (psnDist c.granted granted.toNat < 2 ^ 31 → exec (.credit h granted) s = .next ((t.setTpc n { c with
        held := c.held + psnDist c.granted granted.toNat, granted := granted.toNat, asked := false }).askCredit n)) ∧
      (exec (.revoke h) s = .next ((t.modTpc n (fun k => { k with returnDue := true })).sendExpress n 0x0A [])) ∧
      (exec (.revokeAck h back) s = .next (t.modTpc n (fun k => { k with out := k.out - back.toNat, revoking := false }))) ∧
      (c.aes = true → c.knowsGen gen.toNat = true → c.txGen ≠ gen.toNat → exec (.keychg h gen) s =
        .next ((t.modTpc n (fun k => { k.switchKey with offered := k.offered })).sendExpress n 0x0C [gen.toNat])) ∧
      ((c.aes = false ∨ c.knowsGen gen.toNat = false) →
        exec (.keychg h gen) s = .next (t.sendNack n 0 .keyGenGone 0)) ∧
      (c.offered = some gen.toNat → exec (.keychgAck h gen) s = .next ((t.modTpc n (fun k =>
        if k.txGen = gen.toNat then { k with offered := none } else k.switchKey)).finishCmd n opSwitch .ok)) ∧
      (exec (.inval h addr) s = .next (t.rxInval n (addr.toNat / 64 * 64))) ∧
      (∀ m, t.tp.msgs.find? (fun m => m.inval == some addr.toNat && m.ctx == n) = some m → m.failed = none →
        exec (.invalAck h addr) s =
          .next { t with tp := { t.tp with msgs := t.tp.msgs.filter (fun x => x.id != m.id) } })) ∧
    (c.cached = false → exec (.openAck h) s = .next (s.inc (FAB_TP_LATE.COUNT 0)) ∧
      exec (.ack h base map) s = .next (s.inc (FAB_TP_LATE.COUNT 0)) ∧
      exec (.credit h granted) s = .next (s.inc (FAB_TP_LATE.COUNT 0))) ∧
    (c.cached = true → c.knowsGen h.kgen.toNat = true → c.aes = true → h.auth = false →
      exec (.revoke h) s = .next (s.inc (FAB_TP_AUTH_FAIL.COUNT 0)))

/-- A NACK gives the packet's units back; CTX_BUSY and REFUSED_FULL send it again, STALE_MAP too, held while the epoch it was sent
under is the current one; any other status fails its message or request (R332, R341). -/
def Claims.NackEffects : Prop :=
  ∀ (s : State) (h : PktHdr) (psn : BitVec 32) (st : Status) (units : BitVec 16) (e : Sent), s.hearsControl h →
    (s.tpc h.ctx.toNat).cached = true →
    let n := h.ctx.toNat
    let t := s.heardControl h
    let u := ((t.noteNack n st e.send.kind).dropSent e).modTpc n (fun c => { c with held := c.held + units.toNat })
    let again (v : State) (held : Option Nat) : State := v.requeue e { e.send with paid := false, heldAt := held }
    (t.findSent n psn.toNat = none →
      exec (.nack h psn st units) s = .next ((t.noteNack n st 0).nackControl n st)) ∧
    (t.findSent n psn.toNat = some e →
      ((st = .ctxBusy ∨ st = .refusedFull) →
        exec (.nack h psn st units) s = .next (again u e.send.heldAt)) ∧
      (st = .staleMap → e.epoch ≠ u.curEpoch → exec (.nack h psn st units) s = .next (again u none)) ∧
      (st = .staleMap → e.epoch = u.curEpoch →
        exec (.nack h psn st units) s = .next (again (u.inc (FAB_TP_STALE_HELD.COUNT 0)) (some e.epoch))) ∧
      (st ≠ .ctxBusy → st ≠ .refusedFull → st ≠ .staleMap → st ≠ .keyGenGone →
        exec (.nack h psn st units) s = .next (u.failSend e.send st)) ∧
      (st = .keyGenGone → exec (.nack h psn st units) s =
        .next ((u.report (tpReport st (some (u.tpc n).part) 0xFF n 0 e.send.kind)).failSend e.send st)))

/-- Connection commands (Table 15-1, R316 to R319, R342, R419): a CREATE that its checks allow makes the context OPENING, with OPEN
sent or its key asked for; CLOSE of an OPEN one makes it CLOSING; QUERY answers its state; PIN, UNPIN, KEY_INSTALL, KEY_SWITCH
and RESET act in the states that allow them; a command its agent may not give, or its state does not allow, has
REFUSED_POLICY. -/
def Claims.ConnectionCommands : Prop :=
  ∀ (s : State) (a : Agent) (k : BitVec 16) (p : Fin 64), s.anyReady .FAB →
    let n := k.toNat
    let c := s.tpc n
    let own := s.ctxOwner n
    let part := (s.actingPart a p).getD p
    let may := s.mayCtx a own = true
    let refused : State := s.tpResult a.code .refusedPolicy
    let busy (t : State) : State := t.wrPriv a.code (FAB_TP_RESULT.BUSY 0) 1
    let node := s.rd (FAB_CTX_ARG.PEER_NODE 0)
    let aes := s.on (FAB_CTX_ARG.CIPHER 0)
    let st := s.createStatus n part node (s.rd (FAB_CTX_ARG.PEER_PART 0)) aes
    let new : TpCtx := { state := 1, part := part, node := node, peerPart := s.rd (FAB_CTX_ARG.PEER_PART 0),
                         peerCtx := s.rd (FAB_CTX_ARG.PEER_CTX 0), aes := aes }
    (s.mayWritePart a part = true → st ≠ .ok → exec (.ctxCreate a k p) s = .next (s.tpResult a.code st)) ∧
    (∀ t, s.mayWritePart a part = true → st = .ok → (s.setTpc n new).makeFrame = some t →
      let u := ((t.setCached n true).touch n).waitCmd a n opCreate
      exec (.ctxCreate a k p) s = .next (busy (if aes = true then { u with tp := { u.tp with
        derives := u.tp.derives ++ [(n, true)], serials := Tab.put (fun _ => 0) u.tp.serials n (u.rd VES_STATE.FKR_CUR + 1) } }
        else u.sendOpen n))) ∧
    (may = false → exec (.ctxClose a k) s = .next ((s.refuseWrite a .FAB 0).tpResult a.code .refusedPolicy)) ∧
    (may → c.state = 2 → exec (.ctxClose a k) s = .next (busy ((((s.modTpc n (fun c =>
      { c with state := 3, tries := 0 })).revoke n).sendExpress n 0x03 []).waitCmd a n opClose))) ∧
    (may → c.state ≠ 2 → exec (.ctxClose a k) s = .next refused ∧ exec (.ctxKeyInstall a k) s = .next refused ∧
      exec (.ctxKeySwitch a k) s = .next refused) ∧
    (may → exec (.ctxQuery a k) s = .next ((((((s.wrPriv a.code (FAB_TP_RESULT.STATE 0) c.state).wrPriv a.code
      (FAB_TP_RESULT.CACHED 0) (b01 c.cached)).wrPriv a.code (FAB_TP_RESULT.PINNED 0) (b01 c.pinned)).wrPriv a.code
      (FAB_TP_RESULT.TX_GEN 0) c.txGen).wrPriv a.code (FAB_TP_RESULT.OLD_GEN 0)
      (if c.oldLive = false then 0 else if c.txSlot = 0 then c.keyB.gen else c.keyA.gen)).tpResult a.code .ok)) ∧
    (may → c.state = 2 → c.aes = true → c.otherKey.held = false → c.txGen < 255 → (∀ d ∈ s.tp.derives, d.1 ≠ n) →
      exec (.ctxKeyInstall a k) s = .next (busy (State.waitCmd
        { s with tp := { s.tp with derives := s.tp.derives ++ [(n, false)] } } a n opInstall))) ∧
    (may → c.state = 2 → c.aes = true → c.oldLive = false → c.otherKey.held = true → c.offered = none →
      exec (.ctxKeySwitch a k) s = .next (busy (((s.setTpc n { c with offered := some c.otherKey.gen }).sendExpress n 0x0B
        [c.otherKey.gen]).waitCmd a n opSwitch))) ∧
    (may → c.pinned = true → exec (.ctxPin a k) s = .next (s.tpResult a.code .ok)) ∧
    (may → c.pinned = false → c.state ≠ 0 → s.rd (FAB_CTX_STATE.PINNED 0) < 2048 → exec (.ctxPin a k) s =
      .next ((((s.modTpc n (fun c => { c with pinned := true })).wr (FAB_CTX_STATE.PINNED 0)
        (s.rd (FAB_CTX_STATE.PINNED 0) + 1)).startFetch n).tpResult a.code .ok)) ∧
    (may → c.pinned = false → (c.state = 0 ∨ 2048 ≤ s.rd (FAB_CTX_STATE.PINNED 0)) →
      exec (.ctxPin a k) s = .next refused) ∧
    (may → exec (.ctxUnpin a k) s = .next ((s.unpin n).tpResult a.code .ok)) ∧
    (may → c.state = 4 → exec (.ctxReset a k) s =
      .next (((s.endCtxWork n .abandoned true true).setClosed n).tpResult a.code .ok)) ∧
    (may → c.state ≠ 4 → exec (.ctxReset a k) s = .next refused)

/-- Transport timers and fetches (R320, R321, R327, R330 to R332, R418): a derived key lets its CREATE or KEY_INSTALL go on, and
waits while the vestibule restarts; a packet past its time is sent again, a class S one past RETRIES fails; a class S request
without a response fails; held packets go out again; an idle context's credit is revoked; an ACK is sent where one is due; a
fetched context is cached, or FAILED where its seal does not hold. -/
def Claims.TransportTimers : Prop :=
  ∀ (s : State) (k req : BitVec 16) (psn : BitVec 32),
    let n := k.toNat
    let c := s.tpc n
    let idle := s.rd (FAB_TP_POOL.IDLE_REVOKE 0)
    let due (x : Send) : Bool := x.ctx == n && x.heldAt != some s.curEpoch
    (s.tp.derives.find? (fun d => d.1 == n) = none → exec (.connKeyInstallDone k) s = .next s) ∧
    (∀ d, s.tp.derives.find? (fun d => d.1 == n) = some d →
      let t : State := { s with tp := { s.tp with derives := s.tp.derives.erase d } }
      (s.on VES_STATE.RESTARTING = true → exec (.connKeyInstallDone k) s = .next s) ∧
      (s.on VES_STATE.RESTARTING = false → d.2 = true → exec (.connKeyInstallDone k) s =
        .next ((t.modTpc n (fun c => { c with keyA := { held := true, gen := 1 } })).sendOpen n)) ∧
      (s.on VES_STATE.RESTARTING = false → d.2 = false → exec (.connKeyInstallDone k) s =
        .next ((t.modTpc n (fun c => c.setOther { held := true, gen := c.txGen + 1 })).finishCmd n opInstall .ok))) ∧
    (∀ e, s.findSent n psn.toNat = some e →
      let past : Prop := 0x20 ≤ e.send.kind ∧ s.rd (FAB_TP_CFG.RETRIES 0) ≤ e.send.timeouts
      (past → exec (.packetResendTimeout k psn) s = .next ((s.dropSent e).failSend e.send .linkFailed)) ∧
      (¬ past → exec (.packetResendTimeout k psn) s = .next (s.resend e (e.send.timeouts + 1)))) ∧
    (s.findReq n req.toNat = none → exec (.sResponseTimeout k req) s = .next s) ∧
    (∀ r, s.findReq n req.toNat = some r → classCReq r.kind = false →
      exec (.sResponseTimeout k req) s = .next ((s.dropPackets r).endReq r .linkFailed 0 false)) ∧
    (exec (.busyRetryExpiry k) s = .next { s with tp := { s.tp with
      express := s.tp.express ++ s.tp.busy.filter due, busy := s.tp.busy.filter (fun x => !due x) } }) ∧
    (c.state = 2 → c.cached = true → idle ≠ 0 → c.lastArrival + idle ≤ s.mer →
      exec (.idleRevokeTimeout k) s = .next (s.revoke n)) ∧
    ((c.state ≠ 2 ∨ c.cached = false ∨ idle = 0 ∨ s.mer < c.lastArrival + idle) →
      exec (.idleRevokeTimeout k) s = .next s) ∧
    (c.arrivals = 0 → exec (.ackSend k) s = .next s) ∧ (c.arrivals ≠ 0 → exec (.ackSend k) s = .next (s.sendAck n)) ∧
    (n ∉ s.tp.fetching → ∀ good, exec (.ctxFetchDone k good) s = .next s) ∧
    (n ∈ s.tp.fetching → exec (.ctxFetchDone k false) s =
      .next (State.failCtx { s with tp := { s.tp with fetching := s.tp.fetching.erase n } } n .uncorrected)) ∧
    (∀ t, n ∈ s.tp.fetching → s.accessStatus (s.backingAt n) 256 = .ok → s.makeFrame = some t →
      let u : State := { t with tp := { t.tp with fetching := t.tp.fetching.erase n,
                                                  misses := t.tp.misses.filter (fun m => m.ctx != n) } }
      exec (.ctxFetchDone k true) s = .next (((t.tp.misses.filter (fun m => m.ctx == n)).foldl (fun v m => v.rxMiss m)
        (((u.setCached n true).touch n).countTp)).askCredit n))

/-- Regions and the remote-line cache: ADD of a descriptor that passes its checks writes the entry, and any other has its status;
REMOVE clears it; a flush drops every line of the partition and no other (R324, R338). -/
def Claims.RegionsAndLines : Prop :=
  ∀ (s : State) (a : Agent) (p : Fin 64) (i : Fin 256) (d : BitVec 48), s.anyReady .FAB →
    let ws := s.words d.toNat 4
    let clear (t : State) (ws : List Word) : State := (((t.setReg (FAB_RGN_W0.BASE 0 p i).off (ws.getD 0 0)).setReg
      (FAB_RGN_W1.LEN 0 p i).off (ws.getD 1 0)).setReg (FAB_RGN_W2.TARGET 0 p i).off (ws.getD 2 0)).setReg
      (FAB_RGN_W3.KEY 0 p i).off (ws.getD 3 0)
    (s.mayWritePart a p = true → s.accessStatus d.toNat 32 = .ok →
      (d.toNat % 32 = 0 → s.regionCheck p i ws = .ok → exec (.rgnAdd a p i d) s =
        .next ((clear s (ws.set 0 (setBits (ws.getD 0 0) 63 1 1))).tpResult a.code .ok)) ∧
      (d.toNat % 32 = 0 → s.regionCheck p i ws ≠ .ok → exec (.rgnAdd a p i d) s =
        .next (s.tpResult a.code (s.regionCheck p i ws))) ∧
      (d.toNat % 32 ≠ 0 → exec (.rgnAdd a p i d) s = .next (s.tpResult a.code .badLength))) ∧
    (s.mayWritePart a p = true → exec (.rgnRemove a p i) s = .next ((clear s []).tpResult a.code .ok)) ∧
    (s.mayWritePart a p = false → exec (.rgnAdd a p i d) s = .next ((s.refuseWrite a .FAB 0).tpResult a.code .refusedPolicy) ∧
      exec (.rgnRemove a p i) s = .next ((s.refuseWrite a .FAB 0).tpResult a.code .refusedPolicy)) ∧
    (s.mayWriteDevice a = true → exec (.rlcFlush a p) s =
      .next { s with tp := { s.tp with rlc := s.tp.rlc.filter (fun l => l.part != p.val) } }) ∧
    (s.mayWriteDevice a = false → exec (.rlcFlush a p) s = .next (s.refuseWrite a .FAB 0))

/-! ## The orrery and the host interface -/

/-- The orrery's two rates and its choice (R345, R347, R349, R351): the wheel passes to the next slot and in WHEEL its owner has the
slot grant, up to its cap; BUCKET adds nothing while the wheel is in force; a port that cannot send leaves the state, one with
nothing to send starts IDLE, an express packet that may go goes first, and otherwise the chosen packet starts; an allowance never
rises above its cap. -/
def Obligations.OrreryScheduling : Prop :=
  ∀ (s : State) (f : Fin 4) (good : Bool),
    let k := s.rd ORR_STATE.SLOT
    let t := s.addMod ORR_STATE.SLOT 1
    let c := s.choosePorts
    let room : Prop := (c.orrPort f).starts.count true < c.rd ORR_CFG.EXPRESS_MAX
    let frac (u : State) (p : Nat) : Nat := Tab.get (fun _ => 0) u.orr.frac p + u.rd (ORR_P_BUCKET.RATE p)
    (t.wheel = true → ∀ p, t.slotOwner k = some p → exec .wheelSlot s = .next (t.fill p t.slotGrant)) ∧
    ((t.wheel = false ∨ t.slotOwner k = none) → exec .wheelSlot s = .next t) ∧
    (s.wheel = true → exec .bucketFill s = .next s) ∧
    (s.wheel = false → exec .bucketFill s = .next ((List.range 64).foldl (fun u p => State.fill { u with orr :=
      { u.orr with frac := Tab.put (fun _ => 0) u.orr.frac p (frac u p % 1350) } } p (frac u p / 1350 : Nat)) s)) ∧
    (s.canSend f = false → exec (.portBlockStart f good) s = .next s) ∧
    (∀ x, s.canSend f = true → room → c.nextExpress f = some x →
      exec (.portBlockStart f good) s = .next (c.startExpress f x)) ∧
    (∀ e o, s.canSend f = true → (¬ room ∨ c.nextExpress f = none) → c.chooseIn f (c.pool f false) = some (e, o) →
      exec (.portBlockStart f good) s = .next (c.startPacket f e.1 (clearDeficits (c.pool f false) o) false good)) ∧
    (∀ e o, s.canSend f = true → (¬ room ∨ c.nextExpress f = none) → c.chooseIn f (c.pool f false) = none →
      c.chooseIn f (c.pool f true) = some (e, o) →
      exec (.portBlockStart f good) s = .next (c.startPacket f e.1 (clearDeficits (c.pool f true) o) true good)) ∧
    (s.canSend f = true → (¬ room ∨ c.nextExpress f = none) → c.chooseIn f (c.pool f false) = none →
      c.chooseIn f (c.pool f true) = none → exec (.portBlockStart f good) s = .next (c.noteStart f false)) ∧
    (∀ (p : Nat) (v : Int), s.allowance p ≤ s.burst s.wheel p → -(2 ^ 31) ≤ s.allowance p + v → 0 ≤ v → p < 64 →
      (s.fill p v).allowance p ≤ s.burst s.wheel p)

/-- The states of a host port (R366 to R368): a trained link brings a DOWN port of a READY block UP with its heartbeat noted; a link
that goes down resets its functions and the rings of its partitions; a function reset resets its functions and their rings; a
heartbeat is noted, and brings a LOST port back; a heartbeat that is overdue makes an UP port LOST. -/
def Claims.HostPorts : Prop :=
  ∀ (s : State) (a : Agent) (x : Port) (speed : Fin 7) (width : Fin 9) (v : Fin 32),
    let up := (((s.wr (HIF_LINK.SPEED x.num) speed).wr (HIF_LINK.WIDTH x.num) width).wr (HIF_LINK.FLIT x.num)
      (b01 (speed == 6))).wr (HIF_LINK.DL_UP x.num) 1
    let down := ((((s.setReg (HIF_LINK.SPEED x.num).off 0).resetFns x (fun _ => true)).resetPortRings x).inc
      (HIF_LINK_DOWNS.COUNT x.num)).setPortState x 0
    let st := s.portState x
    let hb := s.wr (HIF_PORT_STATE.LAST_HB x.num) s.mer32
    let ms := s.rd (HIF_CFG.HB_TIMEOUT_MS x.num)
    let passed := (s.mer32 + 2 ^ 32 - s.rd (HIF_PORT_STATE.LAST_HB x.num)) % 2 ^ 32 + 1
    (st = 0 → s.ready .HIF x.num = true → exec (.hostPortLinkUp x speed width) s =
      .next ((up.wr (HIF_PORT_STATE.LAST_HB x.num) up.mer32).setPortState x 1)) ∧
    ((st ≠ 0 ∨ s.ready .HIF x.num = false) → exec (.hostPortLinkUp x speed width) s = .next s) ∧
    (st ≠ 0 → exec (.hostPortLinkDown x) s = .next down ∧
      exec (.pfFlr x) s = .next ((s.resetFns x (fun _ => true)).resetPortRings x)) ∧
    (st = 0 → exec (.hostPortLinkDown x) s = .next s ∧ exec (.pfFlr x) s = .next s ∧ exec (.vfFlr x v) s = .next s) ∧
    (∀ p, st ≠ 0 → s.vfPart x v = some p →
      exec (.vfFlr x v) s = .next ((s.resetFns x (fun fn => fn == v.val + 1)).resetRings p)) ∧
    (st ≠ 0 → s.vfPart x v = none → exec (.vfFlr x v) s = .next (s.resetFns x (fun fn => fn == v.val + 1))) ∧
    (s.ready .HIF x.num = true → (a = .pf x ∨ s.mayWriteDevice a = true) → hb.portState x ≠ 2 →
      exec (.hifHeartbeat a x) s = .next hb) ∧
    (s.ready .HIF x.num = true → (a = .pf x ∨ s.mayWriteDevice a = true) → hb.portState x = 2 →
      exec (.hifHeartbeat a x) s = .next (hb.setPortState x 1)) ∧
    (s.ready .HIF x.num = true → a ≠ .pf x → s.mayWriteDevice a = false →
      exec (.hifHeartbeat a x) s = .next (s.refuseWrite a .HIF x.num)) ∧
    (st = 1 → ms ≠ 0 → 1000 * ms ≤ merLenUs s.merLen * passed → exec (.heartbeatTimeout x) s = .next (s.setPortState x 2)) ∧
    ((st ≠ 1 ∨ ms = 0 ∨ merLenUs s.merLen * passed < 1000 * ms) → exec (.heartbeatTimeout x) s = .next s)

/-- Re-binding (R370, R371): a PF may re-bind a partition it has, or one of a port that is lost, once at a time; REBIND_ALL and
TAKE_PRIMARY need the other port lost, GIVE_PRIMARY its own primacy; the outcome is the agent's result, REFUSED_POLICY where the
rule does not hold; a landing applies every pending re-bind, and its partition has the other port. -/
def Claims.Rebinding : Prop :=
  ∀ (s : State) (x : Port) (p : Fin 64) (v : Fin 32), s.anyReady .HIF →
    let a := Agent.pf x
    let lost := s.portState x.other ≠ 1
    let mine : Prop := s.rebindPending p = false ∧ (s.portOf p = x ∨ lost)
    let refused (op : Nat) : State := s.rebindResult a op .refusedPolicy
    (mine → exec (.rebind a p) s = .next ((s.pendRebind p).rebindResult a 1 .ok)) ∧
    (¬ mine → exec (.rebind a p) s = .next (refused 1)) ∧
    (lost → exec (.rebindAll a) s = .next ((((s.boundTo x.other).filter (fun q => !s.rebindPending q)).foldl
      (fun t q => t.pendRebind q) s).rebindResult a 2 .ok)) ∧
    (¬ lost → exec (.rebindAll a) s = .next (refused 2)) ∧
    (s.primary = x.other → lost → exec (.takePrimary a) s = .next ((s.setPrimary x).rebindResult a 3 .ok)) ∧
    ((s.primary ≠ x.other ∨ ¬ lost) → exec (.takePrimary a) s = .next (refused 3)) ∧
    (s.primary = x → exec (.givePrimary a) s = .next ((s.setPrimary x.other).rebindResult a 4 .ok)) ∧
    (s.primary ≠ x → exec (.givePrimary a) s = .next (refused 4)) ∧
    (exec (.rebind (.vf x v) p) s =
      .next ((s.refuseWrite (.vf x v) .HIF 0).rebindResult (.vf x v) 1 .refusedPolicy)) ∧
    (s.inLanding = true → exec .rebindApply s =
      .next (((List.range 64).filter (fun q => s.rebindPending q)).foldl (fun t q => t.applyRebind q) s)) ∧
    (s.inLanding = false → exec .rebindApply s = .next s) ∧
    ((s.setPrimary x).primary = x) ∧
    ((s.pendRebind p).rebindPending p = true)

/-- MSI-X and configuration (R366): the oldest delivery is sent, held while its function or vector blocks it, or not sent for want of
the vector; a held one goes once nothing blocks it; a configuration write sets its function's field, in a port that is not DOWN.
A read that times out marks the port once (R359). -/
def Claims.MsixAndConfig : Prop :=
  ∀ (s : State) (i : Nat) (m : Msix) (ms : List Msix) (x : Port) (fn : Fin 33) (b : Bool) (n : Fin 64) (k : Fin 2048),
    let q : State := { s with hif := { s.hif with msixQueue := ms } }
    let y := s.portOf m.part
    let g := s.servingFn m.part
    let sent (t : State) : State := (t.emit (.msix y g m.vector)).inc (HIF_MSIX_SENT.COUNT y.num)
    let free : State := { s with hif := { s.hif with held := s.hif.held.eraseIdx i } }
    let f := s.fn x fn
    (s.hif.msixQueue = [] → exec .msixSend s = .next s) ∧
    (s.hif.msixQueue = m :: ms →
      (fnVectors g ≤ m.vector → exec .msixSend s = .next (q.inc (HIF_MSIX_BAD_VEC.COUNT y.num))) ∧
      (m.vector < fnVectors g → s.msixBlocked y g m.vector = true →
        exec .msixSend s = .next { q with hif := { q.hif with held := q.hif.held ++ [m] } }) ∧
      (m.vector < fnVectors g → s.msixBlocked y g m.vector = false → exec .msixSend s = .next (sent q))) ∧
    (s.hif.held[i]? = none → exec (.msixHeldRelease i) s = .next s) ∧
    (s.hif.held[i]? = some m →
      (m.vector < fnVectors g → s.msixBlocked y g m.vector = true → exec (.msixHeldRelease i) s = .next s) ∧
      (m.vector < fnVectors g → s.msixBlocked y g m.vector = false → exec (.msixHeldRelease i) s = .next (sent free)) ∧
      (fnVectors g ≤ m.vector → exec (.msixHeldRelease i) s = .next (free.inc (HIF_MSIX_BAD_VEC.COUNT y.num)))) ∧
    (s.portState x = 0 → ∀ w, exec (.configSpaceWrite x fn w) s = .next s) ∧
    (s.portState x ≠ 0 →
      exec (.configSpaceWrite x fn (.power b)) s = .next (s.setFn x fn { f with d3hot := b }) ∧
      exec (.configSpaceWrite x fn (.busMaster b)) s = .next (s.setFn x fn { f with busMaster := b }) ∧
      exec (.configSpaceWrite x fn (.msixEnable b)) s = .next (s.setFn x fn { f with msixEnable := b }) ∧
      exec (.configSpaceWrite x fn (.msixMask b)) s = .next (s.setFn x fn { f with msixMask := b }) ∧
      (k.val < fnVectors fn → exec (.configSpaceWrite x fn (.vectorMask k b)) s = .next { s with hif := { s.hif with
        unmasked := Tab.put (fun _ => false) s.hif.unmasked (fnKey x fn * 2048 + k.val) (!b) } }) ∧
      (fn.val = 0 → 30 ≤ n.val → n.val ≤ 39 → exec (.configSpaceWrite x fn (.barSize n)) s =
        .next (s.setFn x fn { f with bar2Log2 := n }))) ∧
    (s.portUp x = true → x ∉ s.hif.timeouts → exec (.pcieCompletionTimeout x) s =
      .next { s with hif := { s.hif with timeouts := x :: s.hif.timeouts } }) ∧
    ((s.portUp x = false ∨ x ∈ s.hif.timeouts) → exec (.pcieCompletionTimeout x) s = .next s)

/-- Accesses through BAR2 and the DOE mailboxes (R359, R364, R372): a closed segment and an unmapped function answer Unsupported
Request; an access inside a virtual function's grant, or of the physical function to memory, is served; one outside the grant has
Completer Abort; an object enters an empty mailbox once the vestibule has booted, one too long sets DOE Error, and Abort discards
it. -/
def Claims.WindowsAndMailboxes : Prop :=
  ∀ (s : State) (x : Port) (fn : Fin 33) (off : BitVec 39) (write : Bool) (len : Nat) (data : Bytes) (ue : Bool) (kind : Fin 3)
    (k : BitVec 20) (part dpa : Nat),
    let n := if write then data.length else len
    let runs := exec (.bar2Access x fn off write len data ue) s
    let live : Prop := s.portState x ≠ 0 ∧ (s.fn x fn).d3hot = false ∧ off.toNat + n ≤ 2 ^ s.barLog2 x fn
    let ur : State := if write then s.inc (HIF_UR_SENT.COUNT x.num) else
      (s.inc (HIF_UR_SENT.COUNT x.num)).emit (.completion x 1 0)
    let busy := s.hif.doe.any (fun o => o.port == x)
    (¬ live → runs = .next s) ∧
    (live → s.window x fn off.toNat = none → runs = .next ur) ∧
    (live → fn.val ≠ 0 → s.vfPart x (fn.val - 1) = none → runs = .next ur) ∧
    (live → fn.val ≠ 0 → s.vfPart x (fn.val - 1) = some part → s.window x fn off.toNat = some dpa →
      (s.inGrant part dpa n = true → s.hostReserved dpa n = false →
        runs = .next (s.serveHost x (some part) dpa write n data ue)) ∧
      (s.inGrant part dpa n = false → runs = .next (if write then s.inc (HIF_CA_SENT.COUNT x.num) else
        (s.inc (HIF_CA_SENT.COUNT x.num)).emit (.completion x 2 0)))) ∧
    (live → fn.val = 0 → s.window x fn off.toNat = some dpa →
      (s.hostReserved dpa n = false → (write = false ∨ dpaKind dpa ≠ .record) →
        runs = .next (s.serveHost x none dpa write n data ue)) ∧
      (s.hostReserved dpa n = false → write = true → dpaKind dpa = .record → runs = .next s)) ∧
    (s.serveHost x none dpa true n data ue = s.devWrite (memReport 3 x.num 0xFF none dpa) dpa data) ∧
    (s.accessStatus dpa n = .ok → s.serveHost x none dpa false n data false =
      s.emit (.completion x 0 (leNat (s.bytes dpa n)))) ∧
    ((s.portUp x = false ∨ s.rd VES_STATE.STEP ≠ 6 ∨ busy = true) → exec (.doeObject x kind k) s = .next s) ∧
    (s.portUp x = true → s.rd VES_STATE.STEP = 6 → busy = false →
      (16384 < k.toNat → exec (.doeObject x kind k) s = .next { s with hif := { s.hif with
        doeError := Tab.put (fun _ => false) s.hif.doeError x.num true } }) ∧
      (k.toNat ≤ 16384 → kind = 0 → exec (.doeObject x kind k) s =
        .next ((s.inc (HIF_DOE_OBJECTS.COUNT x.num)).emit (.answer x.num 0 []))) ∧
      (k.toNat ≤ 16384 → kind ≠ 0 →
        let o : DoeObject := { port := x, kind := kind, len := k.toNat }
        exec (.doeObject x kind k) s = .next { s with hif := { s.hif with doe := s.hif.doe ++ [o] },
                                                      ves := { s.ves with queue := s.ves.queue ++ [.doe x] } })) ∧
    (exec (.doeAbort x) s = .next { s with
      hif := { s.hif with doeError := Tab.put (fun _ => false) s.hif.doeError x.num false,
                          doe := s.hif.doe.filter (fun o => o.port != x) },
      ves := { s.ves with queue := s.ves.queue.filter (fun q => q != .doe x) } })

/-! ## The doorbell hall, partitions and maps -/

/-- Rings and their delivery (R378 to R384, Table 18-2, Table 18-3): a ring that a check ends is ignored and counted with its reason;
one that passes sets its pending bit; in QUIET an unblocked target delivers at once, in HOLDOFF it is HELD unless IDLE lets it
through; a delivery clears IDLE, counts, and moves to HOLDOFF with the timer running, or to QUIET where MOD is 0. -/
def Claims.DoorbellRings : Prop :=
  ∀ (s : State) (a : Agent) (t : Fin 512) (w : Word) (src part : Nat),
    let st := s.rd (DBH_T_STATE.STATE t)
    let ok : Prop := s.ready .DBH 0 = true ∧ s.mayWriteTarget a t = true
    (exec (.doorbellRing .unit t w) s = .next ((s.ring none true (getBits w 16 6) (getBits w 0 12)).settleReports)) ∧
    (ok → (∀ x v, a ≠ .vf x v) → exec (.doorbellRing (.agent a) t w) s =
      .next ((s.ring (some t) (wordReserved w) (getBits w 16 6) (getBits w 0 12)).settleReports)) ∧
    (∀ x v, a = .vf x v → ok → exec (.doorbellRing (.agent a) t w) s =
      .next ((s.ring (some t) (wordReserved w) (t / 8) (getBits w 0 12)).settleReports)) ∧
    (s.ready .DBH 0 = true → s.mayWriteTarget a t = false →
      exec (.doorbellRing (.agent a) t w) s = .next (s.refuseWrite a .DBH 0)) ∧
    (s.ready .DBH 0 = false → exec (.doorbellRing (.agent a) t w) s = .next (s.countRefused .DBH 0)) ∧
    (wordReserved w = false → s.ring (some t) (wordReserved w) part src = s.ignoreRing (some t) part src 5) ∧
    (s.on (DBH_SOURCE.ACTIVE src) = false → s.ring none true part src = s.ignoreRing none part src 1) ∧
    (s.on (DBH_SOURCE.ACTIVE src) = true → s.rd (DBH_SOURCE.PART src) ≠ part →
      s.ring none true part src = s.ignoreRing none part src 2) ∧
    (st = 0 → s.targetBlocked t = false → s.freshRing t = s.deliver t) ∧
    (st = 0 → s.targetBlocked t = true → s.freshRing t = s.wr (DBH_T_STATE.STATE t) 2) ∧
    (st = 1 → s.on (DBH_T_IDLE.IDLE t) = true → s.targetBlocked t = false →
      s.freshRing t = (s.deliver t).inc (DBH_T_BYPASSES.COUNT t)) ∧
    (st = 1 → (s.on (DBH_T_IDLE.IDLE t) = false ∨ s.targetBlocked t = true) →
      s.freshRing t = s.wr (DBH_T_STATE.STATE t) 2) ∧
    (st = 2 → s.freshRing t = s) ∧
    (let d := s.deliver t
     let mod := s.rd (DBH_T_CFG.MOD t)
     s.rd (DBH_T_CFG.KIND t) = 0 → d.rd (DBH_T_STATE.STATE t) = (if mod = 0 then 0 else 1) ∧
       d.rd (DBH_T_IDLE.IDLE t) = 0 ∧ d.timerRuns t = (if mod = 0 then false else true) ∧ d.mem = s.mem ∧
       d.hif.msixQueue = s.hif.msixQueue ++ [{ target := t, part := t / 8, vector := s.rd (DBH_T_CFG.VECTOR t) }])

/-- Pending words, IDLE and moderation (R381, R382, R384): W1C clears the bits written, and the word's SUMMARY bit where none is left;
IDLE 1 delivers a HELD target at once; a timer that expires ends HOLDOFF, or delivers a HELD target; a HELD target whose timer
does not run delivers once it is no longer blocked. -/
def Claims.DoorbellTargets : Prop :=
  ∀ (s : State) (a : Agent) (t : Fin 512) (k : Fin 64) (bits : Word) (v : Bool),
    let st := s.rd (DBH_T_STATE.STATE t)
    let ok : Prop := s.ready .DBH 0 = true ∧ s.mayWriteTarget a t = true
    let f := DBH_T_PENDING.BITS t k
    let left := s.reg f.off &&& ~~~bits
    let now (u : State) : State := (u.deliver t).settleReports
    let idle := s.wr (DBH_T_IDLE.IDLE t) (b01 v)
    let stop := s.setTimer t false
    (ok → left ≠ 0 → exec (.pendingWordClear a t k bits) s = .next (s.setReg f.off left)) ∧
    (ok → left = 0 → exec (.pendingWordClear a t k bits) s = .next ((s.setReg f.off left).wr (DBH_T_SUMMARY.WORDS t)
      (withoutBit ((s.setReg f.off left).rd (DBH_T_SUMMARY.WORDS t)) k))) ∧
    (s.ready .DBH 0 = true → s.mayWriteTarget a t = false →
      exec (.pendingWordClear a t k bits) s = .next (s.refuseWrite a .DBH 0) ∧
      exec (.targetIdleWrite a t v) s = .next (s.refuseWrite a .DBH 0)) ∧
    (ok → v = true → idle.rd (DBH_T_STATE.STATE t) = 2 → idle.targetBlocked t = false →
      exec (.targetIdleWrite a t v) s = .next ((now idle).inc (DBH_T_BYPASSES.COUNT t))) ∧
    (ok → (v = false ∨ idle.rd (DBH_T_STATE.STATE t) ≠ 2 ∨ idle.targetBlocked t = true) →
      exec (.targetIdleWrite a t v) s = .next idle) ∧
    (s.timerRuns t = false → exec (.moderationTimerExpire t) s = .next s) ∧
    (s.timerRuns t = true → st = 1 → exec (.moderationTimerExpire t) s = .next (stop.wr (DBH_T_STATE.STATE t) 0)) ∧
    (s.timerRuns t = true → st = 2 → s.targetBlocked t = false → exec (.moderationTimerExpire t) s = .next (now stop)) ∧
    (s.timerRuns t = true → st ≠ 1 → (st ≠ 2 ∨ s.targetBlocked t = true) →
      exec (.moderationTimerExpire t) s = .next stop) ∧
    (st = 2 → s.timerRuns t = false → s.targetBlocked t = false → exec (.deliveryUnblock t) s = .next (now s)) ∧
    ((st ≠ 2 ∨ s.timerRuns t = true ∨ s.targetBlocked t = true) → exec (.deliveryUnblock t) s = .next s)

/-- Role changes (Table 19-3, R391, R392): SET of another role starts the drain; of the same role, or during a drain, it is refused;
CANCEL ends a drain with PARTIAL; at a landing with every drain condition met the role changes and is counted; past the limit,
with one not met, the drain ends with PARTIAL. -/
def Claims.RoleChanges : Prop :=
  ∀ (s : State) (a : Agent) (p : Fin 64) (role : Fin 8),
    let ok : Prop := s.ready .PRT p = true ∧ s.mayWriteDevice a = true
    let drains := s.on (PRT_ROLE.DRAINING p)
    let refused := s.wr (PRT_ROLE.LAST_STATUS p) 0x11
    let limit := s.rd (PRT_ROLE_CFG.DRAIN_LIMIT p)
    let due := Tab.get (fun _ => 0) s.prt.drainFrom p + limit
    (ok → role.val ≤ 4 → drains = false → s.role p ≠ role.val → exec (.roleSet a p role) s =
      .next ((((((s.wr (PRT_ROLE.NEXT p) role).wr (PRT_ROLE.DRAINING p) 1).setDrainFrom p (s.mer + 1))).wr
        (PRT_ROLE.LAST_STATUS p) 0).roleBell p)) ∧
    (ok → role.val ≤ 4 → (drains = true ∨ s.role p = role.val) → exec (.roleSet a p role) s = .next refused) ∧
    (ok → 4 < role.val → exec (.roleSet a p role) s = .next (s.wr (PRT_ROLE.LAST_STATUS p) 0x22)) ∧
    (ok → drains = true → exec (.roleCancel a p) s = .next (s.endDrain p .partialDone)) ∧
    (ok → drains = false → exec (.roleCancel a p) s = .next refused) ∧
    (s.ready .PRT p = true → s.mayWriteDevice a = false → exec (.roleCancel a p) s =
      .next ((s.refuseWrite a .PRT p).wr (PRT_ROLE.LAST_STATUS p) 0x11)) ∧
    (s.inLanding = true → drains = true → s.drainUnmet p = 0 →
      let t := (s.wr (PRT_DRAIN_WAIT.UNMET p) 0).wr (PRT_ROLE.ROLE p) ((s.wr (PRT_DRAIN_WAIT.UNMET p) 0).rd (PRT_ROLE.NEXT p))
      let u := t.wr (PRT_ROLE.CHANGED_AT p) t.mer32
      exec (.roleDrainComplete p) s = .next (((if s.role p = 4 then u.wr (PRT_MERGED.COMPAT_EN p) 0 else u).inc
        (PRT_ROLE_CHANGES.COUNT p)).endDrain p .ok)) ∧
    ((s.inLanding = false ∨ drains = false ∨ s.drainUnmet p ≠ 0) → exec (.roleDrainComplete p) s = .next s) ∧
    (s.inLanding = true → drains = true → limit ≠ 0 → due ≤ s.mer + 1 → s.drainUnmet p ≠ 0 →
      exec (.roleDrainLimit p) s = .next ((s.wr (PRT_DRAIN_WAIT.UNMET p) (s.drainUnmet p)).endDrain p .partialDone)) ∧
    ((s.inLanding = false ∨ drains = false ∨ limit = 0 ∨ s.mer + 1 < due) →
      exec (.roleDrainLimit p) s = .next s)

/-- The system map (R393 to R399): LOAD notes its source and is refused while one runs; the copy is checked in order, and staged or
counted as failed; the apply point of a staged map makes it current and keeps the old one as previous; the previous map is retired
after its drain window; the anchor copy sweep starts, and ends with its status once every mirror has answered. -/
def Claims.SystemMaps : Prop :=
  ∀ (s : State) (a : Agent) (i : Fin 64) (ue : Bool),
    let ok : Prop := s.ready .PRT i = true ∧ s.mayWriteDevice a = true
    let src := s.prt.loadFrom
    let img := s.mapImage src
    let access := s.accessStatus src mapBytes
    let st := s.mapCheck img access
    let quiet := s.noteAccess false (memReport 12 0 0xFF none src) src mapBytes
    let end_ := (quiet.wr (PRT_MAP_STATUS.BUSY 0) 0).wr (PRT_MAP_STATUS.RESULT 0) st.code
    let loads := s.on (PRT_MAP_STATUS.BUSY 0)
    let sweeps := s.on (PRT_ANCH_COPY.BUSY 0)
    let t := s.prt.staged
    let at_ := mapSwitchAt t
    let due : Prop := s.inLanding = true ∧ s.on (PRT_MAP_STATUS.STAGED 0) = true ∧ at_ ≤ s.mer + 1 ∧ s.prevMap = false
    let past : Prop := s.inLanding = true ∧ lenBudget s.merLen + 64 ≤ s.cycle ∧ s.prevMap = true ∧ s.prt.prevUntil ≤ s.mer
    let none_ : State := { s with prt := { s.prt with prev := [], prevUntil := 0 } }
    (ok → loads = false → exec (.mapLoad a i) s = .next (State.wr
      { s with prt := { s.prt with loadFrom := s.rd (PRT_MAP_SRC.DPA 0) } } (PRT_MAP_STATUS.BUSY 0) 1)) ∧
    (ok → loads = true → exec (.mapLoad a i) s = .next (s.countRefused .PRT i)) ∧
    (loads = false → exec (.mapLoadDone ue) s = .next s) ∧
    (loads = true → st ≠ .ok → exec (.mapLoadDone false) s = .next (end_.inc (PRT_MAP_LOAD_FAILS.COUNT 0))) ∧
    (loads = true → st = .ok → exec (.mapLoadDone false) s = .next ((State.wr
      { end_ with prt := { end_.prt with staged := img } } (PRT_MAP_STATUS.STAGED 0) 1).wr
      (PRT_MAP_STATUS.STAGED_EPOCH 0) (mapEpoch img))) ∧
    (access = .ok → mapOk img s.nodeId = false → st = .badLength) ∧
    (access = .ok → mapOk img s.nodeId = true → s.mapCurrent = true → mapEpoch img ≠ nextEpoch s.curEpoch →
      st = .refusedPolicy) ∧
    (due →
      let old : State := { s with prt := { s.prt with prev := s.prt.cur, prevUntil := s.mer + s.rd (PRT_MAP_CFG.DRAIN 0) } }
      let u := if s.mapCurrent then (old.wr (PRT_MAP_STATUS.PREV_VALID 0) 1).wr (PRT_MAP_STATUS.PREV_EPOCH 0) old.curEpoch
        else s
      let u : State := { u with prt := { u.prt with cur := t, staged := [], everSwitched := true } }
      let u := ((u.wr (PRT_MAP_STATUS.CUR_EPOCH 0) (mapEpoch t)).wr (PRT_MAP_STATUS.STAGED 0) 0).wr
        (PRT_MAP_STATUS.STAGED_EPOCH 0) 0
      let u := if at_ ≠ 0 ∧ at_ < u.mer + 1 then u.inc (PRT_MAP_LATE.COUNT 0) else u
      let u := if s.prt.everSwitched then u else u.mapTimebase t
      let u := (u.inc (PRT_MAP_SWITCHES.COUNT 0)).dropUnracked
      exec .mapSwitch s = .next (u.bellIf (u.on (PRT_MAP_CFG.DB_EN 0)) (u.rd (PRT_MAP_CFG.DB_PART 0))
        (u.rd (PRT_MAP_CFG.DB_SOURCE 0)))) ∧
    (¬ due → exec .mapSwitch s = .next s) ∧
    (past → exec .mapRetire s = .next ((none_.wr (PRT_MAP_STATUS.PREV_VALID 0) 0).wr (PRT_MAP_STATUS.PREV_EPOCH 0) 0)) ∧
    (¬ past → exec .mapRetire s = .next s) ∧
    (ok → sweeps = false → exec (.mapSweep a i) s = .next s.startSweep) ∧
    (ok → sweeps = true → exec (.mapSweep a i) s = .next (s.countRefused .PRT i)) ∧
    (sweeps = true → (∀ r ∈ s.tp.reqs, r.owner ≠ .sweep) → exec .anchCopySweepEnd s =
      .next ((s.wr (PRT_ANCH_COPY.STATUS 0) (if s.prt.sweepFailed then 0x31 else 0)).wr (PRT_ANCH_COPY.BUSY 0) 0)) ∧
    ((sweeps = false ∨ ∃ r ∈ s.tp.reqs, r.owner = .sweep) → exec .anchCopySweepEnd s = .next s)

/-! ## The vestibule -/

/-- The vestibule's command register (R415 to R418, R420, R422): the primary PF's command sets BUSY and joins the queue; any other
agent is refused, as is a command while one runs or an update is open. A command that can be decided at once is: COMMIT_SVN
raises the floor, DEBUG_ENABLE and DEBUG_DISABLE set J7_EN, LOG_READ stores whole entries, an ENROLL that is not allowed is
refused; ACTIVATE needs a staged bank. -/
def Claims.VestibuleCommandsAll : Prop :=
  ∀ (s : State) (a : Agent) (comp : BitVec 8) (serial : BitVec 64) (keys : Fin 9) (good : Bool) (addr len : Nat),
    let mine : Prop := a = .pf s.primary
    let free : Prop := s.ready .VES 0 = true ∧ s.vesCmdRuns = false ∧ s.ves.update.phase = .idle
    let begun (q : VesItem) : State :=
      let t := s.wrPriv a.code VES_RESULT.BUSY 1
      State.runVes { t with ves := { t.ves with queue := t.ves.queue ++ [q] } }
    let args := (s.rd VES_ARG0.DPA, s.rd VES_ARG1.LEN)
    let c := comp.toNat
    let enr := (s.decideEnroll addr len serial.toNat keys good).2
    (mine → free → exec (.stageFw a comp) s = .next (begun (.cmd a 1 c args.1 args.2)) ∧
      exec (.activate a comp) s = .next (begun (.cmd a 2 c args.1 args.2)) ∧
      exec (.commitSvn a comp) s = .next (begun (.cmd a 3 c args.1 args.2)) ∧
      exec (.enroll a serial keys good) s = .next (begun (.enroll a args.1 args.2 serial.toNat keys good)) ∧
      exec (.debugEnable a) s = .next (begun (.cmd a 5 0 args.1 args.2)) ∧
      exec (.debugDisable a) s = .next (begun (.cmd a 6 0 args.1 args.2)) ∧
      exec (.logRead a) s = .next (begun (.cmd a 7 0 args.1 args.2))) ∧
    (mine → ¬ free → exec (.stageFw a comp) s = .next (s.countRefused .VES 0) ∧
      exec (.logRead a) s = .next (s.countRefused .VES 0)) ∧
    (¬ mine → exec (.stageFw a comp) s = .next (s.refuseWrite a .VES 0) ∧
      exec (.enroll a serial keys good) s = .next (s.refuseWrite a .VES 0)) ∧
    (s.decideVes a 3 c addr len = some (if 1 ≤ c ∧ c ≤ 6 then (s.commitSvn c, 1, .ok) else (s, 0, .badLength))) ∧
    (1 ≤ c → c ≤ 6 → s.decideVes a 2 c addr len = (if (s.comp c).staged then none else some (s, 9, .refusedPolicy))) ∧
    (s.decideVes a 5 c addr len = some ((s.wr VES_DEBUG.J7_EN 1).debugEvent a, 1, .ok)) ∧
    (s.decideVes a 6 c addr len = some ((s.wr VES_DEBUG.J7_EN 0).debugEvent a, 1, .ok)) ∧
    (len % 64 ≠ 0 → s.decideVes a 7 c addr len = some (s, 0, .badLength)) ∧
    (len ≠ 0 → s.accessStatus addr len = .ok → (good = false ∨ s.ves.owner = none ∨ serial.toNat ≤ s.ves.enrolSerial) →
      enr = (0, .refusedPolicy)) ∧
    (len ≠ 0 → s.accessStatus addr len = .ok → good = true → s.ves.owner.isSome = true →
      s.ves.enrolSerial < serial.toNat → enr = (1, .ok)) ∧
    (1 ≤ c → c ≤ 6 → ((s.commitSvn c).comp c).floor = max (s.comp c).floor (s.comp c).active.svn)

/-- Firmware (R408, R414, R415, R418, Table 20-4): the checks of an image rank its header, its SVN against the floor, its keys, its hash
and its signatures; an image that passes is staged in the bank that does not run, one that fails a check is counted with its
DETAIL and a record; a staged image becomes live with its activation, and its slot is extended. -/
def Claims.FirmwareImages : Prop :=
  ∀ (s : State) (verdict : Fin 5) (a : Agent) (comp addr len : Nat) (rest : List VesItem),
    let rd := s.imageAt addr
    let v := s.comp comp
    let d := s.fwDetail rd len comp verdict
    let ends (t : State) (n : Nat) (st : Status) : State := ((t.showComp comp).popVes).vesResult a 1 n st
    (fwHeaderOk rd len comp = false → s.fwDetail rd len comp verdict = 4) ∧
    (fwHeaderOk rd len comp = true → (fwImage rd).svn < v.floor → s.fwDetail rd len comp verdict = 5) ∧
    (fwHeaderOk rd len comp = true → v.floor ≤ (fwImage rd).svn → s.keysLive (fwImage rd) = false →
      s.fwDetail rd len comp verdict = 6) ∧
    (fwHeaderOk rd len comp = true → v.floor ≤ (fwImage rd).svn → s.keysLive (fwImage rd) = true →
      s.fwDetail rd len comp 0 = 1 ∧ s.fwDetail rd len comp 1 = 3 ∧ s.fwDetail rd len comp 2 = 2) ∧
    (s.ves.queue = .cmd a 1 comp addr len :: rest → s.ready .VES 0 = true → s.accessStatus addr len = .ok →
      (d = 1 → verdict.val < 3 →
        let x : FwComp := { v.setBank (!v.running) (fwImage rd) with staged := true }
        exec (.stageFwDone verdict) s = .next ((ends ((s.setComp comp x).inc VES_IMAGES_OK.COUNT) 1 .ok).runVes)) ∧
      (d = 1 → verdict = 3 →
        let x : FwComp := { v.setBank (!v.running) {} with staged := false }
        exec (.stageFwDone verdict) s = .next ((ends ((s.setComp comp x).inc VES_IMAGES_OK.COUNT) 7 .uncorrected).runVes)) ∧
      (d ≠ 1 → verdict ≠ 4 → exec (.stageFwDone verdict) s = .next (((ends (s.inc VES_VERIFY_FAIL.COUNT) d
        .refusedPolicy).securityRecord a .refusedPolicy 2 comp).runVes)) ∧
      (verdict = 4 → exec (.stageFwDone verdict) s =
        .next ((ends ((s.noteUe).report (vesMem addr)) 0 .uncorrected).runVes))) ∧
    (s.ves.queue = [] → exec (.stageFwDone verdict) s = .next s) ∧
    (∀ c op, s.ves.activating = some c → s.ves.queue = .cmd a op comp addr len :: rest → exec .liveActivationEnd s =
      .next (((s.endActivation c).popVes.vesResult a 2 1 .ok).runVes)) ∧
    (∀ c k, s.ves.activating = some c → s.ves.queue = .pldm k :: rest → exec .liveActivationEnd s =
      .next (((s.endActivation c).popVes.endUpdate).runVes)) ∧
    (s.ves.activating = none → exec .liveActivationEnd s = .next s)

/-- SPDM requests outside a session (R412): each is answered on its path in the path's turn, and only then; a certificate slot past 1
and a fifth session get ERROR; a key exchange opens a session. The response codes are the model's (PRESUMED, log 31). -/
def Claims.SpdmRequests : Prop :=
  ∀ (s : State) (x : SpdmPath) (slot : Fin 8) (index : Fin 33) (signed : Bool),
    let turn := s.spdmTurn x 1
    let all := (List.range 32).flatMap (fun n => s.slotWords n)
    (turn = true →
      exec (.getVersion x) s = .next (s.spdmAnswer x 0x04 [0x13]) ∧
      exec (.getCapabilities x) s = .next (s.spdmAnswer x 0x61 [16]) ∧
      exec (.negotiateAlgorithms x) s = .next (s.spdmAnswer x 0x63 []) ∧
      exec (.getDigests x) s = .next (s.spdmAnswer x 0x01 []) ∧
      (slot.val < 2 → exec (.getCertificate x slot) s = .next (s.spdmAnswer x 0x02 [BitVec.ofNat 64 slot]) ∧
        exec (.challenge x slot) s = .next (s.spdmAnswer x 0x03 [BitVec.ofNat 64 slot])) ∧
      (2 ≤ slot.val → exec (.getCertificate x slot) s = .next (s.spdmAnswer x 0x7F [1]) ∧
        exec (.challenge x slot) s = .next (s.spdmAnswer x 0x7F [1])) ∧
      (exec (.getMeasurements x index signed) s = .next (s.spdmAnswer x 0x60 (BitVec.ofNat 64 (b01 signed) ::
        (if index.val = 0 then all else s.slotWords (index.val - 1))))) ∧
      (s.ves.sessions.length < 4 → exec (.keyExchange x) s =
        .next ((s.setSessions (s.ves.sessions ++ [{ path := x.num }])).spdmAnswer x 0x64 [])) ∧
      (4 ≤ s.ves.sessions.length → exec (.keyExchange x) s = .next (s.spdmAnswer x 0x7F [3]))) ∧
    (turn = false → exec (.getVersion x) s = .next s ∧ exec (.getCapabilities x) s = .next s ∧
      exec (.negotiateAlgorithms x) s = .next s ∧ exec (.getDigests x) s = .next s ∧
      exec (.getCertificate x slot) s = .next s ∧ exec (.challenge x slot) s = .next s ∧
      exec (.getMeasurements x index signed) s = .next s ∧ exec (.keyExchange x) s = .next s)

/-- SPDM sessions, ownership and fabric roots (R406, R412, R413, R419): FINISH finishes a session of the same path once; heartbeat, key
update and end need a finished session; the owner root is fused once; a fabric root needs the owner's session and a newer
serial, and becomes current at its meridian, the current one becoming the previous. -/
def Claims.SpdmSessions : Prop :=
  ∀ (s : State) (x : SpdmPath) (i : Fin 4) (good : Bool) (chain : Option OwnerRoot) (root : OwnerRoot) (serial : BitVec 16)
    (at_ : BitVec 64) (e : Session) (r : Nat × Nat),
    let mine : Prop := s.spdmTurn x 2 = true ∧ s.ves.sessions[i.val]? = some e ∧ e.path = x.num
    let error := s.spdmAnswer x 0x7F [1]
    let owner : Prop := e.finished = true ∧ e.chain.isSome = true
    let cur := s.rd VES_STATE.FKR_CUR
    (mine → e.finished = false → exec (.spdmFinish x i true chain) s = .next ((s.setSessions (s.ves.sessions.set i
      { e with finished := true, chain := chain })).spdmAnswer x 0x65 [])) ∧
    (mine → (e.finished = true ∨ good = false) → exec (.spdmFinish x i good chain) s = .next error) ∧
    (mine → e.finished = true → exec (.spdmHeartbeat x i) s = .next (s.spdmAnswer x 0x68 []) ∧
      exec (.keyUpdate x i) s = .next (s.spdmAnswer x 0x69 []) ∧
      exec (.endSession x i) s = .next ((s.setSessions (s.ves.sessions.eraseIdx i)).spdmAnswer x 0x6C [])) ∧
    (mine → e.finished = false → exec (.spdmHeartbeat x i) s = .next error ∧ exec (.keyUpdate x i) s = .next error ∧
      exec (.endSession x i) s = .next error) ∧
    (s.spdmTurn x 2 = true → s.ves.sessions[i.val]? = none → exec (.spdmHeartbeat x i) s = .next error ∧
      exec (.takeOwnership x i root) s = .next error ∧ exec (.fabricRoot x i serial at_) s = .next error) ∧
    (s.spdmTurn x 2 = false → exec (.spdmFinish x i good chain) s = .next s ∧ exec (.spdmHeartbeat x i) s = .next s ∧
      exec (.takeOwnership x i root) s = .next s) ∧
    (mine → owner → s.ves.owner = none → e.chain = some root → exec (.takeOwnership x i root) s = .next ((State.wr
      { s with ves := { s.ves with owner := some root } } VES_STATE.OWNED 1).spdmAnswer x 0x7E [0])) ∧
    (mine → owner → s.ves.owner.isSome = true → e.chain = s.ves.owner →
      exec (.takeOwnership x i root) s = .next (s.spdmAnswer x 0x7E [0x11]) ∧
      (serial.toNat ≤ cur → exec (.fabricRoot x i serial at_) s = .next (s.spdmAnswer x 0x7E [0x11])) ∧
      (cur < serial.toNat →
        let t : State := { s with ves := { s.ves with roots := s.ves.roots ++ [(serial.toNat, at_.toNat)] } }
        exec (.fabricRoot x i serial at_) s =
          .next ((t.extend 9 (leBytes 2 serial.toNat ++ leBytes 8 at_.toNat)).spdmAnswer x 0x7E [0]))) ∧
    (mine → owner → s.ves.owner.isSome = true → e.chain ≠ s.ves.owner → exec (.fabricRoot x i serial at_) s = .next error) ∧
    (s.ves.roots.find? (fun r => decide (r.2 ≤ s.mer)) = none → exec .fabricRootActivate s = .next s) ∧
    (s.ves.roots.find? (fun r => decide (r.2 ≤ s.mer)) = some r →
      let t : State := { s with ves := { s.ves with roots := s.ves.roots.erase r } }
      (cur < r.1 → exec .fabricRootActivate s = .next ((t.wr VES_STATE.FKR_PREV cur).wr VES_STATE.FKR_CUR r.1)) ∧
      (r.1 ≤ cur → exec .fabricRootActivate s = .next t))

/-! ## Power, bring-up and resets -/

/-- Power (R424 to R426, R438, R473, R483): a valid input starts the rails in order, each power-good the next; an input that goes, a
disable pin, a rail that fails or times out and a trip turn the rails off; a failed sequence is tried again until the third
failure in a row; out-of-range input, power above WARN_W and a lost phase set their bit of ATR_PWR_FAULT. -/
def Claims.PowerEvents : Prop :=
  ∀ (s : State) (mv : BitVec 16) (r : Fin 9) (stack : Bool) (temp : BitVec 8) (power : BitVec 11),
    let a := s.atr
    let start (t : State) (kind who : Nat) : State := { t with atr := { t.atr with
      rails := 0, powering := true, retryDue := false, startKind := kind, requester := who } }
    let valid : State := { s with atr := { a with inputValid := true, failures := 0, tripped := false } }
    let down := s.powerDown
    let trips : Prop := s.powered = true ∧ (if stack then 110 else 120) ≤ temp.toNat
    let phases := Tab.get (fun _ => 2) a.phases r
    (a.inputValid = false → exec .inputValid s = .next (if a.disabled then valid else start valid 0 0)) ∧
    (a.inputValid = true → exec .inputValid s = .next s ∧ exec .inputInvalid s =
      .next { down with atr := { down.atr with inputValid := false, retryDue := false, failures := 0 } }) ∧
    (a.inputValid = false → exec .inputInvalid s = .next s) ∧
    (a.powering = true → a.rails < 8 → exec .railPowerGood s = .next { s with atr := { a with rails := a.rails + 1 } }) ∧
    (a.powering = true → a.rails = 8 → exec .railPowerGood s =
      .next { s with atr := { a with rails := 9, failures := 0 } }) ∧
    ((a.powering = false ∨ 9 ≤ a.rails) → exec .railPowerGood s = .next s ∧ exec .railTimeout s = .next s) ∧
    (a.powering = true → a.rails < 9 → exec .railTimeout s = .next (s.railFails (a.rails + 1))) ∧
    (s.powered = true → exec (.railLoss r) s = .next (s.railFails (r.val + 1))) ∧
    (s.powered = false → exec (.railLoss r) s = .next s ∧ exec (.phaseLost r) s = .next s) ∧
    (∀ k, (s.railFails k).atr.rails = 0 ∧ (s.railFails k).atr.failures = a.failures + 1 ∧
      (s.railFails k).atr.retryDue = decide (a.failures + 1 < 3)) ∧
    (a.retryDue = true → a.inputValid = true → a.disabled = false → a.tripped = false →
      exec .powerRetry s = .next (start s a.startKind a.requester)) ∧
    ((a.retryDue = false ∨ a.inputValid = false ∨ a.disabled = true ∨ a.tripped = true) → exec .powerRetry s = .next s) ∧
    (a.disabled = false → exec (.pwrDis true) s =
      .next { down with atr := { down.atr with disabled := true, retryDue := false } } ∧ exec (.pwrDis false) s = .next s) ∧
    (a.disabled = true → a.inputValid = true → a.tripped = false → exec (.pwrDis false) s =
      .next (start { s with atr := { a with disabled := false, failures := 0 } } 0 0)) ∧
    (trips →
      let t := down.emit (.pin 1 0)
      exec (.thermalTrip stack temp) s =
        .next { t with atr := { t.atr with tripped := true, tripReport := true, retryDue := false } }) ∧
    (¬ trips → exec (.thermalTrip stack temp) s = .next s) ∧
    (s.powered = true → mv.toNat < 51000 → exec (.inputOutOfRange mv) s =
      .next ((s.wr ATR_PWR_NOW.VIN_MV mv.toNat).powerEvent ATR_PWR_FAULT.UNDER_RANGE)) ∧
    (s.powered = true → 59000 < mv.toNat → exec (.inputOutOfRange mv) s =
      .next ((s.wr ATR_PWR_NOW.VIN_MV mv.toNat).powerEvent ATR_PWR_FAULT.OVER_RANGE)) ∧
    (51000 ≤ mv.toNat → mv.toNat ≤ 59000 → exec (.inputOutOfRange mv) s = .next s) ∧
    (s.powered = true → s.rd ATR_PWR_CFG.WARN_W < power.toNat → exec (.powerOverWarn power) s =
      .next ((s.wr ATR_PWR_NOW.POWER_W power.toNat).powerEvent ATR_PWR_FAULT.OVER_WARN)) ∧
    ((s.powered = false ∨ power.toNat ≤ s.rd ATR_PWR_CFG.WARN_W) → exec (.powerOverWarn power) s = .next s) ∧
    (s.powered = true → phases = 0 → exec (.phaseLost r) s =
      .next ((s.loseCapacity 7 .ATR 0 0xFF r).powerEvent ATR_PWR_FAULT.PHASE_LOST)) ∧
    (s.powered = true → phases ≠ 0 → exec (.phaseLost r) s = .next ((State.useSpare { s with atr := { a with
      phases := Tab.put (fun _ => 2) a.phases r (phases - 1) } } 7 .ATR 0 0xFF r (2 - phases)).powerEvent
      ATR_PWR_FAULT.PHASE_LOST))

/-- Starts (R409, R410, R427 to R433): the vestibule boots once the rails are good, before its first boot or in recovery, or for a warm
start whose queues are quiet; a block of a booted module becomes READY once, unless it is held; a module reset keeps flash, fuses
and host memory, HBM only where it is preserved, and zeroes every SRAM. -/
def Claims.ModuleStarts : Prop :=
  ∀ (s : State) (bad : BitVec 12) (b : Blk) (i : Fin 64) (warm preserve : Bool) (a : Nat),
    let step := s.rd VES_STATE.STEP
    let starts : Prop := i.val < readyInsts b ∧ s.booted = true ∧ s.isHeld b i = false ∧ b ≠ .VES
    let t := s.moduleReset warm preserve
    (s.powered = false → exec (.vestibuleBoot bad) s = .next s) ∧
    (s.powered = true → s.atr.warm = none → (step = 0 ∨ step = 7) →
      exec (.vestibuleBoot bad) s = .next (s.boot bad false false)) ∧
    (s.powered = true → s.atr.warm = none → step ≠ 0 → step ≠ 7 → exec (.vestibuleBoot bad) s = .next s) ∧
    (s.powered = true → s.atr.warm = some preserve → s.quiet = true →
      exec (.vestibuleBoot bad) s = .next ((s.moduleReset true preserve).boot bad true preserve)) ∧
    (s.powered = true → s.atr.warm = some preserve → s.quiet = false → exec (.vestibuleBoot bad) s = .next s) ∧
    (starts → b ≠ .PRT → exec (.blockReady b i) s = .next (s.raiseReady b i)) ∧
    (starts → b = .PRT → s.ready .PRT 0 = false → exec (.blockReady b i) s = .next (((List.range 63).foldl (fun u k =>
      u.wr (PREFIX_STATUS.READY (blockBase .PRT (k + 1))) 1) s).raiseReady .PRT 0)) ∧
    (¬ starts → exec (.blockReady b i) s = .next s) ∧
    (t.larty = State.reset.larty ∧ t.cat = State.reset.cat ∧ t.stw = State.reset.stw ∧ t.tp = State.reset.tp ∧
      t.hel = State.reset.hel ∧ t.pending = s.pending ∧ t.ves.owner = s.ves.owner ∧ t.ves.revoked = s.ves.revoked) ∧
    (∀ k, dpaKind a = .host k → Tab.get memDefault t.mem a = Tab.get memDefault s.mem a) ∧
    (dpaKind a = .hbm → warm = true → preserve = true → Tab.get memDefault t.mem a = Tab.get memDefault s.mem a) ∧
    ((∀ k, dpaKind a ≠ .host k) → (dpaKind a ≠ .hbm ∨ warm = false ∨ preserve = false) →
      Tab.get memDefault t.mem a = memDefault a)

/-- Resets (R434 to R439): a context reset is asked for, and takes effect at once or, for a critical context, at a landing with no
slice open; a partition reset takes effect at a landing; WARM and COLD need the primary PF and CONFIRM 0x1620; a request that may
not be made is refused and counted. -/
def Obligations.Resets : Prop :=
  ∀ (s : State) (a : Agent) (unit : BitVec 8) (ctx : Fin 8) (x : LCtx) (p : Fin 64) (preserve : Bool) (confirm : BitVec 16)
    (y : Port),
    let ok : Prop := s.ready .ATR 0 = true
    let mine : Prop := a = .pf s.primary
    let up : Prop := s.unitInService x.unit = true ∧ (s.installedImage x.unit).present = true
    let asked : State := { s with atr := { s.atr with ctxResets := s.atr.ctxResets ++ [(x.key, none)] } }
    let partly : State := { s with atr := { s.atr with partResets := s.atr.partResets ++ [p.val] } }
    let runs : Prop := p.val ∈ s.atr.partResets ∨ p.val ∈ s.atr.partRunning
    (ok → ¬ mine → exec (.resetContext a unit ctx) s = .next (s.resetRefused a false) ∧
      exec (.resetWarm a preserve confirm) s = .next (s.resetRefused a false) ∧
      exec (.resetCold a confirm) s = .next (s.resetRefused a false)) ∧
    (ok → mine → ctxOf unit.toNat ctx = none → exec (.resetContext a unit ctx) s = .next (s.resetDecided .badLength)) ∧
    (ok → mine → ctxOf unit.toNat ctx = some x → up → s.absorbed x = false → s.ctxResetting x = false →
      exec (.resetContext a unit ctx) s =
        .next ((asked.showResets.wr ATR_RESET_STATUS.TYPE 1).addMod ATR_RESET_STATUS.SEQ 1)) ∧
    (ok → mine → ctxOf unit.toNat ctx = some x → up → s.absorbed x = true →
      exec (.resetContext a unit ctx) s = .next (s.resetDecided .ok)) ∧
    (ok → mine → ctxOf unit.toNat ctx = some x → ¬ up → exec (.resetContext a unit ctx) s = .next (s.resetRefused a true)) ∧
    (s.atr.ctxResets.find? (fun r => r.1 == x.key) = none → exec (.contextResetApply x) s = .next s) ∧
    (∀ r, s.atr.ctxResets.find? (fun r => r.1 == x.key) = some r →
      let t : State := { s with atr := { s.atr with ctxResets := s.atr.ctxResets.erase r } }
      let u := (if (t.installedImage x.unit).present then t.restartCtx x else t).inc ATR_CTX_RESETS.COUNT
      let waits : Prop := x.critical = true ∧ (s.inLanding = false ∨ (s.slice x.unit).isOpen = true)
      (waits → exec (.contextResetApply x) s = .next s) ∧
      (¬ waits → r.2 = none → exec (.contextResetApply x) s = .next (u.resetEnds)) ∧
      (∀ q, ¬ waits → r.2 = some q → exec (.contextResetApply x) s = .next ((u.clearPreempt x).endPartReset q))) ∧
    (ok → a = .pf y → (s.primary = y ∨ s.portOf p = y) → ¬ runs → exec (.resetPartition a p) s =
      .next ((partly.showResets.wr ATR_RESET_STATUS.TYPE 2).addMod ATR_RESET_STATUS.SEQ 1)) ∧
    (ok → a = .pf y → (s.primary = y ∨ s.portOf p = y) → runs →
      exec (.resetPartition a p) s = .next (s.resetRefused a true)) ∧
    (ok → a = .pf y → s.primary ≠ y → s.portOf p ≠ y → exec (.resetPartition a p) s = .next (s.resetRefused a false)) ∧
    ((s.inLanding = false ∨ p.val ∉ s.atr.partResets) → exec (.partitionResetApply p) s = .next s) ∧
    (s.inLanding = true → p.val ∈ s.atr.partResets →
      let xs := s.partCtxs p
      let t := ((((s.resetCatalogue p).resetHeliostat p).resetTransport p).resetRecCmds p).resetTargets p
      let t := if t.draining p then t.endDrain p .abandoned else t
      let u : State := { t with atr := { t.atr with
        partResets := t.atr.partResets.erase p.val, partRunning := t.atr.partRunning ++ [p.val],
        ctxResets := t.atr.ctxResets.filter (fun r => !xs.any (fun x => x.key == r.1)) ++
          xs.map (fun x => (x.key, some p.val)) } }
      exec (.partitionResetApply p) s = .next ((u.inc ATR_PART_RESETS.COUNT).endPartReset p)) ∧
    (ok → mine → confirm ≠ 0x1620 → exec (.resetWarm a preserve confirm) s = .next (s.resetRefused a true) ∧
      exec (.resetCold a confirm) s = .next (s.resetRefused a true)) ∧
    (ok → mine → s.atr.warm = none →
      exec (.resetWarm a preserve 0x1620) s = .next (s.beginWarm (requesterOf a) preserve)) ∧
    (ok → mine → s.atr.warm.isSome = true → exec (.resetWarm a preserve 0x1620) s = .next (s.resetRefused a true)) ∧
    (ok → mine → exec (.resetCold a 0x1620) s = .next (s.beginCold (requesterOf a)))

/-! ## Faults, health and spares -/

/-- The fault recorder (R441 to R444): a report takes the next SEQ and the meridian; one of a source whose last record is younger than
FOLD is folded, unless its severity is 4 or its class 0x0D, and the next record carries the count; a full ring queues up to 64
records, and past that the record is lost and counted; the drain writes queued records while there is room; a report that is not
legal faults. A die temperature of 100 °C or more makes a THERMAL record. -/
def Obligations.FaultRecording : Prop :=
  ∀ (s : State) (r : Report) (e : FoldEntry) (temp : BitVec 8),
    let post : State := { s with flt := { s.flt with inbound := s.flt.inbound ++ [r] } }
    let hot := s.wr FLT_THERMAL.DIE_MAX temp.toNat
    let young : Prop := s.mer - e.meridian < s.rd FLT_FOLD.MERIDIANS
    let thermal (sev : Nat) : Report := { cls := 8, sev := sev, blk := 15, d0 := 4, d1 := temp.toNat }
    (r.legal = true → exec (.faultReport r) s = .next post.settleReports) ∧
    (r.legal = false → exec (.faultReport r) s = .fault .illFormed) ∧
    (s.flt.inbound = [] → exec (.faultReport r) s = (if r.legal then .next (s.recordOne r) else .fault .illFormed)) ∧
    (s.foldOf r = some e → r.sev ≠ 4 → r.cls ≠ 0x0D → young →
      s.recordOne r = (s.setFold r { e with suppressed := e.suppressed + 1 }).inc FLT_FOLDED.COUNT) ∧
    (s.foldOf r = some e → (r.sev = 4 ∨ r.cls = 0x0D ∨ ¬ young) → s.recordOne r = s.makeRecord r) ∧
    (s.foldOf r = none → s.recordOne r = s.makeRecord r) ∧
    (let rec_ : FaultRec := { report := r, seq := s.flt.nextSeq, meridian := s.mer,
                              suppressed := (s.foldOf r).elim 0 (fun e => e.suppressed) }
     let n := (s.flt.nextSeq + 1) % 2 ^ 32
     let t := s.makeRecord r
     ((s.flt.queue ≠ [] ∨ s.fltRoom = false) → s.flt.queue.length < 64 →
       t.flt.queue = s.flt.queue ++ [rec_] ∧ t.flt.nextSeq = n ∧ t.mem = s.mem) ∧
     (64 ≤ s.flt.queue.length → t.flt.queue = s.flt.queue ∧ t.flt.nextSeq = n ∧ t.mem = s.mem)) ∧
    (exec .faultRingDrain s = .next (State.drainFaults 64 s).settleReports) ∧
    ((s.flt.queue = [] ∨ s.fltRoom = false) → State.drainFaults 64 s = s) ∧
    (temp.toNat < 100 → exec (.dieTempLimit temp) s = .next hot) ∧
    (100 ≤ temp.toNat → temp.toNat < 110 → exec (.dieTempLimit temp) s = .next (hot.report (thermal 2))) ∧
    (110 ≤ temp.toNat → exec (.dieTempLimit temp) s = .next (hot.report (thermal 3)))

/-- Health and newel cores (R446 to R448, R452): the primary PF alone quarantines a HEALTHY or SUSPECT device and releases a
quarantined one, to HEALTHY below both limits and to SUSPECT otherwise; CLEAR zeroes the accumulators; a change of state makes a
HEALTH record; a core in service is due for substitution by command or error, once, and substituted at a landing. -/
def Claims.HealthCommands : Prop :=
  ∀ (s : State) (a : Agent) (core : Fin 8),
    let ok : Prop := s.ready .FLT 0 = true ∧ a = .pf s.primary
    let not_ : Prop := s.ready .FLT 0 = true ∧ a ≠ .pf s.primary
    let st := s.rd FLT_HEALTH.STATE
    let calm : Prop := s.rd FLT_LATE_SELF.ACC < s.rd FLT_LATE_CFG.LATE_SUSPECT ∧ s.rd FLT_ERR.ACC < s.rd FLT_ERR_CFG.ERR_SUSPECT
    let to_ (n cause : Nat) : State := ((s.wr FLT_HEALTH.STATE n).wr FLT_HEALTH.CAUSE cause).report
      { cls := 0x0D, sev := 0, blk := 15, d0 := n, d1 := cause }
    let inServ := s.on (NWL_C_STATE.IN_SERVICE core)
    let due : State := if s.flt.nwlDue.contains core.val then s else
      { s with flt := { s.flt with nwlDue := s.flt.nwlDue ++ [core.val] } }
    (ok → st < 2 → exec (.healthQuarantine a) s = .next (to_ 2 4)) ∧
    (ok → 2 ≤ st → exec (.healthQuarantine a) s = .next s) ∧
    (ok → st = 2 → calm → exec (.healthRelease a) s = .next (to_ 0 4)) ∧
    (ok → st = 2 → ¬ calm → exec (.healthRelease a) s = .next (to_ 1 4)) ∧
    (ok → st ≠ 2 → exec (.healthRelease a) s = .next s) ∧
    (ok → exec (.healthClear a) s = .next ((healthAccs ++ (List.range 0x28).map FLT_U_LATE.COUNT).foldl
      (fun t f => t.wr f 0) s)) ∧
    (not_ → exec (.healthQuarantine a) s = .next (s.refuseWrite a .FLT 0) ∧
      exec (.healthRelease a) s = .next (s.refuseWrite a .FLT 0) ∧
      exec (.healthClear a) s = .next (s.refuseWrite a .FLT 0) ∧
      exec (.fltNwlSubst a core) s = .next (s.refuseWrite a .FLT 0)) ∧
    (ok → inServ = true → exec (.fltNwlSubst a core) s = .next due) ∧
    (ok → inServ = false → exec (.fltNwlSubst a core) s = .next (s.countRefused .FLT 0)) ∧
    (inServ = true → exec (.newelCoreUe core) s =
      .next ((due.noteUe).report (memReport 14 0 (0x20 + core.val) none 0))) ∧
    (inServ = false → exec (.newelCoreUe core) s = .next s) ∧
    (s.inLanding = true → exec .newelSubstitute s = .next (s.flt.nwlDue.foldl (fun t c => t.substNewel c)
      { s with flt := { s.flt with nwlDue := [] } })) ∧
    (s.inLanding = false → exec .newelSubstitute s = .next s)

/-- Self-tests of spares (R450, R451): a pass starts on an idle spare alone, and marks it; a pass that succeeds returns the spare and
sets its bit of LAST_PASS; one that fails clears the bit, marks the spare failed, counts and records it. -/
def Claims.SpareTests : Prop :=
  ∀ (s : State) (kind : Fin 9) (i : Nat) (passed : Bool),
    let k := kind.val
    let m := s.rd FLT_SELFTEST.LAST_PASS
    let t := s.setPass k false
    let u (b : Bool) : State := t.wr FLT_SELFTEST.LAST_PASS (if b then withBit m (k - 1) else withoutBit m (k - 1))
    let f := (State.failSpare (u false) k i).inc FLT_SELFTEST_FAIL.COUNT
    let o := spareOwner k i
    (s.spareIdle k i = false → exec (.selftestPassStart kind i) s = .next s) ∧
    (s.spareIdle k i = true → k = 1 → exec (.selftestPassStart kind i) s =
      .next ((s.wr (GAL_BAYMAP.SPARE_STATE i) 3).setPass 1 true)) ∧
    (s.spareIdle k i = true → k = 2 → exec (.selftestPassStart kind i) s =
      .next ((s.wr (NBU_PCMAP.SPARE_STATE i) 1).setPass 2 true)) ∧
    (s.spareIdle k i = true → k ≠ 1 → k ≠ 2 → exec (.selftestPassStart kind i) s = .next (s.setPass k true)) ∧
    (s.testing k i = false → exec (.selftestPassEnd kind i passed) s = .next s) ∧
    (s.testing k i = true → k = 1 → exec (.selftestPassEnd kind i true) s =
      .next ((u true).wr (GAL_BAYMAP.SPARE_STATE i) 0)) ∧
    (s.testing k i = true → k = 2 → exec (.selftestPassEnd kind i true) s =
      .next ((u true).wr (NBU_PCMAP.SPARE_STATE i) 0)) ∧
    (s.testing k i = true → k ≠ 1 → k ≠ 2 → exec (.selftestPassEnd kind i true) s = .next (u true)) ∧
    (s.testing k i = true → exec (.selftestPassEnd kind i false) s = .next (State.report { f with flt := { f.flt with
      selftestFailed := f.flt.selftestFailed || f.health == 1 } } (spareReport k 2 o.1 o.2 0xFF i 0xFFFF)))

/-! ## The photometer and the debug paths -/

/-- Samples and traces (R455, R458, R460): a landing samples once; a pass starts at a multiple of PERIOD, is counted late where one is
in hand, and goes on from the record it reached; the trace drain moves what the ring has room for, and in WRAP overwrites the
oldest; CLEAR zeroes every unit's maximum. -/
def Claims.SamplesAndTraces : Prop :=
  ∀ (s : State) (x : Port) (i : Nat) (w0 w1 : Word) (rest : List (Word × Word)),
    let period := s.rd PHO_SAMPLE_CFG.PERIOD
    let due : Prop := 0 < period ∧ s.mer % period = 0
    let open_ : Prop := s.inLanding = true ∧ s.pho.sampledAt ≠ s.mer + 1
    let t (p : Option Nat) : State := { s with pho := { s.pho with sampledAt := s.mer + 1, samplePass := p } }
    let max_ := s.rd PHO_SAMPLE_CFG.MAX
    let size := s.rd PHO_TRACE_SIZE.ENTRIES
    let room := roomIn size (s.rd PHO_TRACE_TAIL.INDEX) (s.rd PHO_TRACE_HEAD.INDEX)
    let at_ (u : State) : Nat := u.rd PHO_TRACE_BASE.DPA + 16 * (u.rd PHO_TRACE_TAIL.INDEX % size)
    let put (u : State) : State := ((State.devWriteWords { u with pho := { u.pho with trace := rest } } (phoReport (at_ u))
      (at_ u) [w0, w1]).addMod PHO_TRACE_TAIL.INDEX 1)
    (¬ open_ → exec .samplePass s = .next s) ∧
    (open_ → ¬ due → s.pho.samplePass = none → exec .samplePass s = .next (t none)) ∧
    (open_ → due → s.pho.samplePass = none → exec .samplePass s = .next (State.visit recordCount max_ 0 (t (some 0)))) ∧
    (open_ → ¬ due → s.pho.samplePass = some i →
      exec .samplePass s = .next (State.visit (recordCount - i) max_ i (t (some i)))) ∧
    (open_ → due → s.pho.samplePass = some i →
      exec .samplePass s = .next (State.visit (recordCount - i)
        (((t (some i)).inc PHO_SAMPLE_LATE.COUNT).rd PHO_SAMPLE_CFG.MAX) i ((t (some i)).inc PHO_SAMPLE_LATE.COUNT))) ∧
    (s.pho.trace = [] → exec .traceDrain s = .next s) ∧
    (s.pho.trace = (w0, w1) :: rest → (size = 0 ∨ (room = false ∧ s.on PHO_TRACE_CFG.MODE = false)) →
      exec .traceDrain s = .next s) ∧
    (s.pho.trace = (w0, w1) :: rest → size ≠ 0 → room = true →
      exec .traceDrain s = .next (State.drainTrace rest.length (put s))) ∧
    (s.pho.trace = (w0, w1) :: rest → size ≠ 0 → room = false → s.on PHO_TRACE_CFG.MODE = true →
      exec .traceDrain s = .next (State.drainTrace rest.length (put (s.addMod PHO_TRACE_HEAD.INDEX 1)))) ∧
    (s.primary = x → s.ready .PHO 0 = true → exec (.phoClear (.pf x)) s =
      .next (allUnits.foldl (fun u k => u.wr (PHO_U_SLICE_MAX.CYCLES k) 0) s)) ∧
    (s.primary ≠ x → exec (.phoClear (.pf x)) s = .next (s.refuseWrite (.pf x) .PHO 0))

/-- The debug paths (R420, R461 to R463, R478): a path's first use is a debug event; a read or write waits for its access and has its
status and data, or is refused while BUSY is 1; STOP stops a running context, or waits for its remote access; STEP runs one
instruction of a stopped one; RESUME lets it go on; a register of a context reads and takes its value where the context is in
DEBUG; J7 answers while it is enabled and a probe is present. -/
def Claims.DebugPaths : Prop :=
  ∀ (s : State) (x : Port) (unit : BitVec 8) (ctx : Fin 8) (c : LCtx) (good : Bool) (path : Fin 2) (ue : Bool) (v w : Word)
    (off : BitVec 16) (present : Bool) (d : DbgAccess),
    let a := Agent.pf x
    let ok : Prop := s.primary = x ∧ s.ready .PHO 0 = true
    let t := s.notePath a 0
    let st := (t.ctx c).state
    let busy := t.rd PHO_DBG_STATUS.BUSY
    let queue (write : Bool) : State :=
      let y : DbgAccess := { path := 0, write := write, addr := t.rd PHO_DBG_ADDR.DPA }
      State.wr { t with pho := { t.pho with dbg := t.pho.dbg ++ [y] } } PHO_DBG_STATUS.BUSY 1
    let ends (u : State) (k : Nat) : State :=
      (u.wr PHO_STOP_STATUS.STATUS k).wr PHO_STOP_STATUS.SEQ ((u.rd PHO_STOP_STATUS.SEQ + 1) % 2 ^ 32)
    let held : Prop := ctxOf unit.toNat ctx.val = some c ∧ t.unitInService unit.toNat = true
    let rests : Prop := st = .stopped ∨ st = .faulted
    let sel : Prop := ctxOf (t.rd PHO_REG_SEL.UNIT) (t.rd PHO_REG_SEL.CTX) = some c
    let file := t.rd PHO_REG_SEL.FILE
    let i := t.rd PHO_REG_SEL.INDEX
    let word := t.rd PHO_REG_SEL.WORD
    let j7 : Prop := s.on VES_DEBUG.J7_EN = true ∧ present = true ∧ 0x60 ≤ off.toNat ∧ off.toNat ≤ 0x98
    (s.primary ≠ x → exec (.dbgRead a) s = .next ((s.refuseWrite a .PHO 0).wr PHO_DBG_STATUS.STATUS 0x11) ∧
      exec (.dbgStop a unit ctx) s = .next (ends (s.refuseWrite a .PHO 0) 0x11)) ∧
    (ok → busy ≠ 1 → exec (.dbgRead a) s = .next (queue false) ∧ exec (.dbgWrite a) s = .next (queue true)) ∧
    (ok → busy = 1 → exec (.dbgRead a) s = .next (t.countRefused .PHO 0) ∧
      exec (.dbgWrite a) s = .next (t.countRefused .PHO 0)) ∧
    (s.pho.dbg.find? (fun d => d.path == path.val) = none → exec (.dbgAccessDone path ue) s = .next s) ∧
    (s.pho.dbg.find? (fun d => d.path == path.val) = some d → (dpaKind d.addr ≠ .hbm ∨
        s.pcHeld (dpaStack d.addr) (dpaPc d.addr) = false) →
      let r := s.dbgAccess d ue
      let u := (r.1.dbgStatus d.path r.2).dbgWr d.path PHO_DBG_STATUS.BUSY 0
      exec (.dbgAccessDone path ue) s =
        .next { u with pho := { u.pho with dbg := u.pho.dbg.filter (fun e => e.path != d.path) } }) ∧
    (debugReaches d.addr = true → s.accessStatus d.addr 8 = .ok → d.write = false →
      s.dbgAccess d false = (s.dbgWr d.path PHO_DBG_DATA.DATA (s.word d.addr).toNat, .ok)) ∧
    (ok → ctxOf unit.toNat ctx.val = none → exec (.dbgStop a unit ctx) s = .next (ends t 0x22)) ∧
    (ok → held → (st = .running ∨ st = .waiting) → (t.ctx c).waitsRemote = false →
      exec (.dbgStop a unit ctx) s = .next (ends (t.debugStop c) 0)) ∧
    (ok → held → (st = .running ∨ st = .waiting) → (t.ctx c).waitsRemote = true → exec (.dbgStop a unit ctx) s =
      .next (ends (t.modCtx c (fun k => { k with stopPending := true })) 0)) ∧
    (ok → held → st = .debug → exec (.dbgStep a unit ctx good) s = .next (ends (t.stepCtx c good) 0) ∧
      exec (.dbgResume a unit ctx) s = .next (ends (t.modCtx c (fun k =>
        if c.critical then { k with state := .waiting, wait := .meridian, resumed := true }
        else { k with state := .running, wait := .none })) 0)) ∧
    (ok → held → rests → exec (.dbgStep a unit ctx good) s = .next (ends t 0x11) ∧
      exec (.dbgResume a unit ctx) s = .next (ends t 0x11) ∧ exec (.dbgStop a unit ctx) s = .next (ends t 0)) ∧
    (((s.ctx c).stopPending = true → (s.ctx c).waitsRemote = false →
      exec (.stopPendingComplete c) s = .next (s.debugStop c)) ∧
     ((s.ctx c).stopPending = false ∨ (s.ctx c).waitsRemote = true → exec (.stopPendingComplete c) s = .next s)) ∧
    (ok → sel → i < regFileSize file → st = .debug →
      exec (.phoRegDataAccess a none) s = .next ((t.wr PHO_REG_DATA.DATA (t.ctxReg c file i word).toNat).wr
        PHO_DBG_STATUS.STATUS 0) ∧
      (file ≠ 3 → exec (.phoRegDataAccess a (some v)) s = .next (((t.setCtxReg c file i word v).wr PHO_REG_DATA.DATA
        v.toNat).wr PHO_DBG_STATUS.STATUS 0))) ∧
    (ok → sel → regFileSize file ≤ i → exec (.phoRegDataAccess a none) s =
      .next ((t.wr PHO_REG_DATA.DATA 0).wr PHO_DBG_STATUS.STATUS 0x22)) ∧
    (¬ j7 → exec (.j7DebugRead off present) s = .next (s.emit (.answer 5 0x11 [0])) ∧
      exec (.j7DebugWrite off w present) s = .next (s.emit (.answer 5 0x11 [0]))) ∧
    (j7 → off.toNat ≠ 0x98 → exec (.j7DebugRead off present) s = .next (s.emit (.answer 5 0 [s.j7Read off.toNat]))) ∧
    (j7 → exec (.j7DebugWrite off w present) s = .next ((doRegisterWrite .j7 (BitVec.ofNat 26
      (blockBase .PHO 0 + off.toNat)) false w s).emit (.answer 5 0 [0])))

/-! ## Management -/

/-- Requests to the management endpoint that change nothing (R464 to R467): each is answered on its binding where the binding serves,
with what the device shows, and only then; a sensor or a type that is not there has an error code. The command and completion
codes and the identifiers are the model's (PRESUMED, log 31). -/
def Claims.ManagementRequests : Prop :=
  ∀ (s : State) (x : Binding) (id : BitVec 16) (type : BitVec 6) (record : BitVec 32),
    let answers (c : Instr) (code : Nat) (ws : List Word) : Prop :=
      exec c s = .next (if s.served x then s.emit (.answer x.num code ws) else s)
    let n := id.toNat
    let ver (c : Nat) : Nat := if (s.comp c).staged then ((s.comp c).bank (!(s.comp c).running)).version else 0
    answers (.getEndpointId x) 0x02 [0, BitVec.ofNat 64 (s.eid x)] ∧
    answers (.getEndpointUuid x) 0x03 [0, Config.mgmt 0 0, Config.mgmt 0 1] ∧
    answers (.getMctpVersionSupport x) 0x04 [0, Config.mgmt 1 0] ∧
    answers (.getMessageTypeSupport x) 0x05 [0, 5, 0x00, 0x01, 0x05, 0x06, 0x7E] ∧
    answers (.getTid x) 0x10002 [0, Config.mgmt 2 0] ∧ answers (.getPldmVersion x) 0x10003 [0, Config.mgmt 3 0] ∧
    answers (.getPldmTypes x) 0x10004 [0, 0, 2, 5] ∧
    (∀ l, pldmCommands type.toNat = some l → answers (.getPldmCommands x type) 0x10005 (0 :: l)) ∧
    (pldmCommands type.toNat = none → answers (.getPldmCommands x type) 0x10005 [0x83]) ∧
    (1 ≤ n → n ≤ 14 → answers (.getSensorReading x id) 0x10211 [0, BitVec.ofNat 64 (s.sensor n)]) ∧
    ((n = 0 ∨ 14 < n) → answers (.getSensorReading x id) 0x10211 [0x80]) ∧
    (15 ≤ n → n ≤ 21 → answers (.getStateSensorReadings x id) 0x10221 [0, BitVec.ofNat 64 (s.sensor n)]) ∧
    ((n < 15 ∨ 21 < n) → answers (.getStateSensorReadings x id) 0x10221 [0x80]) ∧
    answers (.getPdr x record) 0x10251 [0, Config.mgmt 4 record.toNat] ∧
    answers (.getPdrRepositoryInfo x) 0x10250 [0, Config.mgmt 5 0] ∧
    answers (.queryDeviceIdentifiers x) 0x10501 [0, Config.mgmt 6 0, 0x1620] ∧
    answers (.getFirmwareParameters x) 0x10502 (0 :: [1, 2, 3, 4, 5, 6].flatMap (fun c =>
      [BitVec.ofNat 64 c, BitVec.ofNat 64 (s.comp c).active.version, BitVec.ofNat 64 (ver c)])) ∧
    answers (.getStatus x) 0x1051B [0, BitVec.ofNat 64 s.ves.update.phase.code, BitVec.ofNat 64 s.ves.update.detail] ∧
    answers (.faultLast x) 0x7E (0 :: (List.range 8).map (fun i => s.reg (FLT_LAST.WORD i).off)) ∧
    (s.sensor 19 = s.rd FLT_HEALTH.STATE ∧ s.sensor 4 = s.rd FLT_THERMAL.DIE_MAX ∧ s.sensor 1 = s.rd ATR_PWR_NOW.VIN_MV)

/-- Requests that set the endpoint, and RESET (R464, R465, R467): SetEndpointID gives the binding its ID; SetEventReceiver notes what
every sensor shows, and an event is sent only for a sensor that shows something else; RESET needs a session of the owner and
CONFIRM, and starts the module warm or cold. -/
def Claims.ManagementCommands : Prop :=
  ∀ (s : State) (x : Binding) (eid : BitVec 8) (id : Fin 22) (i : Fin 4) (preserve : Bool) (k : Nat), s.served x = true →
    let set_ : State := { s with mgmt := { s.mgmt with eids := Tab.put (fun _ => 0) s.mgmt.eids x.slot eid.toNat } }
    let recv : State := { s with mgmt := { s.mgmt with receiver := some (x, eid.toNat) } }
    let shown := Tab.get (fun _ => 0) s.mgmt.shown id
    let no : State := s.emit (.answer x.num 0x7E [0x11])
    let yes : State := s.emit (.answer x.num 0x7E [0])
    (exec (.setEndpointId x eid) s = .next (set_.emit (.answer x.num 0x01 [0, eid.setWidth 64]))) ∧
    (set_.eid x = eid.toNat) ∧
    (exec (.setEventReceiver x eid) s = .next (((List.range 21).foldl (fun t j => t.noteShown (j + 1)) recv).emit
      (.answer x.num 0x10204 [0]))) ∧
    (s.mgmt.receiver = some (x, k) → id.val ≠ 0 → s.shows id ≠ shown → exec (.platformEventMessage id) s =
      .next ((s.noteShown id).emit (.answer x.num 0x1020A [BitVec.ofNat 64 k, BitVec.ofNat 64 id,
        BitVec.ofNat 64 (s.shows id)]))) ∧
    ((s.mgmt.receiver = none ∨ id.val = 0 ∨ s.shows id = shown) → exec (.platformEventMessage id) s = .next s) ∧
    (s.ownerSession x i = false → ∀ cold confirm, exec (.vendorReset x i cold preserve confirm) s = .next no) ∧
    (s.ownerSession x i = true → exec (.vendorReset x i true preserve 0x1620) s = .next (yes.beginCold 3)) ∧
    (s.ownerSession x i = true → s.atr.warm = none →
      exec (.vendorReset x i false preserve 0x1620) s = .next (yes.beginWarm 3 preserve)) ∧
    (s.ownerSession x i = true → ∀ cold confirm, confirm ≠ 0x1620 → exec (.vendorReset x i cold preserve confirm) s =
      .next ((s.resetRefused .j7 true).emit (.answer x.num 0x7E [0x11])))

/-- Firmware update over PLDM (R410, R414, R466): an update opens when none is open and no firmware command runs; its component table
and components follow; the image is pulled in pieces of at most 4,096 bytes, is checked, and is applied to the bank that does
not run; activation queues what was staged; cancelling ends it. A command outside its phase has an error code. -/
def Claims.FirmwareUpdates : Prop :=
  ∀ (s : State) (x : Binding) (comp : BitVec 16) (size maxXfer : BitVec 32) (last : Bool) (piece : Bytes) (verdict : Fin 3),
    s.served x = true →
    let u := s.ves.update
    let c := comp.toNat
    let v := s.comp u.comp
    let set_ (t : State) (p : PldmUpdate) : State := { t with ves := { t.ves with update := p } }
    let answers (t : State) (code : Nat) (ws : List Word) : State := t.emit (.answer x.num code ws)
    let fits : Prop := c ∈ u.table ∧ size.toNat ≠ 0 ∧ size.toNat ≤ maxFirmware ∧ u.maxXfer ≠ 0
    let go : PldmUpdate := { u with phase := .download, comp := c, size := size.toNat, image := [] }
    let tab : PldmUpdate := { u with table := u.table ++ [c], phase := if last then .ready else .learn }
    let bad (d : Nat) : PldmUpdate := { u with phase := .ready, image := [], detail := d }
    let fine : PldmUpdate := { u with phase := .ready, image := [], detail := 1, staged := u.staged ++ [u.comp] }
    let more : PldmUpdate := { u with image := u.image ++ piece }
    let d := s.fwDetail (imageOf u.image) u.size u.comp verdict
    (u.phase = .idle → s.fwCmdRuns = false → exec (.requestUpdate x maxXfer) s =
      .next (answers (set_ s { phase := .learn, maxXfer := maxXfer.toNat }) 0x10510 [0])) ∧
    ((u.phase ≠ .idle ∨ s.fwCmdRuns = true) → exec (.requestUpdate x maxXfer) s = .next (answers s 0x10510 [0x81])) ∧
    (u.phase = .learn → s.updatable c = true → exec (.passComponentTable x comp last) s = .next (answers (set_ s tab) 0x10513 [0, 0])) ∧
    (u.phase = .idle → exec (.passComponentTable x comp last) s = .next (answers s 0x10513 [0x80]) ∧
      exec (.updateComponent x comp size) s = .next (answers s 0x10514 [0x80]) ∧
      exec (.activateFirmware x) s = .next (answers s 0x1051A [0x80]) ∧
      exec (.cancelUpdate x) s = .next (answers s 0x1051D [0x80]) ∧
      exec (.cancelUpdateComponent x) s = .next (answers s 0x1051C [0x80])) ∧
    (u.phase = .ready → fits → exec (.updateComponent x comp size) s = .next (State.pull (answers (set_ s go) 0x10514 [0, 0]) x)) ∧
    (u.phase = .ready → ¬ fits → exec (.updateComponent x comp size) s = .next (answers s 0x10514 [0, 1])) ∧
    (u.phase = .download → u.image.length < u.size → piece.length = u.piece →
      exec (.requestFirmwareDataResp x piece) s = .next (if u.image.length + piece.length = u.size then
        answers (set_ s more) 0x10516 [0] else State.pull (set_ s more) x)) ∧
    (piece.length ≠ u.piece → exec (.requestFirmwareDataResp x piece) s = .next s) ∧
    (u.phase = .download → u.size ≤ u.image.length →
      exec (.transferComplete x) s = .next (set_ s { u with phase := .transferred })) ∧
    (u.phase ≠ .download → exec (.transferComplete x) s = .next s) ∧
    (u.phase = .transferred → d = 1 → exec (.verifyComplete x verdict) s = .next (set_ ((answers s 0x10517 [0]).inc
      VES_IMAGES_OK.COUNT) { u with phase := .verified, detail := 1 })) ∧
    (u.phase = .transferred → d ≠ 1 → exec (.verifyComplete x verdict) s = .next ((set_ ((answers s 0x10517
      [BitVec.ofNat 64 d]).inc VES_VERIFY_FAIL.COUNT) (bad d)).securityRecord
      (.pf s.primary) .refusedPolicy 2 u.comp)) ∧
    (u.phase = .verified →
      let w : FwComp := { v.setBank (!v.running) (fwImage (imageOf u.image)) with staged := true }
      exec (.applyComplete x true) s = .next (answers (set_ ((s.setComp u.comp w).showComp u.comp) fine) 0x10518 [0])) ∧
    (u.phase ≠ .verified → ∀ good, exec (.applyComplete x good) s = .next s) ∧
    (u.phase = .ready → u.staged = [] → exec (.activateFirmware x) s = .next (answers s 0x1051A [0x85])) ∧
    (u.phase = .ready → u.staged ≠ [] → s.inRecovery = false →
      let t := answers (set_ s { u with phase := .activate }) 0x1051A [0]
      exec (.activateFirmware x) s = .next (State.runVes { t with ves := { t.ves with
        queue := t.ves.queue ++ u.staged.eraseDups.map (fun c => .pldm c) } })) ∧
    ((u.phase = .download ∨ u.phase = .transferred ∨ u.phase = .verified) → exec (.cancelUpdateComponent x) s =
      .next (answers (set_ s { u with phase := .ready, image := [] }) 0x1051C [0])) ∧
    (u.phase ≠ .idle → u.phase ≠ .activate → exec (.cancelUpdate x) s = .next (answers (set_ s {}) 0x1051D [0]))

/-! ## The whole machine -/

/-- What reset leaves: no command waits, every register table and memory list nothing, so that each register word of the map
reads as the Reset column gives it and a reserved offset as 0; no block is READY; and the values of some fields, named. A byte of
memory that nothing has written reads 0, which is the model's choice (DESIGN CHOICE, log 2). -/
def Obligations.ResetState : Prop :=
  let r := State.reset
  r.pending = [] ∧ r.Formed ∧
  (∀ off h, regAt off = some h → r.reg off = h.resetWord ∧ r.liveReg off = h.resetWord) ∧
  (∀ off, regAt off = none → r.reg off = 0) ∧
  (∀ a, r.byte a = 0) ∧
  (∀ (x : LCtx) (n : Nat), r.gReg x n = 0 ∧ (r.ctx x).state = .idle) ∧
  (∀ i : Fin 16, r.ready .GAL i = false) ∧ r.ready .ATR 0 = false ∧ r.ready .ALM 0 = false ∧
  r.rd ATR_ID.DEVICE = 0x1620 ∧ r.rd MER_COUNT.COUNT = 0 ∧ r.rd MER_LENGTH.LEN = 1 ∧ r.rd MER_ADJ.LIMIT = 8 ∧
  r.rd MER_HOLDOVER.LIMIT_MS = 1000 ∧ r.rd HEL_RETRY.MAPS = 4 ∧ r.rd (STW_P_GROUP.FRAMES 63) = 320 ∧
  r.rd (FAB_TP_CFG.RETRIES 3) = 8 ∧ r.rd ORR_CFG.EXPRESS_MAX = 8 ∧ r.rd (NBU_QUOTA.QUOTA 7) = 24 ∧
  r.rd FLT_FOLD.MERIDIANS = 1024

/-- Every step keeps the canonical form of memory and of the register tables: addresses strictly rising, and no entry equal to
what an unlisted address reads as. -/
def Obligations.StepKeepsForms : Prop :=
  ∀ s t : State, s.Formed → step s = .next t → t.Formed

/-- Memory: a byte written is read back and every other byte stays; a string written is read back whole, and every byte outside
it stays; a word written is read back, its low byte first; registers are not touched. -/
def Claims.MemoryLaws : Prop :=
  ∀ (s : State) (a b : Nat) (bs : Bytes) (w : Word),
    (s.setBytes a bs).bytes a bs.length = bs ∧
    ((b < a ∨ a + bs.length ≤ b) → (s.setBytes a bs).byte b = s.byte b) ∧
    (s.setWord a w).word a = w ∧ (s.setWord a w).byte a = BitVec.ofNat 8 w.toNat ∧
    ((b < a ∨ a + 8 ≤ b) → (s.setWord a w).byte b = s.byte b) ∧
    (s.setBytes a bs).regs = s.regs ∧ (s.setBytes a bs).live = s.live ∧
    (Memory.wf s.mem → Memory.wf (s.setBytes a bs).mem) ∧
    ((s.zeroRange a bs.length).byte b = if a ≤ b ∧ b < a + bs.length then 0 else s.byte b)

/-- The status reported when several conditions are met together: the one that comes first in the order of R25, whichever is found
first; each status has the code of Table 1-14, and no two share one. -/
def Claims.StatusOrder : Prop :=
  (∀ a b c : Status, Status.worse a b = Status.worse b a ∧ Status.worse (Status.worse a b) c =
    Status.worse a (Status.worse b c) ∧ Status.worse a .ok = a ∧ Status.worse a .uncorrected = .uncorrected) ∧
  List.Pairwise (fun a b => Status.worse b a = a) [Status.uncorrected, .linkFailed, .abandoned, .keyMismatch, .staleMap,
    .notOwner, .keyGenGone, .badLength, .ctxBusy, .refusedFull, .refusedPolicy, .deferred, .partialDone, .ok] ∧
  (∀ a b : Status, a.code = b.code → a = b) ∧ (∀ a : Status, Status.ofCode a.code = some a)

/-- The byte at offset o of logical pseudo-channel p of stack s has the DPA of R15, which names that stack and channel again; a
global fabric address has NODE, PART and OFFSET where Table 1-7 puts them; and of two ownership words the greater epoch is newer,
HELD is newer than INBOUND at one epoch, and the all-zero word is older than every other. -/
def Obligations.AddressesAndWords : Prop :=
  (∀ st p o : Nat, st < 8 → p < 32 → o < 0x48000000 →
    hbmDpa st p o = st * 0x900000000 + p * 0x48000000 + o ∧
    dpaStack (hbmDpa st p o) = st ∧ dpaPc (hbmDpa st p o) = p ∧
    (dpaKind (hbmDpa st p o) = .hbm ↔ p < 31)) ∧
  (∀ node part off : Nat, node < 2 ^ 14 → part < 64 → off < 2 ^ 44 →
    gfaNode (gfaOf node part off) = node ∧ gfaPart (gfaOf node part off) = part ∧ gfaOff (gfaOf node part off) = off ∧
    getBits (BitVec.ofNat 64 (gfaOf node part off)) 50 14 = node ∧
    getBits (BitVec.ofNat 64 (gfaOf node part off)) 44 6 = part ∧
    getBits (BitVec.ofNat 64 (gfaOf node part off)) 0 44 = off) ∧
  (∀ a b : Word, a ≠ 0 → b ≠ 0 → (ownNewer a b = true ↔ getBits b 16 32 < getBits a 16 32 ∨
    (getBits a 16 32 = getBits b 16 32 ∧ getBits a 14 2 = 1 ∧ getBits b 14 2 = 2))) ∧
  (∀ a : Word, a ≠ 0 → ownNewer a 0 = true ∧ ownNewer 0 a = false)

/-- Every code of FP32, BF16 and FP16 that is not a NaN comes back from its value under every rounding mode, and every code of
KV10 that is not NaN under every page bias; a NaN gives the canonical NaN (R104, R110 to R112, R114). -/
def Obligations.NumberFormats : Prop :=
  (∀ fmt mode c : Nat, fmt < 3 → c < 2 ^ fmtBits fmt → fpValue fmt 0 c ≠ .nan →
    encodeIeee fmt mode (fpValue fmt 0 c) = c) ∧
  (∀ (mode c : Nat) (pb : Int), c < 1024 → fpValue 0xA pb c ≠ .nan → encodeKv10 mode pb (fpValue 0xA pb c) = c) ∧
  (∀ mode : Nat, encodeIeee 0 mode .nan = 0x7FC00000 ∧ encodeIeee 1 mode .nan = 0x7FC0 ∧ encodeIeee 2 mode .nan = 0x7E00) ∧
  (∀ mode c : Nat, c % 2 ^ 31 > 0x7F800000 → fpValue 0 0 c = .nan ∧ encodeIeee 0 mode (fpValue 0 0 c) = 0x7FC00000)

/-! ## Statements of several parts -/

/-- When a Larty instruction issues, when it faults, what a false guard leaves and what a fault leaves. -/
def Obligations.LartyIssue : Prop :=
  Claims.LartyNotIssued ∧ Claims.LartyIllegalWordsFault ∧ Claims.LartyFalseGuard ∧ Claims.LartyFaultEffect

/-- Larty class 0x0: branches, calls, counts, fences, MYLD, HALT and BRK. -/
def Obligations.ControlInstructions : Prop := Claims.ControlResults ∧ Claims.ContextStops

/-- Larty class 0x1: the value each scalar, compare and descriptor instruction writes. -/
def Obligations.ScalarInstructions : Prop := Claims.ScalarResults ∧ Claims.PredicateResults

/-- Larty class 0x2 in each space, CFGW, CFGR and CMT. -/
def Obligations.LocalAccessInstructions : Prop :=
  Claims.LocalStoreAccess ∧ Claims.TensorLocalAccess ∧ Claims.ConfigurationAccess

/-- Token and credit counters: takes, waits, sets, reads, gives and returns. -/
def Obligations.CounterInstructions : Prop :=
  Claims.CounterResults ∧ Claims.CounterWaits ∧ Claims.GivesIssued ∧ Claims.GiveArrives

/-- Tile instructions enter their bay's queue in order, complete in order, and TSYNC waits for them. -/
def Obligations.TileInstructions : Prop := Claims.TileInstructionsQueue ∧ Claims.BayCompletes

/-- ATTN, AMODE, ASYNC and AMRG. -/
def Obligations.AttentionInstructions : Prop := Claims.AttentionIssue ∧ Claims.PartialMerge

/-- MOVE, MIGR and PARK enter the move queue, and a move copies its bytes and ends. -/
def Obligations.MoveInstructions : Prop := Claims.MoveIssue ∧ Claims.MoveCompletes

/-- Larty class 0x3: posted and waiting remote operations, and their PRES. -/
def Obligations.RemoteInstructions : Prop := Claims.RemotePosts ∧ Claims.RemotePostsSent ∧ Claims.RemoteReads

/-- Larty class 0x8: records, tentative tokens, progress and CADMIT. -/
def Obligations.CatalogueInstructions : Prop := Claims.CatalogueInstructionsAll ∧ Claims.AdmissionByProgram

/-- BELL, TMARK, TADD and BARF. -/
def Obligations.DoorbellTelemetryBarrier : Prop := Claims.DoorbellAndTelemetry ∧ Claims.BarrierArrival

/-- Host register writes, expert writes and commit requests: what is refused, ignored and written. -/
def Obligations.RegisterWrites : Prop := Claims.RegisterWritesPlain ∧ Claims.ExpertWrites

/-- What a write and an apply point do to each field of a register, and to the other bits. -/
def Obligations.RegisterFields : Prop := Claims.RegisterWordFields ∧ Claims.ApplyOneField

/-- The timebase lock states, PTP messages, Sync pairs and the die-to-die links. -/
def Obligations.TimebaseCommands : Prop :=
  Claims.LockTimeouts ∧ Claims.PtpExchange ∧ Claims.SyncPairLocks ∧ Claims.DieToDieLinks

/-- A near-bank segment's course, and ordinary accesses and refreshes beside it. -/
def Obligations.NearBankUnits : Prop := Claims.SegmentCourse ∧ Claims.NearBankAccesses

/-- The power states of a stack and its spare pseudo-channel. -/
def Obligations.StackPowerAndSpare : Prop := Claims.StackPowerStates ∧ Claims.SparePseudoChannel

/-- Spare bays, pre-emption of a gallery, and its seed, tag and expander commands. -/
def Obligations.GalleryCommands : Prop := Claims.SpareBays ∧ Claims.Preemption ∧ Claims.GalleryEngines

/-- Ring indexes, the admission and completion rings, releases and expiries. -/
def Obligations.CatalogueRecords : Prop := Claims.RingIndexes ∧ Claims.CatalogueRings ∧ Claims.RecordsAndTime

/-- Page groups from allocation to release, migrations and record commands. -/
def Obligations.PageGroups : Prop := Claims.GroupLives ∧ Claims.MigrationsAndCommands

/-- Almanac commands, their moves, and adapter slots. -/
def Obligations.AlmanacAndAdapters : Prop := Claims.AlmanacCommands ∧ Claims.AlmanacMoves ∧ Claims.AdapterSlots

/-- How work requests end, and their completion records. -/
def Obligations.WorkRequestEnds : Prop := Claims.WorkRequestEnds ∧ Claims.CompletionRecords

/-- Trigger slots, whole messages, flushes and closes of handover entries. -/
def Obligations.TriggersAndMessages : Prop := Claims.TriggersAndMeasuring ∧ Claims.MessagesFlushesAndCloses

/-- Blocks of a Rilcy link, and the states of a port. -/
def Obligations.Links : Prop := Claims.LinkBlocks ∧ Claims.LinkStates

/-- Lane failure, substitution and recalibration, and the laser cartridges. -/
def Obligations.LanesAndCartridges : Prop := Claims.LaneHealth ∧ Claims.LaserCartridges

/-- Which packets are heard, and what a response does for its request. -/
def Obligations.PacketArrival : Prop := Claims.PacketArrival ∧ Claims.Responses

/-- Class C and class S requests at their target. -/
def Obligations.RequestPackets : Prop := Claims.ClassCPackets ∧ Claims.ClassSRequests

/-- Control packets and NACKs. -/
def Obligations.ControlPackets : Prop := Claims.ControlPackets ∧ Claims.NackEffects

/-- Connection commands, transport timers, regions and cached lines. -/
def Obligations.Connections : Prop := Claims.ConnectionCommands ∧ Claims.TransportTimers ∧ Claims.RegionsAndLines

/-- Host port states, heartbeats and re-binding. -/
def Obligations.HostPorts : Prop := Claims.HostPorts ∧ Claims.Rebinding

/-- MSI-X messages, configuration, memory windows and mailboxes. -/
def Obligations.HostAccesses : Prop := Claims.MsixAndConfig ∧ Claims.WindowsAndMailboxes

/-- Rings, pending words, moderation and delivery in the doorbell hall. -/
def Obligations.Doorbells : Prop := Claims.DoorbellRings ∧ Claims.DoorbellTargets

/-- Partition roles and system maps. -/
def Obligations.RolesAndMaps : Prop := Claims.RoleChanges ∧ Claims.SystemMaps

/-- Vestibule commands and firmware image checks. -/
def Obligations.VestibuleCommands : Prop := Claims.VestibuleCommandsAll ∧ Claims.FirmwareImages

/-- SPDM requests and sessions (response codes are the family's, log 31). -/
def Obligations.SpdmMessages : Prop := Claims.SpdmRequests ∧ Claims.SpdmSessions

/-- Input power, rails and the module's start. -/
def Obligations.PowerAndStart : Prop := Claims.PowerEvents ∧ Claims.ModuleStarts

/-- Health states and spare self-tests. -/
def Obligations.HealthAndSpares : Prop := Claims.HealthCommands ∧ Claims.SpareTests

/-- Samples, traces and operator debug. -/
def Obligations.SamplesAndDebug : Prop := Claims.SamplesAndTraces ∧ Claims.DebugPaths

/-- Management requests and firmware update (DMTF codes are the family's, log 31). -/
def Obligations.Management : Prop := Claims.ManagementRequests ∧ Claims.ManagementCommands ∧ Claims.FirmwareUpdates

/-- Memory reads after writes, and the order of statuses. -/
def Obligations.MemoryAndStatus : Prop := Claims.MemoryLaws ∧ Claims.StatusOrder
end

