-- ==== Sys2Proof/Laws/Bits.lean ====
section
/-! SUPPORT. Bit fields of a word as arithmetic, a field read after a field written, and little-endian strings. -/

namespace Sys2Proof.Machine

open Sys2Proof

theorem lowMask_getLsbD (len i : Nat) : (lowMask len).getLsbD i = (decide (i < 64) && decide (i < len)) := by
  simp only [lowMask, BitVec.getLsbD_ofNat, Nat.testBit_two_pow_sub_one]

/-- A field is the word divided by the place of its lowest bit, modulo its width. -/
theorem getBits_eq (w : Word) (lo len : Nat) : getBits w lo len = w.toNat / 2 ^ lo % 2 ^ len := by
  apply Nat.eq_of_testBit_eq
  intro i
  simp only [getBits, Nat.testBit_mod_two_pow, Nat.testBit_div_two_pow, BitVec.testBit_toNat, BitVec.getLsbD_and,
    BitVec.getLsbD_ushiftRight, lowMask_getLsbD]
  by_cases h : lo + i < 64
  · have : i < 64 := by omega
    simp [this, Bool.and_comm, Nat.add_comm]
  · simp [BitVec.getLsbD_of_ge w (lo + i) (by omega), BitVec.getLsbD_of_ge w (i + lo) (by omega)]

theorem getBits_lt (w : Word) (lo len : Nat) : getBits w lo len < 2 ^ len := by
  rw [getBits_eq]; exact Nat.mod_lt _ (Nat.two_pow_pos len)

theorem getBits_ofNat (n lo len : Nat) (h : n < 2 ^ 64) : getBits (BitVec.ofNat 64 n) lo len = n / 2 ^ lo % 2 ^ len := by
  rw [getBits_eq, BitVec.toNat_ofNat, Nat.mod_eq_of_lt h]

/-- The bits of a word whose field at `lo` is set: the value's bits inside the field, the old ones outside. -/
theorem setBits_getLsbD (w : Word) (lo len v i : Nat) (h : i < 64) :
    (setBits w lo len v).getLsbD i = if lo ≤ i ∧ i < lo + len then v.testBit (i - lo) else w.getLsbD i := by
  simp only [setBits, BitVec.getLsbD_or, BitVec.getLsbD_and, BitVec.getLsbD_not, BitVec.getLsbD_shiftLeft, lowMask_getLsbD,
    BitVec.getLsbD_ofNat]
  by_cases h1 : lo ≤ i
  · by_cases h2 : i < lo + len
    · have a : i - lo < len := by omega
      have b : i - lo < 64 := by omega
      simp [h, h1, h2, a, b, Nat.not_lt.mpr h1]
    · have a : ¬ i - lo < len := by omega
      simp [h, h2, a]
  · have a : i < lo := by omega
    simp [h, h1, a]

/-- A field read after it is set holds the low bits of the value. -/
theorem getBits_setBits_self (w : Word) (lo len v : Nat) (h : lo + len ≤ 64) :
    getBits (setBits w lo len v) lo len = v % 2 ^ len := by
  apply Nat.eq_of_testBit_eq
  intro i
  rw [getBits_eq]
  simp only [Nat.testBit_mod_two_pow, Nat.testBit_div_two_pow, BitVec.testBit_toNat]
  by_cases hi : i < len
  · rw [setBits_getLsbD _ _ _ _ _ (by omega)]
    simp [hi, show lo ≤ i + lo by omega, show i + lo < lo + len by omega]
  · simp [hi]

/-- A field that does not meet the one that is set reads as before. -/
theorem getBits_setBits_other (w : Word) (lo len v lo' len' : Nat) (h : lo' + len' ≤ lo ∨ lo + len ≤ lo') :
    getBits (setBits w lo len v) lo' len' = getBits w lo' len' := by
  apply Nat.eq_of_testBit_eq
  intro i
  rw [getBits_eq, getBits_eq]
  simp only [Nat.testBit_mod_two_pow, Nat.testBit_div_two_pow, BitVec.testBit_toNat]
  by_cases hi : i < len'
  · by_cases h64 : i + lo' < 64
    · rw [setBits_getLsbD _ _ _ _ _ h64, if_neg (by omega)]
    · rw [BitVec.getLsbD_of_ge _ _ (by omega), BitVec.getLsbD_of_ge _ _ (by omega)]
  · simp [hi]

/-! ## Little-endian strings -/

@[simp] theorem leBytes_length : ∀ n v : Nat, (leBytes n v).length = n
  | 0, _ => rfl
  | n + 1, v => by simp [leBytes, leBytes_length n]

/-- A number's bytes stand for its low bits. -/
theorem leNat_leBytes : ∀ n v : Nat, leNat (leBytes n v) = v % 256 ^ n
  | 0, v => by simp [leBytes, leNat, Nat.mod_one]
  | n + 1, v => by
    simp only [leBytes, leNat, leNat_leBytes n (v / 256), BitVec.toNat_ofNat]
    rw [show (256 : Nat) ^ (n + 1) = 256 * 256 ^ n by rw [Nat.pow_succ, Nat.mul_comm], Nat.mod_mul]

end Sys2Proof.Machine
end

