-- ==== Sys2Proof/Laws/State.lean ====
section
/-! SUPPORT. What each update of the state leaves as it was: one lemma per field and update, so that no proof unfolds a record
update. -/

namespace Sys2Proof.Machine

open Sys2Proof

@[simp] theorem State.setReg_pending (s : State) (off : Nat) (w : Word) : (s.setReg off w).pending = s.pending := rfl
@[simp] theorem State.setReg_live (s : State) (off : Nat) (w : Word) : (s.setReg off w).live = s.live := rfl
@[simp] theorem State.setReg_priv (s : State) (off : Nat) (w : Word) : (s.setReg off w).priv = s.priv := rfl
@[simp] theorem State.setReg_mem (s : State) (off : Nat) (w : Word) : (s.setReg off w).mem = s.mem := rfl
@[simp] theorem State.setReg_atr (s : State) (off : Nat) (w : Word) : (s.setReg off w).atr = s.atr := rfl
@[simp] theorem State.setReg_ves (s : State) (off : Nat) (w : Word) : (s.setReg off w).ves = s.ves := rfl
@[simp] theorem State.setReg_merp (s : State) (off : Nat) (w : Word) : (s.setReg off w).merp = s.merp := rfl
@[simp] theorem State.setReg_larty (s : State) (off : Nat) (w : Word) : (s.setReg off w).larty = s.larty := rfl
@[simp] theorem State.setReg_stw (s : State) (off : Nat) (w : Word) : (s.setReg off w).stw = s.stw := rfl
@[simp] theorem State.setReg_cat (s : State) (off : Nat) (w : Word) : (s.setReg off w).cat = s.cat := rfl
@[simp] theorem State.setReg_gal (s : State) (off : Nat) (w : Word) : (s.setReg off w).gal = s.gal := rfl
@[simp] theorem State.setReg_nb (s : State) (off : Nat) (w : Word) : (s.setReg off w).nb = s.nb := rfl
@[simp] theorem State.setReg_tp (s : State) (off : Nat) (w : Word) : (s.setReg off w).tp = s.tp := rfl
@[simp] theorem State.setReg_fab (s : State) (off : Nat) (w : Word) : (s.setReg off w).fab = s.fab := rfl
@[simp] theorem State.setReg_orr (s : State) (off : Nat) (w : Word) : (s.setReg off w).orr = s.orr := rfl
@[simp] theorem State.setReg_hel (s : State) (off : Nat) (w : Word) : (s.setReg off w).hel = s.hel := rfl
@[simp] theorem State.setReg_prt (s : State) (off : Nat) (w : Word) : (s.setReg off w).prt = s.prt := rfl
@[simp] theorem State.setReg_flt (s : State) (off : Nat) (w : Word) : (s.setReg off w).flt = s.flt := rfl
@[simp] theorem State.setReg_pho (s : State) (off : Nat) (w : Word) : (s.setReg off w).pho = s.pho := rfl
@[simp] theorem State.setReg_mgmt (s : State) (off : Nat) (w : Word) : (s.setReg off w).mgmt = s.mgmt := rfl
@[simp] theorem State.setReg_hif (s : State) (off : Nat) (w : Word) : (s.setReg off w).hif = s.hif := rfl
@[simp] theorem State.setReg_dbhTimer (s : State) (off : Nat) (w : Word) : (s.setReg off w).dbhTimer = s.dbhTimer := rfl
@[simp] theorem State.setReg_outbox (s : State) (off : Nat) (w : Word) : (s.setReg off w).outbox = s.outbox := rfl
@[simp] theorem State.setReg_freeCtr (s : State) (off : Nat) (w : Word) : (s.setReg off w).freeCtr = s.freeCtr := rfl

@[simp] theorem State.setLive_pending (s : State) (off : Nat) (w : Word) : (s.setLive off w).pending = s.pending := rfl
@[simp] theorem State.setLive_regs (s : State) (off : Nat) (w : Word) : (s.setLive off w).regs = s.regs := rfl
@[simp] theorem State.setLive_priv (s : State) (off : Nat) (w : Word) : (s.setLive off w).priv = s.priv := rfl
@[simp] theorem State.setLive_mem (s : State) (off : Nat) (w : Word) : (s.setLive off w).mem = s.mem := rfl
@[simp] theorem State.setLive_atr (s : State) (off : Nat) (w : Word) : (s.setLive off w).atr = s.atr := rfl
@[simp] theorem State.setLive_ves (s : State) (off : Nat) (w : Word) : (s.setLive off w).ves = s.ves := rfl
@[simp] theorem State.setLive_merp (s : State) (off : Nat) (w : Word) : (s.setLive off w).merp = s.merp := rfl
@[simp] theorem State.setLive_larty (s : State) (off : Nat) (w : Word) : (s.setLive off w).larty = s.larty := rfl
@[simp] theorem State.setLive_stw (s : State) (off : Nat) (w : Word) : (s.setLive off w).stw = s.stw := rfl
@[simp] theorem State.setLive_cat (s : State) (off : Nat) (w : Word) : (s.setLive off w).cat = s.cat := rfl
@[simp] theorem State.setLive_gal (s : State) (off : Nat) (w : Word) : (s.setLive off w).gal = s.gal := rfl
@[simp] theorem State.setLive_nb (s : State) (off : Nat) (w : Word) : (s.setLive off w).nb = s.nb := rfl
@[simp] theorem State.setLive_tp (s : State) (off : Nat) (w : Word) : (s.setLive off w).tp = s.tp := rfl
@[simp] theorem State.setLive_fab (s : State) (off : Nat) (w : Word) : (s.setLive off w).fab = s.fab := rfl
@[simp] theorem State.setLive_orr (s : State) (off : Nat) (w : Word) : (s.setLive off w).orr = s.orr := rfl
@[simp] theorem State.setLive_hel (s : State) (off : Nat) (w : Word) : (s.setLive off w).hel = s.hel := rfl
@[simp] theorem State.setLive_prt (s : State) (off : Nat) (w : Word) : (s.setLive off w).prt = s.prt := rfl
@[simp] theorem State.setLive_flt (s : State) (off : Nat) (w : Word) : (s.setLive off w).flt = s.flt := rfl
@[simp] theorem State.setLive_pho (s : State) (off : Nat) (w : Word) : (s.setLive off w).pho = s.pho := rfl
@[simp] theorem State.setLive_mgmt (s : State) (off : Nat) (w : Word) : (s.setLive off w).mgmt = s.mgmt := rfl
@[simp] theorem State.setLive_hif (s : State) (off : Nat) (w : Word) : (s.setLive off w).hif = s.hif := rfl
@[simp] theorem State.setLive_dbhTimer (s : State) (off : Nat) (w : Word) : (s.setLive off w).dbhTimer = s.dbhTimer := rfl
@[simp] theorem State.setLive_outbox (s : State) (off : Nat) (w : Word) : (s.setLive off w).outbox = s.outbox := rfl
@[simp] theorem State.setLive_freeCtr (s : State) (off : Nat) (w : Word) : (s.setLive off w).freeCtr = s.freeCtr := rfl

@[simp] theorem State.setPriv_pending (s : State) (off a : Nat) (w : Word) : (s.setPriv off a w).pending = s.pending := rfl
@[simp] theorem State.setPriv_regs (s : State) (off a : Nat) (w : Word) : (s.setPriv off a w).regs = s.regs := rfl
@[simp] theorem State.setPriv_live (s : State) (off a : Nat) (w : Word) : (s.setPriv off a w).live = s.live := rfl
@[simp] theorem State.setPriv_mem (s : State) (off a : Nat) (w : Word) : (s.setPriv off a w).mem = s.mem := rfl
@[simp] theorem State.setPriv_atr (s : State) (off a : Nat) (w : Word) : (s.setPriv off a w).atr = s.atr := rfl
@[simp] theorem State.setPriv_ves (s : State) (off a : Nat) (w : Word) : (s.setPriv off a w).ves = s.ves := rfl
@[simp] theorem State.setPriv_merp (s : State) (off a : Nat) (w : Word) : (s.setPriv off a w).merp = s.merp := rfl
@[simp] theorem State.setPriv_larty (s : State) (off a : Nat) (w : Word) : (s.setPriv off a w).larty = s.larty := rfl
@[simp] theorem State.setPriv_stw (s : State) (off a : Nat) (w : Word) : (s.setPriv off a w).stw = s.stw := rfl
@[simp] theorem State.setPriv_cat (s : State) (off a : Nat) (w : Word) : (s.setPriv off a w).cat = s.cat := rfl
@[simp] theorem State.setPriv_gal (s : State) (off a : Nat) (w : Word) : (s.setPriv off a w).gal = s.gal := rfl
@[simp] theorem State.setPriv_nb (s : State) (off a : Nat) (w : Word) : (s.setPriv off a w).nb = s.nb := rfl
@[simp] theorem State.setPriv_tp (s : State) (off a : Nat) (w : Word) : (s.setPriv off a w).tp = s.tp := rfl
@[simp] theorem State.setPriv_fab (s : State) (off a : Nat) (w : Word) : (s.setPriv off a w).fab = s.fab := rfl
@[simp] theorem State.setPriv_orr (s : State) (off a : Nat) (w : Word) : (s.setPriv off a w).orr = s.orr := rfl
@[simp] theorem State.setPriv_hel (s : State) (off a : Nat) (w : Word) : (s.setPriv off a w).hel = s.hel := rfl
@[simp] theorem State.setPriv_prt (s : State) (off a : Nat) (w : Word) : (s.setPriv off a w).prt = s.prt := rfl
@[simp] theorem State.setPriv_flt (s : State) (off a : Nat) (w : Word) : (s.setPriv off a w).flt = s.flt := rfl
@[simp] theorem State.setPriv_pho (s : State) (off a : Nat) (w : Word) : (s.setPriv off a w).pho = s.pho := rfl
@[simp] theorem State.setPriv_mgmt (s : State) (off a : Nat) (w : Word) : (s.setPriv off a w).mgmt = s.mgmt := rfl
@[simp] theorem State.setPriv_hif (s : State) (off a : Nat) (w : Word) : (s.setPriv off a w).hif = s.hif := rfl
@[simp] theorem State.setPriv_dbhTimer (s : State) (off a : Nat) (w : Word) : (s.setPriv off a w).dbhTimer = s.dbhTimer := rfl
@[simp] theorem State.setPriv_outbox (s : State) (off a : Nat) (w : Word) : (s.setPriv off a w).outbox = s.outbox := rfl
@[simp] theorem State.setPriv_freeCtr (s : State) (off a : Nat) (w : Word) : (s.setPriv off a w).freeCtr = s.freeCtr := rfl

@[simp] theorem State.setByte_pending (s : State) (a : Nat) (b : Byte) : (s.setByte a b).pending = s.pending := rfl
@[simp] theorem State.setByte_regs (s : State) (a : Nat) (b : Byte) : (s.setByte a b).regs = s.regs := rfl
@[simp] theorem State.setByte_live (s : State) (a : Nat) (b : Byte) : (s.setByte a b).live = s.live := rfl
@[simp] theorem State.setByte_priv (s : State) (a : Nat) (b : Byte) : (s.setByte a b).priv = s.priv := rfl
@[simp] theorem State.setByte_atr (s : State) (a : Nat) (b : Byte) : (s.setByte a b).atr = s.atr := rfl
@[simp] theorem State.setByte_ves (s : State) (a : Nat) (b : Byte) : (s.setByte a b).ves = s.ves := rfl
@[simp] theorem State.setByte_merp (s : State) (a : Nat) (b : Byte) : (s.setByte a b).merp = s.merp := rfl
@[simp] theorem State.setByte_larty (s : State) (a : Nat) (b : Byte) : (s.setByte a b).larty = s.larty := rfl
@[simp] theorem State.setByte_stw (s : State) (a : Nat) (b : Byte) : (s.setByte a b).stw = s.stw := rfl
@[simp] theorem State.setByte_cat (s : State) (a : Nat) (b : Byte) : (s.setByte a b).cat = s.cat := rfl
@[simp] theorem State.setByte_gal (s : State) (a : Nat) (b : Byte) : (s.setByte a b).gal = s.gal := rfl
@[simp] theorem State.setByte_nb (s : State) (a : Nat) (b : Byte) : (s.setByte a b).nb = s.nb := rfl
@[simp] theorem State.setByte_tp (s : State) (a : Nat) (b : Byte) : (s.setByte a b).tp = s.tp := rfl
@[simp] theorem State.setByte_fab (s : State) (a : Nat) (b : Byte) : (s.setByte a b).fab = s.fab := rfl
@[simp] theorem State.setByte_orr (s : State) (a : Nat) (b : Byte) : (s.setByte a b).orr = s.orr := rfl
@[simp] theorem State.setByte_hel (s : State) (a : Nat) (b : Byte) : (s.setByte a b).hel = s.hel := rfl
@[simp] theorem State.setByte_prt (s : State) (a : Nat) (b : Byte) : (s.setByte a b).prt = s.prt := rfl
@[simp] theorem State.setByte_flt (s : State) (a : Nat) (b : Byte) : (s.setByte a b).flt = s.flt := rfl
@[simp] theorem State.setByte_pho (s : State) (a : Nat) (b : Byte) : (s.setByte a b).pho = s.pho := rfl
@[simp] theorem State.setByte_mgmt (s : State) (a : Nat) (b : Byte) : (s.setByte a b).mgmt = s.mgmt := rfl
@[simp] theorem State.setByte_hif (s : State) (a : Nat) (b : Byte) : (s.setByte a b).hif = s.hif := rfl
@[simp] theorem State.setByte_dbhTimer (s : State) (a : Nat) (b : Byte) : (s.setByte a b).dbhTimer = s.dbhTimer := rfl
@[simp] theorem State.setByte_outbox (s : State) (a : Nat) (b : Byte) : (s.setByte a b).outbox = s.outbox := rfl
@[simp] theorem State.setByte_freeCtr (s : State) (a : Nat) (b : Byte) : (s.setByte a b).freeCtr = s.freeCtr := rfl

@[simp] theorem State.emit_pending (s : State) (o : Out) : (s.emit o).pending = s.pending := rfl
@[simp] theorem State.emit_regs (s : State) (o : Out) : (s.emit o).regs = s.regs := rfl
@[simp] theorem State.emit_live (s : State) (o : Out) : (s.emit o).live = s.live := rfl
@[simp] theorem State.emit_priv (s : State) (o : Out) : (s.emit o).priv = s.priv := rfl
@[simp] theorem State.emit_mem (s : State) (o : Out) : (s.emit o).mem = s.mem := rfl
@[simp] theorem State.emit_atr (s : State) (o : Out) : (s.emit o).atr = s.atr := rfl
@[simp] theorem State.emit_ves (s : State) (o : Out) : (s.emit o).ves = s.ves := rfl
@[simp] theorem State.emit_merp (s : State) (o : Out) : (s.emit o).merp = s.merp := rfl
@[simp] theorem State.emit_larty (s : State) (o : Out) : (s.emit o).larty = s.larty := rfl
@[simp] theorem State.emit_stw (s : State) (o : Out) : (s.emit o).stw = s.stw := rfl
@[simp] theorem State.emit_cat (s : State) (o : Out) : (s.emit o).cat = s.cat := rfl
@[simp] theorem State.emit_gal (s : State) (o : Out) : (s.emit o).gal = s.gal := rfl
@[simp] theorem State.emit_nb (s : State) (o : Out) : (s.emit o).nb = s.nb := rfl
@[simp] theorem State.emit_tp (s : State) (o : Out) : (s.emit o).tp = s.tp := rfl
@[simp] theorem State.emit_fab (s : State) (o : Out) : (s.emit o).fab = s.fab := rfl
@[simp] theorem State.emit_orr (s : State) (o : Out) : (s.emit o).orr = s.orr := rfl
@[simp] theorem State.emit_hel (s : State) (o : Out) : (s.emit o).hel = s.hel := rfl
@[simp] theorem State.emit_prt (s : State) (o : Out) : (s.emit o).prt = s.prt := rfl
@[simp] theorem State.emit_flt (s : State) (o : Out) : (s.emit o).flt = s.flt := rfl
@[simp] theorem State.emit_pho (s : State) (o : Out) : (s.emit o).pho = s.pho := rfl
@[simp] theorem State.emit_mgmt (s : State) (o : Out) : (s.emit o).mgmt = s.mgmt := rfl
@[simp] theorem State.emit_hif (s : State) (o : Out) : (s.emit o).hif = s.hif := rfl
@[simp] theorem State.emit_dbhTimer (s : State) (o : Out) : (s.emit o).dbhTimer = s.dbhTimer := rfl
@[simp] theorem State.emit_freeCtr (s : State) (o : Out) : (s.emit o).freeCtr = s.freeCtr := rfl

@[simp] theorem State.wrShadow_pending (s : State) (f : FieldRef) (v : Nat) : (s.wrShadow f v).pending = s.pending := rfl
@[simp] theorem State.wrShadow_live (s : State) (f : FieldRef) (v : Nat) : (s.wrShadow f v).live = s.live := rfl
@[simp] theorem State.wrShadow_priv (s : State) (f : FieldRef) (v : Nat) : (s.wrShadow f v).priv = s.priv := rfl
@[simp] theorem State.wrShadow_mem (s : State) (f : FieldRef) (v : Nat) : (s.wrShadow f v).mem = s.mem := rfl
@[simp] theorem State.wrShadow_atr (s : State) (f : FieldRef) (v : Nat) : (s.wrShadow f v).atr = s.atr := rfl
@[simp] theorem State.wrShadow_ves (s : State) (f : FieldRef) (v : Nat) : (s.wrShadow f v).ves = s.ves := rfl
@[simp] theorem State.wrShadow_merp (s : State) (f : FieldRef) (v : Nat) : (s.wrShadow f v).merp = s.merp := rfl
@[simp] theorem State.wrShadow_larty (s : State) (f : FieldRef) (v : Nat) : (s.wrShadow f v).larty = s.larty := rfl
@[simp] theorem State.wrShadow_stw (s : State) (f : FieldRef) (v : Nat) : (s.wrShadow f v).stw = s.stw := rfl
@[simp] theorem State.wrShadow_cat (s : State) (f : FieldRef) (v : Nat) : (s.wrShadow f v).cat = s.cat := rfl
@[simp] theorem State.wrShadow_gal (s : State) (f : FieldRef) (v : Nat) : (s.wrShadow f v).gal = s.gal := rfl
@[simp] theorem State.wrShadow_nb (s : State) (f : FieldRef) (v : Nat) : (s.wrShadow f v).nb = s.nb := rfl
@[simp] theorem State.wrShadow_tp (s : State) (f : FieldRef) (v : Nat) : (s.wrShadow f v).tp = s.tp := rfl
@[simp] theorem State.wrShadow_fab (s : State) (f : FieldRef) (v : Nat) : (s.wrShadow f v).fab = s.fab := rfl
@[simp] theorem State.wrShadow_orr (s : State) (f : FieldRef) (v : Nat) : (s.wrShadow f v).orr = s.orr := rfl
@[simp] theorem State.wrShadow_hel (s : State) (f : FieldRef) (v : Nat) : (s.wrShadow f v).hel = s.hel := rfl
@[simp] theorem State.wrShadow_prt (s : State) (f : FieldRef) (v : Nat) : (s.wrShadow f v).prt = s.prt := rfl
@[simp] theorem State.wrShadow_flt (s : State) (f : FieldRef) (v : Nat) : (s.wrShadow f v).flt = s.flt := rfl
@[simp] theorem State.wrShadow_pho (s : State) (f : FieldRef) (v : Nat) : (s.wrShadow f v).pho = s.pho := rfl
@[simp] theorem State.wrShadow_mgmt (s : State) (f : FieldRef) (v : Nat) : (s.wrShadow f v).mgmt = s.mgmt := rfl
@[simp] theorem State.wrShadow_hif (s : State) (f : FieldRef) (v : Nat) : (s.wrShadow f v).hif = s.hif := rfl
@[simp] theorem State.wrShadow_dbhTimer (s : State) (f : FieldRef) (v : Nat) : (s.wrShadow f v).dbhTimer = s.dbhTimer := rfl
@[simp] theorem State.wrShadow_outbox (s : State) (f : FieldRef) (v : Nat) : (s.wrShadow f v).outbox = s.outbox := rfl
@[simp] theorem State.wrShadow_freeCtr (s : State) (f : FieldRef) (v : Nat) : (s.wrShadow f v).freeCtr = s.freeCtr := rfl

@[simp] theorem State.wrPriv_pending (s : State) (a : Nat) (f : FieldRef) (v : Nat) : (s.wrPriv a f v).pending = s.pending := rfl
@[simp] theorem State.wrPriv_regs (s : State) (a : Nat) (f : FieldRef) (v : Nat) : (s.wrPriv a f v).regs = s.regs := rfl
@[simp] theorem State.wrPriv_live (s : State) (a : Nat) (f : FieldRef) (v : Nat) : (s.wrPriv a f v).live = s.live := rfl
@[simp] theorem State.wrPriv_mem (s : State) (a : Nat) (f : FieldRef) (v : Nat) : (s.wrPriv a f v).mem = s.mem := rfl
@[simp] theorem State.wrPriv_atr (s : State) (a : Nat) (f : FieldRef) (v : Nat) : (s.wrPriv a f v).atr = s.atr := rfl
@[simp] theorem State.wrPriv_ves (s : State) (a : Nat) (f : FieldRef) (v : Nat) : (s.wrPriv a f v).ves = s.ves := rfl
@[simp] theorem State.wrPriv_merp (s : State) (a : Nat) (f : FieldRef) (v : Nat) : (s.wrPriv a f v).merp = s.merp := rfl
@[simp] theorem State.wrPriv_larty (s : State) (a : Nat) (f : FieldRef) (v : Nat) : (s.wrPriv a f v).larty = s.larty := rfl
@[simp] theorem State.wrPriv_stw (s : State) (a : Nat) (f : FieldRef) (v : Nat) : (s.wrPriv a f v).stw = s.stw := rfl
@[simp] theorem State.wrPriv_cat (s : State) (a : Nat) (f : FieldRef) (v : Nat) : (s.wrPriv a f v).cat = s.cat := rfl
@[simp] theorem State.wrPriv_gal (s : State) (a : Nat) (f : FieldRef) (v : Nat) : (s.wrPriv a f v).gal = s.gal := rfl
@[simp] theorem State.wrPriv_nb (s : State) (a : Nat) (f : FieldRef) (v : Nat) : (s.wrPriv a f v).nb = s.nb := rfl
@[simp] theorem State.wrPriv_tp (s : State) (a : Nat) (f : FieldRef) (v : Nat) : (s.wrPriv a f v).tp = s.tp := rfl
@[simp] theorem State.wrPriv_fab (s : State) (a : Nat) (f : FieldRef) (v : Nat) : (s.wrPriv a f v).fab = s.fab := rfl
@[simp] theorem State.wrPriv_orr (s : State) (a : Nat) (f : FieldRef) (v : Nat) : (s.wrPriv a f v).orr = s.orr := rfl
@[simp] theorem State.wrPriv_hel (s : State) (a : Nat) (f : FieldRef) (v : Nat) : (s.wrPriv a f v).hel = s.hel := rfl
@[simp] theorem State.wrPriv_prt (s : State) (a : Nat) (f : FieldRef) (v : Nat) : (s.wrPriv a f v).prt = s.prt := rfl
@[simp] theorem State.wrPriv_flt (s : State) (a : Nat) (f : FieldRef) (v : Nat) : (s.wrPriv a f v).flt = s.flt := rfl
@[simp] theorem State.wrPriv_pho (s : State) (a : Nat) (f : FieldRef) (v : Nat) : (s.wrPriv a f v).pho = s.pho := rfl
@[simp] theorem State.wrPriv_mgmt (s : State) (a : Nat) (f : FieldRef) (v : Nat) : (s.wrPriv a f v).mgmt = s.mgmt := rfl
@[simp] theorem State.wrPriv_hif (s : State) (a : Nat) (f : FieldRef) (v : Nat) : (s.wrPriv a f v).hif = s.hif := rfl
@[simp] theorem State.wrPriv_dbhTimer (s : State) (a : Nat) (f : FieldRef) (v : Nat) : (s.wrPriv a f v).dbhTimer = s.dbhTimer := rfl
@[simp] theorem State.wrPriv_outbox (s : State) (a : Nat) (f : FieldRef) (v : Nat) : (s.wrPriv a f v).outbox = s.outbox := rfl
@[simp] theorem State.wrPriv_freeCtr (s : State) (a : Nat) (f : FieldRef) (v : Nat) : (s.wrPriv a f v).freeCtr = s.freeCtr := rfl

@[simp] theorem State.wr_pending (s : State) (f : FieldRef) (v : Nat) : (s.wr f v).pending = s.pending := by unfold State.wr; dsimp only; split <;> rfl
@[simp] theorem State.wr_priv (s : State) (f : FieldRef) (v : Nat) : (s.wr f v).priv = s.priv := by unfold State.wr; dsimp only; split <;> rfl
@[simp] theorem State.wr_mem (s : State) (f : FieldRef) (v : Nat) : (s.wr f v).mem = s.mem := by unfold State.wr; dsimp only; split <;> rfl
@[simp] theorem State.wr_atr (s : State) (f : FieldRef) (v : Nat) : (s.wr f v).atr = s.atr := by unfold State.wr; dsimp only; split <;> rfl
@[simp] theorem State.wr_ves (s : State) (f : FieldRef) (v : Nat) : (s.wr f v).ves = s.ves := by unfold State.wr; dsimp only; split <;> rfl
@[simp] theorem State.wr_merp (s : State) (f : FieldRef) (v : Nat) : (s.wr f v).merp = s.merp := by unfold State.wr; dsimp only; split <;> rfl
@[simp] theorem State.wr_larty (s : State) (f : FieldRef) (v : Nat) : (s.wr f v).larty = s.larty := by unfold State.wr; dsimp only; split <;> rfl
@[simp] theorem State.wr_stw (s : State) (f : FieldRef) (v : Nat) : (s.wr f v).stw = s.stw := by unfold State.wr; dsimp only; split <;> rfl
@[simp] theorem State.wr_cat (s : State) (f : FieldRef) (v : Nat) : (s.wr f v).cat = s.cat := by unfold State.wr; dsimp only; split <;> rfl
@[simp] theorem State.wr_gal (s : State) (f : FieldRef) (v : Nat) : (s.wr f v).gal = s.gal := by unfold State.wr; dsimp only; split <;> rfl
@[simp] theorem State.wr_nb (s : State) (f : FieldRef) (v : Nat) : (s.wr f v).nb = s.nb := by unfold State.wr; dsimp only; split <;> rfl
@[simp] theorem State.wr_tp (s : State) (f : FieldRef) (v : Nat) : (s.wr f v).tp = s.tp := by unfold State.wr; dsimp only; split <;> rfl
@[simp] theorem State.wr_fab (s : State) (f : FieldRef) (v : Nat) : (s.wr f v).fab = s.fab := by unfold State.wr; dsimp only; split <;> rfl
@[simp] theorem State.wr_orr (s : State) (f : FieldRef) (v : Nat) : (s.wr f v).orr = s.orr := by unfold State.wr; dsimp only; split <;> rfl
@[simp] theorem State.wr_hel (s : State) (f : FieldRef) (v : Nat) : (s.wr f v).hel = s.hel := by unfold State.wr; dsimp only; split <;> rfl
@[simp] theorem State.wr_prt (s : State) (f : FieldRef) (v : Nat) : (s.wr f v).prt = s.prt := by unfold State.wr; dsimp only; split <;> rfl
@[simp] theorem State.wr_flt (s : State) (f : FieldRef) (v : Nat) : (s.wr f v).flt = s.flt := by unfold State.wr; dsimp only; split <;> rfl
@[simp] theorem State.wr_pho (s : State) (f : FieldRef) (v : Nat) : (s.wr f v).pho = s.pho := by unfold State.wr; dsimp only; split <;> rfl
@[simp] theorem State.wr_mgmt (s : State) (f : FieldRef) (v : Nat) : (s.wr f v).mgmt = s.mgmt := by unfold State.wr; dsimp only; split <;> rfl
@[simp] theorem State.wr_hif (s : State) (f : FieldRef) (v : Nat) : (s.wr f v).hif = s.hif := by unfold State.wr; dsimp only; split <;> rfl
@[simp] theorem State.wr_dbhTimer (s : State) (f : FieldRef) (v : Nat) : (s.wr f v).dbhTimer = s.dbhTimer := by unfold State.wr; dsimp only; split <;> rfl
@[simp] theorem State.wr_outbox (s : State) (f : FieldRef) (v : Nat) : (s.wr f v).outbox = s.outbox := by unfold State.wr; dsimp only; split <;> rfl
@[simp] theorem State.wr_freeCtr (s : State) (f : FieldRef) (v : Nat) : (s.wr f v).freeCtr = s.freeCtr := by unfold State.wr; dsimp only; split <;> rfl

@[simp] theorem State.add_pending (s : State) (f : FieldRef) (n : Nat) : (s.add f n).pending = s.pending := State.wr_pending ..
@[simp] theorem State.add_priv (s : State) (f : FieldRef) (n : Nat) : (s.add f n).priv = s.priv := State.wr_priv ..
@[simp] theorem State.add_mem (s : State) (f : FieldRef) (n : Nat) : (s.add f n).mem = s.mem := State.wr_mem ..
@[simp] theorem State.add_atr (s : State) (f : FieldRef) (n : Nat) : (s.add f n).atr = s.atr := State.wr_atr ..
@[simp] theorem State.add_ves (s : State) (f : FieldRef) (n : Nat) : (s.add f n).ves = s.ves := State.wr_ves ..
@[simp] theorem State.add_merp (s : State) (f : FieldRef) (n : Nat) : (s.add f n).merp = s.merp := State.wr_merp ..
@[simp] theorem State.add_larty (s : State) (f : FieldRef) (n : Nat) : (s.add f n).larty = s.larty := State.wr_larty ..
@[simp] theorem State.add_stw (s : State) (f : FieldRef) (n : Nat) : (s.add f n).stw = s.stw := State.wr_stw ..
@[simp] theorem State.add_cat (s : State) (f : FieldRef) (n : Nat) : (s.add f n).cat = s.cat := State.wr_cat ..
@[simp] theorem State.add_gal (s : State) (f : FieldRef) (n : Nat) : (s.add f n).gal = s.gal := State.wr_gal ..
@[simp] theorem State.add_nb (s : State) (f : FieldRef) (n : Nat) : (s.add f n).nb = s.nb := State.wr_nb ..
@[simp] theorem State.add_tp (s : State) (f : FieldRef) (n : Nat) : (s.add f n).tp = s.tp := State.wr_tp ..
@[simp] theorem State.add_fab (s : State) (f : FieldRef) (n : Nat) : (s.add f n).fab = s.fab := State.wr_fab ..
@[simp] theorem State.add_orr (s : State) (f : FieldRef) (n : Nat) : (s.add f n).orr = s.orr := State.wr_orr ..
@[simp] theorem State.add_hel (s : State) (f : FieldRef) (n : Nat) : (s.add f n).hel = s.hel := State.wr_hel ..
@[simp] theorem State.add_prt (s : State) (f : FieldRef) (n : Nat) : (s.add f n).prt = s.prt := State.wr_prt ..
@[simp] theorem State.add_flt (s : State) (f : FieldRef) (n : Nat) : (s.add f n).flt = s.flt := State.wr_flt ..
@[simp] theorem State.add_pho (s : State) (f : FieldRef) (n : Nat) : (s.add f n).pho = s.pho := State.wr_pho ..
@[simp] theorem State.add_mgmt (s : State) (f : FieldRef) (n : Nat) : (s.add f n).mgmt = s.mgmt := State.wr_mgmt ..
@[simp] theorem State.add_hif (s : State) (f : FieldRef) (n : Nat) : (s.add f n).hif = s.hif := State.wr_hif ..
@[simp] theorem State.add_dbhTimer (s : State) (f : FieldRef) (n : Nat) : (s.add f n).dbhTimer = s.dbhTimer := State.wr_dbhTimer ..
@[simp] theorem State.add_outbox (s : State) (f : FieldRef) (n : Nat) : (s.add f n).outbox = s.outbox := State.wr_outbox ..
@[simp] theorem State.add_freeCtr (s : State) (f : FieldRef) (n : Nat) : (s.add f n).freeCtr = s.freeCtr := State.wr_freeCtr ..

@[simp] theorem State.inc_pending (s : State) (f : FieldRef) : (s.inc f).pending = s.pending := State.add_pending ..
@[simp] theorem State.inc_priv (s : State) (f : FieldRef) : (s.inc f).priv = s.priv := State.add_priv ..
@[simp] theorem State.inc_mem (s : State) (f : FieldRef) : (s.inc f).mem = s.mem := State.add_mem ..
@[simp] theorem State.inc_atr (s : State) (f : FieldRef) : (s.inc f).atr = s.atr := State.add_atr ..
@[simp] theorem State.inc_ves (s : State) (f : FieldRef) : (s.inc f).ves = s.ves := State.add_ves ..
@[simp] theorem State.inc_merp (s : State) (f : FieldRef) : (s.inc f).merp = s.merp := State.add_merp ..
@[simp] theorem State.inc_larty (s : State) (f : FieldRef) : (s.inc f).larty = s.larty := State.add_larty ..
@[simp] theorem State.inc_stw (s : State) (f : FieldRef) : (s.inc f).stw = s.stw := State.add_stw ..
@[simp] theorem State.inc_cat (s : State) (f : FieldRef) : (s.inc f).cat = s.cat := State.add_cat ..
@[simp] theorem State.inc_gal (s : State) (f : FieldRef) : (s.inc f).gal = s.gal := State.add_gal ..
@[simp] theorem State.inc_nb (s : State) (f : FieldRef) : (s.inc f).nb = s.nb := State.add_nb ..
@[simp] theorem State.inc_tp (s : State) (f : FieldRef) : (s.inc f).tp = s.tp := State.add_tp ..
@[simp] theorem State.inc_fab (s : State) (f : FieldRef) : (s.inc f).fab = s.fab := State.add_fab ..
@[simp] theorem State.inc_orr (s : State) (f : FieldRef) : (s.inc f).orr = s.orr := State.add_orr ..
@[simp] theorem State.inc_hel (s : State) (f : FieldRef) : (s.inc f).hel = s.hel := State.add_hel ..
@[simp] theorem State.inc_prt (s : State) (f : FieldRef) : (s.inc f).prt = s.prt := State.add_prt ..
@[simp] theorem State.inc_flt (s : State) (f : FieldRef) : (s.inc f).flt = s.flt := State.add_flt ..
@[simp] theorem State.inc_pho (s : State) (f : FieldRef) : (s.inc f).pho = s.pho := State.add_pho ..
@[simp] theorem State.inc_mgmt (s : State) (f : FieldRef) : (s.inc f).mgmt = s.mgmt := State.add_mgmt ..
@[simp] theorem State.inc_hif (s : State) (f : FieldRef) : (s.inc f).hif = s.hif := State.add_hif ..
@[simp] theorem State.inc_dbhTimer (s : State) (f : FieldRef) : (s.inc f).dbhTimer = s.dbhTimer := State.add_dbhTimer ..
@[simp] theorem State.inc_outbox (s : State) (f : FieldRef) : (s.inc f).outbox = s.outbox := State.add_outbox ..
@[simp] theorem State.inc_freeCtr (s : State) (f : FieldRef) : (s.inc f).freeCtr = s.freeCtr := State.add_freeCtr ..

@[simp] theorem State.addMod_pending (s : State) (f : FieldRef) (n : Nat) : (s.addMod f n).pending = s.pending := State.wr_pending ..
@[simp] theorem State.addMod_priv (s : State) (f : FieldRef) (n : Nat) : (s.addMod f n).priv = s.priv := State.wr_priv ..
@[simp] theorem State.addMod_mem (s : State) (f : FieldRef) (n : Nat) : (s.addMod f n).mem = s.mem := State.wr_mem ..
@[simp] theorem State.addMod_atr (s : State) (f : FieldRef) (n : Nat) : (s.addMod f n).atr = s.atr := State.wr_atr ..
@[simp] theorem State.addMod_ves (s : State) (f : FieldRef) (n : Nat) : (s.addMod f n).ves = s.ves := State.wr_ves ..
@[simp] theorem State.addMod_merp (s : State) (f : FieldRef) (n : Nat) : (s.addMod f n).merp = s.merp := State.wr_merp ..
@[simp] theorem State.addMod_larty (s : State) (f : FieldRef) (n : Nat) : (s.addMod f n).larty = s.larty := State.wr_larty ..
@[simp] theorem State.addMod_stw (s : State) (f : FieldRef) (n : Nat) : (s.addMod f n).stw = s.stw := State.wr_stw ..
@[simp] theorem State.addMod_cat (s : State) (f : FieldRef) (n : Nat) : (s.addMod f n).cat = s.cat := State.wr_cat ..
@[simp] theorem State.addMod_gal (s : State) (f : FieldRef) (n : Nat) : (s.addMod f n).gal = s.gal := State.wr_gal ..
@[simp] theorem State.addMod_nb (s : State) (f : FieldRef) (n : Nat) : (s.addMod f n).nb = s.nb := State.wr_nb ..
@[simp] theorem State.addMod_tp (s : State) (f : FieldRef) (n : Nat) : (s.addMod f n).tp = s.tp := State.wr_tp ..
@[simp] theorem State.addMod_fab (s : State) (f : FieldRef) (n : Nat) : (s.addMod f n).fab = s.fab := State.wr_fab ..
@[simp] theorem State.addMod_orr (s : State) (f : FieldRef) (n : Nat) : (s.addMod f n).orr = s.orr := State.wr_orr ..
@[simp] theorem State.addMod_hel (s : State) (f : FieldRef) (n : Nat) : (s.addMod f n).hel = s.hel := State.wr_hel ..
@[simp] theorem State.addMod_prt (s : State) (f : FieldRef) (n : Nat) : (s.addMod f n).prt = s.prt := State.wr_prt ..
@[simp] theorem State.addMod_flt (s : State) (f : FieldRef) (n : Nat) : (s.addMod f n).flt = s.flt := State.wr_flt ..
@[simp] theorem State.addMod_pho (s : State) (f : FieldRef) (n : Nat) : (s.addMod f n).pho = s.pho := State.wr_pho ..
@[simp] theorem State.addMod_mgmt (s : State) (f : FieldRef) (n : Nat) : (s.addMod f n).mgmt = s.mgmt := State.wr_mgmt ..
@[simp] theorem State.addMod_hif (s : State) (f : FieldRef) (n : Nat) : (s.addMod f n).hif = s.hif := State.wr_hif ..
@[simp] theorem State.addMod_dbhTimer (s : State) (f : FieldRef) (n : Nat) : (s.addMod f n).dbhTimer = s.dbhTimer := State.wr_dbhTimer ..
@[simp] theorem State.addMod_outbox (s : State) (f : FieldRef) (n : Nat) : (s.addMod f n).outbox = s.outbox := State.wr_outbox ..
@[simp] theorem State.addMod_freeCtr (s : State) (f : FieldRef) (n : Nat) : (s.addMod f n).freeCtr = s.freeCtr := State.wr_freeCtr ..

@[simp] theorem State.countRefused_pending (s : State) (b : Blk) (i : Nat) : (s.countRefused b i).pending = s.pending := State.inc_pending ..
@[simp] theorem State.countRefused_priv (s : State) (b : Blk) (i : Nat) : (s.countRefused b i).priv = s.priv := State.inc_priv ..
@[simp] theorem State.countRefused_mem (s : State) (b : Blk) (i : Nat) : (s.countRefused b i).mem = s.mem := State.inc_mem ..
@[simp] theorem State.countRefused_atr (s : State) (b : Blk) (i : Nat) : (s.countRefused b i).atr = s.atr := State.inc_atr ..
@[simp] theorem State.countRefused_ves (s : State) (b : Blk) (i : Nat) : (s.countRefused b i).ves = s.ves := State.inc_ves ..
@[simp] theorem State.countRefused_merp (s : State) (b : Blk) (i : Nat) : (s.countRefused b i).merp = s.merp := State.inc_merp ..
@[simp] theorem State.countRefused_larty (s : State) (b : Blk) (i : Nat) : (s.countRefused b i).larty = s.larty := State.inc_larty ..
@[simp] theorem State.countRefused_stw (s : State) (b : Blk) (i : Nat) : (s.countRefused b i).stw = s.stw := State.inc_stw ..
@[simp] theorem State.countRefused_cat (s : State) (b : Blk) (i : Nat) : (s.countRefused b i).cat = s.cat := State.inc_cat ..
@[simp] theorem State.countRefused_gal (s : State) (b : Blk) (i : Nat) : (s.countRefused b i).gal = s.gal := State.inc_gal ..
@[simp] theorem State.countRefused_nb (s : State) (b : Blk) (i : Nat) : (s.countRefused b i).nb = s.nb := State.inc_nb ..
@[simp] theorem State.countRefused_tp (s : State) (b : Blk) (i : Nat) : (s.countRefused b i).tp = s.tp := State.inc_tp ..
@[simp] theorem State.countRefused_fab (s : State) (b : Blk) (i : Nat) : (s.countRefused b i).fab = s.fab := State.inc_fab ..
@[simp] theorem State.countRefused_orr (s : State) (b : Blk) (i : Nat) : (s.countRefused b i).orr = s.orr := State.inc_orr ..
@[simp] theorem State.countRefused_hel (s : State) (b : Blk) (i : Nat) : (s.countRefused b i).hel = s.hel := State.inc_hel ..
@[simp] theorem State.countRefused_prt (s : State) (b : Blk) (i : Nat) : (s.countRefused b i).prt = s.prt := State.inc_prt ..
@[simp] theorem State.countRefused_flt (s : State) (b : Blk) (i : Nat) : (s.countRefused b i).flt = s.flt := State.inc_flt ..
@[simp] theorem State.countRefused_pho (s : State) (b : Blk) (i : Nat) : (s.countRefused b i).pho = s.pho := State.inc_pho ..
@[simp] theorem State.countRefused_mgmt (s : State) (b : Blk) (i : Nat) : (s.countRefused b i).mgmt = s.mgmt := State.inc_mgmt ..
@[simp] theorem State.countRefused_hif (s : State) (b : Blk) (i : Nat) : (s.countRefused b i).hif = s.hif := State.inc_hif ..
@[simp] theorem State.countRefused_dbhTimer (s : State) (b : Blk) (i : Nat) : (s.countRefused b i).dbhTimer = s.dbhTimer := State.inc_dbhTimer ..
@[simp] theorem State.countRefused_outbox (s : State) (b : Blk) (i : Nat) : (s.countRefused b i).outbox = s.outbox := State.inc_outbox ..
@[simp] theorem State.countRefused_freeCtr (s : State) (b : Blk) (i : Nat) : (s.countRefused b i).freeCtr = s.freeCtr := State.inc_freeCtr ..

@[simp] theorem State.setT_pending (s : State) (x : LCtx) (n : Nat) (v : Desc) : (s.setT x n v).pending = s.pending := rfl
@[simp] theorem State.setT_regs (s : State) (x : LCtx) (n : Nat) (v : Desc) : (s.setT x n v).regs = s.regs := rfl
@[simp] theorem State.setT_live (s : State) (x : LCtx) (n : Nat) (v : Desc) : (s.setT x n v).live = s.live := rfl
@[simp] theorem State.setT_priv (s : State) (x : LCtx) (n : Nat) (v : Desc) : (s.setT x n v).priv = s.priv := rfl
@[simp] theorem State.setT_mem (s : State) (x : LCtx) (n : Nat) (v : Desc) : (s.setT x n v).mem = s.mem := rfl
@[simp] theorem State.setT_atr (s : State) (x : LCtx) (n : Nat) (v : Desc) : (s.setT x n v).atr = s.atr := rfl
@[simp] theorem State.setT_ves (s : State) (x : LCtx) (n : Nat) (v : Desc) : (s.setT x n v).ves = s.ves := rfl
@[simp] theorem State.setT_merp (s : State) (x : LCtx) (n : Nat) (v : Desc) : (s.setT x n v).merp = s.merp := rfl
@[simp] theorem State.setT_stw (s : State) (x : LCtx) (n : Nat) (v : Desc) : (s.setT x n v).stw = s.stw := rfl
@[simp] theorem State.setT_cat (s : State) (x : LCtx) (n : Nat) (v : Desc) : (s.setT x n v).cat = s.cat := rfl
@[simp] theorem State.setT_gal (s : State) (x : LCtx) (n : Nat) (v : Desc) : (s.setT x n v).gal = s.gal := rfl
@[simp] theorem State.setT_nb (s : State) (x : LCtx) (n : Nat) (v : Desc) : (s.setT x n v).nb = s.nb := rfl
@[simp] theorem State.setT_tp (s : State) (x : LCtx) (n : Nat) (v : Desc) : (s.setT x n v).tp = s.tp := rfl
@[simp] theorem State.setT_fab (s : State) (x : LCtx) (n : Nat) (v : Desc) : (s.setT x n v).fab = s.fab := rfl
@[simp] theorem State.setT_orr (s : State) (x : LCtx) (n : Nat) (v : Desc) : (s.setT x n v).orr = s.orr := rfl
@[simp] theorem State.setT_hel (s : State) (x : LCtx) (n : Nat) (v : Desc) : (s.setT x n v).hel = s.hel := rfl
@[simp] theorem State.setT_prt (s : State) (x : LCtx) (n : Nat) (v : Desc) : (s.setT x n v).prt = s.prt := rfl
@[simp] theorem State.setT_flt (s : State) (x : LCtx) (n : Nat) (v : Desc) : (s.setT x n v).flt = s.flt := rfl
@[simp] theorem State.setT_pho (s : State) (x : LCtx) (n : Nat) (v : Desc) : (s.setT x n v).pho = s.pho := rfl
@[simp] theorem State.setT_mgmt (s : State) (x : LCtx) (n : Nat) (v : Desc) : (s.setT x n v).mgmt = s.mgmt := rfl
@[simp] theorem State.setT_hif (s : State) (x : LCtx) (n : Nat) (v : Desc) : (s.setT x n v).hif = s.hif := rfl
@[simp] theorem State.setT_dbhTimer (s : State) (x : LCtx) (n : Nat) (v : Desc) : (s.setT x n v).dbhTimer = s.dbhTimer := rfl
@[simp] theorem State.setT_outbox (s : State) (x : LCtx) (n : Nat) (v : Desc) : (s.setT x n v).outbox = s.outbox := rfl
@[simp] theorem State.setT_freeCtr (s : State) (x : LCtx) (n : Nat) (v : Desc) : (s.setT x n v).freeCtr = s.freeCtr := rfl

@[simp] theorem State.setK_pending (s : State) (u n : Nat) (v : BitVec 32) : (s.setK u n v).pending = s.pending := rfl
@[simp] theorem State.setK_regs (s : State) (u n : Nat) (v : BitVec 32) : (s.setK u n v).regs = s.regs := rfl
@[simp] theorem State.setK_live (s : State) (u n : Nat) (v : BitVec 32) : (s.setK u n v).live = s.live := rfl
@[simp] theorem State.setK_priv (s : State) (u n : Nat) (v : BitVec 32) : (s.setK u n v).priv = s.priv := rfl
@[simp] theorem State.setK_mem (s : State) (u n : Nat) (v : BitVec 32) : (s.setK u n v).mem = s.mem := rfl
@[simp] theorem State.setK_atr (s : State) (u n : Nat) (v : BitVec 32) : (s.setK u n v).atr = s.atr := rfl
@[simp] theorem State.setK_ves (s : State) (u n : Nat) (v : BitVec 32) : (s.setK u n v).ves = s.ves := rfl
@[simp] theorem State.setK_merp (s : State) (u n : Nat) (v : BitVec 32) : (s.setK u n v).merp = s.merp := rfl
@[simp] theorem State.setK_stw (s : State) (u n : Nat) (v : BitVec 32) : (s.setK u n v).stw = s.stw := rfl
@[simp] theorem State.setK_cat (s : State) (u n : Nat) (v : BitVec 32) : (s.setK u n v).cat = s.cat := rfl
@[simp] theorem State.setK_gal (s : State) (u n : Nat) (v : BitVec 32) : (s.setK u n v).gal = s.gal := rfl
@[simp] theorem State.setK_nb (s : State) (u n : Nat) (v : BitVec 32) : (s.setK u n v).nb = s.nb := rfl
@[simp] theorem State.setK_tp (s : State) (u n : Nat) (v : BitVec 32) : (s.setK u n v).tp = s.tp := rfl
@[simp] theorem State.setK_fab (s : State) (u n : Nat) (v : BitVec 32) : (s.setK u n v).fab = s.fab := rfl
@[simp] theorem State.setK_orr (s : State) (u n : Nat) (v : BitVec 32) : (s.setK u n v).orr = s.orr := rfl
@[simp] theorem State.setK_hel (s : State) (u n : Nat) (v : BitVec 32) : (s.setK u n v).hel = s.hel := rfl
@[simp] theorem State.setK_prt (s : State) (u n : Nat) (v : BitVec 32) : (s.setK u n v).prt = s.prt := rfl
@[simp] theorem State.setK_flt (s : State) (u n : Nat) (v : BitVec 32) : (s.setK u n v).flt = s.flt := rfl
@[simp] theorem State.setK_pho (s : State) (u n : Nat) (v : BitVec 32) : (s.setK u n v).pho = s.pho := rfl
@[simp] theorem State.setK_mgmt (s : State) (u n : Nat) (v : BitVec 32) : (s.setK u n v).mgmt = s.mgmt := rfl
@[simp] theorem State.setK_hif (s : State) (u n : Nat) (v : BitVec 32) : (s.setK u n v).hif = s.hif := rfl
@[simp] theorem State.setK_dbhTimer (s : State) (u n : Nat) (v : BitVec 32) : (s.setK u n v).dbhTimer = s.dbhTimer := rfl
@[simp] theorem State.setK_outbox (s : State) (u n : Nat) (v : BitVec 32) : (s.setK u n v).outbox = s.outbox := rfl
@[simp] theorem State.setK_freeCtr (s : State) (u n : Nat) (v : BitVec 32) : (s.setK u n v).freeCtr = s.freeCtr := rfl

@[simp] theorem State.setC_pending (s : State) (u n : Nat) (v : BitVec 32) : (s.setC u n v).pending = s.pending := rfl
@[simp] theorem State.setC_regs (s : State) (u n : Nat) (v : BitVec 32) : (s.setC u n v).regs = s.regs := rfl
@[simp] theorem State.setC_live (s : State) (u n : Nat) (v : BitVec 32) : (s.setC u n v).live = s.live := rfl
@[simp] theorem State.setC_priv (s : State) (u n : Nat) (v : BitVec 32) : (s.setC u n v).priv = s.priv := rfl
@[simp] theorem State.setC_mem (s : State) (u n : Nat) (v : BitVec 32) : (s.setC u n v).mem = s.mem := rfl
@[simp] theorem State.setC_atr (s : State) (u n : Nat) (v : BitVec 32) : (s.setC u n v).atr = s.atr := rfl
@[simp] theorem State.setC_ves (s : State) (u n : Nat) (v : BitVec 32) : (s.setC u n v).ves = s.ves := rfl
@[simp] theorem State.setC_merp (s : State) (u n : Nat) (v : BitVec 32) : (s.setC u n v).merp = s.merp := rfl
@[simp] theorem State.setC_stw (s : State) (u n : Nat) (v : BitVec 32) : (s.setC u n v).stw = s.stw := rfl
@[simp] theorem State.setC_cat (s : State) (u n : Nat) (v : BitVec 32) : (s.setC u n v).cat = s.cat := rfl
@[simp] theorem State.setC_gal (s : State) (u n : Nat) (v : BitVec 32) : (s.setC u n v).gal = s.gal := rfl
@[simp] theorem State.setC_nb (s : State) (u n : Nat) (v : BitVec 32) : (s.setC u n v).nb = s.nb := rfl
@[simp] theorem State.setC_tp (s : State) (u n : Nat) (v : BitVec 32) : (s.setC u n v).tp = s.tp := rfl
@[simp] theorem State.setC_fab (s : State) (u n : Nat) (v : BitVec 32) : (s.setC u n v).fab = s.fab := rfl
@[simp] theorem State.setC_orr (s : State) (u n : Nat) (v : BitVec 32) : (s.setC u n v).orr = s.orr := rfl
@[simp] theorem State.setC_hel (s : State) (u n : Nat) (v : BitVec 32) : (s.setC u n v).hel = s.hel := rfl
@[simp] theorem State.setC_prt (s : State) (u n : Nat) (v : BitVec 32) : (s.setC u n v).prt = s.prt := rfl
@[simp] theorem State.setC_flt (s : State) (u n : Nat) (v : BitVec 32) : (s.setC u n v).flt = s.flt := rfl
@[simp] theorem State.setC_pho (s : State) (u n : Nat) (v : BitVec 32) : (s.setC u n v).pho = s.pho := rfl
@[simp] theorem State.setC_mgmt (s : State) (u n : Nat) (v : BitVec 32) : (s.setC u n v).mgmt = s.mgmt := rfl
@[simp] theorem State.setC_hif (s : State) (u n : Nat) (v : BitVec 32) : (s.setC u n v).hif = s.hif := rfl
@[simp] theorem State.setC_dbhTimer (s : State) (u n : Nat) (v : BitVec 32) : (s.setC u n v).dbhTimer = s.dbhTimer := rfl
@[simp] theorem State.setC_outbox (s : State) (u n : Nat) (v : BitVec 32) : (s.setC u n v).outbox = s.outbox := rfl
@[simp] theorem State.setC_freeCtr (s : State) (u n : Nat) (v : BitVec 32) : (s.setC u n v).freeCtr = s.freeCtr := rfl

@[simp] theorem State.setCtx_pending (s : State) (x : LCtx) (c : Ctx) : (s.setCtx x c).pending = s.pending := rfl
@[simp] theorem State.setCtx_regs (s : State) (x : LCtx) (c : Ctx) : (s.setCtx x c).regs = s.regs := rfl
@[simp] theorem State.setCtx_live (s : State) (x : LCtx) (c : Ctx) : (s.setCtx x c).live = s.live := rfl
@[simp] theorem State.setCtx_priv (s : State) (x : LCtx) (c : Ctx) : (s.setCtx x c).priv = s.priv := rfl
@[simp] theorem State.setCtx_mem (s : State) (x : LCtx) (c : Ctx) : (s.setCtx x c).mem = s.mem := rfl
@[simp] theorem State.setCtx_atr (s : State) (x : LCtx) (c : Ctx) : (s.setCtx x c).atr = s.atr := rfl
@[simp] theorem State.setCtx_ves (s : State) (x : LCtx) (c : Ctx) : (s.setCtx x c).ves = s.ves := rfl
@[simp] theorem State.setCtx_merp (s : State) (x : LCtx) (c : Ctx) : (s.setCtx x c).merp = s.merp := rfl
@[simp] theorem State.setCtx_stw (s : State) (x : LCtx) (c : Ctx) : (s.setCtx x c).stw = s.stw := rfl
@[simp] theorem State.setCtx_cat (s : State) (x : LCtx) (c : Ctx) : (s.setCtx x c).cat = s.cat := rfl
@[simp] theorem State.setCtx_gal (s : State) (x : LCtx) (c : Ctx) : (s.setCtx x c).gal = s.gal := rfl
@[simp] theorem State.setCtx_nb (s : State) (x : LCtx) (c : Ctx) : (s.setCtx x c).nb = s.nb := rfl
@[simp] theorem State.setCtx_tp (s : State) (x : LCtx) (c : Ctx) : (s.setCtx x c).tp = s.tp := rfl
@[simp] theorem State.setCtx_fab (s : State) (x : LCtx) (c : Ctx) : (s.setCtx x c).fab = s.fab := rfl
@[simp] theorem State.setCtx_orr (s : State) (x : LCtx) (c : Ctx) : (s.setCtx x c).orr = s.orr := rfl
@[simp] theorem State.setCtx_hel (s : State) (x : LCtx) (c : Ctx) : (s.setCtx x c).hel = s.hel := rfl
@[simp] theorem State.setCtx_prt (s : State) (x : LCtx) (c : Ctx) : (s.setCtx x c).prt = s.prt := rfl
@[simp] theorem State.setCtx_flt (s : State) (x : LCtx) (c : Ctx) : (s.setCtx x c).flt = s.flt := rfl
@[simp] theorem State.setCtx_pho (s : State) (x : LCtx) (c : Ctx) : (s.setCtx x c).pho = s.pho := rfl
@[simp] theorem State.setCtx_mgmt (s : State) (x : LCtx) (c : Ctx) : (s.setCtx x c).mgmt = s.mgmt := rfl
@[simp] theorem State.setCtx_hif (s : State) (x : LCtx) (c : Ctx) : (s.setCtx x c).hif = s.hif := rfl
@[simp] theorem State.setCtx_dbhTimer (s : State) (x : LCtx) (c : Ctx) : (s.setCtx x c).dbhTimer = s.dbhTimer := rfl
@[simp] theorem State.setCtx_outbox (s : State) (x : LCtx) (c : Ctx) : (s.setCtx x c).outbox = s.outbox := rfl
@[simp] theorem State.setCtx_freeCtr (s : State) (x : LCtx) (c : Ctx) : (s.setCtx x c).freeCtr = s.freeCtr := rfl

@[simp] theorem State.setPc_pending (s : State) (x : LCtx) (n : Nat) : (s.setPc x n).pending = s.pending := rfl
@[simp] theorem State.setPc_regs (s : State) (x : LCtx) (n : Nat) : (s.setPc x n).regs = s.regs := rfl
@[simp] theorem State.setPc_live (s : State) (x : LCtx) (n : Nat) : (s.setPc x n).live = s.live := rfl
@[simp] theorem State.setPc_priv (s : State) (x : LCtx) (n : Nat) : (s.setPc x n).priv = s.priv := rfl
@[simp] theorem State.setPc_mem (s : State) (x : LCtx) (n : Nat) : (s.setPc x n).mem = s.mem := rfl
@[simp] theorem State.setPc_atr (s : State) (x : LCtx) (n : Nat) : (s.setPc x n).atr = s.atr := rfl
@[simp] theorem State.setPc_ves (s : State) (x : LCtx) (n : Nat) : (s.setPc x n).ves = s.ves := rfl
@[simp] theorem State.setPc_merp (s : State) (x : LCtx) (n : Nat) : (s.setPc x n).merp = s.merp := rfl
@[simp] theorem State.setPc_stw (s : State) (x : LCtx) (n : Nat) : (s.setPc x n).stw = s.stw := rfl
@[simp] theorem State.setPc_cat (s : State) (x : LCtx) (n : Nat) : (s.setPc x n).cat = s.cat := rfl
@[simp] theorem State.setPc_gal (s : State) (x : LCtx) (n : Nat) : (s.setPc x n).gal = s.gal := rfl
@[simp] theorem State.setPc_nb (s : State) (x : LCtx) (n : Nat) : (s.setPc x n).nb = s.nb := rfl
@[simp] theorem State.setPc_tp (s : State) (x : LCtx) (n : Nat) : (s.setPc x n).tp = s.tp := rfl
@[simp] theorem State.setPc_fab (s : State) (x : LCtx) (n : Nat) : (s.setPc x n).fab = s.fab := rfl
@[simp] theorem State.setPc_orr (s : State) (x : LCtx) (n : Nat) : (s.setPc x n).orr = s.orr := rfl
@[simp] theorem State.setPc_hel (s : State) (x : LCtx) (n : Nat) : (s.setPc x n).hel = s.hel := rfl
@[simp] theorem State.setPc_prt (s : State) (x : LCtx) (n : Nat) : (s.setPc x n).prt = s.prt := rfl
@[simp] theorem State.setPc_flt (s : State) (x : LCtx) (n : Nat) : (s.setPc x n).flt = s.flt := rfl
@[simp] theorem State.setPc_pho (s : State) (x : LCtx) (n : Nat) : (s.setPc x n).pho = s.pho := rfl
@[simp] theorem State.setPc_mgmt (s : State) (x : LCtx) (n : Nat) : (s.setPc x n).mgmt = s.mgmt := rfl
@[simp] theorem State.setPc_hif (s : State) (x : LCtx) (n : Nat) : (s.setPc x n).hif = s.hif := rfl
@[simp] theorem State.setPc_dbhTimer (s : State) (x : LCtx) (n : Nat) : (s.setPc x n).dbhTimer = s.dbhTimer := rfl
@[simp] theorem State.setPc_outbox (s : State) (x : LCtx) (n : Nat) : (s.setPc x n).outbox = s.outbox := rfl
@[simp] theorem State.setPc_freeCtr (s : State) (x : LCtx) (n : Nat) : (s.setPc x n).freeCtr = s.freeCtr := rfl

@[simp] theorem State.setSlice_pending (s : State) (u : Nat) (v : Slice) : (s.setSlice u v).pending = s.pending := rfl
@[simp] theorem State.setSlice_regs (s : State) (u : Nat) (v : Slice) : (s.setSlice u v).regs = s.regs := rfl
@[simp] theorem State.setSlice_live (s : State) (u : Nat) (v : Slice) : (s.setSlice u v).live = s.live := rfl
@[simp] theorem State.setSlice_priv (s : State) (u : Nat) (v : Slice) : (s.setSlice u v).priv = s.priv := rfl
@[simp] theorem State.setSlice_mem (s : State) (u : Nat) (v : Slice) : (s.setSlice u v).mem = s.mem := rfl
@[simp] theorem State.setSlice_atr (s : State) (u : Nat) (v : Slice) : (s.setSlice u v).atr = s.atr := rfl
@[simp] theorem State.setSlice_ves (s : State) (u : Nat) (v : Slice) : (s.setSlice u v).ves = s.ves := rfl
@[simp] theorem State.setSlice_merp (s : State) (u : Nat) (v : Slice) : (s.setSlice u v).merp = s.merp := rfl
@[simp] theorem State.setSlice_stw (s : State) (u : Nat) (v : Slice) : (s.setSlice u v).stw = s.stw := rfl
@[simp] theorem State.setSlice_cat (s : State) (u : Nat) (v : Slice) : (s.setSlice u v).cat = s.cat := rfl
@[simp] theorem State.setSlice_gal (s : State) (u : Nat) (v : Slice) : (s.setSlice u v).gal = s.gal := rfl
@[simp] theorem State.setSlice_nb (s : State) (u : Nat) (v : Slice) : (s.setSlice u v).nb = s.nb := rfl
@[simp] theorem State.setSlice_tp (s : State) (u : Nat) (v : Slice) : (s.setSlice u v).tp = s.tp := rfl
@[simp] theorem State.setSlice_fab (s : State) (u : Nat) (v : Slice) : (s.setSlice u v).fab = s.fab := rfl
@[simp] theorem State.setSlice_orr (s : State) (u : Nat) (v : Slice) : (s.setSlice u v).orr = s.orr := rfl
@[simp] theorem State.setSlice_hel (s : State) (u : Nat) (v : Slice) : (s.setSlice u v).hel = s.hel := rfl
@[simp] theorem State.setSlice_prt (s : State) (u : Nat) (v : Slice) : (s.setSlice u v).prt = s.prt := rfl
@[simp] theorem State.setSlice_flt (s : State) (u : Nat) (v : Slice) : (s.setSlice u v).flt = s.flt := rfl
@[simp] theorem State.setSlice_pho (s : State) (u : Nat) (v : Slice) : (s.setSlice u v).pho = s.pho := rfl
@[simp] theorem State.setSlice_mgmt (s : State) (u : Nat) (v : Slice) : (s.setSlice u v).mgmt = s.mgmt := rfl
@[simp] theorem State.setSlice_hif (s : State) (u : Nat) (v : Slice) : (s.setSlice u v).hif = s.hif := rfl
@[simp] theorem State.setSlice_dbhTimer (s : State) (u : Nat) (v : Slice) : (s.setSlice u v).dbhTimer = s.dbhTimer := rfl
@[simp] theorem State.setSlice_outbox (s : State) (u : Nat) (v : Slice) : (s.setSlice u v).outbox = s.outbox := rfl
@[simp] theorem State.setSlice_freeCtr (s : State) (u : Nat) (v : Slice) : (s.setSlice u v).freeCtr = s.freeCtr := rfl

@[simp] theorem State.setG_pending (s : State) (x : LCtx) (n : Nat) (w : Word) : (s.setG x n w).pending = s.pending := by unfold State.setG; split <;> rfl
@[simp] theorem State.setG_regs (s : State) (x : LCtx) (n : Nat) (w : Word) : (s.setG x n w).regs = s.regs := by unfold State.setG; split <;> rfl
@[simp] theorem State.setG_live (s : State) (x : LCtx) (n : Nat) (w : Word) : (s.setG x n w).live = s.live := by unfold State.setG; split <;> rfl
@[simp] theorem State.setG_priv (s : State) (x : LCtx) (n : Nat) (w : Word) : (s.setG x n w).priv = s.priv := by unfold State.setG; split <;> rfl
@[simp] theorem State.setG_mem (s : State) (x : LCtx) (n : Nat) (w : Word) : (s.setG x n w).mem = s.mem := by unfold State.setG; split <;> rfl
@[simp] theorem State.setG_atr (s : State) (x : LCtx) (n : Nat) (w : Word) : (s.setG x n w).atr = s.atr := by unfold State.setG; split <;> rfl
@[simp] theorem State.setG_ves (s : State) (x : LCtx) (n : Nat) (w : Word) : (s.setG x n w).ves = s.ves := by unfold State.setG; split <;> rfl
@[simp] theorem State.setG_merp (s : State) (x : LCtx) (n : Nat) (w : Word) : (s.setG x n w).merp = s.merp := by unfold State.setG; split <;> rfl
@[simp] theorem State.setG_stw (s : State) (x : LCtx) (n : Nat) (w : Word) : (s.setG x n w).stw = s.stw := by unfold State.setG; split <;> rfl
@[simp] theorem State.setG_cat (s : State) (x : LCtx) (n : Nat) (w : Word) : (s.setG x n w).cat = s.cat := by unfold State.setG; split <;> rfl
@[simp] theorem State.setG_gal (s : State) (x : LCtx) (n : Nat) (w : Word) : (s.setG x n w).gal = s.gal := by unfold State.setG; split <;> rfl
@[simp] theorem State.setG_nb (s : State) (x : LCtx) (n : Nat) (w : Word) : (s.setG x n w).nb = s.nb := by unfold State.setG; split <;> rfl
@[simp] theorem State.setG_tp (s : State) (x : LCtx) (n : Nat) (w : Word) : (s.setG x n w).tp = s.tp := by unfold State.setG; split <;> rfl
@[simp] theorem State.setG_fab (s : State) (x : LCtx) (n : Nat) (w : Word) : (s.setG x n w).fab = s.fab := by unfold State.setG; split <;> rfl
@[simp] theorem State.setG_orr (s : State) (x : LCtx) (n : Nat) (w : Word) : (s.setG x n w).orr = s.orr := by unfold State.setG; split <;> rfl
@[simp] theorem State.setG_hel (s : State) (x : LCtx) (n : Nat) (w : Word) : (s.setG x n w).hel = s.hel := by unfold State.setG; split <;> rfl
@[simp] theorem State.setG_prt (s : State) (x : LCtx) (n : Nat) (w : Word) : (s.setG x n w).prt = s.prt := by unfold State.setG; split <;> rfl
@[simp] theorem State.setG_flt (s : State) (x : LCtx) (n : Nat) (w : Word) : (s.setG x n w).flt = s.flt := by unfold State.setG; split <;> rfl
@[simp] theorem State.setG_pho (s : State) (x : LCtx) (n : Nat) (w : Word) : (s.setG x n w).pho = s.pho := by unfold State.setG; split <;> rfl
@[simp] theorem State.setG_mgmt (s : State) (x : LCtx) (n : Nat) (w : Word) : (s.setG x n w).mgmt = s.mgmt := by unfold State.setG; split <;> rfl
@[simp] theorem State.setG_hif (s : State) (x : LCtx) (n : Nat) (w : Word) : (s.setG x n w).hif = s.hif := by unfold State.setG; split <;> rfl
@[simp] theorem State.setG_dbhTimer (s : State) (x : LCtx) (n : Nat) (w : Word) : (s.setG x n w).dbhTimer = s.dbhTimer := by unfold State.setG; split <;> rfl
@[simp] theorem State.setG_outbox (s : State) (x : LCtx) (n : Nat) (w : Word) : (s.setG x n w).outbox = s.outbox := by unfold State.setG; split <;> rfl
@[simp] theorem State.setG_freeCtr (s : State) (x : LCtx) (n : Nat) (w : Word) : (s.setG x n w).freeCtr = s.freeCtr := by unfold State.setG; split <;> rfl

@[simp] theorem State.setP_pending (s : State) (x : LCtx) (n : Nat) (b : Bool) : (s.setP x n b).pending = s.pending := by unfold State.setP; split <;> rfl
@[simp] theorem State.setP_regs (s : State) (x : LCtx) (n : Nat) (b : Bool) : (s.setP x n b).regs = s.regs := by unfold State.setP; split <;> rfl
@[simp] theorem State.setP_live (s : State) (x : LCtx) (n : Nat) (b : Bool) : (s.setP x n b).live = s.live := by unfold State.setP; split <;> rfl
@[simp] theorem State.setP_priv (s : State) (x : LCtx) (n : Nat) (b : Bool) : (s.setP x n b).priv = s.priv := by unfold State.setP; split <;> rfl
@[simp] theorem State.setP_mem (s : State) (x : LCtx) (n : Nat) (b : Bool) : (s.setP x n b).mem = s.mem := by unfold State.setP; split <;> rfl
@[simp] theorem State.setP_atr (s : State) (x : LCtx) (n : Nat) (b : Bool) : (s.setP x n b).atr = s.atr := by unfold State.setP; split <;> rfl
@[simp] theorem State.setP_ves (s : State) (x : LCtx) (n : Nat) (b : Bool) : (s.setP x n b).ves = s.ves := by unfold State.setP; split <;> rfl
@[simp] theorem State.setP_merp (s : State) (x : LCtx) (n : Nat) (b : Bool) : (s.setP x n b).merp = s.merp := by unfold State.setP; split <;> rfl
@[simp] theorem State.setP_stw (s : State) (x : LCtx) (n : Nat) (b : Bool) : (s.setP x n b).stw = s.stw := by unfold State.setP; split <;> rfl
@[simp] theorem State.setP_cat (s : State) (x : LCtx) (n : Nat) (b : Bool) : (s.setP x n b).cat = s.cat := by unfold State.setP; split <;> rfl
@[simp] theorem State.setP_gal (s : State) (x : LCtx) (n : Nat) (b : Bool) : (s.setP x n b).gal = s.gal := by unfold State.setP; split <;> rfl
@[simp] theorem State.setP_nb (s : State) (x : LCtx) (n : Nat) (b : Bool) : (s.setP x n b).nb = s.nb := by unfold State.setP; split <;> rfl
@[simp] theorem State.setP_tp (s : State) (x : LCtx) (n : Nat) (b : Bool) : (s.setP x n b).tp = s.tp := by unfold State.setP; split <;> rfl
@[simp] theorem State.setP_fab (s : State) (x : LCtx) (n : Nat) (b : Bool) : (s.setP x n b).fab = s.fab := by unfold State.setP; split <;> rfl
@[simp] theorem State.setP_orr (s : State) (x : LCtx) (n : Nat) (b : Bool) : (s.setP x n b).orr = s.orr := by unfold State.setP; split <;> rfl
@[simp] theorem State.setP_hel (s : State) (x : LCtx) (n : Nat) (b : Bool) : (s.setP x n b).hel = s.hel := by unfold State.setP; split <;> rfl
@[simp] theorem State.setP_prt (s : State) (x : LCtx) (n : Nat) (b : Bool) : (s.setP x n b).prt = s.prt := by unfold State.setP; split <;> rfl
@[simp] theorem State.setP_flt (s : State) (x : LCtx) (n : Nat) (b : Bool) : (s.setP x n b).flt = s.flt := by unfold State.setP; split <;> rfl
@[simp] theorem State.setP_pho (s : State) (x : LCtx) (n : Nat) (b : Bool) : (s.setP x n b).pho = s.pho := by unfold State.setP; split <;> rfl
@[simp] theorem State.setP_mgmt (s : State) (x : LCtx) (n : Nat) (b : Bool) : (s.setP x n b).mgmt = s.mgmt := by unfold State.setP; split <;> rfl
@[simp] theorem State.setP_hif (s : State) (x : LCtx) (n : Nat) (b : Bool) : (s.setP x n b).hif = s.hif := by unfold State.setP; split <;> rfl
@[simp] theorem State.setP_dbhTimer (s : State) (x : LCtx) (n : Nat) (b : Bool) : (s.setP x n b).dbhTimer = s.dbhTimer := by unfold State.setP; split <;> rfl
@[simp] theorem State.setP_outbox (s : State) (x : LCtx) (n : Nat) (b : Bool) : (s.setP x n b).outbox = s.outbox := by unfold State.setP; split <;> rfl
@[simp] theorem State.setP_freeCtr (s : State) (x : LCtx) (n : Nat) (b : Bool) : (s.setP x n b).freeCtr = s.freeCtr := by unfold State.setP; split <;> rfl

end Sys2Proof.Machine
end

