-- ==== Sys2Proof/Laws/Commands.lean ====
section
/-! SUPPORT. What the operations shared by many commands can do: the READY check of a register write, a saturating count, and a
status chosen from two. -/

namespace Sys2Proof.Machine

open Sys2Proof

/-- A write of a register of a READY block has its effect. -/
theorem State.whenReady_of_ready {s : State} {b : Blk} {i : Nat} {eff : State → State} (h : s.ready b i = true) :
    s.whenReady b i eff = eff s := by
  simp [State.whenReady, h]

/-- A write of a register of a block that is not READY is refused and counted. -/
theorem State.whenReady_of_not {s : State} {b : Blk} {i : Nat} {eff : State → State} (h : s.ready b i = false) :
    s.whenReady b i eff = s.countRefused b i := by
  simp [State.whenReady, h]

/-- A write of a device-wide register with an instance READY has its effect. -/
theorem State.whenAnyReady_of_ready {s : State} {b : Blk} {eff : State → State} (h : s.anyReady b) :
    s.whenAnyReady b eff = eff s := by
  obtain ⟨i, hi, hr⟩ := h
  have : (List.range (blockInsts b)).any (fun i => s.ready b i) = true :=
    List.any_eq_true.2 ⟨i, List.mem_range.2 hi, hr⟩
  simp only [State.whenAnyReady, this, if_true]

/-- With no instance READY it is refused and counted in instance 0. -/
theorem State.whenAnyReady_of_not {s : State} {b : Blk} {eff : State → State} (h : ¬ s.anyReady b) :
    s.whenAnyReady b eff = s.countRefused b 0 := by
  have : (List.range (blockInsts b)).any (fun i => s.ready b i) = false := by
    cases hb : (List.range (blockInsts b)).any (fun i => s.ready b i) with
    | false => rfl
    | true =>
      obtain ⟨i, hi, hr⟩ := List.any_eq_true.1 hb
      exact absurd ⟨i, List.mem_range.1 hi, hr⟩ h
  simp [State.whenAnyReady, this]

/-- The better-placed status of R25 is one of the two. -/
theorem Status.worse_or (a b : Status) : Status.worse a b = a ∨ Status.worse a b = b := by
  unfold Status.worse; split
  · exact .inl rfl
  · exact .inr rfl

end Sys2Proof.Machine
end

