-- ==== Sys2Proof/Laws/Exec.lean ====
section
/-! SUPPORT. The meaning each command runs, one equation per command, so that no proof unfolds the dispatch. -/

namespace Sys2Proof.Machine

open Sys2Proof

theorem exec_registerWrite : ∀ a off narrow w s, exec (.registerWrite a off narrow w) s = .next (doRegisterWrite a off narrow w s) := fun _ _ _ _ _ => rfl
theorem exec_expertLiveWrite : ∀ a off w s, exec (.expertLiveWrite a off w) s = .next (doExpertLiveWrite a off w s) := fun _ _ _ _ => rfl
theorem exec_commitRequest : ∀ a b inst s, exec (.commitRequest a b inst) s = .next (doCommitRequest a b inst s) := fun _ _ _ _ => rfl
theorem exec_d2dBlockReceive : ∀ m good s, exec (.d2dBlockReceive m good) s = .next (doD2dBlockReceive m good s) := fun _ _ _ => rfl
theorem exec_d2dLinkFail : ∀ m s, exec (.d2dLinkFail m) s = .next (doD2dLinkFail m s) := fun _ _ => rfl
theorem exec_tokenGiveArrive : ∀ ix s, exec (.tokenGiveArrive ix) s = .next (doTokenGiveArrive ix s) := fun _ _ => rfl
theorem exec_meridianStart : ∀ s, exec .meridianStart s = .next (doMeridianStart s) := fun _ => rfl
theorem exec_drainStart : ∀ s, exec .drainStart s = .next (doDrainStart s) := fun _ => rfl
theorem exec_applyPoint : ∀ s, exec .applyPoint s = .next (doApplyPoint s) := fun _ => rfl
theorem exec_ptpMessageReceive : ∀ f m s, exec (.ptpMessageReceive f m) s = .next (doPtpMessageReceive f m s) := fun _ _ _ => rfl
theorem exec_ptpSyncSend : ∀ f s, exec (.ptpSyncSend f) s = .next (doPtpSyncSend f s) := fun _ _ => rfl
theorem exec_syncLossTimeout : ∀ s, exec .syncLossTimeout s = .next (doSyncLossTimeout s) := fun _ => rfl
theorem exec_acquireTimeout : ∀ s, exec .acquireTimeout s = .next (doAcquireTimeout s) := fun _ => rfl
theorem exec_holdoverTimeout : ∀ s, exec .holdoverTimeout s = .next (doHoldoverTimeout s) := fun _ => rfl
theorem exec_nop : ∀ x op f s, exec (.nop x op f) s = .next (doNop x op f s) := fun _ _ _ _ => rfl
theorem exec_br : ∀ x f s, exec (.br x f) s = .next (doBr x f s) := fun _ _ _ => rfl
theorem exec_call : ∀ x f s, exec (.call x f) s = .next (doCall x f s) := fun _ _ _ => rfl
theorem exec_jr : ∀ x f s, exec (.jr x f) s = .next (doJr x f s) := fun _ _ _ => rfl
theorem exec_myld : ∀ x f s, exec (.myld x f) s = .next (doMyld x f s) := fun _ _ _ => rfl
theorem exec_mchk : ∀ x f s, exec (.mchk x f) s = .next (doMchk x f s) := fun _ _ _ => rfl
theorem exec_mcnt : ∀ x f s, exec (.mcnt x f) s = .next (doMcnt x f s) := fun _ _ _ => rfl
theorem exec_halt : ∀ x f s, exec (.halt x f) s = .next (doHalt x f s) := fun _ _ _ => rfl
theorem exec_barf : ∀ x f s, exec (.barf x f) s = .next (doBarf x f s) := fun _ _ _ => rfl
theorem exec_brk : ∀ x f s, exec (.brk x f) s = .next (doBrk x f s) := fun _ _ _ => rfl
theorem exec_add : ∀ x f s, exec (.add x f) s = .next (doAdd x f s) := fun _ _ _ => rfl
theorem exec_sub : ∀ x f s, exec (.sub x f) s = .next (doSub x f s) := fun _ _ _ => rfl
theorem exec_and : ∀ x f s, exec (.and x f) s = .next (doAnd x f s) := fun _ _ _ => rfl
theorem exec_or : ∀ x f s, exec (.or x f) s = .next (doOr x f s) := fun _ _ _ => rfl
theorem exec_xor : ∀ x f s, exec (.xor x f) s = .next (doXor x f s) := fun _ _ _ => rfl
theorem exec_shl : ∀ x f s, exec (.shl x f) s = .next (doShl x f s) := fun _ _ _ => rfl
theorem exec_shr : ∀ x f s, exec (.shr x f) s = .next (doShr x f s) := fun _ _ _ => rfl
theorem exec_sra : ∀ x f s, exec (.sra x f) s = .next (doSra x f s) := fun _ _ _ => rfl
theorem exec_mul : ∀ x f s, exec (.mul x f) s = .next (doMul x f s) := fun _ _ _ => rfl
theorem exec_addi : ∀ x f s, exec (.addi x f) s = .next (doAddi x f s) := fun _ _ _ => rfl
theorem exec_movl : ∀ x f s, exec (.movl x f) s = .next (doMovl x f s) := fun _ _ _ => rfl
theorem exec_movh : ∀ x f s, exec (.movh x f) s = .next (doMovh x f s) := fun _ _ _ => rfl
theorem exec_cmp : ∀ x f s, exec (.cmp x f) s = .next (doCmp x f s) := fun _ _ _ => rfl
theorem exec_cmpi : ∀ x f s, exec (.cmpi x f) s = .next (doCmpi x f s) := fun _ _ _ => rfl
theorem exec_pset : ∀ x f s, exec (.pset x f) s = .next (doPset x f s) := fun _ _ _ => rfl
theorem exec_tdset : ∀ x f s, exec (.tdset x f) s = .next (doTdset x f s) := fun _ _ _ => rfl
theorem exec_ld : ∀ x f good s, exec (.ld x f good) s = .next (doLd x f good s) := fun _ _ _ _ => rfl
theorem exec_st : ∀ x f s, exec (.st x f) s = .next (doSt x f s) := fun _ _ _ => rfl
theorem exec_ldt : ∀ x f good s, exec (.ldt x f good) s = .next (doLdt x f good s) := fun _ _ _ _ => rfl
theorem exec_stt : ∀ x f s, exec (.stt x f) s = .next (doStt x f s) := fun _ _ _ => rfl
theorem exec_aadd : ∀ x f good s, exec (.aadd x f good) s = .next (doAadd x f good s) := fun _ _ _ _ => rfl
theorem exec_acas : ∀ x f good s, exec (.acas x f good) s = .next (doAcas x f good s) := fun _ _ _ _ => rfl
theorem exec_fencel : ∀ x f s, exec (.fencel x f) s = .next (doFencel x f s) := fun _ _ _ => rfl
theorem exec_rld : ∀ x f s, exec (.rld x f) s = .next (doRld x f s) := fun _ _ _ => rfl
theorem exec_rst : ∀ x f s, exec (.rst x f) s = .next (doRst x f s) := fun _ _ _ => rfl
theorem exec_radd : ∀ x f s, exec (.radd x f) s = .next (doRadd x f s) := fun _ _ _ => rfl
theorem exec_rcas : ∀ x f s, exec (.rcas x f) s = .next (doRcas x f s) := fun _ _ _ => rfl
theorem exec_rpost : ∀ x f s, exec (.rpost x f) s = .next (doRpost x f s) := fun _ _ _ => rfl
theorem exec_rfl : ∀ x f s, exec (.rfl x f) s = .next (doRfl x f s) := fun _ _ _ => rfl
theorem exec_rinv : ∀ x f s, exec (.rinv x f) s = .next (doRinv x f s) := fun _ _ _ => rfl
theorem exec_mbox : ∀ x f s, exec (.mbox x f) s = .next (doMbox x f s) := fun _ _ _ => rfl
theorem exec_give : ∀ x f s, exec (.give x f) s = .next (doGive x f s) := fun _ _ _ => rfl
theorem exec_retc : ∀ x f s, exec (.retc x f) s = .next (doRetc x f s) := fun _ _ _ => rfl
theorem exec_takek : ∀ x f s, exec (.takek x f) s = .next (doTakek x f s) := fun _ _ _ => rfl
theorem exec_takec : ∀ x f s, exec (.takec x f) s = .next (doTakec x f s) := fun _ _ _ => rfl
theorem exec_waitk : ∀ x f s, exec (.waitk x f) s = .next (doWaitk x f s) := fun _ _ _ => rfl
theorem exec_waitc : ∀ x f s, exec (.waitc x f) s = .next (doWaitc x f s) := fun _ _ _ => rfl
theorem exec_waitTakeSuccess : ∀ x s, exec (.waitTakeSuccess x) s = .next (doWaitTakeSuccess x s) := fun _ _ => rfl
theorem exec_waitLimitExpired : ∀ x s, exec (.waitLimitExpired x) s = .next (doWaitLimitExpired x s) := fun _ _ => rfl
theorem exec_rdk : ∀ x f s, exec (.rdk x f) s = .next (doRdk x f s) := fun _ _ _ => rfl
theorem exec_rdc : ∀ x f s, exec (.rdc x f) s = .next (doRdc x f s) := fun _ _ _ => rfl
theorem exec_setk : ∀ x f s, exec (.setk x f) s = .next (doSetk x f s) := fun _ _ _ => rfl
theorem exec_setc : ∀ x f s, exec (.setc x f) s = .next (doSetc x f s) := fun _ _ _ => rfl
theorem exec_tmma : ∀ x f s, exec (.tmma x f) s = .next (doTmma x f s) := fun _ _ _ => rfl
theorem exec_tload : ∀ x f s, exec (.tload x f) s = .next (doTload x f s) := fun _ _ _ => rfl
theorem exec_tstore : ∀ x f s, exec (.tstore x f) s = .next (doTstore x f s) := fun _ _ _ => rfl
theorem exec_tew : ∀ x f s, exec (.tew x f) s = .next (doTew x f s) := fun _ _ _ => rfl
theorem exec_tfn : ∀ x f s, exec (.tfn x f) s = .next (doTfn x f s) := fun _ _ _ => rfl
theorem exec_tred : ∀ x f s, exec (.tred x f) s = .next (doTred x f s) := fun _ _ _ => rfl
theorem exec_tsync : ∀ x f s, exec (.tsync x f) s = .next (doTsync x f s) := fun _ _ _ => rfl
theorem exec_bayInstructionComplete : ∀ g bay good bubbles busy s, exec (.bayInstructionComplete g bay good bubbles busy) s = .next (doBayInstructionComplete g bay good bubbles busy s) := fun _ _ _ _ _ _ => rfl
theorem exec_attn : ∀ x f s, exec (.attn x f) s = .next (doAttn x f s) := fun _ _ _ => rfl
theorem exec_amrg : ∀ x f s, exec (.amrg x f) s = .next (doAmrg x f s) := fun _ _ _ => rfl
theorem exec_amode : ∀ x f s, exec (.amode x f) s = .next (doAmode x f s) := fun _ _ _ => rfl
theorem exec_async : ∀ x f s, exec (.async x f) s = .next (doAsync x f s) := fun _ _ _ => rfl
theorem exec_attnSegmentEnd : ∀ h pc ue ce good s, exec (.attnSegmentEnd h pc ue ce good) s = .next (doAttnSegmentEnd h pc ue ce good s) := fun _ _ _ _ _ _ => rfl
theorem exec_move : ∀ x f s, exec (.move x f) s = .next (doMove x f s) := fun _ _ _ => rfl
theorem exec_moveComplete : ∀ ix ue good s, exec (.moveComplete ix ue good) s = .next (doMoveComplete ix ue good s) := fun _ _ _ _ => rfl
theorem exec_migr : ∀ x f s, exec (.migr x f) s = .next (doMigr x f s) := fun _ _ _ => rfl
theorem exec_park : ∀ x f s, exec (.park x f) s = .next (doPark x f s) := fun _ _ _ => rfl
theorem exec_crd : ∀ x f s, exec (.crd x f) s = .next (doCrd x f s) := fun _ _ _ => rfl
theorem exec_cwr : ∀ x f s, exec (.cwr x f) s = .next (doCwr x f s) := fun _ _ _ => rfl
theorem exec_cstate : ∀ x f s, exec (.cstate x f) s = .next (doCstate x f s) := fun _ _ _ => rfl
theorem exec_cadmit : ∀ x f s, exec (.cadmit x f) s = .next (doCadmit x f s) := fun _ _ _ => rfl
theorem exec_ccommit : ∀ x f s, exec (.ccommit x f) s = .next (doCcommit x f s) := fun _ _ _ => rfl
theorem exec_ctrim : ∀ x f s, exec (.ctrim x f) s = .next (doCtrim x f s) := fun _ _ _ => rfl
theorem exec_cprog : ∀ x f s, exec (.cprog x f) s = .next (doCprog x f s) := fun _ _ _ => rfl
theorem exec_bell : ∀ x f s, exec (.bell x f) s = .next (doBell x f s) := fun _ _ _ => rfl
theorem exec_tmark : ∀ x f s, exec (.tmark x f) s = .next (doTmark x f s) := fun _ _ _ => rfl
theorem exec_tadd : ∀ x f s, exec (.tadd x f) s = .next (doTadd x f s) := fun _ _ _ => rfl
theorem exec_cmt : ∀ x f s, exec (.cmt x f) s = .next (doCmt x f s) := fun _ _ _ => rfl
theorem exec_cfgw : ∀ x f s, exec (.cfgw x f) s = .next (doCfgw x f s) := fun _ _ _ => rfl
theorem exec_cfgr : ∀ x f s, exec (.cfgr x f) s = .next (doCfgr x f s) := fun _ _ _ => rfl
theorem exec_progStage : ∀ a u s, exec (.progStage a u) s = execProgStage a u s := fun _ _ _ => rfl
theorem exec_progVerifyDone : ∀ verdict s, exec (.progVerifyDone verdict) s = .next (doProgVerifyDone verdict s) := fun _ _ => rfl
theorem exec_segReq : ∀ h pc s, exec (.segReq h pc) s = .next (doSegReq h pc s) := fun _ _ _ => rfl
theorem exec_segGrant : ∀ h pc s, exec (.segGrant h pc) s = .next (doSegGrant h pc s) := fun _ _ _ => rfl
theorem exec_nbStatus : ∀ h position s, exec (.nbStatus h position) s = .next (doNbStatus h position s) := fun _ _ _ => rfl
theorem exec_remap : ∀ h pc position s, exec (.remap h pc position) s = .next (doRemap h pc position s) := fun _ _ _ _ => rfl
theorem exec_sptest : ∀ h start s, exec (.sptest h start) s = .next (doSptest h start s) := fun _ _ _ => rfl
theorem exec_segmentGrantExpiry : ∀ h pc s, exec (.segmentGrantExpiry h pc) s = .next (doSegmentGrantExpiry h pc s) := fun _ _ _ => rfl
theorem exec_boundaryGapEnd : ∀ h pc gap hold s, exec (.boundaryGapEnd h pc gap hold) s = .next (doBoundaryGapEnd h pc gap hold s) := fun _ _ _ _ _ => rfl
theorem exec_ordinaryAccess : ∀ addr write len data ue s, exec (.ordinaryAccess addr write len data ue) s = .next (doOrdinaryAccess addr write len data ue s) := fun _ _ _ _ _ _ => rfl
theorem exec_refreshDue : ∀ h pc s, exec (.refreshDue h pc) s = .next (doRefreshDue h pc s) := fun _ _ _ => rfl
theorem exec_refreshRateChange : ∀ h temp s, exec (.refreshRateChange h temp) s = .next (doRefreshRateChange h temp s) := fun _ _ _ => rfl
theorem exec_nbuThrottleEnter : ∀ h power temp s, exec (.nbuThrottleEnter h power temp) s = .next (doNbuThrottleEnter h power temp s) := fun _ _ _ _ => rfl
theorem exec_nbuThrottleExit : ∀ h power temp s, exec (.nbuThrottleExit h power temp) s = .next (doNbuThrottleExit h power temp s) := fun _ _ _ _ => rfl
theorem exec_nbuCriticalEnter : ∀ h power temp s, exec (.nbuCriticalEnter h power temp) s = .next (doNbuCriticalEnter h power temp s) := fun _ _ _ _ => rfl
theorem exec_nbuCriticalExit : ∀ h power temp s, exec (.nbuCriticalExit h power temp) s = .next (doNbuCriticalExit h power temp s) := fun _ _ _ _ => rfl
theorem exec_nbuSubst : ∀ a h index s, exec (.nbuSubst a h index) s = execNbuSubst a h index s := fun _ _ _ _ => rfl
theorem exec_pcFaultSubst : ∀ h pc ue s, exec (.pcFaultSubst h pc ue) s = .next (doPcFaultSubst h pc ue s) := fun _ _ _ _ => rfl
theorem exec_pcCopyEnd : ∀ h lost s, exec (.pcCopyEnd h lost) s = .next (doPcCopyEnd h lost s) := fun _ _ _ => rfl
theorem exec_pcRemapApply : ∀ h s, exec (.pcRemapApply h) s = .next (doPcRemapApply h s) := fun _ _ => rfl
theorem exec_nbuLostClear : ∀ a h entry s, exec (.nbuLostClear a h entry) s = execNbuLostClear a h entry s := fun _ _ _ _ => rfl
theorem exec_galSubst : ∀ a g index s, exec (.galSubst a g index) s = execGalSubst a g index s := fun _ _ _ _ => rfl
theorem exec_bayUe : ∀ g bay s, exec (.bayUe g bay) s = .next (doBayUe g bay s) := fun _ _ _ => rfl
theorem exec_baySubstitute : ∀ g s, exec (.baySubstitute g) s = .next (doBaySubstitute g s) := fun _ _ => rfl
theorem exec_bayCopyDone : ∀ g bay s, exec (.bayCopyDone g bay) s = .next (doBayCopyDone g bay s) := fun _ _ _ => rfl
theorem exec_preemptDrainDone : ∀ g s, exec (.preemptDrainDone g) s = .next (doPreemptDrainDone g s) := fun _ _ => rfl
theorem exec_preemptSaveDone : ∀ g good s, exec (.preemptSaveDone g good) s = .next (doPreemptSaveDone g good s) := fun _ _ _ => rfl
theorem exec_preemptRestoreDone : ∀ g good s, exec (.preemptRestoreDone g good) s = .next (doPreemptRestoreDone g good s) := fun _ _ _ => rfl
theorem exec_galBatchDone : ∀ a g count s, exec (.galBatchDone a g count) s = execGalBatchDone a g count s := fun _ _ _ _ => rfl
theorem exec_galSrSeedWrite : ∀ a g n seed s, exec (.galSrSeedWrite a g n seed) s = execGalSrSeedWrite a g n seed s := fun _ _ _ _ _ => rfl
theorem exec_tagLoadGo : ∀ a g s, exec (.tagLoadGo a g) s = execTagLoadGo a g s := fun _ _ _ => rfl
theorem exec_tagLoadDone : ∀ g s, exec (.tagLoadDone g) s = .next (doTagLoadDone g s) := fun _ _ => rfl
theorem exec_admissionEntry : ∀ p s, exec (.admissionEntry p) s = .next (doAdmissionEntry p s) := fun _ _ => rfl
theorem exec_batchValidate : ∀ p s, exec (.batchValidate p) s = .next (doBatchValidate p s) := fun _ _ => rfl
theorem exec_batchDispatch : ∀ p s, exec (.batchDispatch p) s = .next (doBatchDispatch p s) := fun _ _ => rfl
theorem exec_batchPreemptRequest : ∀ p s, exec (.batchPreemptRequest p) s = .next (doBatchPreemptRequest p s) := fun _ _ => rfl
theorem exec_recordExpiry : ∀ ix s, exec (.recordExpiry ix) s = .next (doRecordExpiry ix s) := fun _ _ => rfl
theorem exec_deadlineMissed : ∀ ix s, exec (.deadlineMissed ix) s = .next (doDeadlineMissed ix s) := fun _ _ => rfl
theorem exec_handoverInTimeout : ∀ ix s, exec (.handoverInTimeout ix) s = .next (doHandoverInTimeout ix s) := fun _ _ => rfl
theorem exec_recordUe : ∀ ix s, exec (.recordUe ix) s = .next (doRecordUe ix s) := fun _ _ => rfl
theorem exec_completionRingDrain : ∀ p s, exec (.completionRingDrain p) s = .next (doCompletionRingDrain p s) := fun _ _ => rfl
theorem exec_recordRelease : ∀ a p record gen s, exec (.recordRelease a p record gen) s = execRecordRelease a p record gen s := fun _ _ _ _ _ => rfl
theorem exec_ringIndexWrite : ∀ a r index s, exec (.ringIndexWrite a r index) s = .next (doRingIndexWrite a r index s) := fun _ _ _ _ => rfl
theorem exec_stwPGrab : ∀ a p s, exec (.stwPGrab a p) s = .next (doStwPGrab a p s) := fun _ _ _ => rfl
theorem exec_groupHomed : ∀ frames s, exec (.groupHomed frames) s = .next (doGroupHomed frames s) := fun _ _ => rfl
theorem exec_tensorRead : ∀ p ta len good s, exec (.tensorRead p ta len good) s = .next (doTensorRead p ta len good s) := fun _ _ _ _ _ => rfl
theorem exec_tensorWrite : ∀ p ta data s, exec (.tensorWrite p ta data) s = .next (doTensorWrite p ta data s) := fun _ _ _ _ => rfl
theorem exec_migrationConfirm : ∀ ix frames s, exec (.migrationConfirm ix frames) s = .next (doMigrationConfirm ix frames s) := fun _ _ _ => rfl
theorem exec_migrationFail : ∀ ix read s, exec (.migrationFail ix read) s = .next (doMigrationFail ix read s) := fun _ _ _ => rfl
theorem exec_groupExpiry : ∀ p g s, exec (.groupExpiry p g) s = .next (doGroupExpiry p g s) := fun _ _ _ => rfl
theorem exec_recPark : ∀ a p record gen tier s, exec (.recPark a p record gen tier) s = execRecPark a p record gen tier s := fun _ _ _ _ _ _ => rfl
theorem exec_recUnpark : ∀ a p record gen tier s, exec (.recUnpark a p record gen tier) s = execRecUnpark a p record gen tier s := fun _ _ _ _ _ _ => rfl
theorem exec_recFree : ∀ a p record gen tier s, exec (.recFree a p record gen tier) s = execRecFree a p record gen tier s := fun _ _ _ _ _ _ => rfl
theorem exec_recCommandEnd : ∀ s, exec .recCommandEnd s = .next (doRecCommandEnd s) := fun _ => rfl
theorem exec_demotionStart : ∀ p s, exec (.demotionStart p) s = .next (doDemotionStart p s) := fun _ _ => rfl
theorem exec_keyRotate : ∀ a p s, exec (.keyRotate a p) s = execKeyRotate a p s := fun _ _ _ => rfl
theorem exec_keyForceRetire : ∀ a p s, exec (.keyForceRetire a p) s = execKeyForceRetire a p s := fun _ _ _ => rfl
theorem exec_keyInstallDone : ∀ p keyId s, exec (.keyInstallDone p keyId) s = .next (doKeyInstallDone p keyId s) := fun _ _ _ => rfl
theorem exec_keySweepStep : ∀ p t3 s, exec (.keySweepStep p t3) s = .next (doKeySweepStep p t3 s) := fun _ _ _ => rfl
theorem exec_keySlotEmpty : ∀ p s, exec (.keySlotEmpty p) s = .next (doKeySlotEmpty p s) := fun _ _ => rfl
theorem exec_almRegister : ∀ a e p s, exec (.almRegister a e p) s = execAlmRegister a e p s := fun _ _ _ _ => rfl
theorem exec_almLoad : ∀ a e p s, exec (.almLoad a e p) s = execAlmLoad a e p s := fun _ _ _ _ => rfl
theorem exec_almEvict : ∀ a e p s, exec (.almEvict a e p) s = execAlmEvict a e p s := fun _ _ _ _ => rfl
theorem exec_almPin : ∀ a e p s, exec (.almPin a e p) s = execAlmPin a e p s := fun _ _ _ _ => rfl
theorem exec_almUnpin : ∀ a e p s, exec (.almUnpin a e p) s = execAlmUnpin a e p s := fun _ _ _ _ => rfl
theorem exec_almAdvance : ∀ a e p s, exec (.almAdvance a e p) s = execAlmAdvance a e p s := fun _ _ _ _ => rfl
theorem exec_almUnregister : ∀ a e p s, exec (.almUnregister a e p) s = execAlmUnregister a e p s := fun _ _ _ _ => rfl
theorem exec_almMoveConfirmed : ∀ e frames s, exec (.almMoveConfirmed e frames) s = .next (doAlmMoveConfirmed e frames s) := fun _ _ _ => rfl
theorem exec_almEvictDone : ∀ e s, exec (.almEvictDone e) s = .next (doAlmEvictDone e s) := fun _ _ => rfl
theorem exec_adpLoad : ∀ a slot p entry s, exec (.adpLoad a slot p entry) s = execAdpLoad a slot p entry s := fun _ _ _ _ _ => rfl
theorem exec_adpRetire : ∀ a slot p s, exec (.adpRetire a slot p) s = execAdpRetire a slot p s := fun _ _ _ _ => rfl
theorem exec_adpSlotReady : ∀ slot s, exec (.adpSlotReady slot) s = .next (doAdpSlotReady slot s) := fun _ _ => rfl
theorem exec_adpSlotEmpty : ∀ slot s, exec (.adpSlotEmpty slot) s = .next (doAdpSlotEmpty slot s) := fun _ _ => rfl
theorem exec_wrNop : ∀ s, exec .wrNop s = .next (doWrNop s) := fun _ => rfl
theorem exec_wrWrite : ∀ s, exec .wrWrite s = .next (doWrWrite s) := fun _ => rfl
theorem exec_wrRead : ∀ s, exec .wrRead s = .next (doWrRead s) := fun _ => rfl
theorem exec_wrCas : ∀ s, exec .wrCas s = .next (doWrCas s) := fun _ => rfl
theorem exec_wrFadd : ∀ s, exec .wrFadd s = .next (doWrFadd s) := fun _ => rfl
theorem exec_wrFlush : ∀ s, exec .wrFlush s = .next (doWrFlush s) := fun _ => rfl
theorem exec_wrOwnCas : ∀ s, exec .wrOwnCas s = .next (doWrOwnCas s) := fun _ => rfl
theorem exec_wrOwnRead : ∀ s, exec .wrOwnRead s = .next (doWrOwnRead s) := fun _ => rfl
theorem exec_wrOwnMirror : ∀ s, exec .wrOwnMirror s = .next (doWrOwnMirror s) := fun _ => rfl
theorem exec_wrLayer : ∀ s, exec .wrLayer s = .next (doWrLayer s) := fun _ => rfl
theorem exec_wrCkpt : ∀ good s, exec (.wrCkpt good) s = .next (doWrCkpt good s) := fun _ _ => rfl
theorem exec_wrRestore : ∀ s, exec .wrRestore s = .next (doWrRestore s) := fun _ => rfl
theorem exec_wrComplete : ∀ ix s, exec (.wrComplete ix) s = .next (doWrComplete ix s) := fun _ _ => rfl
theorem exec_triggerFire : ∀ ix s, exec (.triggerFire ix) s = .next (doTriggerFire ix s) := fun _ _ => rfl
theorem exec_helTrigCancel : ∀ a ix s, exec (.helTrigCancel a ix) s = execHelTrigCancel a ix s := fun _ _ _ => rfl
theorem exec_messageComplete : ∀ ix s, exec (.messageComplete ix) s = .next (doMessageComplete ix s) := fun _ _ => rfl
theorem exec_flushComplete : ∀ ix s, exec (.flushComplete ix) s = .next (doFlushComplete ix s) := fun _ _ => rfl
theorem exec_handoverClose : ∀ inb h s, exec (.handoverClose inb h) s = .next (doHandoverClose inb h s) := fun _ _ _ => rfl
theorem exec_ownRetry : ∀ inb h s, exec (.ownRetry inb h) s = .next (doOwnRetry inb h s) := fun _ _ _ => rfl
theorem exec_helMeasStart : ∀ a s, exec (.helMeasStart a) s = execHelMeasStart a s := fun _ _ => rfl
theorem exec_helMeasStop : ∀ a s, exec (.helMeasStop a) s = execHelMeasStop a s := fun _ _ => rfl
theorem exec_linkBlockReceive : ∀ f ty seq ack good missing s, exec (.linkBlockReceive f ty seq ack good missing) s = execLinkBlockReceive f ty seq ack good missing s := fun _ _ _ _ _ _ _ => rfl
theorem exec_linkResendTimeout : ∀ f seq s, exec (.linkResendTimeout f seq) s = .next (doLinkResendTimeout f seq s) := fun _ _ _ => rfl
theorem exec_linkControlSend : ∀ f s, exec (.linkControlSend f) s = .next (doLinkControlSend f s) := fun _ _ => rfl
theorem exec_linkRetrain : ∀ f dark s, exec (.linkRetrain f dark) s = .next (doLinkRetrain f dark s) := fun _ _ _ => rfl
theorem exec_linkEnableChange : ∀ f s, exec (.linkEnableChange f) s = .next (doLinkEnableChange f s) := fun _ _ => rfl
theorem exec_lanesLocked : ∀ f mask s, exec (.lanesLocked f mask) s = .next (doLanesLocked f mask s) := fun _ _ _ => rfl
theorem exec_trainingTimeout : ∀ f mask light s, exec (.trainingTimeout f mask light) s = .next (doTrainingTimeout f mask light s) := fun _ _ _ _ => rfl
theorem exec_alignAgree : ∀ f node port s, exec (.alignAgree f node port) s = .next (doAlignAgree f node port s) := fun _ _ _ _ => rfl
theorem exec_alignTimeout : ∀ f s, exec (.alignTimeout f) s = .next (doAlignTimeout f s) := fun _ _ => rfl
theorem exec_laneFail : ∀ f lane s, exec (.laneFail f lane) s = .next (doLaneFail f lane s) := fun _ _ _ => rfl
theorem exec_laneSubstitute : ∀ f s, exec (.laneSubstitute f) s = .next (doLaneSubstitute f s) := fun _ _ => rfl
theorem exec_fabSubst : ∀ a f lane s, exec (.fabSubst a f lane) s = execFabSubst a f lane s := fun _ _ _ _ => rfl
theorem exec_fabRecal : ∀ a f s, exec (.fabRecal a f) s = execFabRecal a f s := fun _ _ _ => rfl
theorem exec_laneRecalDone : ∀ f s, exec (.laneRecalDone f) s = .next (doLaneRecalDone f s) := fun _ _ => rfl
theorem exec_lcInsert : ∀ x s, exec (.lcInsert x) s = .next (doLcInsert x s) := fun _ _ => rfl
theorem exec_lcWavelengthLock : ∀ x s, exec (.lcWavelengthLock x) s = .next (doLcWavelengthLock x s) := fun _ _ => rfl
theorem exec_lcWarmTimeout : ∀ x s, exec (.lcWarmTimeout x) s = .next (doLcWarmTimeout x s) := fun _ _ => rfl
theorem exec_lcEjectA : ∀ a s, exec (.lcEjectA a) s = execLcEjectA a s := fun _ _ => rfl
theorem exec_lcEjectB : ∀ a s, exec (.lcEjectB a) s = execLcEjectB a s := fun _ _ => rfl
theorem exec_lcReleaseDone : ∀ x s, exec (.lcReleaseDone x) s = .next (doLcReleaseDone x s) := fun _ _ => rfl
theorem exec_lcRemove : ∀ x s, exec (.lcRemove x) s = .next (doLcRemove x s) := fun _ _ => rfl
theorem exec_lcLoss : ∀ x removed s, exec (.lcLoss x removed) s = .next (doLcLoss x removed s) := fun _ _ _ => rfl
theorem exec_ctxCreate : ∀ a n p s, exec (.ctxCreate a n p) s = execCtxCreate a n p s := fun _ _ _ _ => rfl
theorem exec_ctxClose : ∀ a n s, exec (.ctxClose a n) s = execCtxClose a n s := fun _ _ _ => rfl
theorem exec_ctxQuery : ∀ a n s, exec (.ctxQuery a n) s = execCtxQuery a n s := fun _ _ _ => rfl
theorem exec_ctxKeyInstall : ∀ a n s, exec (.ctxKeyInstall a n) s = execCtxKeyInstall a n s := fun _ _ _ => rfl
theorem exec_ctxKeySwitch : ∀ a n s, exec (.ctxKeySwitch a n) s = execCtxKeySwitch a n s := fun _ _ _ => rfl
theorem exec_ctxPin : ∀ a n s, exec (.ctxPin a n) s = execCtxPin a n s := fun _ _ _ => rfl
theorem exec_ctxUnpin : ∀ a n s, exec (.ctxUnpin a n) s = execCtxUnpin a n s := fun _ _ _ => rfl
theorem exec_ctxReset : ∀ a n s, exec (.ctxReset a n) s = execCtxReset a n s := fun _ _ _ => rfl
theorem exec_ctxFetchDone : ∀ n good s, exec (.ctxFetchDone n good) s = .next (doCtxFetchDone n good s) := fun _ _ _ => rfl
theorem exec_openPacket : ∀ h srcCtx aes s, exec (.openPacket h srcCtx aes) s = .next (doOpenPacket h srcCtx aes s) := fun _ _ _ _ => rfl
theorem exec_openAck : ∀ h s, exec (.openAck h) s = .next (doOpenAck h s) := fun _ _ => rfl
theorem exec_close : ∀ h s, exec (.close h) s = .next (doClose h s) := fun _ _ => rfl
theorem exec_closeAck : ∀ h s, exec (.closeAck h) s = .next (doCloseAck h s) := fun _ _ => rfl
theorem exec_ack : ∀ h base map s, exec (.ack h base map) s = .next (doAck h base map s) := fun _ _ _ _ => rfl
theorem exec_nack : ∀ h psn status units s, exec (.nack h psn status units) s = .next (doNack h psn status units s) := fun _ _ _ _ _ => rfl
theorem exec_credit : ∀ h granted s, exec (.credit h granted) s = .next (doCredit h granted s) := fun _ _ _ => rfl
theorem exec_creditReq : ∀ h want s, exec (.creditReq h want) s = .next (doCreditReq h want s) := fun _ _ _ => rfl
theorem exec_revoke : ∀ h s, exec (.revoke h) s = .next (doRevoke h s) := fun _ _ => rfl
theorem exec_revokeAck : ∀ h returned s, exec (.revokeAck h returned) s = .next (doRevokeAck h returned s) := fun _ _ _ => rfl
theorem exec_keychg : ∀ h gen s, exec (.keychg h gen) s = .next (doKeychg h gen s) := fun _ _ _ => rfl
theorem exec_keychgAck : ∀ h gen s, exec (.keychgAck h gen) s = .next (doKeychgAck h gen s) := fun _ _ _ => rfl
theorem exec_inval : ∀ h addr s, exec (.inval h addr) s = .next (doInval h addr s) := fun _ _ _ => rfl
theorem exec_invalAck : ∀ h addr s, exec (.invalAck h addr) s = .next (doInvalAck h addr s) := fun _ _ _ => rfl
theorem exec_cLoad : ∀ h addr key size line req good s, exec (.cLoad h addr key size line req good) s = .next (doCLoad h addr key size line req good s) := fun _ _ _ _ _ _ _ _ => rfl
theorem exec_cStore : ∀ h addr key size data s, exec (.cStore h addr key size data) s = .next (doCStore h addr key size data s) := fun _ _ _ _ _ _ => rfl
theorem exec_cAdd : ∀ h addr key req data good s, exec (.cAdd h addr key req data good) s = .next (doCAdd h addr key req data good s) := fun _ _ _ _ _ _ _ => rfl
theorem exec_cCas : ∀ h addr key req compare swap good s, exec (.cCas h addr key req compare swap good) s = .next (doCCas h addr key req compare swap good s) := fun _ _ _ _ _ _ _ _ => rfl
theorem exec_cMbox : ∀ h addr key source data s, exec (.cMbox h addr key source data) s = .next (doCMbox h addr key source data s) := fun _ _ _ _ _ _ => rfl
theorem exec_cResp : ∀ h req status data line s, exec (.cResp h req status data line) s = execCResp h req status data line s := fun _ _ _ _ _ _ => rfl
theorem exec_sWrite : ∀ h addr off len key tag msg ctrInc data s, exec (.sWrite h addr off len key tag msg ctrInc data) s = execSWrite h addr off len key tag msg ctrInc data s := fun _ _ _ _ _ _ _ _ _ _ => rfl
theorem exec_sRead : ∀ h addr len key req s, exec (.sRead h addr len key req) s = .next (doSRead h addr len key req s) := fun _ _ _ _ _ _ => rfl
theorem exec_sReadData : ∀ h req off len data good s, exec (.sReadData h req off len data good) s = execSReadData h req off len data good s := fun _ _ _ _ _ _ _ => rfl
theorem exec_sAtom : ∀ h addr key req op compare operand good s, exec (.sAtom h addr key req op compare operand good) s = .next (doSAtom h addr key req op compare operand good s) := fun _ _ _ _ _ _ _ _ _ => rfl
theorem exec_sOwn : ∀ h req op reqId expected new mirror mirrorNode mirrorPart s, exec (.sOwn h req op reqId expected new mirror mirrorNode mirrorPart) s = execSOwn h req op reqId expected new mirror mirrorNode mirrorPart s := fun _ _ _ _ _ _ _ _ _ _ => rfl
theorem exec_sResp : ∀ h req status mf result s, exec (.sResp h req status mf result) s = .next (doSResp h req status mf result s) := fun _ _ _ _ _ _ => rfl
theorem exec_sLayer : ∀ h reqId hkey epoch rec_ layer total units addr data s, exec (.sLayer h reqId hkey epoch rec_ layer total units addr data) s = execSLayer h reqId hkey epoch rec_ layer total units addr data s := fun _ _ _ _ _ _ _ _ _ _ _ => rfl
theorem exec_sFlush : ∀ h req upto s, exec (.sFlush h req upto) s = .next (doSFlush h req upto s) := fun _ _ _ _ => rfl
theorem exec_packetResendTimeout : ∀ n psn s, exec (.packetResendTimeout n psn) s = .next (doPacketResendTimeout n psn s) := fun _ _ _ => rfl
theorem exec_sResponseTimeout : ∀ n req s, exec (.sResponseTimeout n req) s = .next (doSResponseTimeout n req s) := fun _ _ _ => rfl
theorem exec_idleRevokeTimeout : ∀ n s, exec (.idleRevokeTimeout n) s = .next (doIdleRevokeTimeout n s) := fun _ _ => rfl
theorem exec_ackSend : ∀ n s, exec (.ackSend n) s = .next (doAckSend n s) := fun _ _ => rfl
theorem exec_rgnAdd : ∀ a p index desc s, exec (.rgnAdd a p index desc) s = execRgnAdd a p index desc s := fun _ _ _ _ _ => rfl
theorem exec_rgnRemove : ∀ a p index s, exec (.rgnRemove a p index) s = execRgnRemove a p index s := fun _ _ _ _ => rfl
theorem exec_rlcFlush : ∀ a p s, exec (.rlcFlush a p) s = execRlcFlush a p s := fun _ _ _ => rfl
theorem exec_wheelSlot : ∀ s, exec .wheelSlot s = .next (doWheelSlot s) := fun _ => rfl
theorem exec_bucketFill : ∀ s, exec .bucketFill s = .next (doBucketFill s) := fun _ => rfl
theorem exec_portBlockStart : ∀ f good s, exec (.portBlockStart f good) s = .next (doPortBlockStart f good s) := fun _ _ _ => rfl
theorem exec_bar2Access : ∀ x fn off write len data ue s, exec (.bar2Access x fn off write len data ue) s = .next (doBar2Access x fn off write len data ue s) := fun _ _ _ _ _ _ _ _ => rfl
theorem exec_hostPortLinkUp : ∀ x speed width s, exec (.hostPortLinkUp x speed width) s = .next (doHostPortLinkUp x speed width s) := fun _ _ _ _ => rfl
theorem exec_hostPortLinkDown : ∀ x s, exec (.hostPortLinkDown x) s = .next (doHostPortLinkDown x s) := fun _ _ => rfl
theorem exec_pfFlr : ∀ x s, exec (.pfFlr x) s = .next (doPfFlr x s) := fun _ _ => rfl
theorem exec_vfFlr : ∀ x v s, exec (.vfFlr x v) s = .next (doVfFlr x v s) := fun _ _ _ => rfl
theorem exec_hifHeartbeat : ∀ a x s, exec (.hifHeartbeat a x) s = execHifHeartbeat a x s := fun _ _ _ => rfl
theorem exec_heartbeatTimeout : ∀ x s, exec (.heartbeatTimeout x) s = .next (doHeartbeatTimeout x s) := fun _ _ => rfl
theorem exec_rebind : ∀ a p s, exec (.rebind a p) s = execRebind a p s := fun _ _ _ => rfl
theorem exec_rebindAll : ∀ a s, exec (.rebindAll a) s = execRebindAll a s := fun _ _ => rfl
theorem exec_takePrimary : ∀ a s, exec (.takePrimary a) s = execTakePrimary a s := fun _ _ => rfl
theorem exec_givePrimary : ∀ a s, exec (.givePrimary a) s = execGivePrimary a s := fun _ _ => rfl
theorem exec_rebindApply : ∀ s, exec .rebindApply s = .next (doRebindApply s) := fun _ => rfl
theorem exec_msixSend : ∀ s, exec .msixSend s = .next (doMsixSend s) := fun _ => rfl
theorem exec_msixHeldRelease : ∀ ix s, exec (.msixHeldRelease ix) s = .next (doMsixHeldRelease ix s) := fun _ _ => rfl
theorem exec_doeObject : ∀ x kind len s, exec (.doeObject x kind len) s = .next (doDoeObject x kind len s) := fun _ _ _ _ => rfl
theorem exec_doeAbort : ∀ x s, exec (.doeAbort x) s = .next (doDoeAbort x s) := fun _ _ => rfl
theorem exec_doorbellRing : ∀ r t w s, exec (.doorbellRing r t w) s = .next (doDoorbellRing r t w s) := fun _ _ _ _ => rfl
theorem exec_pendingWordClear : ∀ a t k bits s, exec (.pendingWordClear a t k bits) s = execPendingWordClear a t k bits s := fun _ _ _ _ _ => rfl
theorem exec_targetIdleWrite : ∀ a t v s, exec (.targetIdleWrite a t v) s = execTargetIdleWrite a t v s := fun _ _ _ _ => rfl
theorem exec_moderationTimerExpire : ∀ t s, exec (.moderationTimerExpire t) s = .next (doModerationTimerExpire t s) := fun _ _ => rfl
theorem exec_deliveryUnblock : ∀ t s, exec (.deliveryUnblock t) s = .next (doDeliveryUnblock t s) := fun _ _ => rfl
theorem exec_roleSet : ∀ a p role s, exec (.roleSet a p role) s = execRoleSet a p role s := fun _ _ _ _ => rfl
theorem exec_roleCancel : ∀ a p s, exec (.roleCancel a p) s = execRoleCancel a p s := fun _ _ _ => rfl
theorem exec_roleDrainComplete : ∀ p s, exec (.roleDrainComplete p) s = .next (doRoleDrainComplete p s) := fun _ _ => rfl
theorem exec_roleDrainLimit : ∀ p s, exec (.roleDrainLimit p) s = .next (doRoleDrainLimit p s) := fun _ _ => rfl
theorem exec_mapLoad : ∀ a ix s, exec (.mapLoad a ix) s = execMapLoad a ix s := fun _ _ _ => rfl
theorem exec_mapSweep : ∀ a ix s, exec (.mapSweep a ix) s = execMapSweep a ix s := fun _ _ _ => rfl
theorem exec_mapSwitch : ∀ s, exec .mapSwitch s = .next (doMapSwitch s) := fun _ => rfl
theorem exec_mapRetire : ∀ s, exec .mapRetire s = .next (doMapRetire s) := fun _ => rfl
theorem exec_anchCopySweepEnd : ∀ s, exec .anchCopySweepEnd s = .next (doAnchCopySweepEnd s) := fun _ => rfl
theorem exec_vestibuleBoot : ∀ bad s, exec (.vestibuleBoot bad) s = .next (doVestibuleBoot bad s) := fun _ _ => rfl
theorem exec_stageFw : ∀ a comp s, exec (.stageFw a comp) s = .next (doStageFw a comp s) := fun _ _ _ => rfl
theorem exec_activate : ∀ a comp s, exec (.activate a comp) s = .next (doActivate a comp s) := fun _ _ _ => rfl
theorem exec_liveActivationEnd : ∀ s, exec .liveActivationEnd s = .next (doLiveActivationEnd s) := fun _ => rfl
theorem exec_commitSvn : ∀ a comp s, exec (.commitSvn a comp) s = .next (doCommitSvn a comp s) := fun _ _ _ => rfl
theorem exec_enroll : ∀ a serial keys good s, exec (.enroll a serial keys good) s = .next (doEnroll a serial keys good s) := fun _ _ _ _ _ => rfl
theorem exec_debugEnable : ∀ a s, exec (.debugEnable a) s = .next (doDebugEnable a s) := fun _ _ => rfl
theorem exec_debugDisable : ∀ a s, exec (.debugDisable a) s = .next (doDebugDisable a s) := fun _ _ => rfl
theorem exec_logRead : ∀ a s, exec (.logRead a) s = .next (doLogRead a s) := fun _ _ => rfl
theorem exec_getVersion : ∀ x s, exec (.getVersion x) s = .next (doGetVersion x s) := fun _ _ => rfl
theorem exec_getCapabilities : ∀ x s, exec (.getCapabilities x) s = .next (doGetCapabilities x s) := fun _ _ => rfl
theorem exec_negotiateAlgorithms : ∀ x s, exec (.negotiateAlgorithms x) s = .next (doNegotiateAlgorithms x s) := fun _ _ => rfl
theorem exec_getDigests : ∀ x s, exec (.getDigests x) s = .next (doGetDigests x s) := fun _ _ => rfl
theorem exec_getCertificate : ∀ x slot s, exec (.getCertificate x slot) s = .next (doGetCertificate x slot s) := fun _ _ _ => rfl
theorem exec_challenge : ∀ x slot s, exec (.challenge x slot) s = .next (doChallenge x slot s) := fun _ _ _ => rfl
theorem exec_getMeasurements : ∀ x index signed s, exec (.getMeasurements x index signed) s = .next (doGetMeasurements x index signed s) := fun _ _ _ _ => rfl
theorem exec_keyExchange : ∀ x s, exec (.keyExchange x) s = .next (doKeyExchange x s) := fun _ _ => rfl
theorem exec_spdmFinish : ∀ x ix good chain s, exec (.spdmFinish x ix good chain) s = .next (doSpdmFinish x ix good chain s) := fun _ _ _ _ _ => rfl
theorem exec_spdmHeartbeat : ∀ x ix s, exec (.spdmHeartbeat x ix) s = .next (doSpdmHeartbeat x ix s) := fun _ _ _ => rfl
theorem exec_keyUpdate : ∀ x ix s, exec (.keyUpdate x ix) s = .next (doKeyUpdate x ix s) := fun _ _ _ => rfl
theorem exec_endSession : ∀ x ix s, exec (.endSession x ix) s = .next (doEndSession x ix s) := fun _ _ _ => rfl
theorem exec_takeOwnership : ∀ x ix root s, exec (.takeOwnership x ix root) s = .next (doTakeOwnership x ix root s) := fun _ _ _ _ => rfl
theorem exec_fabricRoot : ∀ x ix serial activeAt s, exec (.fabricRoot x ix serial activeAt) s = .next (doFabricRoot x ix serial activeAt s) := fun _ _ _ _ _ => rfl
theorem exec_fabricRootActivate : ∀ s, exec .fabricRootActivate s = .next (doFabricRootActivate s) := fun _ => rfl
theorem exec_inputValid : ∀ s, exec .inputValid s = .next (doInputValid s) := fun _ => rfl
theorem exec_inputInvalid : ∀ s, exec .inputInvalid s = .next (doInputInvalid s) := fun _ => rfl
theorem exec_inputOutOfRange : ∀ mv s, exec (.inputOutOfRange mv) s = .next (doInputOutOfRange mv s) := fun _ _ => rfl
theorem exec_railPowerGood : ∀ s, exec .railPowerGood s = .next (doRailPowerGood s) := fun _ => rfl
theorem exec_railTimeout : ∀ s, exec .railTimeout s = .next (doRailTimeout s) := fun _ => rfl
theorem exec_railLoss : ∀ r s, exec (.railLoss r) s = .next (doRailLoss r s) := fun _ _ => rfl
theorem exec_powerRetry : ∀ s, exec .powerRetry s = .next (doPowerRetry s) := fun _ => rfl
theorem exec_pwrDis : ∀ high s, exec (.pwrDis high) s = .next (doPwrDis high s) := fun _ _ => rfl
theorem exec_thermalTrip : ∀ stack temp s, exec (.thermalTrip stack temp) s = .next (doThermalTrip stack temp s) := fun _ _ _ => rfl
theorem exec_powerOverWarn : ∀ power s, exec (.powerOverWarn power) s = .next (doPowerOverWarn power s) := fun _ _ => rfl
theorem exec_phaseLost : ∀ r s, exec (.phaseLost r) s = .next (doPhaseLost r s) := fun _ _ => rfl
theorem exec_resetContext : ∀ a unit ctx s, exec (.resetContext a unit ctx) s = execResetContext a unit ctx s := fun _ _ _ _ => rfl
theorem exec_resetPartition : ∀ a p s, exec (.resetPartition a p) s = execResetPartition a p s := fun _ _ _ => rfl
theorem exec_resetWarm : ∀ a preserve confirm s, exec (.resetWarm a preserve confirm) s = execResetWarm a preserve confirm s := fun _ _ _ _ => rfl
theorem exec_resetCold : ∀ a confirm s, exec (.resetCold a confirm) s = execResetCold a confirm s := fun _ _ _ => rfl
theorem exec_contextResetApply : ∀ x s, exec (.contextResetApply x) s = .next (doContextResetApply x s) := fun _ _ => rfl
theorem exec_partitionResetApply : ∀ p s, exec (.partitionResetApply p) s = .next (doPartitionResetApply p s) := fun _ _ => rfl
theorem exec_blockReady : ∀ b ix s, exec (.blockReady b ix) s = .next (doBlockReady b ix s) := fun _ _ _ => rfl
theorem exec_faultReport : ∀ r s, exec (.faultReport r) s = execFaultReport r s := fun _ _ => rfl
theorem exec_faultRingDrain : ∀ s, exec .faultRingDrain s = .next (doFaultRingDrain s) := fun _ => rfl
theorem exec_dieTempLimit : ∀ temp s, exec (.dieTempLimit temp) s = .next (doDieTempLimit temp s) := fun _ _ => rfl
theorem exec_healthQuarantine : ∀ a s, exec (.healthQuarantine a) s = execHealthQuarantine a s := fun _ _ => rfl
theorem exec_healthRelease : ∀ a s, exec (.healthRelease a) s = execHealthRelease a s := fun _ _ => rfl
theorem exec_healthClear : ∀ a s, exec (.healthClear a) s = execHealthClear a s := fun _ _ => rfl
theorem exec_fltNwlSubst : ∀ a core s, exec (.fltNwlSubst a core) s = execFltNwlSubst a core s := fun _ _ _ => rfl
theorem exec_newelSubstitute : ∀ s, exec .newelSubstitute s = .next (doNewelSubstitute s) := fun _ => rfl
theorem exec_selftestPassStart : ∀ kind ix s, exec (.selftestPassStart kind ix) s = .next (doSelftestPassStart kind ix s) := fun _ _ _ => rfl
theorem exec_selftestPassEnd : ∀ kind ix passed s, exec (.selftestPassEnd kind ix passed) s = .next (doSelftestPassEnd kind ix passed s) := fun _ _ _ _ => rfl
theorem exec_samplePass : ∀ s, exec .samplePass s = .next (doSamplePass s) := fun _ => rfl
theorem exec_traceDrain : ∀ s, exec .traceDrain s = .next (doTraceDrain s) := fun _ => rfl
theorem exec_dbgRead : ∀ a s, exec (.dbgRead a) s = .next (doDbgRead a s) := fun _ _ => rfl
theorem exec_dbgWrite : ∀ a s, exec (.dbgWrite a) s = .next (doDbgWrite a s) := fun _ _ => rfl
theorem exec_dbgAccessDone : ∀ path ue s, exec (.dbgAccessDone path ue) s = .next (doDbgAccessDone path ue s) := fun _ _ _ => rfl
theorem exec_dbgStop : ∀ a unit ctx s, exec (.dbgStop a unit ctx) s = .next (doDbgStop a unit ctx s) := fun _ _ _ _ => rfl
theorem exec_dbgStep : ∀ a unit ctx good s, exec (.dbgStep a unit ctx good) s = .next (doDbgStep a unit ctx good s) := fun _ _ _ _ _ => rfl
theorem exec_dbgResume : ∀ a unit ctx s, exec (.dbgResume a unit ctx) s = .next (doDbgResume a unit ctx s) := fun _ _ _ _ => rfl
theorem exec_stopPendingComplete : ∀ x s, exec (.stopPendingComplete x) s = .next (doStopPendingComplete x s) := fun _ _ => rfl
theorem exec_phoRegDataAccess : ∀ a write s, exec (.phoRegDataAccess a write) s = .next (doPhoRegDataAccess a write s) := fun _ _ _ => rfl
theorem exec_phoClear : ∀ a s, exec (.phoClear a) s = .next (doPhoClear a s) := fun _ _ => rfl
theorem exec_setEndpointId : ∀ x eid s, exec (.setEndpointId x eid) s = .next (doSetEndpointId x eid s) := fun _ _ _ => rfl
theorem exec_getEndpointId : ∀ x s, exec (.getEndpointId x) s = .next (doGetEndpointId x s) := fun _ _ => rfl
theorem exec_getMctpVersionSupport : ∀ x s, exec (.getMctpVersionSupport x) s = .next (doGetMctpVersionSupport x s) := fun _ _ => rfl
theorem exec_getMessageTypeSupport : ∀ x s, exec (.getMessageTypeSupport x) s = .next (doGetMessageTypeSupport x s) := fun _ _ => rfl
theorem exec_getEndpointUuid : ∀ x s, exec (.getEndpointUuid x) s = .next (doGetEndpointUuid x s) := fun _ _ => rfl
theorem exec_getTid : ∀ x s, exec (.getTid x) s = .next (doGetTid x s) := fun _ _ => rfl
theorem exec_getPldmVersion : ∀ x s, exec (.getPldmVersion x) s = .next (doGetPldmVersion x s) := fun _ _ => rfl
theorem exec_getPldmTypes : ∀ x s, exec (.getPldmTypes x) s = .next (doGetPldmTypes x s) := fun _ _ => rfl
theorem exec_getPldmCommands : ∀ x type s, exec (.getPldmCommands x type) s = .next (doGetPldmCommands x type s) := fun _ _ _ => rfl
theorem exec_getSensorReading : ∀ x id s, exec (.getSensorReading x id) s = .next (doGetSensorReading x id s) := fun _ _ _ => rfl
theorem exec_getStateSensorReadings : ∀ x id s, exec (.getStateSensorReadings x id) s = .next (doGetStateSensorReadings x id s) := fun _ _ _ => rfl
theorem exec_getPdr : ∀ x record s, exec (.getPdr x record) s = .next (doGetPdr x record s) := fun _ _ _ => rfl
theorem exec_getPdrRepositoryInfo : ∀ x s, exec (.getPdrRepositoryInfo x) s = .next (doGetPdrRepositoryInfo x s) := fun _ _ => rfl
theorem exec_setEventReceiver : ∀ x eid s, exec (.setEventReceiver x eid) s = .next (doSetEventReceiver x eid s) := fun _ _ _ => rfl
theorem exec_platformEventMessage : ∀ id s, exec (.platformEventMessage id) s = .next (doPlatformEventMessage id s) := fun _ _ => rfl
theorem exec_queryDeviceIdentifiers : ∀ x s, exec (.queryDeviceIdentifiers x) s = .next (doQueryDeviceIdentifiers x s) := fun _ _ => rfl
theorem exec_getFirmwareParameters : ∀ x s, exec (.getFirmwareParameters x) s = .next (doGetFirmwareParameters x s) := fun _ _ => rfl
theorem exec_requestUpdate : ∀ x maxXfer s, exec (.requestUpdate x maxXfer) s = .next (doRequestUpdate x maxXfer s) := fun _ _ _ => rfl
theorem exec_passComponentTable : ∀ x comp last s, exec (.passComponentTable x comp last) s = .next (doPassComponentTable x comp last s) := fun _ _ _ _ => rfl
theorem exec_updateComponent : ∀ x comp size s, exec (.updateComponent x comp size) s = .next (doUpdateComponent x comp size s) := fun _ _ _ _ => rfl
theorem exec_requestFirmwareDataResp : ∀ x piece s, exec (.requestFirmwareDataResp x piece) s = .next (doRequestFirmwareDataResp x piece s) := fun _ _ _ => rfl
theorem exec_transferComplete : ∀ x s, exec (.transferComplete x) s = .next (doTransferComplete x s) := fun _ _ => rfl
theorem exec_verifyComplete : ∀ x verdict s, exec (.verifyComplete x verdict) s = .next (doVerifyComplete x verdict s) := fun _ _ _ => rfl
theorem exec_applyComplete : ∀ x good s, exec (.applyComplete x good) s = .next (doApplyComplete x good s) := fun _ _ _ => rfl
theorem exec_activateFirmware : ∀ x s, exec (.activateFirmware x) s = .next (doActivateFirmware x s) := fun _ _ => rfl
theorem exec_getStatus : ∀ x s, exec (.getStatus x) s = .next (doGetStatus x s) := fun _ _ => rfl
theorem exec_cancelUpdateComponent : ∀ x s, exec (.cancelUpdateComponent x) s = .next (doCancelUpdateComponent x s) := fun _ _ => rfl
theorem exec_cancelUpdate : ∀ x s, exec (.cancelUpdate x) s = .next (doCancelUpdate x s) := fun _ _ => rfl
theorem exec_vendorReset : ∀ x ix cold preserve confirm s, exec (.vendorReset x ix cold preserve confirm) s = .next (doVendorReset x ix cold preserve confirm s) := fun _ _ _ _ _ _ => rfl
theorem exec_faultLast : ∀ x s, exec (.faultLast x) s = .next (doFaultLast x s) := fun _ _ => rfl
theorem exec_j7DebugRead : ∀ offset present s, exec (.j7DebugRead offset present) s = .next (doJ7DebugRead offset present s) := fun _ _ _ => rfl
theorem exec_j7DebugWrite : ∀ offset w present s, exec (.j7DebugWrite offset w present) s = .next (doJ7DebugWrite offset w present s) := fun _ _ _ _ => rfl
theorem exec_connKeyInstallDone : ∀ n s, exec (.connKeyInstallDone n) s = .next (doConnKeyInstallDone n s) := fun _ _ => rfl
theorem exec_busyRetryExpiry : ∀ n s, exec (.busyRetryExpiry n) s = .next (doBusyRetryExpiry n s) := fun _ _ => rfl
theorem exec_mapLoadDone : ∀ ue s, exec (.mapLoadDone ue) s = .next (doMapLoadDone ue s) := fun _ _ => rfl
theorem exec_stageFwDone : ∀ verdict s, exec (.stageFwDone verdict) s = .next (doStageFwDone verdict s) := fun _ _ => rfl
theorem exec_newelCoreUe : ∀ core s, exec (.newelCoreUe core) s = .next (doNewelCoreUe core s) := fun _ _ => rfl
theorem exec_pcieCompletionTimeout : ∀ x s, exec (.pcieCompletionTimeout x) s = .next (doPcieCompletionTimeout x s) := fun _ _ => rfl
theorem exec_configSpaceWrite : ∀ x fn w s, exec (.configSpaceWrite x fn w) s = .next (doConfigSpaceWrite x fn w s) := fun _ _ _ _ => rfl
theorem exec_ptpDelayReqSend : ∀ f s, exec (.ptpDelayReqSend f) s = .next (doPtpDelayReqSend f s) := fun _ _ => rfl
theorem exec_ptpAnnounceSend : ∀ f s, exec (.ptpAnnounceSend f) s = .next (doPtpAnnounceSend f s) := fun _ _ => rfl

end Sys2Proof.Machine
end

