-- ==== Sys2Proof/Laws/Tab.lean ====
section
/-! SUPPORT. Read after write on a sparse table, and that a write keeps the canonical form. -/

namespace Sys2Proof.Machine

variable {α : Type}

theorem Tab.find_erase_self (t : Tab α) (k : Nat) : find (erase t k) k = none := by
  induction t with
  | nil => rfl
  | cons e t ih =>
    obtain ⟨i, v⟩ := e
    by_cases h : i = k <;> simp [erase, find, h, ih]

theorem Tab.find_erase_other (t : Tab α) {j k : Nat} (h : j ≠ k) : find (erase t k) j = find t j := by
  induction t with
  | nil => rfl
  | cons e t ih =>
    obtain ⟨i, v⟩ := e
    by_cases hi : i = k
    · subst hi; simp [erase, find, ih, Ne.symm h]
    · by_cases hj : i = j
      · subst hj; simp [erase, find, h]
      · simp [erase, find, hi, hj, ih]

theorem Tab.find_insert_self (t : Tab α) (k : Nat) (v : α) : find (insert t k v) k = some v := by
  induction t with
  | nil => simp [insert, find]
  | cons e t ih =>
    obtain ⟨i, w⟩ := e
    by_cases h1 : k < i
    · simp [insert, find, h1]
    · by_cases h2 : k = i
      · simp [insert, find, h2]
      · simp [insert, find, h1, h2, Ne.symm h2, ih]

theorem Tab.find_insert_other (t : Tab α) {j k : Nat} (v : α) (h : j ≠ k) : find (insert t k v) j = find t j := by
  induction t with
  | nil => simp [insert, find, Ne.symm h]
  | cons e t ih =>
    obtain ⟨i, w⟩ := e
    by_cases h1 : k < i
    · simp [insert, find, h1, Ne.symm h]
    · by_cases h2 : k = i
      · subst h2; simp [insert, find, Ne.symm h]
      · by_cases h3 : i = j
        · subst h3; simp [insert, find, h1, h2]
        · simp [insert, find, h1, h2, h3, ih]

/-- A read after a write to the same key gives the value written. -/
@[simp] theorem Tab.get_put_self [DecidableEq α] (d : Nat → α) (t : Tab α) (k : Nat) (v : α) :
    get d (put d t k v) k = v := by
  by_cases h : v = d k
  · simp [put, h, get, find_erase_self]
  · simp [put, h, get, find_insert_self]

/-- A write leaves every other key alone. -/
theorem Tab.get_put_other [DecidableEq α] (d : Nat → α) (t : Tab α) {j k : Nat} (v : α) (h : j ≠ k) :
    get d (put d t k v) j = get d t j := by
  by_cases hv : v = d k
  · simp [put, hv, get, find_erase_other t h]
  · simp [put, hv, get, find_insert_other t v h]

theorem Tab.rising_mono {lo lo' : Nat} (t : Tab α) (h : lo' ≤ lo) (hr : rising lo t = true) : rising lo' t = true := by
  cases t with
  | nil => rfl
  | cons e t =>
    obtain ⟨i, v⟩ := e
    simp only [rising, Bool.and_eq_true, decide_eq_true_eq] at hr ⊢
    exact ⟨by omega, hr.2⟩

theorem Tab.rising_erase {lo : Nat} (t : Tab α) (k : Nat) (hr : rising lo t = true) :
    rising lo (erase t k) = true := by
  induction t generalizing lo with
  | nil => rfl
  | cons e t ih =>
    obtain ⟨i, v⟩ := e
    simp only [rising, Bool.and_eq_true, decide_eq_true_eq] at hr
    by_cases h : i = k
    · simp only [erase, h, if_true]
      exact ih (rising_mono t (Nat.le_of_lt hr.1) hr.2)
    · simp only [erase, h, if_false, rising, Bool.and_eq_true, decide_eq_true_eq]
      exact ⟨hr.1, ih hr.2⟩

theorem Tab.rising_insert {lo : Nat} (t : Tab α) (k : Nat) (v : α) (hk : lo < k) (hr : rising lo t = true) :
    rising lo (insert t k v) = true := by
  induction t generalizing lo with
  | nil => simp [insert, rising, hk]
  | cons e t ih =>
    obtain ⟨i, w⟩ := e
    simp only [rising, Bool.and_eq_true, decide_eq_true_eq] at hr
    by_cases h1 : k < i
    · simp [insert, h1, rising, hk, hr.2]
    · by_cases h2 : k = i
      · subst h2; simp [insert, rising, hr.1, hr.2]
      · simp only [insert, h1, h2, if_false, rising, Bool.and_eq_true, decide_eq_true_eq]
        exact ⟨hr.1, ih (by omega) hr.2⟩

theorem Tab.mem_of_mem_erase (t : Tab α) (k : Nat) {e : Nat × α} (h : e ∈ erase t k) : e ∈ t := by
  induction t with
  | nil => exact h
  | cons x t ih =>
    obtain ⟨i, v⟩ := x
    by_cases hi : i = k
    · simp only [erase, hi, if_true] at h; exact List.mem_cons_of_mem _ (ih h)
    · simp only [erase, hi, if_false, List.mem_cons] at h
      rcases h with h | h
      · exact h ▸ List.mem_cons_self ..
      · exact List.mem_cons_of_mem _ (ih h)

theorem Tab.mem_of_mem_insert (t : Tab α) (k : Nat) (v : α) {e : Nat × α} (h : e ∈ insert t k v) :
    e = (k, v) ∨ e ∈ t := by
  induction t with
  | nil => simpa [insert] using h
  | cons x t ih =>
    obtain ⟨i, w⟩ := x
    by_cases h1 : k < i
    · simpa [insert, h1] using h
    · by_cases h2 : k = i
      · simp only [insert, h2, Nat.lt_irrefl, if_true, if_false, List.mem_cons] at h
        rcases h with h | h
        · exact .inl (h ▸ by simp [h2])
        · exact .inr (List.mem_cons_of_mem _ h)
      · simp only [insert, h1, h2, if_false, List.mem_cons] at h
        rcases h with h | h
        · exact .inr (h ▸ List.mem_cons_self ..)
        · rcases ih h with h | h
          · exact .inl h
          · exact .inr (List.mem_cons_of_mem _ h)

theorem Tab.head_rising_erase (t : Tab α) (k : Nat)
    (h : (match t with | [] => true | (i, _) :: r => rising i r) = true) :
    (match erase t k with | [] => true | (i, _) :: r => rising i r) = true := by
  induction t with
  | nil => rfl
  | cons e t ih =>
    obtain ⟨i, v⟩ := e
    by_cases hi : i = k
    · simp only [erase, hi, if_true]
      apply ih
      cases t with
      | nil => rfl
      | cons e' t' =>
        obtain ⟨j, w⟩ := e'
        simp only [rising, Bool.and_eq_true, decide_eq_true_eq] at h
        exact h.2
    · simp only [erase, hi, if_false]
      exact rising_erase t k h

theorem Tab.head_rising_insert (t : Tab α) (k : Nat) (v : α)
    (h : (match t with | [] => true | (i, _) :: r => rising i r) = true) :
    (match insert t k v with | [] => true | (i, _) :: r => rising i r) = true := by
  cases t with
  | nil => rfl
  | cons e t =>
    obtain ⟨i, w⟩ := e
    by_cases h1 : k < i
    · simp only [insert, h1, if_true, rising, Bool.and_eq_true, decide_eq_true_eq]
      exact ⟨trivial, h⟩
    · by_cases h2 : k = i
      · subst h2; simpa [insert] using h
      · simp only [insert, h1, h2, if_false]
        exact rising_insert t k v (by omega) h

/-- Every write keeps a table's canonical form. -/
theorem Tab.wf_put [DecidableEq α] (d : Nat → α) (t : Tab α) (k : Nat) (v : α) (h : wf d t = true) :
    wf d (put d t k v) = true := by
  simp only [wf, Bool.and_eq_true, List.all_eq_true, decide_eq_true_eq] at h ⊢
  by_cases hv : v = d k
  · simp only [put, hv, if_true]
    exact ⟨head_rising_erase t k h.1, fun e he => h.2 e (mem_of_mem_erase t k he)⟩
  · simp only [put, hv, if_false]
    refine ⟨head_rising_insert t k v h.1, fun e he => ?_⟩
    rcases mem_of_mem_insert t k v he with rfl | he
    · exact hv
    · exact h.2 e he

end Sys2Proof.Machine
end

