-- ==== Sys2Proof/Laws/Larty.lean ====
section
/-! SUPPORT. Larty: what issuing an instruction does, once for every opcode, and reads after writes in the register files. -/

namespace Sys2Proof.Machine

open Sys2Proof

set_option Elab.async false

/-- An instruction that runs and meets no fault has its effect on the state with the PC advanced. -/
theorem State.issue_of_runs {s : State} {x : LCtx} {op : BitVec 8} {f : LFields} {fault : Option Status} {eff : State → State}
    (h : s.runs x op f) (hf : fault = none) : s.issue x op f fault eff = eff (s.advance x) := by
  obtain ⟨⟨h1, h2, h3, h4⟩, h5⟩ := h
  simp [State.issue, h1, Nat.not_le.mpr h2, h3, h4, h5, hf, State.advance]

/-- An instruction that issues and meets a fault faults with it, whatever its guard. -/
theorem State.issue_of_fault {s : State} {x : LCtx} {op : BitVec 8} {f : LFields} {fault : Option Status}
    {eff : State → State} {st : Status} (h : s.issues x op f) (hf : fault = some st) :
    s.issue x op f fault eff = s.instrFault x (encodeWord op f) st := by
  obtain ⟨h1, h2, h3, h4⟩ := h
  simp [State.issue, h1, Nat.not_le.mpr h2, h3, h4, hf]

/-- A context that cannot issue leaves the state as it is. -/
theorem State.issue_of_idle {s : State} {x : LCtx} {op : BitVec 8} {f : LFields} {fault : Option Status}
    {eff : State → State} (h : s.canIssue x = false) : s.issue x op f fault eff = s := by
  simp [State.issue, h]

theorem faultUnless_none {b : Bool} : faultUnless b = none ↔ b = true := by cases b <;> simp [faultUnless]

theorem faultUnless_some {b : Bool} : faultUnless b = some .badLength ↔ b = false := by cases b <;> simp [faultUnless]

@[simp] theorem State.ctx_setCtx_self (s : State) (x : LCtx) (c : Ctx) : (s.setCtx x c).ctx x = c := by
  simp [State.ctx, State.setCtx]

@[simp] theorem State.gReg_zero (s : State) (x : LCtx) : s.gReg x 0 = 0 := rfl

@[simp] theorem State.pReg_zero (s : State) (x : LCtx) : s.pReg x 0 = true := rfl

theorem State.gReg_setG_self (s : State) (x : LCtx) (n : Nat) (w : Word) (h : n ≠ 0) : (s.setG x n w).gReg x n = w := by
  simp [State.gReg, State.setG, h]

theorem State.pReg_setP_self (s : State) (x : LCtx) (n : Nat) (b : Bool) (h : n ≠ 0) : (s.setP x n b).pReg x n = b := by
  simp [State.pReg, State.setP, h]

@[simp] theorem State.tReg_setT_self (s : State) (x : LCtx) (n : Nat) (v : Desc) : (s.setT x n v).tReg x n = v := by
  simp [State.tReg, State.setT]

@[simp] theorem State.kReg_setK_self (s : State) (u n : Nat) (v : BitVec 32) : (s.setK u n v).kReg u n = v := by
  simp [State.kReg, State.setK]

@[simp] theorem State.cReg_setC_self (s : State) (u n : Nat) (v : BitVec 32) : (s.setC u n v).cReg u n = v := by
  simp [State.cReg, State.setC]

theorem State.kReg_setK_other (s : State) (u n : Nat) (v : BitVec 32) {u' n' : Nat} (h : u' * 16 + n' ≠ u * 16 + n) :
    (s.setK u n v).kReg u' n' = s.kReg u' n' := by
  simp [State.kReg, State.setK, Tab.get_put_other _ _ _ h]

theorem State.cReg_setC_other (s : State) (u n : Nat) (v : BitVec 32) {u' n' : Nat} (h : u' * 16 + n' ≠ u * 16 + n) :
    (s.setC u n v).cReg u' n' = s.cReg u' n' := by
  simp [State.cReg, State.setC, Tab.get_put_other _ _ _ h]

end Sys2Proof.Machine
end

