-- ==== Sys2Proof/Laws/Memory.lean ====
section
/-! SUPPORT. Memory: reads after writes, what a write leaves alone, and that every memory operation keeps the canonical form. -/

namespace Sys2Proof.Machine

open Sys2Proof

@[simp] theorem State.byte_setByte_self (s : State) (a : Nat) (b : Byte) : (s.setByte a b).byte a = b := by
  simp [State.byte, State.setByte]

theorem State.byte_setByte_other (s : State) (a : Nat) (b : Byte) {j : Nat} (h : j ≠ a) :
    (s.setByte a b).byte j = s.byte j := by
  simp [State.byte, State.setByte, Tab.get_put_other _ _ _ h]

/-- Bytes outside a written string read as before. -/
theorem State.byte_setBytes_other (s : State) (a : Nat) (bs : Bytes) {j : Nat} (h : j < a ∨ a + bs.length ≤ j) :
    (s.setBytes a bs).byte j = s.byte j := by
  induction bs generalizing s a with
  | nil => rfl
  | cons b bs ih =>
    simp only [List.length_cons] at h
    rw [State.setBytes, ih _ _ (by omega), State.byte_setByte_other _ _ _ (by omega)]

/-- A string written is read back whole. -/
theorem State.bytes_setBytes_self (s : State) (a : Nat) (bs : Bytes) : (s.setBytes a bs).bytes a bs.length = bs := by
  induction bs generalizing s a with
  | nil => rfl
  | cons b bs ih =>
    simp only [List.length_cons, State.bytes, State.setBytes]
    rw [State.byte_setBytes_other _ _ _ (by omega), State.byte_setByte_self, ih]

theorem Memory.wf_setByte (s : State) (a : Nat) (b : Byte) (h : Memory.wf s.mem = true) :
    Memory.wf (s.setByte a b).mem = true := Tab.wf_put _ _ _ _ h

theorem Memory.wf_setBytes (s : State) (a : Nat) (bs : Bytes) (h : Memory.wf s.mem = true) :
    Memory.wf (s.setBytes a bs).mem = true := by
  induction bs generalizing s a with
  | nil => exact h
  | cons b bs ih =>
    rw [State.setBytes]
    exact ih (s.setByte a b) (a + 1) (Memory.wf_setByte s a b h)

theorem Memory.wf_setNum (s : State) (a n v : Nat) (h : Memory.wf s.mem = true) : Memory.wf (s.setNum a n v).mem = true := by
  unfold State.setNum; exact Memory.wf_setBytes _ _ _ h

theorem Memory.wf_setWord (s : State) (a : Nat) (w : Word) (h : Memory.wf s.mem = true) :
    Memory.wf (s.setWord a w).mem = true := by
  unfold State.setWord; exact Memory.wf_setNum _ _ _ _ h

theorem Memory.wf_setWords (s : State) (a : Nat) (ws : List Word) (h : Memory.wf s.mem = true) :
    Memory.wf (s.setWords a ws).mem = true := by
  unfold State.setWords; exact Memory.wf_setBytes _ _ _ h

theorem Memory.wf_copy (s : State) (a b n : Nat) (h : Memory.wf s.mem = true) : Memory.wf (s.copy a b n).mem = true := by
  unfold State.copy; exact Memory.wf_setBytes _ _ _ h

/-- Dropping entries keeps a table's canonical form. -/
theorem Tab.wf_filter {α : Type} [DecidableEq α] (d : Nat → α) (t : Tab α) (p : Nat × α → Bool) (h : wf d t = true) :
    wf d (t.filter p) = true := by
  simp only [wf, Bool.and_eq_true, List.all_eq_true, decide_eq_true_eq] at h ⊢
  refine ⟨?_, fun e he => h.2 e (List.mem_filter.1 he).1⟩
  have key : ∀ (t : Tab α) (lo : Nat), rising lo t = true → rising lo (t.filter p) = true := by
    intro t
    induction t with
    | nil => intros; rfl
    | cons e t ih =>
      obtain ⟨i, v⟩ := e
      intro lo hr
      simp only [rising, Bool.and_eq_true, decide_eq_true_eq] at hr
      by_cases hp : p (i, v) = true
      · simp only [List.filter_cons, hp, if_true, rising, Bool.and_eq_true, decide_eq_true_eq]
        exact ⟨hr.1, ih i hr.2⟩
      · simp only [List.filter_cons, hp]
        exact ih lo (rising_mono t (by omega) hr.2)
  obtain ⟨h1, -⟩ := h
  cases t with
  | nil => rfl
  | cons e t =>
    obtain ⟨i, v⟩ := e
    have hk := key t i h1
    by_cases hp : p (i, v) = true
    · simpa only [List.filter_cons, hp, if_true] using hk
    · simp only [List.filter_cons, hp]
      cases hf : t.filter p with
      | nil => rfl
      | cons e' t' =>
        obtain ⟨j, u⟩ := e'
        rw [hf] at hk
        simp only [rising, Bool.and_eq_true] at hk
        exact hk.2

theorem Memory.wf_zeroRange (s : State) (a n : Nat) (h : Memory.wf s.mem = true) : Memory.wf (s.zeroRange a n).mem = true :=
  Tab.wf_filter _ _ _ h

theorem Memory.wf_memKept (s : State) (keep : Bool) (h : Memory.wf s.mem = true) : Memory.wf (s.memKept keep) = true := by
  unfold State.memKept; exact Tab.wf_filter _ _ _ h

/-- The memory of the machine right after reset. -/
theorem Memory.wf_reset : Memory.wf State.reset.mem = true := rfl

end Sys2Proof.Machine
end

