-- ==== Sys2Proof/Laws/Registers.lean ====
section
/-! SUPPORT. Registers: a field read after a field written, what a write leaves alone, and that every register operation keeps
the canonical form of the register tables. -/

namespace Sys2Proof.Machine

open Sys2Proof

@[simp] theorem State.reg_setReg_self (s : State) (o : Nat) (w : Word) : (s.setReg o w).reg o = w := by
  simp [State.reg, State.setReg]

theorem State.reg_setReg_other (s : State) {o j : Nat} (w : Word) (h : j ≠ o) : (s.setReg o w).reg j = s.reg j := by
  simp [State.reg, State.setReg, Tab.get_put_other _ _ _ h]

@[simp] theorem State.liveReg_setLive_self (s : State) (o : Nat) (w : Word) : (s.setLive o w).liveReg o = w := by
  simp [State.liveReg, State.setLive]

theorem State.liveReg_setLive_other (s : State) {o j : Nat} (w : Word) (h : j ≠ o) : (s.setLive o w).liveReg j = s.liveReg j := by
  simp [State.liveReg, State.setLive, Tab.get_put_other _ _ _ h]

@[simp] theorem State.liveReg_setReg (s : State) (o j : Nat) (w : Word) : (s.setReg o w).liveReg j = s.liveReg j := rfl

@[simp] theorem State.reg_setLive (s : State) (o j : Nat) (w : Word) : (s.setLive o w).reg j = s.reg j := rfl

/-- A field read after it is written holds the low bits of the value. -/
theorem State.rd_wr_self (s : State) (f : FieldRef) (v : Nat) (h : f.lo + f.len ≤ 64) : (s.wr f v).rd f = v % 2 ^ f.len := by
  unfold State.rd State.wr
  by_cases hs : f.sh = true
  · simp [hs, getBits_setBits_self _ _ _ _ h]
  · simp [hs, getBits_setBits_self _ _ _ _ h]

/-- A field of another register word, or of other bits of the same word with the same copy rule, reads as before. -/
theorem State.rd_wr_other (s : State) (f g : FieldRef) (v : Nat)
    (h : g.off ≠ f.off ∨ (g.lo + g.len ≤ f.lo ∨ f.lo + f.len ≤ g.lo)) : (s.wr f v).rd g = s.rd g := by
  have key : ∀ w : Word, g.off = f.off → getBits (setBits w f.lo f.len v) g.lo g.len = getBits w g.lo g.len := by
    intro w ho
    rcases h with h | h
    · exact absurd ho h
    · exact getBits_setBits_other _ _ _ _ _ _ h
  unfold State.rd State.wr
  by_cases ho : g.off = f.off
  · by_cases hs : f.sh = true <;> by_cases hg : g.sh = true <;> simp [hs, hg, ho, key]
  · by_cases hs : f.sh = true <;> by_cases hg : g.sh = true <;>
      simp [hs, hg, State.reg_setReg_other _ _ ho, State.liveReg_setLive_other _ _ ho]

/-! ## The canonical form -/

theorem Registers.wf_iff (s : State) : Registers.wf s = true ↔
    Tab.wf regReset s.regs = true ∧ Tab.wf regReset s.live = true ∧ Tab.wf (fun _ => 0) s.priv = true := by
  simp only [Registers.wf, Bool.and_eq_true, and_assoc]

theorem Registers.wf_setReg (s : State) (o : Nat) (w : Word) (h : Registers.wf s = true) :
    Registers.wf (s.setReg o w) = true := by
  rw [Registers.wf_iff] at h ⊢
  exact ⟨Tab.wf_put _ _ _ _ h.1, h.2.1, h.2.2⟩

theorem Registers.wf_setLive (s : State) (o : Nat) (w : Word) (h : Registers.wf s = true) :
    Registers.wf (s.setLive o w) = true := by
  rw [Registers.wf_iff] at h ⊢
  exact ⟨h.1, Tab.wf_put _ _ _ _ h.2.1, h.2.2⟩

theorem Registers.wf_setPriv (s : State) (o a : Nat) (w : Word) (h : Registers.wf s = true) :
    Registers.wf (s.setPriv o a w) = true := by
  rw [Registers.wf_iff] at h ⊢
  exact ⟨h.1, h.2.1, Tab.wf_put _ _ _ _ h.2.2⟩

theorem Registers.wf_wr (s : State) (f : FieldRef) (v : Nat) (h : Registers.wf s = true) :
    Registers.wf (s.wr f v) = true := by
  unfold State.wr
  by_cases hs : f.sh = true
  · simp only [hs, if_true]; exact Registers.wf_setLive _ _ _ (Registers.wf_setReg _ _ _ h)
  · simp only [hs]; exact Registers.wf_setReg _ _ _ h

theorem Registers.wf_add (s : State) (f : FieldRef) (n : Nat) (h : Registers.wf s = true) :
    Registers.wf (s.add f n) = true := Registers.wf_wr _ _ _ h

theorem Registers.wf_inc (s : State) (f : FieldRef) (h : Registers.wf s = true) : Registers.wf (s.inc f) = true :=
  Registers.wf_wr _ _ _ h

theorem Registers.wf_addMod (s : State) (f : FieldRef) (n : Nat) (h : Registers.wf s = true) :
    Registers.wf (s.addMod f n) = true := Registers.wf_wr _ _ _ h

theorem Registers.wf_wrPriv (s : State) (a : Nat) (f : FieldRef) (v : Nat) (h : Registers.wf s = true) :
    Registers.wf (s.wrPriv a f v) = true := Registers.wf_setPriv _ _ _ _ h

/-- Both forms after a register field is written. -/
theorem State.formed_wr (s : State) (f : FieldRef) (v : Nat) (h : s.Formed) : (s.wr f v).Formed :=
  ⟨by simpa using h.1, Registers.wf_wr _ _ _ h.2⟩

end Sys2Proof.Machine
end

