-- ==== Sys2Proof/Tests/Slice0.lean ====
section
/-! SUPPORT. The model's own tests: the checks of WellFormed, example words, single steps on small states, and for each statement
states and operands that meet its hypotheses, clause by clause. -/

namespace Sys2Proof.Tests

open Sys2Proof Sys2Proof.Machine

set_option maxRecDepth 20000
set_option Elab.async false

/-! ## Helpers -/

/-- Reset, with one block instance READY. -/
def rdy (b : Blk) (i : Nat) : State := State.reset.wr (PREFIX_STATUS.READY (blockBase b i)) 1

/-- A state in which a context runs, in an open slice, and the one word of its unit's program is this instruction. -/
def prog (s : State) (x : LCtx) (op : BitVec 8) (f : LFields) : State :=
  { s with larty := { s.larty with
      installed := [(x.unit, { present := true, codeWords := 1 })], work := [(x.unit * 65536, encodeWord op f)],
      ctxs := [(x.key, { state := .running })], slices := [(x.unit, { isOpen := true })] } }

/-- The instruction runs there. -/
abbrev Runs (s : State) (x : LCtx) (op : BitVec 8) (f : LFields) : Prop := (prog s x op f).runs x op f

/-- A critical context, and a background context, of a newel core; a background context that has partition 5. -/
def cr : LCtx := .nwl 0 0
def bg : LCtx := .nwl 0 1
def inPart (s : State) : State := s.setLive (NWL_C_PART.PART0 0).off (setBits (setBits 0 6 6 5) 33 1 1)

/-- A header of connection context 3, PSN 0, generation 1, of the current epoch. -/
def hdr (psn : Nat) : PktHdr := { ctx := 3, psn := BitVec.ofNat 32 psn, kgen := 1, epoch := 0, auth := true }

/-- The state a next outcome holds, or reset. -/
def after (o : Host.Outcome State Fault Refusal) : State :=
  match o with
  | .next t => t
  | _ => State.reset

/-- The command stops because it is not well formed. -/
def illFormed (o : Host.Outcome State Fault Refusal) : Bool :=
  match o with
  | .fault .illFormed => true
  | _ => false

/-! ## WellFormed: an ill-formed command for each check, which the check refuses and exec stops on -/

theorem test_wf_line : (Instr.cResp (hdr 0) 1 .ok 0 [1]).wf = false ∧ (Instr.cResp (hdr 0) 1 .ok 0 []).wf = true ∧
    illFormed (exec (.cResp (hdr 0) 1 .ok 0 [1]) State.reset) = true := by decide
theorem test_wf_write : (Instr.sWrite (hdr 0) 0 0 1 0 0 0 0 []).wf = false ∧
    (Instr.sWrite (hdr 0) 0 0 1 0 0 0 0 [7]).wf = true ∧
    illFormed (exec (.sWrite (hdr 0) 0 0 1 0 0 0 0 []) State.reset) = true := by decide
theorem test_wf_readData : (Instr.sReadData (hdr 0) 1 0 1 [] true).wf = false ∧
    (Instr.sReadData (hdr 0) 1 0 1 [7] true).wf = true ∧
    illFormed (exec (.sReadData (hdr 0) 1 0 1 [] true) State.reset) = true := by decide
theorem test_wf_layer : (Instr.sLayer (hdr 0) 0 0 0 0 0 0 0 0 []).wf = false ∧ (Instr.sLayer (hdr 0) 0 0 0 0 0 0 0 0 [7]).wf = true ∧
    illFormed (exec (.sLayer (hdr 0) 0 0 0 0 0 0 0 0 []) State.reset) = true := by decide
theorem test_wf_own : (Instr.sOwn (hdr 0) 0 3 0 0 0 false 0 0).wf = false ∧ (Instr.sOwn (hdr 0) 0 2 0 0 0 false 0 0).wf = true ∧
    illFormed (exec (.sOwn (hdr 0) 0 3 0 0 0 false 0 0) State.reset) = true := by decide
theorem test_wf_report : (Instr.faultReport { cls := 15, blk := 0 }).wf = false ∧
    (Instr.faultReport { cls := 14, blk := 16 }).wf = true ∧
    illFormed (exec (.faultReport { cls := 15, blk := 0 }) State.reset) = true := by decide

/-! ## Example words, written out from the encoding tables -/

theorem test_word_waitk (g : Fin 16) : lartyInstr (.gal g) 0x440C000020FA0001 true = .waitk (.gal g) { d := 3, imm := 0x20FA0001 } := by
  revert g; decide
theorem test_word_tmma (g : Fin 16) :
    lartyInstr (.gal g) 0x5008006400000005 true = .tmma (.gal g) { d := 2, b := 1, g := true, p := 2, imm := 5 } := by
  revert g; decide
theorem test_word_give (g : Fin 16) : lartyInstr (.gal g) 0x4000000008240001 true = .give (.gal g) { imm := 0x08240001 } := by
  revert g; decide
/-- No row of the table gives bits. -/
theorem test_no_table_word : decodeTableWord 64 0x440C000020FA0001 = none := by decide

/-! ## Witnesses: steps and the issue of an instruction -/

theorem wit_StepRunsFront : (State.withFetchWord { State.reset with pending := [.meridianStart] } 8 0).pending = .meridianStart :: [] := by
  decide
theorem wit_IdleStepTicks :
    (State.reset.pending = [] ∧ State.reset.clockRuns = false) ∧
    (let s := (rdy .MER 0).wr MER_LOCK.STATE 2
     s.pending = [] ∧ s.clockRuns = true ∧ s.clockWaits = false ∧ (s.cycle + 1) % 2 = 1) := by decide
theorem wit_LartyNotIssued :
    State.reset.canIssue bg = false ∧ (Instr.add bg {}).larty = some (bg, 0x10, {}) ∧
    (let s := prog State.reset bg 0x11 {}
     s.pc bg < (s.installedImage bg.unit).codeWords ∧ s.workWord bg.unit (s.pc bg) ≠ encodeWord 0x10 {}) := by decide
theorem wit_LartyIllegalWordsFault :
    (let s := (prog State.reset bg 0x10 {}).setPc bg 1
     s.canIssue bg = true ∧ (s.installedImage bg.unit).codeWords ≤ s.pc bg) ∧
    (let s := prog State.reset bg 0x10 { imm := 1 }
     s.canIssue bg = true ∧ s.pc bg < (s.installedImage bg.unit).codeWords ∧
     s.workWord bg.unit (s.pc bg) = encodeWord 0x10 { imm := 1 } ∧ wordLegal bg.kind 0x10 { imm := 1 } = false) := by decide
theorem wit_LartyFalseGuard :
    let f : LFields := { g := true, p := 7 }
    (prog State.reset bg 0x10 f).issues bg 0x10 f ∧ (prog State.reset bg 0x10 f).guard bg f = false := by
  unfold State.issues; decide
theorem wit_LartyFaultEffect : cr.critical = true ∧ bg ≠ cr := by decide

/-- Instructions whose clauses ask only that they run: they do, in a background context and, of those a gallery has, there. -/
theorem wit_plainRuns :
    (∀ op ∈ [0x00, 0x26, 0x05, 0x06, 0x09, 0x10, 0x11, 0x12, 0x13, 0x14, 0x15, 0x16, 0x17, 0x18, 0x19, 0x1A, 0x1B, 0x1C, 0x1D, 0x1E,
      0x1F, 0x46, 0x47, 0x48, 0x49, 0x91, 0x92, 0x08, 0xA1, 0xA2, 0x04, 0x07, 0x03, 0x42, 0x43, 0x44, 0x45],
      Runs State.reset bg op {}) ∧
    (∀ op ∈ [0x00, 0x05, 0x06, 0x09, 0x10, 0x1F, 0x42, 0x44, 0x46, 0x49, 0x04, 0x07, 0x91, 0x92, 0xA0, 0xA1, 0xA2],
      Runs State.reset (.gal 15) op {}) ∧
    (∀ op ∈ [0x15, 0x16, 0x17], Runs State.reset bg op { imm := 127 }) := by decide
theorem wit_ControlResults :
    let back : LFields := { imm := 0xFFFFFFFF }
    let s := (prog State.reset bg 0x01 { imm := 32767 })
    (s.runs bg 0x01 { imm := 32767 } ∧ (s.pc bg : Int) + ({ imm := 32767 } : LFields).ims 0 32 = (32767 : Nat) ∧
      32767 < bg.kind.storeWords) ∧
    (prog State.reset bg 0x02 { imm := 5 }).runs bg 0x02 { imm := 5 } ∧ back.ims 0 32 = -1 ∧
    (let u := prog (State.reset.setG bg 1 65535) bg 0x03 { a := 1 }
     u.runs bg 0x03 { a := 1 } ∧ (u.gReg bg 1).toNat < 65536) := by decide
theorem wit_ContextStops :
    Runs State.reset bg 0x04 {} ∧ Runs State.reset cr 0x04 {} ∧ Runs State.reset bg 0x07 {} ∧ Runs State.reset cr 0x07 {} ∧
    bg.critical = false ∧ cr.critical = true := by decide
theorem wit_PredicateResults :
    (∀ c ∈ [0, 1, 2, 3, 4, 5], Runs State.reset bg 0x1C { imm := BitVec.ofNat 33 c }) ∧
    (prog State.reset bg 0x1C { imm := 6 }).issues bg 0x1C { imm := 6 } ∧
    Runs State.reset bg 0x1D { imm := 0x140000000 } ∧
    (prog State.reset bg 0x1D { imm := 0x180000000 }).issues bg 0x1D { imm := 0x180000000 } ∧
    ({ imm := 0x140000000 } : LFields).im 30 3 = 5 ∧ ({ imm := 0x180000000 } : LFields).im 30 3 = 6 := by decide
/-- The last place of the local store admits an access of each size; one past it does not. -/
theorem wit_LocalStoreAccess :
    let s := State.reset.setG bg 1 524280
    let at1 (op : BitVec 8) (f : LFields) (k : Nat) : Prop :=
      Runs s bg op f ∧ f.im 31 2 = 0 ∧ (prog s bg op f).localAddr bg f % k = 0 ∧
        (prog s bg op f).localAddr bg f + k ≤ bg.kind.localBytes
    at1 0x20 { a := 1, imm := 0x60000000 } 8 ∧ at1 0x20 { a := 1, imm := 7 } 1 ∧ at1 0x21 { a := 1, imm := 0x60000000 } 8 ∧
    at1 0x22 { a := 1, imm := 0x1FFFFFE8 } 32 ∧ at1 0x23 { a := 1, imm := 0x1FFFFFE8 } 32 ∧
    at1 0x24 { a := 1, imm := 0x60000000 } 8 ∧ at1 0x25 { a := 1, imm := 0x60000000 } 8 ∧
    ¬ at1 0x20 { a := 1, imm := 0x60000008 } 8 := by decide

/-! ## Witnesses: Larty -/

/-- Partition 5 with 4 units of the direct space 2 at DPA 0, and one unit of space 1 whose group is ALLOCATED. -/
def spaces : State :=
  (((inPart State.reset).wr (STW_P_SPACE.UNITS 5 2) 4).wr (STW_P_SPACE.UNITS 5 1) 1).wr (STW_P_GTBL.DPA 5) 0x100000
    |>.setByte 0x100000 1

/-- Node 2 is reachable and near, node 4 is two stages away; connection 3 is OPEN from partition 5 to partition 7 of node 2. -/
def net : State :=
  let s := inPart State.reset
  { s with prt := { s.prt with cur := [(0x8020, 7), (0x8040, 7), (0x8041, 2)] },
           tp := { s.tp with ctxs := [(3, { state := 2, part := 5, node := 2, peerPart := 7, cached := true })] } }

theorem wit_TensorLocalAccess :
    let f : LFields := { a := 1, imm := 0xE0000000 }
    let fd : LFields := { a := 1, imm := 0x80000000 }
    let d := spaces.setG bg 1 (BitVec.ofNat 64 (tensorAddr 2 32))
    let h := spaces.setG bg 1 (BitVec.ofNat 64 (tensorAddr 1 32))
    (∀ op ∈ [(0x20 : BitVec 8), 0x21, 0x24, 0x25], let s := prog d bg op f
      s.runs bg op f ∧ f.im 31 2 = 1 ∧ f.im 29 2 = 3 ∧ s.localAddr bg f % 8 = 0 ∧ s.ctxPart bg = some 5 ∧
      taSpace (s.localAddr bg f) < 6 ∧ (s.readTensor 5 (s.localAddr bg f) 8 true).held = false ∧
      ((s.proceed bg).readTensor 5 (s.localAddr bg f) 8 true).status = .ok ∧ s.writeWaits 5 (s.localAddr bg f) 8 = false) ∧
    (∀ op ∈ [(0x22 : BitVec 8), 0x23], let s := prog d bg op fd
      s.runs bg op fd ∧ fd.im 31 2 = 1 ∧ fd.im 29 2 = 0 ∧ s.localAddr bg fd % 32 = 0 ∧ s.ctxPart bg = some 5 ∧
      (s.readTensor 5 (s.localAddr bg fd) 32 true).held = false ∧
      ((s.proceed bg).readTensor 5 (s.localAddr bg fd) 32 true).status = .ok ∧
      s.writeWaits 5 (s.localAddr bg fd) 32 = false) ∧
    (∀ op ∈ [(0x20 : BitVec 8), 0x21], let s := prog h bg op f
      s.runs bg op f ∧ (s.readTensor 5 (s.localAddr bg f) 8 true).held = true ∧
      s.writeWaits 5 (s.localAddr bg f) 8 = true) ∧
    (let s := prog h bg 0x23 fd
     s.runs bg 0x23 fd ∧ s.writeWaits 5 (s.localAddr bg fd) 32 = true) := by
  dsimp only; and_intros <;> decide +kernel

theorem wit_ConfigurationAccess :
    let f : LFields := { a := 1, imm := 0x160000000 }
    let s := State.reset.setG bg 1 0x3FFFFF8
    (∀ op ∈ [(0x20 : BitVec 8), 0x21], Runs s bg op f ∧ f.im 31 2 = 2 ∧ f.im 29 2 = 3 ∧
      (prog s bg op f).localAddr bg f % 8 = 0 ∧ (prog s bg op f).localAddr bg f < 0x4000000) ∧
    (accAt (blockBase .MER 0)).any (fun r => withinLimits (LCtx.gal 0).agent r.hit = false) ∧ Runs State.reset (.gal 0) 0xA2 {} ∧
    (let c : LFields := { imm := 1 }
     let t := rdy .MER 0
     cmtTarget c = some (.MER, 0) ∧ Runs t bg 0xA0 c ∧ unitReaches bg .MER 0 = true ∧ (prog t bg 0xA0 c).ready .MER 0 = true) ∧
    (let c : LFields := { imm := 2 }
     cmtTarget c = some (.VES, 0) ∧ Runs State.reset bg 0xA0 c ∧ unitReaches bg .VES 0 = false) ∧
    (let c : LFields := { imm := 17 }
     (prog State.reset bg 0xA0 c).issues bg 0xA0 c ∧ c.im 0 5 = 17) := by
  dsimp only; and_intros <;> decide +kernel

theorem wit_CounterResults :
    let s := (State.reset.setK bg.unit 15 9).setC bg.unit 15 9
    (∀ op ∈ [(0x42 : BitVec 8), 0x43], ∀ n ∈ [9, 10],
      let f : LFields := { d := 15, imm := BitVec.ofNat 33 (n + 0x10000) }
      Runs s bg op f ∧ f.im 16 3 ≠ 0 ∧ f.im 0 16 = n) ∧
    s.counter false bg.unit 15 = 9 ∧ s.counter true bg.unit 15 = 9 := by
  dsimp only; and_intros <;> decide +kernel
theorem wit_CounterWaits :
    let s := (State.reset.setK bg.unit 15 9).setC bg.unit 15 9
    (∀ op ∈ [(0x44 : BitVec 8), 0x45], ∀ n ∈ [9, 10], ∀ l ∈ [0, 1],
      let f : LFields := { d := 15, imm := BitVec.ofNat 33 (n + 4096 * l) }
      Runs s bg op f ∧ f.im 0 12 = n ∧ f.im 12 16 = l) ∧
    (let t := s.modCtx bg (fun c => { c with state := .waiting, wait := .take true 15 9 1 1 })
     (t.ctx bg).wait = .take true 15 9 1 1 ∧ 9 ≤ t.counter true bg.unit 15) ∧
    (let t := s.modCtx bg (fun c => { c with state := .waiting, wait := .take false 15 10 1 1 })
     (t.ctx bg).wait = .take false 15 10 1 1 ∧ t.counter false bg.unit 15 < 10) := by
  dsimp only; and_intros <;> decide +kernel
/-- Unit 0x18 is the heliostat sequencer, 0x27 a newel core that no position backs, 0x19 no unit. -/
theorem wit_GivesIssued :
    (∀ op ∈ [(0x40 : BitVec 8), 0x41],
      (let f : LFields := { imm := 0x300000 }
       Runs State.reset bg op f ∧ unitKind (f.im 17 8) ≠ none ∧ f.im 16 1 = 0 ∧ f.b = 0 ∧ f.im 0 16 = 0) ∧
      (let f : LFields := { imm := 0x300001 }
       Runs State.reset bg op f ∧ f.im 0 16 = 1 ∧ State.reset.unitInService (f.im 17 8) = true) ∧
      (let f : LFields := { imm := 0x4F0000, b := 1 }
       let s := prog (State.reset.setG bg 1 5) bg op f
       s.runs bg op f ∧ f.im 16 1 = 1 ∧ f.im 0 16 = 0 ∧ 0 < (s.gReg bg f.b.toNat).toNat % 2 ^ 32 ∧
         unitKind (f.im 17 8) ≠ none ∧ s.unitInService (f.im 17 8) = false)) ∧
    (let f : LFields := { imm := 0x320001 }
     (prog State.reset bg 0x40 f).issues bg 0x40 f ∧ unitKind (f.im 17 8) = none) := by decide +kernel
theorem wit_GiveArrives :
    let g : Give := { unit := 0x20, credit := false, ctr := 3, count := 1, giver := 0 }
    let s : State := { State.reset with larty := { State.reset.larty with gives := [g] } }
    s.larty.gives[0]? = some g ∧ s.counter g.credit g.unit g.ctr + g.count < 2 ^ 32 ∧
    2 ^ 32 ≤ (s.setK 0x20 3 0xFFFFFFFF).counter g.credit g.unit g.ctr + g.count := by decide +kernel

/-- Accumulator tiles, operand-buffer tiles and direct-memory tiles of 2 rows by 4 columns, by LOC and FMT. -/
def tile (loc fmt rows cols stride : Nat) : Desc :=
  descOfWords (setBits 0 61 3 loc) (setBits (setBits (setBits 0 0 16 rows) 16 16 cols) 32 4 fmt) (BitVec.ofNat 64 stride) 0
/-- Partition 5 owns bay 0 of gallery 0; t1, t2 and t3 of the sequencer hold these descriptors. -/
def bays (d a b : Desc) : State :=
  (((State.reset.setLive (PRT_BAYS.BAYS 5 0).off 1).setT (.gal 0) 1 d).setT (.gal 0) 2 a).setT (.gal 0) 3 b
def abc : LFields := { d := 1, a := 2, b := 3 }

theorem wit_TileInstructionsQueue :
    let x : LCtx := .gal 0
    let acc := tile 2 0 2 4 16
    let col := tile 2 0 2 1 16
    let ob := tile 1 1 2 4 8
    let sq := tile 1 1 4 4 8
    let no := tile 2 0 0 4 16
    let mm := bays acc ob sq
    let ew := bays acc acc acc
    let full (s : State) : State := s.setBayQueue 0 0 (List.replicate 16 { op := 0x53, d := 0, a := 0, b := 0, imm := 0 })
    let lost (s : State) : State := s.setLive (PRT_BAYS.BAYS 5 0).off 0
    let okFor (op : BitVec 8) (f : LFields) (s : State) : Bool :=
      let d := s.tileOf x f.d
      let a := s.tileOf x f.a
      let b := s.tileOf x f.b
      if op = 0x50 then s.tmmaOk 0 0 d a b else if op = 0x51 then s.tloadOk 0 0 d a
      else if op = 0x52 then s.tstoreOk 0 0 d a 0 false else if op = 0x53 then s.tewOk 0 0 d a b 0
      else if op = 0x54 then s.tfnOk 0 0 d a 0 else s.tredOk 0 0 d a 0
    let ab : LFields := { d := 1, a := 2 }
    (∀ e ∈ [((0x50 : BitVec 8), abc, mm, bays no (tile 1 1 0 4 8) sq), (0x51, ab, bays ob ob 0, bays (tile 1 1 0 4 8) (tile 1 1 0 4 8) 0),
        (0x52, ab, bays acc acc 0, bays no no 0), (0x53, abc, ew, bays no no no), (0x54, ab, ew, bays no no 0),
        (0x55, ab, bays col acc 0, bays (tile 2 0 0 1 16) no 0)],
      let op := e.1
      let f := e.2.1
      let s := e.2.2.1
      let z := e.2.2.2
      Runs s x op f ∧ okFor op f s = true ∧ (s.tileOf x f.d).isEmpty = false ∧ (s.tileOf x f.a).isEmpty = false ∧
      (s.bayQueue 0 0).length < 16 ∧ s.bayRefused 0 0 = false ∧
      Runs (full s) x op f ∧ okFor op f (full s) = true ∧ 16 ≤ ((full s).bayQueue 0 0).length ∧
      Runs z x op f ∧ okFor op f z = true ∧ (z.tileOf x f.d).isEmpty = true ∧
      Runs (lost s) x op f ∧ okFor op f (lost s) = true ∧ (lost s).bayRefused 0 0 = true ∧
      (prog State.reset x op f).issues x op f ∧
      okFor op f (bays (tile 3 15 1 1 1) 0 0) = false ∧ (prog (bays (tile 3 15 1 1 1) 0 0) x op f).issues x op f) ∧
    (mm.tileOf x abc.b).isEmpty = false ∧ (ew.tileOf x abc.b).isEmpty = false ∧
    (Runs ew x 0x56 { imm := 1 } ∧ ew.baysDone 0 1 = true ∧ Runs (full ew) x 0x56 { imm := 1 } ∧ (full ew).baysDone 0 1 = false) := by
  dsimp only; and_intros <;> decide +kernel
theorem wit_BayCompletes :
    let o : TileOp := { op := 0x51, d := tile 1 1 2 4 8, a := tile 1 1 2 4 8, b := 0, imm := 0 }
    let s := (bays 0 0 0).setBayQueue 0 0 [o]
    s.bayQueue 0 0 = o :: [] ∧ s.bayOwner 0 = some 5 ∧ s.bayStopped 0 0 = false ∧ s.tileHeld 5 (descTile o.a) = false := by decide +kernel
theorem wit_AttentionIssue :
    let x : LCtx := .nb 0
    let s := State.reset.wr (NBU_CM.SET 0) 1
    let f : LFields := {}
    let b := s.setSeg 0 0 { phase := .running }
    (Runs s x 0x60 f ∧ s.inCm 0 0 = true ∧ rangeHbm 0 64 = true ∧ s.nbBusy 0 0 = false ∧ s.pwrState 0 = 0) ∧
    (Runs b x 0x60 f ∧ b.inCm 0 0 = true ∧ b.nbBusy 0 0 = true) ∧
    ((prog State.reset x 0x60 f).issues x 0x60 f ∧ State.reset.inCm 0 0 = false) ∧
    ((prog s x 0x60 { imm := 31 }).issues x 0x60 { imm := 31 }) ∧
    (let q := (State.reset.wr (NBU_QUOTA.QUOTA 0) 31).setG x 1 0x7FFFFFFF
     Runs q x 0x62 { a := 1 } ∧ popCount 31 (getBits (q.gReg x 1) 0 31) ≤ q.rd (NBU_QUOTA.QUOTA 0) ∧
       getBits (q.gReg x 1) 0 31 &&& q.rd (NBU_PCMAP.LOST_MASK 0) = 0) ∧
    (let q := (State.reset.wr (NBU_QUOTA.QUOTA 0) 30).setG x 1 0x7FFFFFFF
     Runs q x 0x62 { a := 1 } ∧ ¬ popCount 31 (getBits (q.gReg x 1) 0 31) ≤ q.rd (NBU_QUOTA.QUOTA 0)) ∧
    (Runs s x 0x63 { imm := 1 } ∧ s.asyncDone 0 1 = true ∧ Runs b x 0x63 { imm := 1 } ∧ b.asyncDone 0 1 = false) := by
  dsimp only; and_intros <;> decide +kernel
theorem wit_PartialMerge :
    let x : LCtx := .nb 0
    let m := tile 2 0 2 3 12
    let s := ((State.reset.setT x 1 m).setT x 2 m).setT x 3 m
    (Runs s x 0x61 abc ∧ (s.tileOf x 1).mergeOk = true ∧ (s.tileOf x 2).mergeOk = true ∧ (s.tileOf x 3).mergeOk = true) ∧
    ((prog State.reset x 0x61 abc).issues x 0x61 abc ∧ (State.reset.tileOf x 1).mergeOk = false) := by decide +kernel
theorem wit_MoveIssue :
    let m : MoveOp := { unit := bg.unit, ctx := 1, part := 5, ctr := 0, src := 0, dst := 0, len := 1, phys := true }
    let fullS (s : State) : State := { s with larty := { s.larty with moveQueue := List.replicate 32 m } }
    let p := inPart State.reset
    (Runs State.reset bg 0x70 { imm := 0x20000000 } ∧ Runs State.reset bg 0x70 { imm := 0x20000001 } ∧
      State.reset.moveCount bg.unit < 32) ∧
    (Runs (p.setG bg 31 8) bg 0x70 { b := 30, imm := 0x10000000 } ∧ p.ctxPart bg ≠ none) ∧
    (Runs (fullS State.reset) bg 0x70 { imm := 0x20000001 } ∧ 32 ≤ (fullS State.reset).moveCount bg.unit) ∧
    (∀ op ∈ [(0x71 : BitVec 8), 0x72], Runs p bg op {} ∧ p.ctxPart bg = some 5 ∧ p.moveCount bg.unit < 32 ∧
      Runs (fullS p) bg op {} ∧ (fullS p).ctxPart bg ≠ none ∧ 32 ≤ (fullS p).moveCount bg.unit ∧
      (prog State.reset bg op {}).issues bg op {} ∧ State.reset.ctxPart bg = none) := by
  dsimp only; and_intros <;> decide +kernel
theorem wit_MoveCompletes :
    let m (src : Word) : MoveOp := { unit := 0x20, ctx := 1, part := 5, ctr := 0, src := src, dst := 0x1000, len := 1, phys := true }
    let s (src : Word) : State := { State.reset with larty := { State.reset.larty with moveQueue := [m src] } }
    (oldestMove (s 0).larty.moveQueue 0 = some (m 0) ∧ (s 0).accessStatus 0 1 = .ok ∧ (s 0).storeStatus 0x1000 1 = .ok) ∧
    (oldestMove (s 0x4800000000).larty.moveQueue 0 = some (m 0x4800000000) ∧
      (s 0x4800000000).accessStatus 0x4800000000 1 ≠ .ok) := by decide +kernel
theorem wit_RemotePosts :
    let p : Posted := { unit := bg.unit, ctx := 1, part := none, words := [] }
    let fullS : State := { State.reset with hel := { State.reset.hel with posted := List.replicate 64 p } }
    let s := State.reset.setG bg 1 524224
    (Runs s bg 0x34 { a := 1 } ∧ (s.gReg bg 1).toNat + 64 ≤ bg.kind.localBytes ∧ ¬ 64 ≤ s.remoteCount bg.unit) ∧
    (let u := State.reset.setG bg 1 524225
     (prog u bg 0x34 { a := 1 }).issues bg 0x34 { a := 1 } ∧ bg.kind.localBytes < (u.gReg bg 1).toNat + 64) ∧
    (64 ≤ fullS.remoteCount bg.unit ∧ ∀ op ∈ [(0x34 : BitVec 8), 0x31, 0x35, 0x36, 0x37], Runs fullS bg op {}) := by
  dsimp only; and_intros <;> decide +kernel
theorem wit_RemotePostsSent :
    let s := (net.setG bg 1 (BitVec.ofNat 64 (gfaOf 2 7 64))).setG bg 2 2
    (∀ op ∈ [(0x31 : BitVec 8), 0x35, 0x36, 0x37], Runs s bg op { a := 1, b := if op = 0x35 then 0 else 2 }) ∧
    s.remoteCount bg.unit < 64 ∧ s.nodeNear (gfaNode (s.gReg bg 1).toNat) = true ∧
    (∀ op ∈ [(0x31 : BitVec 8), 0x37], ((prog s bg op { a := 1, b := 2 }).advance bg).remoteCtx bg (gfaNode (s.gReg bg 1).toNat)
      (some (gfaPart (s.gReg bg 1).toNat)) = some 3) ∧
    getBits (s.gReg bg 2) 0 14 = 2 ∧ ((prog s bg 0x36 { a := 1, b := 2 }).advance bg).remoteCtx bg 2 none = some 3 := by
  dsimp only; and_intros <;> decide +kernel
theorem wit_RemoteReads :
    let s := net.setG bg 1 (BitVec.ofNat 64 (gfaOf 2 7 64))
    let far := net.setG bg 1 (BitVec.ofNat 64 (gfaOf 4 7 64))
    let other := net.setG bg 1 (BitVec.ofNat 64 (gfaOf 2 8 64))
    let f : LFields := { d := 2, a := 1 }
    let t (u : State) (op : BitVec 8) : State := (prog u bg op f).advance bg
    let hit : State := { s.wr (FAB_P_CFG.RLC_EN 0 5) 1 with tp := { s.tp with
      rlc := [{ line := gfaOf 2 7 64, part := 5, key := 0, data := List.replicate 64 1 }] } }
    bg.background = true ∧ cr.background = false ∧
    (Runs far bg 0x30 f ∧ far.nodeNear 4 = false) ∧
    (Runs other bg 0x30 f ∧ (t other 0x30).remoteOpen bg 2 (some 8) = none) ∧
    (Runs hit bg 0x30 f ∧ (t hit 0x30).remoteCtx bg 2 (some 7) = some 3 ∧
      ((t hit 0x30).rlcServes bg (gfaOf 2 7 64) 1 0).isSome) ∧
    (∀ op ∈ [(0x30 : BitVec 8), 0x32, 0x33], Runs s bg op f ∧ s.nodeNear 2 = true ∧ (t s op).remoteCtx bg 2 (some 7) = some 3) ∧
    (gfaOf 2 7 64 % 64 + 1 ≤ 64 ∧ (t s 0x30).rlcServes bg (gfaOf 2 7 64) 1 0 = none) ∧
    (∀ op ∈ [(0x30 : BitVec 8), 0x32, 0x33], (prog State.reset cr op {}).issues cr op {}) := by
  dsimp only; and_intros <;> decide +kernel
theorem wit_CatalogueInstructions :
    let i : Nat := 16383
    let s := State.reset.setG bg 1 16383
    let dec := (s.setRec i Rec.STATE 5).setRec i Rec.TENTATIVE 2
    let dec := (dec.setRec i Rec.MAX_LEN 4)
    let f : LFields := { a := 1 }
    (∀ op ∈ [(0x80 : BitVec 8), 0x86], Runs s bg op f ∧ (s.gReg bg 1).toNat < 16384) ∧
    (Runs dec bg 0x81 { a := 1, imm := 12 } ∧ dec.cwrLegal i 12 0 = true) ∧
    (Runs dec bg 0x81 { a := 1, imm := 0 } ∧ dec.cwrLegal i 0 0 = false) ∧
    (Runs dec bg 0x82 { a := 1, imm := 0x65 } ∧ dec.recState i = 5 ∧ cstateAllowed 5 6 = true ∧ (6 : Nat) ≠ 0) ∧
    (Runs dec bg 0x82 { a := 1, imm := 0x15 } ∧ cstateAllowed 5 1 = false) ∧
    (Runs dec bg 0x84 f ∧ dec.recOpen i = true ∧ dec.recF i Rec.COMMITTED ≤ dec.recF i Rec.MAX_LEN) ∧
    (Runs (dec.setG bg 2 2) bg 0x84 { a := 1, b := 2 } ∧ 2 ≤ dec.recF i Rec.TENTATIVE ∧
      dec.recF i Rec.COMMITTED + 2 ≤ dec.recF i Rec.MAX_LEN) ∧
    (Runs (dec.setG bg 2 3) bg 0x84 { a := 1, b := 2 } ∧ dec.recF i Rec.TENTATIVE < 3) ∧
    (Runs s bg 0x85 f ∧ s.recOpen i = false) ∧ Runs dec bg 0x85 f ∧
    (let u := State.reset.setG bg 1 16384
     (prog u bg 0x80 f).issues bg 0x80 f ∧ 16384 ≤ (u.gReg bg 1).toNat) := by
  dsimp only; and_intros <;> decide +kernel
theorem wit_AdmissionByProgram :
    let s := (inPart State.reset).setG bg 1 524224
    let u := (inPart State.reset).setG bg 1 524288
    (s.ctxPart bg = some 5 ∧ Runs s bg 0x83 { a := 1 } ∧ (s.gReg bg 1).toNat + 64 ≤ bg.kind.localBytes) ∧
    (u.ctxPart bg = some 5 ∧ (prog u bg 0x83 { a := 1 }).issues bg 0x83 { a := 1 } ∧
      bg.kind.localBytes < (u.gReg bg 1).toNat + 64) := by decide +kernel
theorem wit_DoorbellAndTelemetry :
    let s := State.reset.setG bg 1 0x3000048FC00
    let tr := State.reset.wr PHO_TRACE_EN.UNITS (2 ^ 0x20)
    let fullT : State := { tr with pho := { tr.pho with trace := List.replicate 2048 (0, 0) } }
    (doorbellTarget (s.gReg bg 1).toNat = some 511 ∧ Runs s bg 0x90 { a := 1 }) ∧
    (doorbellTarget (State.reset.gReg bg 1).toNat = none ∧ (prog State.reset bg 0x90 { a := 1 }).issues bg 0x90 { a := 1 }) ∧
    (Runs State.reset bg 0x91 {} ∧ bitOf (State.reset.rd PHO_TRACE_EN.UNITS) bg.unit = false) ∧
    (Runs tr bg 0x91 {} ∧ bitOf (tr.rd PHO_TRACE_EN.UNITS) bg.unit = true ∧ tr.pho.trace.length < 2048) ∧
    (Runs fullT bg 0x91 {} ∧ bitOf (fullT.rd PHO_TRACE_EN.UNITS) bg.unit = true ∧ 2048 ≤ fullT.pho.trace.length) := by
  dsimp only; and_intros <;> decide +kernel
theorem wit_BarrierArrival : Runs State.reset bg 0x08 { imm := 0x400 } ∧ ({ imm := 0x400 } : LFields).im 10 1 = 1 := by decide +kernel

/-! ## Witnesses: register writes and the timebase -/

/-- The register at a field's offset meets a test. -/
def hits (off : Nat) (p : RegAcc → Bool) : Bool := (accAt off).any p
/-- The offset of the live copy of a basic register. -/
def liveOff (off : Nat) : Nat := off + 0x1000

theorem wit_RegisterWrites :
    let o := ATR_PWR_CFG.WARN_W.off
    let a : Agent := .pf .HA
    let s := rdy .ATR 0
    (12 % 8 ≠ 0 ∧ accAt 0x3FFFFF8 = none ∧ (0x3FFFFF8 : Nat) % 8 = 0) ∧
    hits o (fun r => decide (o % 8 = 0 ∧ stepWrite a o 600 = none ∧ r.hit.row.off ≠ 0xFF8 ∧
      State.reset.ready r.hit.blk r.hit.inst = false)) ∧
    hits o (fun r => decide (s.ready r.hit.blk r.hit.inst = true ∧ s.regCommand (.pf .HB) r.hit 600 = none ∧
      s.mayWriteReg (.pf .HB) r.hit = false)) ∧
    hits o (fun r => decide (s.ready r.hit.blk r.hit.inst = true ∧ r.live = false ∧ s.regCommand a r.hit 600 = none ∧
      s.mayWriteReg a r.hit = true ∧ r.hit.row.off ≠ 0xFE8 ∧ ¬ (0x2000 ≤ r.hit.row.off ∧ r.hit.row.off < 0x4000) ∧
      perAgent r.hit.blk r.hit.row.off = false ∧ s.refusesField r.hit 600 = false ∧ s.refusesField r.hit 599 = true)) := by
  decide +kernel
theorem wit_RegisterWordFields :
    hits ATR_PWR_CFG.WARN_W.off (fun r => r.hit.row.fields.any (fun f =>
      f.settable && State.reset.checkOk r.hit 1400 f && !State.reset.checkOk r.hit 1401 f)) ∧
    hits ATR_PWR_FAULT.RAIL.off (fun r => r.hit.row.fields.any (fun f => decide (f.access = .ro)) &&
      r.hit.row.fields.any (fun f => decide (f.access = .w1c))) ∧
    hits ATR_PWR_EVENTS.COUNT.off (fun r => r.hit.row.fields.any (fun f => decide (f.access = .sat))) := by decide +kernel
theorem wit_ExpertWrites :
    let o := liveOff ATR_PWR_CFG.WARN_W.off
    let s := rdy .ATR 0
    let x := s.wr (PREFIX_XPT.KEY (blockBase .ATR 0)) 0xE1
    hits o (fun r => decide (o % 8 = 0 ∧ r.live = true ∧ s.ready r.hit.blk r.hit.inst = true ∧ s.mayWriteReg (.pf .HA) r.hit = true ∧
      r.hit.row.off ≠ 0xFE8 ∧ s.expertOpen r.hit.blk r.hit.inst = false ∧ x.ready r.hit.blk r.hit.inst = true ∧
      x.expertOpen r.hit.blk r.hit.inst = true ∧ x.blockIdle r.hit.blk r.hit.inst = true ∧
      x.shadowPending r.hit.blk r.hit.inst = false ∧ x.liveOk r 600 = true)) ∧
    (0 < blockInsts .ATR ∧ s.ready .ATR 0 = true ∧ State.reset.ready .ATR 0 = false ∧ (63 : Nat) < blockInsts .PRT) := by decide +kernel
theorem wit_RingIndexes :
    let r : Ring := .cat 63 2
    let s := (rdy .CAT 0).wr r.size 8
    (s.ready r.blk 0 = true ∧ s.mayWriteRing (.pf .HA) r = true ∧ s.indexOk r 8 = true ∧ s.indexOk r 9 = false ∧
      s.mayWriteRing (.pf .HB) r = false) ∧ State.reset.ready r.blk 0 = false ∧
    (let f := rdy .FLT 0
     f.ready Ring.fault.blk 0 = true ∧ f.mayWriteRing (.pf .HA) .fault = true ∧ f.indexOk .fault 0 = true ∧
       f.indexOk .fault 1 = false) := by decide +kernel
theorem wit_LockTimeouts : ∀ n ∈ [0, 1, 2, 3], (State.reset.wr MER_LOCK.STATE n).lock = n := by decide +kernel
theorem wit_PtpExchange :
    let s := (State.reset.wr MER_PTP.PORT_EN 8).setPtpPort 3 { role := 1, syncSeq := 5 }
    let m := ((State.reset.wr MER_PTP.PORT_EN 8).wr MER_PTP.GM_CAPABLE 1)
    s.ptpEnabled 2 = false ∧ s.ptpEnabled 3 = true ∧ (s.ptpPort 3).role = 1 ∧ (s.ptpPort 3).syncSeq = (4 : BitVec 16).toNat + 1 ∧
    (s.ptpPort 3).syncSeq ≠ (5 : BitVec 16).toNat + 1 ∧ m.mayMaster 3 = true ∧ s.on MER_PTP.DELAY_MECH = false ∧
    (s.wr MER_PTP.DELAY_MECH 1).on MER_PTP.DELAY_MECH = true ∧ (s.wr MER_PTP.DELAY_MECH 1).ptpEnabled 3 = true := by decide +kernel
theorem wit_SyncPairLocks :
    let p (n : Nat) : State := (State.reset.setGood n).wr MER_LOCK.STATE 1
    let u := ((p 15).wr MER_OFFSET.OFFSET_NS 20).wr MER_OFFSET.PATH_NS 0
    ((21 : BitVec 32).toInt.natAbs = 21 ∧ (-20 : BitVec 32).toInt.natAbs = 20 ∧ (1000 : BitVec 32).toInt.natAbs = 1000) ∧
    ((p 14).lock = 1 ∧ (p 14).merp.goodSyncs + 1 < 16) ∧ ((p 15).lock = 1 ∧ (p 15).merp.goodSyncs = 15 ∧
      (p 15).mer ≤ (u.nextEdge 0).2) := by decide +kernel
theorem wit_DieToDieLinks :
    let s (n : Nat) : State := State.reset.setD2d 15 { bad := n }
    ((s 16).d2d 15).failed = false ∧ ((s 16).d2d 15).bad < 17 ∧ ((s 17).d2d 15).failed = false ∧ 17 ≤ ((s 17).d2d 15).bad ∧
    ((State.reset.setD2d 15 { failed := true }).d2d 15).failed = true := by decide +kernel
theorem wit_MeridianMoments :
    let s := rdy .MER 0
    let l := s.wr MER_PHASE.LANDING 1
    let b := lenBudget s.merLen
    (s.clockRuns = true ∧ s.inLanding = false ∧ ∀ x ∈ criticals, (s.slice x.unit).isOpen = false) ∧
    (l.clockRuns = true ∧ l.inLanding = true ∧ (l.wr MER_PHASE.CYCLE (b + 63)).cycle < b + 64 ∧
      b + 64 ≤ (l.wr MER_PHASE.CYCLE (b + 64)).cycle) := by decide +kernel
theorem wit_ApplyOneField :
    State.reset.shadowPending .MER 0 = false ∧
    (let s := (State.reset.setSlice 0 { isOpen := true }).wr (PREFIX_STATUS.SHADOW_PENDING (blockBase .GAL 0)) 1
     s.shadowPending .GAL 0 = true ∧ s.instanceHeld .GAL 0 = true) ∧
    hits ATR_PWR_CFG.WARN_W.off (fun r => r.hit.row.fields.any (fun f => decide (f.lo + f.len ≤ 64))) := by decide +kernel

/-! ## Witnesses: programs, near-bank units, galleries -/

/-- An image of one word of code for a gallery, at DPA 0. -/
def imageAt0 (s : State) : State :=
  let s := (s.setWord 0 (setBits (setBits 0 0 32 0x1620A4D7) 32 16 1)).setWord 8 1
  { (s.wr (PROG_IMAGE.DPA (progBase 0)) 0).wr (PROG_LEN.BYTES (progBase 0)) 3512 with ves := { s.ves with enrolled := 1, queue := [.prog 0] } }

theorem wit_ProgramImages :
    let s := rdy .GAL 0
    let v := imageAt0 (rdy .VES 0)
    let res (s : State) (n : Nat) : Nat := s.progResult (s.rd (PROG_IMAGE.DPA (progBase 0))) (s.rd (PROG_LEN.BYTES (progBase 0))) .gal n
    let bad : State := { rdy .VES 0 with ves := { (rdy .VES 0).ves with queue := [.prog 0] } }
    let inst : State := { State.reset.wr (PROG_STATUS.STAGED (progBase 0)) 1 with larty := { State.reset.larty with
      staged := [(0, { present := true, proven := true, budget6 := 15600, codeWords := 1 })] } }
    (unitKind 0 = some .gal ∧ s.ready (unitBlk 0).1 (unitBlk 0).2 = true ∧ s.mayLoad (.pf .HA) 0 = true ∧
      s.on (PROG_STATUS.BUSY (progBase 0)) = false ∧
      (s.wr (PROG_STATUS.BUSY (progBase 0)) 1).on (PROG_STATUS.BUSY (progBase 0)) = true) ∧
    (v.ves.queue = .prog 0 :: [] ∧ v.ready .VES 0 = true ∧ res v 0 = 1 ∧ res v 2 = 2 ∧ res v 1 = 3) ∧
    (bad.ves.queue = .prog 0 :: [] ∧ bad.ready .VES 0 = true ∧ res bad 0 = 4) ∧
    inst.installResult 0 = 1 ∧ State.reset.installResult 0 ≠ 1 := by decide +kernel

/-- A work item with no entries at DPA 0 and its layout at offset 0 of partition 5's space 3, which lies at 2 MiB. -/
def segment : State :=
  let s := ((State.reset.wr (STW_P_SPACE.UNITS 5 3) 1).wr (STW_P_MAP.DPA 5 3) 0x200000)
  let s := s.setWord 0x200000 (setBits (setBits (setBits (setBits 0 0 32 0x16201A70) 32 4 1) 40 8 1) 48 8 1)
  let s := s.setWord 0x200008 (setBits (setBits (setBits 0 0 9 32) 16 5 1) 32 16 2048)
  let s := s.setWord 0x200010 (setBits (setBits 0 0 32 8192) 32 32 1)
  let s := s.setWord 0 (setBits (setBits 0 0 57 (tensorAddr 3 0)) 57 6 5)
  s.setWord 16 (setBits (setBits 0 16 4 1) 32 21 1)
def seg0 (p : SegPhase) (ended : Bool) (item : Nat) : Seg :=
  { phase := p, item := item, ta := tile 0 1 1 32 64, td := tile 2 0 1 34 136, ended := ended }
def planAt (s : State) (item : Nat) : NbPlan := s.nbPlan 0 0 item (descTile (seg0 .issued false item).ta) (descTile (seg0 .issued false item).td)
def NbPlan.runs (p : NbPlan) : Bool :=
  match p with
  | .run _ _ _ _ => true
  | _ => false

theorem wit_SegmentCourse :
    let s (p : SegPhase) (e : Bool) : State := (segment.setSeg 0 0 (seg0 p e 0)).wr (NBU_CM.SET 0) 1
    let u := s .running false
    let done := segment.setWord 32 (setBits 0 40 1 1)
    let poor := segment.setWord 16 (setBits 0 16 4 10)
    ((s .issued false).seg 0 0).phase = .issued ∧ NbPlan.runs (planAt (s .issued false) 0) = true ∧
    (((s .requested false).seg 0 0).phase = .requested ∧ (s .requested false).pwrState 0 ≠ 2 ∧ (s .requested false).inCm 0 0 = true ∧
      (s .requested false).forced 0 0 = 0) ∧ (State.reset.wr (NBU_STATE.PWR_STATE 0) 2).pwrState 0 = 2 ∧
    ((u.seg 0 0).phase = .running ∧ (u.seg 0 0).ended = false ∧ NbPlan.runs (planAt u 0) = true ∧ planAt done 0 = .nothing ∧
      planAt poor 0 = .finish .badLength) ∧
    (((s .running true).seg 0 0).phase = .running ∧ ((s .running true).seg 0 0).ended = true) ∧
    ((s .gap true).seg 0 0).phase = .gap := by decide +kernel
theorem wit_NearBankAccesses :
    let a := hbmDpa 7 30 0
    let x : HeldAccess := { write := false, addr := a, len := 8, data := [] }
    let r := State.reset.setSeg 7 30 { phase := .running }
    let fl := r.setHeldOn 7 30 (List.replicate 32 x)
    (dpaKind a = .hbm ∧ dpaStack a = 7 ∧ dpaPc a = 30 ∧ (64 : Nat) ≤ 64) ∧
    (r.pcHeld 7 30 = true ∧ (r.heldOn 7 30).length < 32 ∧ fl.pcHeld 7 30 = true ∧ 32 ≤ (fl.heldOn 7 30).length) ∧
    (State.reset.pcHeld 7 30 = false ∧ (State.reset.wr (NBU_CM.SET 7) (2 ^ 30)).inCm 7 30 = true ∧
      (State.reset.seg 7 30).phase ≠ .requested) ∧
    State.reset.storeStatus a 64 = .ok ∧ State.reset.accessStatus a 64 = .ok := by decide +kernel
theorem wit_StackPowerStates :
    let p (n : Nat) : State := State.reset.wr (NBU_STATE.PWR_STATE 7) n
    let cap := State.reset.rd (NBU_PWR.CAP 7)
    let thr := State.reset.rd (NBU_PWR.THROTTLE_C 7)
    ((p 0).pwrState 7 = 0 ∧ (p 1).pwrState 7 = 1 ∧ (p 2).pwrState 7 = 2) ∧
    (100 * cap < 65535 ∧ thr ≤ 255 ∧ 0 + 200 < 100 * cap ∧ 0 + 5 < thr) ∧ (104 : Nat) < 105 := by decide +kernel
theorem wit_SparePseudoChannel :
    let s := rdy .NBU 7
    let st (n : Nat) : State := s.wr (NBU_PCMAP.SPARE_STATE 7) n
    let lost := s.wr (NBU_PCMAP.LOST_MASK 7) (2 ^ 30)
    let rm := ((st 2).setRemap 7 true).wr (NBU_PCMAP.SPARE_FOR 7) 30 |>.wr MER_PHASE.LANDING 1
    (s.ready .NBU 7 = true ∧ s.mayWriteDevice (.pf .HA) = true ∧ s.pcLost 7 30 = false ∧ s.rd (NBU_PCMAP.SPARE_STATE 7) = 0) ∧
    (lost.ready .NBU 7 = true ∧ lost.pcLost 7 30 = true) ∧ ((st 3).pcLost 7 30 = false ∧ (st 3).rd (NBU_PCMAP.SPARE_STATE 7) = 3) ∧
    ((st 2).rd (NBU_PCMAP.SPARE_STATE 7) = 2 ∧ Tab.get (fun _ => false) (st 2).nb.remap 7 = false ∧
      (st 2).pcLost 7 ((st 2).rd (NBU_PCMAP.SPARE_FOR 7)) = false) ∧
    (Tab.get (fun _ => false) rm.nb.remap 7 = true ∧ rm.inLanding = true ∧ rm.rd (NBU_PCMAP.SPARE_FOR 7) = 30 ∧
      rm.pcHeld 7 30 = false) ∧ s.inLanding = false ∧
    ((s.wr (NBU_SPARE_TEST.EN 7) 1).rd (NBU_PCMAP.SPARE_STATE 7) = 0 ∧ (s.wr (NBU_SPARE_TEST.EN 7) 1).on (NBU_SPARE_TEST.EN 7) = true) ∧
    (s.wr (NBU_SPARE_TEST.EN 7) 0).on (NBU_SPARE_TEST.EN 7) = false ∧ (st 1).rd (NBU_PCMAP.SPARE_STATE 7) = 1 ∧
    (s.wr (NBU_LOST.VALID 7 63) 1).on (NBU_LOST.VALID 7 63) = true := by decide +kernel
theorem wit_SpareBays :
    let s := rdy .GAL 15
    let d (ue : Bool) : State := (s.setSubstDue 15 [(15, ue)]).wr MER_PHASE.LANDING 1
    let used (ue : Bool) : State := (d ue).wr (GAL_BAYMAP.SPARE_STATE 15) 1
    (s.ready .GAL 15 = true ∧ s.mayWriteGal (.pf .HA) 15 = true ∧ s.bayFree 15 = true ∧ s.bayLost 15 15 = false) ∧
    ((s.wr (GAL_BAYMAP.SPARE_STATE 15) 1).ready .GAL 15 = true ∧ (s.wr (GAL_BAYMAP.SPARE_STATE 15) 1).bayFree 15 = false ∧
      (s.wr (GAL_BAYMAP.LOST_MASK 15) 0x8000).bayLost 15 15 = true) ∧
    (∀ ue, (d ue).substDue 15 = (15, ue) :: [] ∧ (d ue).inLanding = true ∧ ((d ue).slice 15).isOpen = false ∧
      (d ue).bayLost 15 15 = false ∧ (d ue).bayFree 15 = true ∧ (d ue).bayQueue 15 15 = []) ∧
    ((used true).substDue 15 = (15, true) :: [] ∧ (used true).inLanding = true ∧ ((used true).slice 15).isOpen = false ∧
      (used true).bayLost 15 15 = false ∧ (used true).bayFree 15 = false) ∧ s.inLanding = false := by decide +kernel
theorem wit_Preemption :
    let st (n : Nat) : State := State.reset.wr (GAL_PREEMPT_STATUS.STATE 15) n
    let busy := (st 1).setBayQueue 15 0 [{ op := 0x53, d := 0, a := 0, b := 0, imm := 0 }]
    let sv := (st 4).wr (GAL_PREEMPT_STATUS.SAVE_VALID 15) 1
    ((st 1).galState 15 = 1 ∧ (st 1).queuesEmpty 15 = true ∧ busy.queuesEmpty 15 = false) ∧
    ((st 2).galState 15 = 2 ∧ rangeHbm ((st 2).rd (GAL_SAVE_BASE.DPA 15)) ((st 2).savedBytes 15) = true) ∧
    (sv.galState 15 = 4 ∧ sv.queuesEmpty 15 = true ∧ sv.on (GAL_PREEMPT_STATUS.SAVE_VALID 15) = true ∧
      sv.word (sv.rd (GAL_SAVE_BASE.DPA 15) + 8) = sv.reg (PROG_ID.HASH (blockBase .GAL 15)).off) ∧
    ((st 4).galState 15 = 4 ∧ (st 4).queuesEmpty 15 = true ∧ (st 4).on (GAL_PREEMPT_STATUS.SAVE_VALID 15) = false) := by decide +kernel
theorem wit_GalleryEngines :
    let s := rdy .GAL 15
    let x := s.wr (PREFIX_XPT.KEY (blockBase .GAL 15)) 0xE1
    let b := s.wr (GAL_XP_TAGSTAT.BUSY 15) 1
    let lt (s : State) : State × Nat × Status := State.loadTags 15 (s.rd (GAL_XP_TAGDST.LOC 15)) (s.rd (GAL_XP_TAGDST.BAY 15))
      (s.rd (GAL_XP_TAGCNT.COUNT 15)) (s.rd (GAL_XP_TAGSRC.DPA 15)) (s.rd (GAL_XP_TAGDST.ADDR 15)) 0 s
    (s.ready .GAL 15 = true ∧ s.mayWriteGal (.pf .HA) 15 = true ∧ s.expertOpen .GAL 15 = false) ∧
    (x.ready .GAL 15 = true ∧ x.expertOpen .GAL 15 = true ∧ x.galIdle 15 = true) ∧
    (s.on (GAL_XP_TAGSTAT.BUSY 15) = false ∧ s.rd (GAL_XP_TAGCNT.COUNT 15) = 0 ∧
      (s.wr (GAL_XP_TAGCNT.COUNT 15) 1).rd (GAL_XP_TAGCNT.COUNT 15) ≠ 0) ∧
    (b.ready .GAL 15 = true ∧ b.on (GAL_XP_TAGSTAT.BUSY 15) = true ∧ (lt b).2.2 ≠ .uncorrected) := by decide +kernel
/-- The program registers of a unit are those of the register map (Table 4-5): one of each kind of unit. -/
theorem test_program_registers :
    (accAt (PROG_IMAGE.DPA (progBase 3)).off).map (·.hit.row.name) = some "PROG_IMAGE" ∧
    (accAt (PROG_STATUS.BUSY (progBase 0x10)).off).map (·.hit.row.name) = some "PROG_STATUS" ∧
    (accAt (PROG_CTL.SWAP (progBase 0x18)).off).map (·.hit.row.name) = some "PROG_CTL" ∧
    (accAt (PROG_ID.HASH (progBase 0x27)).off).map (·.hit.row.name) = some "PROG_ID" := by decide +kernel

/-! ## Witnesses: the catalogue -/

/-- Partition 5 with ring r of one entry in it, and a completion ring of 8 entries. -/
def rings (r : Nat) : State :=
  let s := (rdy .CAT 0).wr (CAT_P_SIZE.ENTRIES 5 3) 8
  (s.wr (CAT_P_SIZE.ENTRIES 5 r) 8).wr (catTail 5 r) 1
/-- A record of partition 5 in a state. -/
def recIn (s : State) (i : Nat) (st : ReqState) : State := (s.setRec i Rec.STATE st.code).setRec i Rec.PART 5

theorem wit_CatalogueRings :
    let s := rings 1
    let w : State := { s with cat := { s.cat with waiting := [(5, [0, 0, 0, 0])] } }
    let d := recIn (rdy .CAT 0) 16383 .done
    (s.catHas 5 0 = false ∧ s.catHas 5 1 = true ∧ s.cqRoom 5 = true ∧ s.cqClear 5 = true ∧
      s.storeStatus (ringSlot (s.rd (CAT_P_BASE.DPA 5 1)) 8 0 64) 64 = .ok) ∧
    ((rings 0).catHas 5 0 = true ∧ State.reset.catHas 5 1 = false) ∧
    (w.cat.waiting = [((5 : Fin 64).val, [0, 0, 0, 0])] ∧ w.cqRoom 5 = true) ∧
    (d.ready .CAT 0 = true ∧ d.mayWritePart (.pf .HA) 5 = true ∧ d.inState 16383 .done = true ∧ d.recF 16383 Rec.GEN = 0 ∧
      d.recF 16383 Rec.PART = 5 ∧ d.recF 16383 Rec.IN_BATCH = 0) ∧
    (d.inState 0 .done = false ∧ d.inState 0 .failed = false) := by decide +kernel

theorem find_map_const {α : Type} (f : Nat → Nat) (v : α) (l : List Nat) (k : Nat) (hk : k ∈ l) :
    Tab.find (l.map (fun i => (f i, v))) (f k) = some v := by
  induction l with
  | nil => cases hk
  | cons a l ih =>
    simp only [List.map_cons, Tab.find]
    split
    · rfl
    · rename_i h
      rcases List.mem_cons.1 hk with rfl | hk
      · exact absurd rfl h
      · exact ih hk
/-- Every record holds an admitted request. -/
def allTaken : State := { State.reset with mem := (List.range 16384).map (fun i => (recDpa i, 1)) }
theorem wit_AdmissionOrder_full : ∀ i, i < 16384 → allTaken.inState i .free = false := by
  intro i hi
  have hb : allTaken.byte (recDpa i) = 1 := by
    simp only [State.byte, Tab.get]
    rw [show allTaken.mem = (List.range 16384).map (fun i => (recDpa i, (1 : Byte))) from rfl,
      find_map_const recDpa 1 _ i (List.mem_range.2 hi)]
    rfl
  have h : getBits (BitVec.ofNat 64 (1 + 256 * leNat (allTaken.bytes (recDpa i + 1) 7))) 0 4 = 1 := by
    simp only [getBits, lowMask, BitVec.toNat_and, BitVec.toNat_ushiftRight, BitVec.toNat_ofNat]
    rw [show (2 ^ 4 - 1) % 2 ^ 64 = 2 ^ 4 - 1 from rfl, Nat.and_two_pow_sub_one_eq_mod]
    simp only [Nat.shiftRight_zero]
    omega
  have hw : allTaken.recF i Rec.STATE = 1 := by
    simp only [State.recF, State.recWord, State.word, State.num, Rec.STATE, Nat.mul_zero, Nat.add_zero, State.bytes, leNat, hb]
    exact h
  simp only [State.inState, State.recState, hw]
  rfl
theorem wit_AdmissionOrder :
    let s0 := State.reset
    let s := (s0.wr (PRT_ROLE.ROLE 5) 1)
    let q := s.wr (CAT_P_QUOTA.QUOTA 5) 1
    let f := q.wr CAT_RESERVE.RESERVE 16384
    let r : State := { q with cat := { q.cat with admits := [(5, 64)] } }
    let pr := (q.wr (CAT_P_ADMIT.BE_PRESSURE 5) 1).wr (CAT_P_USE.LC_WAITING 5) 1
    (s0.inState 0 .free = true ∧ s0.role 5 = 0) ∧
    (s.role 5 ≠ 0 ∧ (s.wr (PRT_ROLE.DRAINING 5) 1).on (PRT_ROLE.DRAINING 5) = true) ∧
    (¬ s.on (PRT_ROLE.DRAINING 5) = true ∧ s.rd (CAT_P_QUOTA.QUOTA 5) ≤ s.rd (CAT_P_USE.IN_USE 5)) ∧
    (¬ f.rd (CAT_P_QUOTA.QUOTA 5) ≤ f.rd (CAT_P_USE.IN_USE 5) ∧ f.rd CAT_FREE.FREE ≤ f.rd CAT_RESERVE.RESERVE) ∧
    (¬ r.rd CAT_FREE.FREE ≤ r.rd CAT_RESERVE.RESERVE ∧ r.rd (CAT_P_ADMIT.RATE 5) ≤ r.admits 5) ∧
    (¬ pr.rd (CAT_P_ADMIT.RATE 5) ≤ pr.admits 5 ∧ pr.rd (CAT_P_ADMIT.BE_PRESSURE 5) ≠ 0 ∧
      pr.rd (CAT_P_ADMIT.BE_PRESSURE 5) ≤ pr.rd (CAT_P_USE.LC_WAITING 5)) ∧
    (q.role 5 ≠ 0 ∧ ¬ q.on (PRT_ROLE.DRAINING 5) = true ∧ ¬ q.rd (CAT_P_QUOTA.QUOTA 5) ≤ q.rd (CAT_P_USE.IN_USE 5) ∧
      ¬ q.rd CAT_FREE.FREE ≤ q.rd CAT_RESERVE.RESERVE ∧ ¬ q.rd (CAT_P_ADMIT.RATE 5) ≤ q.admits 5 ∧
      q.rd (CAT_P_ADMIT.BE_PRESSURE 5) = 0) := by decide +kernel

/-- Partition 5 owns bay 0, and partition 0 every other bay. -/
def grantBays (s : State) : State :=
  let s := (s.setLive (PRT_BAYS.BAYS 0 0).off 0xFFFFFFFFFFFFFFFE).setLive (PRT_BAYS.BAYS 0 1).off 0xFFFFFFFFFFFFFFFF
  let s := (s.setLive (PRT_BAYS.BAYS 0 2).off 0xFFFFFFFFFFFFFFFF).setLive (PRT_BAYS.BAYS 0 3).off 0xFFFFFFFFFFFFFFFF
  s.setLive (PRT_BAYS.BAYS 5 0).off 1
/-- Partition 5's batch ring names a descriptor of one record at DPA 0x1000; it owns bay 0 of gallery 0. -/
def batchRing (count : Nat) : State :=
  let s := grantBays ((rings 2).wr (CAT_P_BASE.DPA 5 2) 0x100)
  let s := (s.setWord 0x100 0x1000).setWord 0x1000 (BitVec.ofNat 64 count)
  (s.wr (PRT_ROLE.ROLE 5) 1).wr (GAL_DISPATCH.SLOTS 0) 1
def aBatch : Batch :=
  { part := 5, seq := 0, dpa := 0x1000, tag := 0, kind := 0, recs := [], refs := [], lc := true, level := 0, deadline := 0,
    named := [], used := [] }
def withBatch (s : State) (bs : List Batch) : State := { s with cat := { s.cat with batches := bs } }

theorem wit_Batches_validate :
    let hdr (s : State) : List Word := s.words 0x1000 8
    let ok (s : State) : Prop := s.catHas 5 2 = true ∧ s.cqRoom 5 = true ∧ s.cqClear 5 = true ∧ s.cat.batches.length < 256 ∧
      s.storeStatus 0x100 8 = .ok ∧ getBits (s.word 0x100) 48 16 = 0 ∧ getBits (s.word 0x100) 0 48 = 0x1000 ∧
      s.accessStatus 0x1000 64 = .ok
    let good := recIn (batchRing 1) 0 .admitted
    ringSlot ((batchRing 0).rd (CAT_P_BASE.DPA 5 2)) ((batchRing 0).catSize 5 2) ((batchRing 0).rd (catHead 5 2)) 8 = 0x100 ∧
    (ok (batchRing 0) ∧ getBits ((hdr (batchRing 0)).getD 0 0) 0 16 = 0) ∧
    (ok good ∧ getBits ((hdr good).getD 0 0) 0 16 = 1 ∧ (good.batchCheck 5 0x1000 (hdr good)).status = .ok) ∧
    (ok (batchRing 1) ∧ ((batchRing 1).batchCheck 5 0x1000 (hdr (batchRing 1))).status = .refusedPolicy) ∧
    256 ≤ (withBatch State.reset (List.replicate 256 aBatch)).cat.batches.length := by decide +kernel
theorem wit_Batches_dispatch :
    let s := withBatch (batchRing 0) [aBatch]
    let x : Preempt := { part := 5, group := 0, gals := [0] }
    let lc : State := { s.wr (GAL_PREEMPT_STATUS.STATE 0) 3 with cat := { s.cat with preempts := [x] } }
    let find (s : State) : Option Preempt := s.cat.preempts.find? (fun x => x.part == 5 && x.gals.all (fun y => s.galState y == 3))
    (find s = none ∧ s.firstQueued 5 false = some aBatch) ∧ find lc = some x ∧
    (find State.reset = none ∧ State.reset.firstQueued 5 false = none) := by decide +kernel
theorem firstBy_only (f : Nat → Nat) (p : Nat → Bool) :
    firstBy f (if ([0].filter p).isEmpty = true then [0] else [0].filter p) = some 0 := by
  cases h : p 0 <;> simp [h, firstBy]
theorem galleriesOf_withBatch (s : State) (bs : List Batch) (p : Nat) : (withBatch s bs).galleriesOf p = s.galleriesOf p := rfl
theorem galleriesOf_batchRing : (batchRing 0).galleriesOf 5 = [0] := by decide +kernel
theorem wit_Batches_group : (withBatch (batchRing 0) [aBatch]).chooseGroup aBatch = some 0 := by
  have hp : aBatch.part = 5 := rfl
  have h : (List.range 16).filter (fun g => (withBatch (batchRing 0) [aBatch]).groupEligible aBatch.part g) = [0] := by
    simp only [hp, State.groupEligible, State.groupFree, State.groupGals, galleriesOf_withBatch, galleriesOf_batchRing]
    decide +kernel
  simp only [State.chooseGroup, h]
  exact firstBy_only _ _
/-- The same with a best-effort batch running on the one group, which has no free slot and may be pre-empted. -/
def beRuns : State :=
  let s := (((batchRing 0).wr (GAL_DISPATCH.SLOTS 0) 0).wr (GAL_PREEMPT.ENTRY 0) 1).wr (GAL_HBM.RATE 0) 1
  withBatch ((s.wr (CAT_P_ADMIT.PREEMPT_EN 5) 1).wr (CAT_P_ADMIT.PREEMPT_WAIT 5) 0)
    [aBatch, { aBatch with seq := 1, lc := false, state := .running, group := 0, gals := [0] }]
theorem galleriesOf_beRuns : beRuns.galleriesOf 5 = [0] := by decide +kernel
theorem wit_Batches_preempt_none : beRuns.chooseGroup aBatch = none := by
  have hp : aBatch.part = 5 := rfl
  have h : (List.range 16).filter (fun g => beRuns.groupEligible aBatch.part g) = [] := by
    simp only [hp, State.groupEligible, State.groupFree, State.groupGals, galleriesOf_beRuns]
    decide +kernel
  simp only [State.chooseGroup, h]
  rfl
theorem wit_Batches_preempt_some : firstBy (fun y => beRuns.cat.nextDispatch + 1 - beRuns.newestDispatch 5 y)
    ((List.range 16).filter (fun y => beRuns.preemptable 5 y)) = some 0 := by
  simp only [State.preemptable, State.groupGals, galleriesOf_beRuns]
  decide +kernel
theorem wit_Batches_preempt : beRuns.firstQueued 5 true = some aBatch ∧ beRuns.on (CAT_P_ADMIT.PREEMPT_EN 5) = true ∧
    beRuns.rd (CAT_P_ADMIT.PREEMPT_WAIT 5) ≤ beRuns.mer - aBatch.waitFrom ∧ beRuns.cat.preempts = [] ∧
    State.reset.on (CAT_P_ADMIT.PREEMPT_EN 5) = false := by decide +kernel
theorem wit_Batches_done :
    let s := (rdy .GAL 15).setOutstanding 15 2
    s.ready .GAL 15 = true ∧ s.mayWriteGal (.pf .HA) 15 = true ∧ s.outstanding 15 = 2 := by decide +kernel

theorem wit_RecordsAndTime :
    let l := (State.reset.wr MER_PHASE.LANDING 1).wr MER_COUNT.COUNT 9
    let p := (recIn l 16383 .paused).setRec 16383 Rec.EXPIRY 9
    let d := (recIn l 16383 .decode).setRec 16383 Rec.DEADLINE 8
    let h := (recIn l 16383 .handoverIn).wr (CAT_P_TIMEOUT.HANDOVER_IN_LIMIT 5) 9
    (p.inLanding = true ∧ p.inState 16383 .paused = true ∧ p.recF 16383 Rec.EXPIRY ≠ 0 ∧ p.recF 16383 Rec.EXPIRY ≤ p.mer ∧
      p.mer < (p.setRec 16383 Rec.EXPIRY 10).recF 16383 Rec.EXPIRY) ∧ State.reset.inLanding = false ∧
    (d.inLanding = true ∧ d.inStates 16383 [.admitted, .prefill, .handoverOut, .handoverIn, .decode] = true ∧
      d.recF 16383 Rec.DEADLINE ≠ 0 ∧ d.recF 16383 Rec.DL_MISSED = 0 ∧ d.deadlinePassed (d.recF 16383 Rec.DEADLINE) = true ∧
      d.deadlinePassed 100 = false) ∧
    (h.inState 16383 .handoverIn = true ∧ h.rd (CAT_P_TIMEOUT.HANDOVER_IN_LIMIT (h.recF 16383 Rec.PART)) = 9 ∧
      (h.mer32 + 2 ^ 32 - h.recF 16383 Rec.CHANGED_AT) % 2 ^ 32 = 9) ∧
    (d.recLive 16383 = true ∧ d.recLive 0 = false) := by decide +kernel
theorem wit_StateCodes :
    let s := recIn (State.reset.setG bg 1 16383) 16383 .decode
    Runs s bg 0x82 { a := 1, imm := 0x65 } ∧ (s.gReg bg 1).toNat < 16384 ∧ ({ imm := 0x65 } : LFields).im 0 4 = ReqState.decode.code ∧
    ({ imm := 0x65 } : LFields).im 4 4 = ReqState.paused.code ∧ s.inState 16383 .decode = true ∧
    cstateAllowed ReqState.decode.code ReqState.paused.code = true ∧ Runs s bg 0x82 { a := 1, imm := 0xA5 } ∧
    ({ imm := 0xA5 } : LFields).im 4 4 = 10 := by decide +kernel

/-! ## Witnesses: the stairwell and the almanac -/

/-- Partition 5 with pseudo-channel 0 of stack 0, one group of one unit, and the page list of record 0, which names it. -/
def oneGroup : State :=
  let s := (rdy .STW 0).setLive (PRT_PCS.STACK_EVEN 5 0).off 1
  let s := ((s.wr (STW_P_SPACE.UNITS 5 1) 1).wr (STW_P_GROUP.FRAMES 5) 1).wr (STW_P_GTBL.DPA 5) 0x100000
  let s := ((s.wr (STW_P_MAP.DPA 5 1) 0x110000).wr (STW_P_SPACE.UNITS 5 3) 1).wr (STW_P_MAP.DPA 5 3) 0x120000
  let s := (s.setRec 0 Rec.PART 5).setRec 0 Rec.PL_ROOT (tensorAddr 3 0)
  s.setWord 0x120000 (pageEntryOf 0)

theorem wit_TensorAccesses :
    let h := spaces
    let d := tensorAddr 2 32767
    let g := tensorAddr 1 0
    (h.readTensor 5 g 1 true).held = true ∧
    ((h.readTensor 5 d 1 true).held = false ∧ (h.readTensor 5 d 1 true).status = .ok) ∧
    ((h.readTensor 5 (tensorAddr 2 32768) 1 true).held = false ∧ (h.readTensor 5 (tensorAddr 2 32768) 1 true).status ≠ .ok) ∧
    h.writeWaits 5 d 1 = false ∧ h.writeWaits 5 g 1 = true := by decide +kernel
theorem wit_GroupLives :
    let s := oneGroup
    let a := s.setGroupState 5 0 .allocated
    let h : State := { a with stw := { a.stw with homing := [(5, 0, 0)] } }
    let x := (((s.setGroupState 5 0 .homed).setGroupFld 5 0 2 1 1).setWord (s.groupDpa 5 0 + 8) 9).wr MER_PHASE.LANDING 1
      |>.wr MER_COUNT.COUNT 9
    (s.groupState 5 0 = 0 ∧ 0 < s.groupCount 5) ∧ (a.groupCount 5 = 1 ∧ a.groupState 5 0 ≠ 0) ∧
    (h.stw.homing = ((5 : Fin 64).val, 0, 0) :: [] ∧ h.recGroup 0 0 = some 0 ∧ h.groupState 5 0 = 1 ∧
      h.groupFrames 5 ≤ h.freeOn 5 0 ∧ [0].length = h.groupFrames 5 ∧ dpaStack 0 * 32 + dpaPc 0 = 0 ∧
      h.framesFree 5 1 [0] = true) ∧ s.stw.homing = [] ∧
    (x.inLanding = true ∧ 0 < x.groupCount 5 ∧ x.groupState 5 0 = 2 ∧ x.groupParked 5 0 = true ∧ x.groupExpiry 5 0 ≠ 0 ∧
      x.groupExpiry 5 0 ≤ x.mer) ∧ (s.inLanding = false) := by decide +kernel
theorem wit_GroupLives_placement : (oneGroup.setGroupState 5 0 .allocated).placement 5 none = (some 0, false) := by decide +kernel
theorem wit_GroupLives_demotion :
    let s := oneGroup.wr (STW_P_T1.LOW 5) 147457
    let t := oneGroup.wr (STW_P_T1.LOW 5) 147456
    s.tierFree 5 1 < s.rd (STW_P_T1.LOW 5) ∧ t.rd (STW_P_T1.LOW 5) ≤ t.tierFree 5 1 := by decide +kernel
theorem wit_MigrationsAndCommands :
    let m : Migration := { part := 5, space := 1, first := 0, count := 1, tier := 1, kind := .migr 0x20 3 }
    let s : State := { oneGroup with stw := { oneGroup.stw with migs := [m] } }
    let c : RecCmd := { agent := 0, part := 5, record := 0, gen := 0, op := 3, tier := 0 }
    let q (c : RecCmd) (n : Nat) : State := { oneGroup with stw := { oneGroup.stw with recCmds := List.replicate n c } }
    (s.stw.migs[0]? = some m ∧ m.kind.entry = none ∧ s.role 5 ≠ 2 ∧ s.role 5 ≠ 4 ∧ [0].length = m.count ∧
      s.framesFree 5 1 [0] = true) ∧ s.stw.migs[1]? = none ∧
    (s.ready .STW 0 = true ∧ s.mayWritePart (.pf .HA) 5 = true ∧ (q c 63).stw.recCmds.length < 64 ∧
      64 ≤ (q c 64).stw.recCmds.length ∧ (q c 64).ready .STW 0 = true) ∧
    ((q c 1).stw.recCmds = c :: [] ∧ c.status = none) ∧
    (let d : RecCmd := { c with status := some .ok }
     (q d 1).stw.recCmds = d :: [] ∧ ((q d 1).finishRecCmd d .ok).1.on (STW_P_NOTIFY.EN 5) = false) := by decide +kernel
theorem wit_PageKeys :
    let s := rdy .STW 0
    let st (x y : Nat) : State := (s.setKeyState 5 0 x).setKeyState 5 1 y
    let sw := (st 4 3).wr (STW_P_KEYSTAT.SWEEPING 5) 1
    (s.ready .STW 0 = true ∧ s.mayWritePartPf (.pf .HA) 5 = true ∧ (st 0 0).keyState 5 0 = 0 ∧ (st 0 0).keyState 5 1 = 0) ∧
    ({ s with stw := { s.stw with lastGen := [(5, 255)] } : State }.lastGen 5 = 255) ∧
    ((st 0 3).keyState 5 0 = 0 ∧ (st 0 3).keyState 5 1 = 3) ∧ ((st 3 0).keyState 5 0 = 3 ∧ (st 3 0).keyState 5 1 = 0) ∧
    (st 3 4).rotateSlot 5 = none ∧ ((st 1 0).keyState 5 0 = 1 ∧ (st 1 0).on VES_STATE.RESTARTING = false) ∧
    (s.wr VES_STATE.RESTARTING 1).on VES_STATE.RESTARTING = true ∧ (st 0 0).drainingSlot 5 = none ∧
    (st 3 4).drainingSlot 5 = some 1 ∧
    (sw.drainingSlot 5 = some 0 ∧ sw.activeSlot 5 = some 1 ∧ sw.on (STW_P_KEYSTAT.SWEEPING 5) = true) ∧
    (let l := (st 4 3).wr MER_PHASE.LANDING 1
     l.drainingSlot 5 = some 0 ∧ l.inLanding = true ∧ l.on (STW_P_KEYSTAT.SWEEPING 5) = false ∧ l.rd (STW_P_INUSE.A 5) = 0 ∧
       l.on (STW_P_NOTIFY.EN 5) = false) ∧ s.inLanding = false := by decide +kernel
/-- Almanac entry 4095 of partition 5 in a state, one unit with backing frames in its own tier. -/
def almEntry (st : Nat) : State :=
  let s := (rdy .ALM 0).wr (ALM_E_W0.PART 4095) 5
  let s := ((s.wr (ALM_E_W0.WIN_TIER 4095) 1).wr (ALM_E_W2.UNITS 4095) 1).wr (ALM_E_W2.LAYERS 4095) 1
  s.wr (ALM_E_W0.STATE 4095) st
theorem wit_AlmanacCommands :
    let s := almEntry 3
    let p (n : Nat) : State := (almEntry 3).wr (ALM_E_W0.PINS 4095) n
    (s.actingPart (.pf .HA) 5 = some 5 ∧ s.mayWritePart (.pf .HA) 5 = true ∧ s.ready .ALM 0 = true) ∧
    (∀ st ∈ [0, 1, 2, 3, 4], (almEntry st).almState 4095 = st) ∧
    (s.almPart 4095 = 5 ∧ s.almPart 0 ≠ 5 ∧ (p 65534).rd (ALM_E_W0.PINS 4095) < 65535 ∧ (p 65535).rd (ALM_E_W0.PINS 4095) = 65535 ∧
      0 < (p 1).rd (ALM_E_W0.PINS 4095) ∧ s.rd (ALM_E_W0.PINS 4095) = 0) ∧
    (almEntry 1).almBacked 4095 = true ∧ s.advancing 4095 = false ∧
    (let w := s.wr (ALM_E_W2.WINDOW 4095) 1
     w.almState 4095 = 3 ∧ w.almWindow 4095 ≠ 0) := by decide +kernel
theorem wit_AlmanacCommands_register :
    let a : Agent := .pf .HA
    let s := ((oneGroup.wr (PREFIX_STATUS.READY (blockBase .ALM 0)) 1).wr (STW_P_T1R.DIRECT_FRAMES 5) 1).wr
      (STW_P_SPACE.UNITS 5 0) 1
    let s := (((s.setWord 0x1010 0x100000001).setWord 0x1018 (BitVec.ofNat 64 (8192 * 147455))).wr (STW_P_MAP.DPA 5 0)
      0x130000).wrPriv a.code ALM_CMD_ARG.ARG 0x1000
    s.accessStatus 0x1000 64 = .ok ∧ s.rdPriv a.code ALM_CMD_ARG.ARG = 0x1000 ∧ s.registerBad 5 (s.words 0x1000 8) = false ∧
    getBits ((s.words 0x1000 8).getD 4 0) 0 48 = 0 ∧ s.almState 4095 = 0 ∧ getBits ((s.words 0x1000 8).getD 2 0) 0 32 = 1 ∧
    (s.entry 5 (kindSpace 0) (0 + 0)).homed = false := by decide +kernel
theorem wit_AlmanacMoves :
    let m : Migration := { part := 5, space := 0, first := 0, count := 1, tier := 1, kind := .almLoad 4095 }
    let s : State := { almEntry 2 with stw := { (almEntry 2).stw with migs := [m] } }
    s.stw.migs.find? (fun x => x.kind.entry == some (4095 : Fin 4096).val) = some m ∧
    ([] : List Nat).length = (if s.almBacked 4095 then 0 else m.count) ∧ s.framesFree 5 1 [] = true ∧
    State.reset.stw.migs.find? (fun x => x.kind.entry == some (4095 : Fin 4096).val) = none := by decide +kernel
theorem wit_AdapterSlots :
    let s := (almEntry 1).wr (ALM_E_W0.KIND 4095) 2
    let st (n : Nat) : State := ((s.setAdpState 255 n).wr (ALM_ADP_W0.PART 255) 5).wr (ALM_ADP_W0.ALM_ENTRY 255) 4095
    let l (n : Nat) : State := (((st n).wr MER_PHASE.LANDING 1).wr (ALM_E_W0.STATE 4095) 3).setWord (s.entryDpa 5 (s.almSpace 4095) 0) 5
    (s.ready .ALM 0 = true ∧ s.actingPart (.pf .HA) 5 = some 5 ∧ s.mayWritePart (.pf .HA) 5 = true ∧
      4096 ≤ (4096 : BitVec 16).toNat) ∧
    (s.adpState 255 = 0 ∧ s.almState 4095 ≠ 0 ∧ s.rd (ALM_E_W0.KIND 4095) = 2 ∧ s.almPart 4095 = 5 ∧
      s.rd (ALM_E_W0.PINS 4095) ≠ 65535) ∧ (st 1).adpState 255 ≠ 0 ∧
    ((st 1).adpState 255 = 1 ∧ (st 1).rd (ALM_ADP_W0.PART 255) = 5 ∧ (st 3).adpState 255 = 3) ∧
    ((l 1).inLanding = true ∧ (l 1).adpState 255 = 1 ∧ (l 1).almInMemory ((l 1).rd (ALM_ADP_W0.ALM_ENTRY 255)) = true) ∧
    ((l 3).inLanding = true ∧ (l 3).adpState 255 = 3 ∧ (l 3).rd (ALM_ADP_W0.REFS 255) = 0) ∧ s.inLanding = false := by decide +kernel
theorem wit_AdapterSlots_fit : ((almEntry 1).wr (ALM_E_W0.KIND 4095) 2).adpBacks 4095 = false := by decide +kernel

/-! ## Witnesses: the heliostat -/

/-- One request of newel core 0's queue of partition 5 is next, and the completion ring has one free entry. -/
def posted (s : State) (ws : List Word) : State :=
  let s := s.wr (HEL_P_SIZE.ENTRIES 5 1) 1
  { s with hel := { s.hel with posted := [{ unit := 0x20, ctx := 1, part := some 5, words := ws }], lastQueue := 64 } }
def postedEntry (ws : List Word) : QEntry := { unit := 0x20, ictx := 1, part := some 5, words := ws, fired := false }

/-- Work request words: OP and flags, the remote address in partition 7 of a node, LEN, w5, w6 and w7. -/
def wreq (op node : Nat) (w3 w4 w5 w6 w7 : Word) : List Word :=
  [BitVec.ofNat 64 op, 0, BitVec.ofNat 64 (gfaOf node 7 (if 5 ≤ op then 0 else 64)), w3, w4, w5, w6, w7]

/-- Record 16383 of partition 5, in a state, its page list of `pl` entries and a layout with no pages in space 3. -/
def ship (st : ReqState) (pl : Nat) : State :=
  let s := (net.wr (STW_P_SPACE.UNITS 5 3) 1).wr (STW_P_MAP.DPA 5 3) 0x120000
  let s := ((s.setRec 16383 Rec.PART 5).setRec 16383 Rec.STATE st.code).setRec 16383 Rec.OWN_EPOCH 1
  let s := (s.setRec 16383 Rec.PL_LEN pl).setRec 16383 Rec.PL_ROOT (tensorAddr 3 0)
  (s.setWord 0x120000 (pageEntryOf 0)).setWord 0x120040 0x116201A70

/-- The engine takes that request, in its first in-flight slot. -/
abbrev Takes (s : State) (ws : List Word) : Prop :=
  (posted s ws).takesWr 65 (postedEntry ws) 5 0 ∧ wrLegal ws = true ∧ wrArm ws = false
def taken (s : State) (ws : List Word) : State := (posted s ws).takenWr 65 (postedEntry ws) 5 0

theorem wit_WorkRequests :
    Takes net [0, 0, 0, 0, 0, 0, 0, 0] ∧ Takes net (wreq 5 2 0 0 0 0 0) ∧ Takes net (wreq 5 4 0 0 0 0 0) ∧
    (∀ op ∈ [1, 2], ∀ n ∈ [2, 4], ∀ l ∈ [0, 1, 0xFFFFFFFFFF],
      Takes net (wreq op n 0 (BitVec.ofNat 64 l) 0 0 0) ∧ wrLen (wreq op n 0 (BitVec.ofNat 64 l) 0 0 0) = l) ∧
    (∀ op ∈ [3, 4], ∀ n ∈ [2, 4], Takes net (wreq op n 0 0 1 0 0)) ∧
    (taken net (wreq 1 2 0 1 0 0 0)).pathTo 5 2 7 = some 3 ∧ (taken net (wreq 1 4 0 1 0 0 0)).pathTo 5 4 7 = none := by decide +kernel
theorem wit_WorkRequests_own :
    let s := net.setRec 16383 Rec.OWN_EPOCH 1
    let w7 : Word := 0x7FFF00000000
    let ws (e : Word) := wreq 6 2 0 1 e 0 w7
    (Takes s (ws 0) ∧ getBit w7 46 = true ∧ getBits w7 32 14 = 16383 ∧
      ownEpoch ((ws 0).getD 5 0) < (taken s (ws 0)).recF 16383 Rec.OWN_EPOCH) ∧
    (Takes s (ws 0x10000) ∧ ¬ ownEpoch ((ws 0x10000).getD 5 0) < (taken s (ws 0x10000)).recF 16383 Rec.OWN_EPOCH) ∧
    Takes s (wreq 6 2 0 1 0 0 0) ∧ Takes s (wreq 7 2 0 1 0 0 0) ∧ Takes s (wreq 8 2 0 1 0 0 0) := by decide +kernel
/-- A LAYER of record 16383, its layout without pages, to a node. -/
def layer (n : Nat) (w4 : Nat) (flags : Nat) : List Word :=
  ((wreq 9 n 0x100000000 (BitVec.ofNat 64 (16383 * 2 ^ 24 + w4)) 0 9 0).set 0 (BitVec.ofNat 64 (9 + flags))).set 1
    (BitVec.ofNat 64 (tensorAddr 3 64))
/-- The outbound entry of that layer is open. -/
def opened (s : State) : State :=
  ((s.wr (HEL_OUT_W0.VALID 0) 1).wr (HEL_OUT_W0.RECORD 0) 16383).wr (HEL_OUT_W0.PART 0) 5 |>.wr (HEL_OUT_W2.EPOCH 0) 1
theorem wit_WorkRequests_layer :
    let s := opened (ship .handoverOut 1)
    let d := ship .decode 1
    let t (s : State) (n : Nat) := taken s (layer n 0x10100 0)
    let out (n : Nat) : Option State := (t s n).layerOpen ((t s n).wrAt 0)
    (Takes s (layer 2 0x10000 0) ∧ getBits ((layer 2 0x10000 0).getD 4 0) 8 8 = 0 ∧ wrFinal (layer 2 0x10000 0) = false) ∧
    (Takes s (layer 2 0x10000 4096) ∧ wrFinal (layer 2 0x10000 4096) = true) ∧
    (Takes d (layer 2 0x10100 0) ∧ (t d 2).layerCheck ((t d 2).wrAt 0) = .badLength) ∧
    (Takes s (layer 2 0x10100 0) ∧ (t s 2).layerCheck ((t s 2).wrAt 0) = .ok) ∧
    (out 2).isSome = true ∧ (out 2).bind (fun u => u.pathTo 5 2 7) = some 3 ∧
    (Takes s (layer 4 0x10100 0) ∧ (t s 4).layerCheck ((t s 4).wrAt 0) = .ok) ∧
    (out 4).isSome = true ∧ (out 4).bind (fun u => u.pathTo 5 4 7) = none := by decide +kernel
/-- The same with every outbound entry open for record 0. -/
def outFull : State :=
  { ship .handoverOut 1 with regs := (List.range 1024).map (fun h => ((HEL_OUT_W0.VALID h).off, 0x100000)) ++
      (ship .handoverOut 1).regs }
theorem find_append {α : Type} (a b : Tab α) (k : Nat) (v : α) (h : Tab.find a k = some v) : Tab.find (a ++ b) k = some v := by
  induction a with
  | nil => cases h
  | cons x a ih =>
    obtain ⟨i, y⟩ := x
    simp only [List.cons_append, Tab.find] at h ⊢
    split
    · rename_i e; simpa [e] using h
    · rename_i e; exact ih (by simpa [e] using h)
theorem outFull_reg (h : Nat) (hh : h < 1024) : outFull.reg (HEL_OUT_W0.VALID h).off = 0x100000 := by
  simp only [State.reg, Tab.get]
  rw [show outFull.regs = (List.range 1024).map (fun h => ((HEL_OUT_W0.VALID h).off, (0x100000 : Word))) ++
      (ship .handoverOut 1).regs from rfl,
    find_append _ _ _ _ (find_map_const (fun h => (HEL_OUT_W0.VALID h).off) 0x100000 (List.range 1024) h (List.mem_range.2 hh))]
  rfl
theorem wr_reg_below (s : State) (f : FieldRef) (v h : Nat) (hf : f.off < 0xC40000) :
    (s.wr f v).reg (HEL_OUT_W0.VALID h).off = s.reg (HEL_OUT_W0.VALID h).off := by
  have e : (s.setReg f.off (setBits (s.reg f.off) f.lo f.len v)).reg (HEL_OUT_W0.VALID h).off = s.reg (HEL_OUT_W0.VALID h).off :=
    State.reg_setReg_other _ _ (by simp only [HEL_OUT_W0.VALID]; omega)
  unfold State.wr
  split
  · exact e
  · exact e
theorem taken_reg (s : State) (ws : List Word) (h : Nat) :
    (taken s ws).reg (HEL_OUT_W0.VALID h).off = (posted s ws).reg (HEL_OUT_W0.VALID h).off := by
  simp only [taken, State.takenWr, State.openWr, State.inc, State.add]
  repeat rw [wr_reg_below _ _ _ _ (by decide)]
  rfl
theorem posted_reg (s : State) (ws : List Word) (h : Nat) :
    (posted s ws).reg (HEL_OUT_W0.VALID h).off = s.reg (HEL_OUT_W0.VALID h).off :=
  wr_reg_below s (HEL_P_SIZE.ENTRIES 5 1) 1 h (by decide)
theorem firstFrom_none (p : Nat → Bool) (n k : Nat) (h : ∀ i, i < k + n → p i = false) : firstFrom p n k = none := by
  induction n generalizing k with
  | zero => rfl
  | succ n ih =>
    simp only [firstFrom, h k (by omega)]
    exact ih (k + 1) (fun i hi => h i (by omega))
theorem layerOpen_none (s : State) (w : Wr) (ho : ∀ h, h < 1024 → s.reg (HEL_OUT_W0.VALID h).off = 0x100000)
    (hw : getBits (w.words.getD 4 0) 24 14 = 16383) : s.layerOpen w = none := by
  have a : s.layerEntry w = none := by
    unfold State.layerEntry State.findHo firstBelow
    refine firstFrom_none _ 1024 0 (fun h hh => ?_)
    have e : s.rd (hoRecord false h) = 0 := by
      show getBits (s.reg (HEL_OUT_W0.VALID h).off) 0 14 = 0
      rw [ho h (by omega)]; decide
    simp only [e, hw]; simp
  have b : s.freeHo false = none := by
    unfold State.freeHo firstBelow
    refine firstFrom_none _ 1024 0 (fun h hh => ?_)
    have e : s.on (hoValid false h) = true := by
      show (getBits (s.reg (HEL_OUT_W0.VALID h).off) 20 1 == 1) = true
      rw [ho h (by omega)]; decide
    simp [e]
  simp only [State.layerOpen, a, b]; rfl
theorem wit_WorkRequests_layerFull :
    Takes outFull (layer 2 0x10100 0) ∧
    (taken outFull (layer 2 0x10100 0)).layerCheck ((taken outFull (layer 2 0x10100 0)).wrAt 0) = .ok ∧
    (taken outFull (layer 2 0x10100 0)).layerOpen ((taken outFull (layer 2 0x10100 0)).wrAt 0) = none := by
  refine ⟨by decide +kernel, by decide +kernel, layerOpen_none _ _ (fun h hh => ?_) (by decide +kernel)⟩
  rw [taken_reg, posted_reg, outFull_reg h hh]
theorem wit_WorkRequests_image :
    let w (op n l : Nat) : List Word := wreq op n 0 (BitVec.ofNat 64 (16383 * 2 ^ 24)) (BitVec.ofNat 64 l) 0 0
    let s (st : ReqState) (pl : Nat) : State := (ship st pl).wr (STW_P_GROUP.FRAMES 5) 1
    let k (pl : Nat) : State := (s .paused pl).setKeyState 5 1 3
    let homed : State := (((k 1).wr (STW_P_SPACE.UNITS 5 1) 1).wr (STW_P_MAP.DPA 5 1) 0x110000).setWord 0x110000 5
    let t (s : State) (n : Nat) := taken s (w 10 n 12320)
    let e (s : State) := taken s (w 10 2 12319)
    (Takes (k 1) (w 10 2 12319) ∧ (e (k 1)).groupFrames 5 = 1 ∧ (e (k 1)).recF 16383 Rec.PL_LEN = 1) ∧
    (Takes (k 0) (w 10 2 4096) ∧ (taken (k 0) (w 10 2 4096)).recF 16383 Rec.PL_LEN = 0) ∧
    (Takes (s .parked 1) (w 10 2 12320) ∧ (t (s .parked 1) 2).inStates 16383 [.paused, .parked] = true ∧
      (t (s .parked 1) 2).activeSlot 5 = none) ∧
    (Takes (k 1) (w 10 4 12320) ∧ (t (k 1) 4).activeSlot 5 = some 1 ∧ (t (k 1) 4).pathTo 5 4 7 = none) ∧
    (Takes (k 1) (w 10 2 12320) ∧ (t (k 1) 2).pathTo 5 2 7 = some 3 ∧ ((t (k 1) 2).buildImage 16383 1 true).2.1 ≠ .ok) ∧
    (Takes homed (w 10 2 12320) ∧ ((t homed 2).buildImage 16383 1 true).2.1 = .ok) ∧
    (Takes (s .admitted 1) (w 11 2 4095) ∧ Takes (s .admitted 1) (w 11 2 4096) ∧ Takes (s .admitted 1) (w 11 4 4096)) ∧
    (taken (s .admitted 1) (w 11 2 4096)).inState 16383 .admitted = true ∧
    (taken (s .admitted 1) (w 11 2 4096)).recF 16383 Rec.PART = 5 := by
  dsimp only; and_intros <;> decide +kernel
theorem wit_WorkRequestEnds :
    let armed (w7 : Word) : List Word := (wreq 1 2 0 1 0 0 w7).set 0 0x401
    let s (w7 : Word) := taken (net.wr (HEL_P_TRIG.QUOTA 5) 1) (armed w7)
    let arms (w7 : Word) : Prop := (posted (net.wr (HEL_P_TRIG.QUOTA 5) 1) (armed w7)).takesWr 65 (postedEntry (armed w7)) 5 0 ∧
      wrOp (armed w7) = 1 ∧ wrLegal (armed w7) = true ∧ wrArm (armed w7) = true
    let one : Posted := { unit := 0x20, ctx := 1, part := none, words := [1, 0, 0, 0, 0, 0, 0, 0] }
    let lone : State := { net with hel := { net.hel with posted := [one], lastQueue := 64 } }
    ((posted net [0, 1, 0, 0, 0, 0, 0, 0]).takesWr 65 (postedEntry [0, 1, 0, 0, 0, 0, 0, 0]) 5 0 ∧
      wrLegal [0, 1, 0, 0, 0, 0, 0, 0] = false) ∧
    (posted net [12, 0, 0, 0, 0, 0, 0, 0]).takesWr 65 (postedEntry [12, 0, 0, 0, 0, 0, 0, 0]) 5 0 ∧
    ((posted net [1, 0, 0, 0, 0, 0, 0, 1]).takesWr 65 (postedEntry [1, 0, 0, 0, 0, 0, 0, 1]) 5 0 ∧
      wrLegal [1, 0, 0, 0, 0, 0, 0, 1] = false) ∧
    (arms 0 ∧ (s 0).armStatus 5 (armed 0) = .badLength) ∧
    (arms 3 ∧ firstBelow 1024 (fun j => !(s 3).trigUsed j) = some 0) ∧
    (lone.nextQueue = some 65 ∧ lone.queueFront 65 =
      some { unit := 0x20, ictx := 1, part := none, words := [1, 0, 0, 0, 0, 0, 0, 0], fired := false }) := by
  dsimp only; and_intros <;> decide +kernel
theorem armStatus_ok (s : State) (p : Nat) (ws : List Word) (h0 : wrOp ws ≤ 5) (h1 : condLegal (ws.getD 7 0) = true)
    (h2 : s.trigUsed 0 = false) (h3 : s.rd (HEL_P_USE.TRIGS p) < s.rd (HEL_P_TRIG.QUOTA p)) : s.armStatus p ws = .ok := by
  have h : s.armedSlots.length < 1024 := by
    have := List.length_filter_lt_length_iff_exists (p := fun i => s.trigUsed i) (l := List.range 1024)
    simp only [List.length_range] at this
    exact this.2 ⟨0, by simp, by simp [h2]⟩
  unfold State.armStatus
  rw [if_neg (by simp only [h0, h1]; decide), if_neg (Nat.not_le.2 h), if_neg (Nat.not_le.2 h3)]
theorem wit_WorkRequestEnds_arm :
    let ws : List Word := (wreq 1 2 0 1 0 0 3).set 0 0x401
    let s := taken (net.wr (HEL_P_TRIG.QUOTA 5) 1) ws
    wrOp ws ≤ 5 ∧ condLegal (ws.getD 7 0) = true ∧ s.trigUsed 0 = false ∧
      s.rd (HEL_P_USE.TRIGS 5) < s.rd (HEL_P_TRIG.QUOTA 5) := by decide +kernel
theorem wit_WorkRequestEnds_complete :
    let w (d : Option Status) (w0 : Word) : Wr := { noWr with words := [w0, 0, 0, 0, 0, 0, 0, 0], unit := 0x20, part := 5, done := d }
    let s (x : Wr) : State := State.reset.setWr 255 x
    ((s (w none 0)).wr? 255 = some (w none 0) ∧ (w none 0).done = none) ∧
    ((s (w (some .ok) 0)).wr? 255 = some (w (some .ok) 0) ∧ wrSignal (w (some .ok) 0).words = false) ∧
    ((s (w (some .ok) 0x100)).wr? 255 = some (w (some .ok) 0x100) ∧ wrSignal (w (some .ok) 0x100).words = true) ∧
    ((s (w (some .linkFailed) 0)).wr? 255 = some (w (some .linkFailed) 0)) ∧ State.reset.wr? 0 = none := by decide +kernel
theorem wit_WorkRequestEnds_idle : State.reset.nextQueue = none := by decide +kernel
theorem wit_CompletionRecords :
    let s := State.reset.wr (HEL_P_SIZE.ENTRIES 63 1) 1
    let w : State := { s with hel := { s.hel with waiting := [(63, [])] } }
    (s.helRoom 63 = true ∧ s.helClear 63 = true ∧ s.on (HEL_P_NOTIFY.EN 63) = false ∧ s.on (HEL_P_NOTIFY.DB_EN 63) = false) ∧
    State.reset.helRoom 63 = false ∧ w.helClear 63 = false := by decide +kernel
theorem wit_TriggersAndMeasuring :
    let a : Agent := .pf .HA
    let s := rdy .HEL 0
    let u := s.wr (HEL_TRIG_W8.VALID 1023) 1
    (s.ready .HEL 0 = true ∧ s.mayWriteDevice a = true ∧ s.trigUsed 1023 = false) ∧
    (u.trigUsed 1023 = true ∧ (u.trig 1023).dead = false ∧ (u.trig 1023).holds = false ∧ u.ready .HEL 0 = true) ∧
    (let h := u.setTrig 1023 { holds := true }
     h.trigUsed 1023 = true ∧ (h.trig 1023).dead = false ∧ (h.trig 1023).holds = true) ∧
    (let d := u.setTrig 1023 { dead := true }
     d.trigUsed 1023 = true ∧ (d.trig 1023).dead = true) ∧
    s.mayWriteDevice (.pf .HB) = false := by decide +kernel
theorem wit_MessagesFlushesAndCloses :
    let m (l p : Nat) (y : Option (Nat × Nat × Nat)) : InMsg := ⟨3, y, 0, 5, 2, 0, 0, l, [(0, p)]⟩
    let s (x : InMsg) : State := { State.reset with tp := { State.reset.tp with inMsgs := [x] } }
    let lay := m 8 8 (some (7, 1, 255))
    let o := (((s lay).wr (HEL_IN_W0.VALID 0) 1).wr (HEL_IN_W0.RECORD 0) 7).wr (HEL_IN_W2.EPOCH 0) 1
    ((s (m 8 7 none)).tp.inMsgs[0]? = some (m 8 7 none) ∧ (m 8 7 none).placed < (m 8 7 none).len) ∧
    ((s (m 8 8 none)).tp.inMsgs[0]? = some (m 8 8 none) ∧ (m 8 8 none).len ≤ (m 8 8 none).placed) ∧
    (o.tp.inMsgs[0]? = some lay ∧ lay.len ≤ lay.placed ∧ lay.layer = some (7, 1, 255) ∧
      o.findHo true (fun k => o.rd (hoRecord true k) == 7 && o.rd (hoEpoch true k) == 1) = some 0) ∧
    (o.tp.inMsgs[1]? = none ∧ o.hel.flushes[0]? = none) := by decide +kernel
theorem wit_MessagesFlushesAndCloses_flush :
    let cov : Nat × Option Nat × Nat × Nat × Nat := (0x20, some 1, 2, 7, 9)
    let f (st : Status) : FlushEnd := { owner := .wr 0, covers := cov, ctx := 3, status := st }
    let m (x : Option Status) (i : Option Nat) : Msg := ⟨1, 0x20, 1, 2, some 7, 8, true, x, 0, none, i, 3⟩
    let h (st : Status) : State := { State.reset with hel := { State.reset.hel with flushes := [f st] } }
    let s (st : Status) (ms : List Msg) : State := { h st with tp := { (h st).tp with msgs := ms } }
    let c (ms : List Msg) : List Msg := ms.filter (fun m => m.coveredBy cov)
    ((s .ok []).hel.flushes[0]? = some (f .ok) ∧ (c [m none (some 0)]).any (fun m => m.inval.isSome) = true) ∧
    ((c [m (some .uncorrected) none]).any (fun m => m.inval.isSome) = false ∧
      (c [m (some .uncorrected) none]).findSome? (fun m => m.failed) = some .uncorrected) ∧
    (c [m none none] = [m none none] ∧ (f .ok).status = .ok ∧ (f .linkFailed).status ≠ .ok) := by decide +kernel
theorem wit_MessagesFlushesAndCloses_close :
    ∀ inb ∈ [true, false],
    (let s := State.reset.wr (hoValid inb 1023) 1
     let put (e : Handover) : State := if inb then s.setInn 1023 e else s.setOut 1023 e
     let e (t : State) := if inb then t.inn 1023 else t.out 1023
     s.on (hoValid inb 1023) = true ∧ (e s).due = false ∧ (e (put { due := true })).due = true ∧
     (put { due := true }).on (hoValid inb 1023) = true ∧
     ((e (put { retryAtMap := true, epoch := 1 })).retryAtMap = true ∧ (e (put { retryAtMap := true, epoch := 1 })).epoch ≠
       (put { retryAtMap := true, epoch := 1 }).curEpoch) ∧
     ((e (put { retryAtLanding := true })).retryAtLanding = true ∧ (s.wr MER_PHASE.LANDING 1).inLanding = true) ∧
     State.reset.on (hoValid inb 1023) = false) := by decide +kernel
/-- A small anchor table at DPA 0x2000 for partition 5, with the word HELD(2, epoch 1) of request 9. -/
def anchor : State :=
  let s := ((State.reset.wr HEL_ANCH_CFG.EN 1).wr HEL_ANCH_CFG.PART 5).wr HEL_ANCH_BASE.DPA 0x2000
  (s.setWord (s.anchSlotDpa (anchHome s.anchLog 9)) 9).setWord (s.anchSlotDpa (anchHome s.anchLog 9) + 8) (heldWord 2 1 1)
/-- The 16 places of request 10 are all taken. -/
def anchorFull : State :=
  (anchor.anchProbe 10).foldl (fun s k => s.setWord (s.anchSlotDpa k) 1) anchor
def own (kind : Nat) (req expected new : Word) : OwnOp :=
  ⟨none, .none, kind, 5, 0, req, expected, new, false, 0, 0, false, 0, .ok, false, 0⟩
theorem wit_OwnershipDecisions :
    let w := heldWord 2 1 1
    let n := heldWord 3 1 2
    (own 0 9 0 0).part ≠ State.reset.rd HEL_ANCH_CFG.PART ∧
    (anchor.ownCheck (own 1 9 0 0) = none ∧ anchor.anchCurrent 9 = w) ∧
    (anchor.ownCheck (own 0 9 n w) = none ∧ anchor.ownCheck (own 0 9 w n) = none ∧ n ≠ w) ∧
    (anchor.ownCheck (own 0 9 n 0) = none) ∧
    (anchor.ownCheck (own 2 9 0 n) = none ∧ ownNewer n w = true) ∧ (anchor.ownCheck (own 2 9 0 w) = none ∧ ownNewer w w = false) ∧
    (anchor.anchLookup 9).isSome = true ∧ n ≠ 0 ∧
    (anchorFull.anchLookup 10 = none ∧ anchorFull.anchRoom 10 = none) := by decide +kernel

/-! ## Witnesses: fabric links and laser cartridges -/

/-- Port 3 in a link state, its block READY, fed by cartridge A. -/
def port3 (st : Nat) : State := ((rdy .FAB 3).wr (FAB_LINK_STATE.STATE 3) st).wr (lcField 0) 3

theorem wit_LinkBlocks :
    let s := port3 3
    let r (x : List Nat) : State := s.modLink 3 (fun k => { k with reorder := x })
    s.linkState 3 = 3 ∧ (port3 2).linkState 3 = 2 ∧ (port3 0).linkState 3 ≠ 3 ∧
    (2 ^ 23 ≤ seqDist (s.link 3).rxSeq (0x800000 : BitVec 24).toNat ∧ 2 ^ 23 ≤ seqDist (s.link 3).rxSeq 0xFFFFFF) ∧
    ((r [5]).linkState 3 = 3 ∧ 5 ∈ ((r [5]).link 3).reorder) ∧
    (seqDist (s.link 3).rxSeq 1 = 1 ∧ seqDist (s.link 3).rxSeq 1023 = 1023 ∧ 1023 ∉ (s.link 3).reorder) ∧
    (seqDist (s.link 3).rxSeq 0 = 0 ∧ (s.link 3).reorder = []) := by decide
theorem wit_LinkStates :
    let en (st : Nat) : State := (port3 st).wr (FAB_LINK_CFG.EN 3) 1
    let re : State := (port3 4).modLink 3 (fun k => { k with aligning := true })
    let dark : State := (port3 1).wr (lcField 0) 0
    ((en 0).linkState 3 = 0 ∧ (en 0).on (FAB_LINK_CFG.EN 3) = true ∧ (en 0).fed 3 = true) ∧
    ((port3 0).on (FAB_LINK_CFG.EN 3) = false ∧ (port3 5).linkState 3 ≠ 0 ∧ (en 5).on (FAB_LINK_CFG.EN 3) = true) ∧
    ((port3 1).training 3 = true ∧ (port3 4).training 3 = true ∧ (port3 1).fed 3 = true ∧ dark.fed 3 = false ∧ dark.training 3 = true) ∧
    (popCount 20 (0xFFFF : BitVec 20).toNat = 16 ∧ popCount 20 (0x7FFF : BitVec 20).toNat = 15 ∧
      (port3 1).rd (FAB_LINK_CFG.MIN_LANES 3) ≤ 15 ∧ popCount 20 (0 : BitVec 20).toNat < (port3 1).rd (FAB_LINK_CFG.MIN_LANES 3)) ∧
    ((port3 3).training 3 = false ∧ (port3 2).linkState 3 = 2) ∧
    (re.linkState 3 = 4 ∧ (re.link 3).aligning = true ∧ re.rd (FAB_PARTNER.NODE 3) ≠ (16383 : BitVec 14).toNat) ∧
    ((port3 3).linkState 3 = 3 ∧ (port3 3).activeLanes 3 < (port3 3).rd (FAB_LINK_CFG.MIN_LANES 3)) ∧
    (let u := (port3 3).wr (FAB_LINK_STATE.ACTIVE_LANES 3) 16
     u.rd (FAB_LINK_CFG.MIN_LANES 3) ≤ u.activeLanes 3 ∧ ∀ r ∈ (u.link 3).replay, r.resends < 16) := by decide
/-- Port 3 is UP; its lanes 0 to 15 are active and 16 to 19 locked spares. -/
def lanes3 : State := (port3 3).setLanes 3 0xFFFFF
theorem wit_LaneHealth :
    let a : Agent := .pf .HA
    let s := lanes3
    let t := (s.setLaneState 3 15 3).showLanes 3
    (s.linkState 3 = 3 ∧ s.laneState 3 15 = 0 ∧ t.posOf 3 15 = some 15 ∧ s.spareFree 3 = true ∧
      (s.wr (FAB_LINK_CFG.AUTO_SUBST 3) 1).on (FAB_LINK_CFG.AUTO_SUBST 3) = true) ∧
    ((port3 3).spareFree 3 = false ∧ (port3 3).laneState 3 0 ≠ 3 ∧ (port3 0).linkState 3 ≠ 3) ∧
    (t.laneState 3 15 = 3 ∧ (s.wr MER_PHASE.LANDING 1).inLanding = true ∧ s.inLanding = false) ∧
    (s.ready .FAB 3 = true ∧ s.mayWriteDevice a = true ∧ s.posOf 3 0 = some 0 ∧ (∀ e ∈ (s.link 3).substs, e.2 ≠ 0)) ∧
    (s.posOf 3 31 = none ∧ s.posOf 3 19 = none) ∧ s.on (FAB_RECAL_STATUS.BUSY 3) = false ∧ s.lcMoving = false ∧
    ((s.wr (lcField 0) 4).lcMoving = true ∧ (s.wr (FAB_RECAL_STATUS.BUSY 3) 1).on (FAB_RECAL_STATUS.BUSY 3) = true) ∧
    (let u := s.wr (FAB_LINK_CFG.AUTO_RECAL 3) 1
     u.on (FAB_LINK_CFG.AUTO_RECAL 3) = true ∧ (s.wr (FAB_LINK_CFG.AUTO_RECAL 3) 0).on (FAB_LINK_CFG.AUTO_RECAL 3) = false) ∧
    (let u := (s.modLink 3 (fun k => { k with recal := [19] })).setLaneState 3 19 2
     (u.link 3).recal = 19 :: [] ∧ u.linkState 3 = 3 ∧ u.laneState 3 19 = 2) ∧ (s.link 3).recal = [] := by
  dsimp only; and_intros <;> decide
/-- Cartridge A and cartridge B in a state each, port 0 UP and fed by A. -/
def lasers (x y : Nat) : State := (((rdy .FAB 0).wr (lcField 0) x).wr (lcField 1) y).wr (FAB_LINK_STATE.STATE 0) 3
theorem wit_LaserCartridges :
    let a : Agent := .pf .HA
    let cut (s : State) : State := ((List.range 4).filter (fun f => s.feederOf f == 0)).foldl (fun u f =>
      if u.linkState f = 3 then u.enterRetrain f else u) ((s.setLc 0 6).lcReport 0 6)
    (∀ st ∈ [0, 1, 2, 3, 4, 5, 6], (lasers st 2).lcState 0 = st ∧ (lasers 3 st).lcState 1 = st) ∧
    ((lasers 3 2).anyReady .FAB ∧ (lasers 3 2).mayWriteDevice a = true ∧ (lasers 3 2).mayWriteDevice (.pf .HB) = false) ∧
    (cut (lasers 3 2)).lcState 1 = 2 ∧ (cut (lasers 4 3)).lcState 1 = 3 ∧ (cut (lasers 3 0)).lcState 1 = 0 := by decide +kernel

/-! ## Witnesses: the transport -/

/-- A header of connection context 3 under the null cipher. -/
def hd (psn : Nat) : PktHdr := { ctx := 3, psn := BitVec.ofNat 32 psn, kgen := 0, epoch := 0, auth := false }
/-- Connection context 3 changed, and in a state of Table 15-1. -/
def conn (f : TpCtx → TpCtx) : State := net.modTpc 3 f
def inState (k : Nat) : State := conn (fun c => { c with state := k })
def sealed (f : TpCtx → TpCtx) : State := conn (fun c => f { c with aes := true, keyA := { held := true, gen := 1 } })
/-- Region 255 of partition 5 covers fabric offsets 0 to 0x1FFF with key 9 and every permission, at DPA 0x200000. -/
def region : State :=
  let s := ((net.wr (FAB_RGN_W0.VALID 0 5 0) 1).wr (FAB_RGN_W1.LEN 0 5 0) 0x2000).wr (FAB_RGN_W2.TARGET 0 5 0) 0x200000
  let s := ((s.wr (FAB_RGN_W2.PHYS 0 5 0) 1).wr (FAB_RGN_W3.KEY 0 5 0) 9).wr (FAB_RGN_W3.RD 0 5 0) 1
  (s.wr (FAB_RGN_W3.WR 0 5 0) 1).wr (FAB_RGN_W3.ATOM 0 5 0) 1
theorem no_region (s : State) (p off len key perm : Nat) (h : ∀ r, r < 256 → s.on (FAB_RGN_W0.VALID 0 p r) = false) :
    s.regionAt p off len key perm = none :=
by
  unfold State.regionAt firstBelow
  exact firstFrom_none _ 256 0 (fun r hr => by simp only [h r (by omega), Bool.false_and])
theorem net_noRegion : ∀ r, r < 256 → net.on (FAB_RGN_W0.VALID 0 5 r) = false := by decide +kernel

theorem wit_PacketArrival :
    let c (f : TpCtx → TpCtx) := (conn f).tpc 3
    ((conn (fun c => { c with cached := false })).tpc 3).cached = false ∧ (c (fun c => { c with state := 1 })).state = 1 ∧
    (c id).cached = true ∧ (c id).state = 2 ∧ (c (fun c => { c with state := 3 })).state = 3 ∧
    (2 ^ 31 ≤ psnDist (c id).rxBase (hd 0x80000000).psn.toNat ∧ 2 ^ 31 ≤ psnDist (c id).rxBase (hd 0xFFFFFFFF).psn.toNat) ∧
    5 ∈ (c (fun c => { c with rxSeen := [5] })).rxSeen ∧
    (4096 ≤ psnDist (c id).rxBase (hd 4096).psn.toNat ∧ psnDist (c id).rxBase (hd 0x7FFFFFFF).psn.toNat < 2 ^ 31 ∧
      psnDist (c id).rxBase (hd 4095).psn.toNat < 4096 ∧ (c id).rxSeen = []) ∧
    ((c id).knowsGen (hd 0).kgen.toNat = true ∧ ((sealed id).tpc 3).knowsGen (hd 0).kgen.toNat = false ∧
      ((sealed id).tpc 3).knowsGen (hdr 0).kgen.toNat = true ∧ ((sealed id).tpc 3).aes = true) ∧
    (net.epochRetired ({ hd 0 with epoch := 0xFFFF } : PktHdr).epoch.toNat = true ∧
      net.epochRetired ({ hd 0 with epoch := 0x8000 } : PktHdr).epoch.toNat = true ∧
      net.epochRetired ({ hd 0 with epoch := 0x7FFF } : PktHdr).epoch.toNat = false) ∧
    net.hearsPsn (hd 0) 0x27 ∧ net.hearsPsn (hd 4095) 0x27 := by
  dsimp only; and_intros <;> decide +kernel
theorem wit_ClassCPackets :
    let k (kind : Nat) : CPkt := { kind := kind, psn := 0, addr := 8184, key := 9 }
    let c := region.tpc 3
    let src := region.regionSrc 5 0 8184
    (∀ kind ∈ [0x10, 0x11, 0x12, 0x13, 0x14], net.hearsPsn (hd 0) kind) ∧ c.part = 5 ∧
    (region.regionAt 5 8184 (2 ^ (k 0x11).size) 9 1 = some 0 ∧ region.writeSrcStatus src (2 ^ (k 0x11).size) = .ok) ∧
    (region.regionAt 5 8184 8 9 1 = some 0 ∧ region.writeSrcStatus src 8 = .ok) ∧
    (region.regionAt 5 8184 (2 ^ (k 0x10).size) 9 0 = some 0 ∧ (region.readSrc src (2 ^ (k 0x10).size) true).held = false ∧
      (region.readSrc src (2 ^ (k 0x10).size) true).status = .ok) ∧
    (region.regionAt 5 8184 8 9 2 = some 0 ∧ (region.readSrc src 8 true).held = false ∧ (region.readSrc src 8 true).status = .ok) := by
  dsimp only; and_intros <;> decide +kernel
theorem wit_ClassCPackets_none : (net.tpc 3).part = 5 ∧ ∀ off len key perm, net.regionAt 5 off len key perm = none :=
  ⟨by decide, fun off len key perm => no_region net 5 off len key perm net_noRegion⟩
theorem wit_ClassSRequests :
    let t := region.heardPsn (hd 0) 0x20 4036
    let full : State := { region with tp := { region.tp with inMsgs := List.replicate 8192 ⟨0, none, 0, 0, 0, 0, 0, 0, []⟩ } }
    let dry := (region.wr (FAB_RGN_W2.TARGET 0 5 0) 0x1F000000000)
    let v := region.heardPsn (hd 0) 0x23 0
    (∀ kind ∈ [0x20, 0x21, 0x23, 0x24, 0x26], region.hearsPsn (hd 0) kind) ∧
    (t.regionAt 5 0 4036 9 1 = some 0 ∧ t.regionAt 5 4156 4036 9 1 = some 0 ∧ t.msgRoom 3 none 0 = true ∧
      t.writeSrcStatus (t.regionSrc 5 0 4156) 4036 = .ok ∧ t.regionAt 5 0 1 9 1 = some 0) ∧
    (full.heardPsn (hd 0) 0x20 1).msgRoom 3 none 0 = false ∧
    (dry.heardPsn (hd 0) 0x20 1).writeSrcStatus ((dry.heardPsn (hd 0) 0x20 1).regionSrc 5 0 0) 1 ≠ .ok ∧
    (region.heardPsn (hd 0) 0x21 0).regionAt 5 0 0x2000 9 0 = some 0 ∧
    (v.regionAt 5 8184 8 9 2 = some 0 ∧ (v.atomic (v.regionSrc 5 0 8184) true id).isSome = true) := by
  dsimp only; and_intros <;> decide +kernel
theorem wit_ClassSRequests_none (b off len key perm kind : Nat) :
    (net.heardPsn (hd 0) kind b).regionAt 5 off len key perm = none := by
  refine no_region _ _ _ _ _ _ (fun r hr => ?_)
  have a : net.epochAhead (hd 0).epoch.toNat = false := by decide
  have e : (net.heardPsn (hd 0) kind b).on (FAB_RGN_W0.VALID 0 5 r) = net.on (FAB_RGN_W0.VALID 0 5 r) := by
    unfold State.heardPsn
    simp only [a, Bool.false_eq_true, and_false, if_false]
    split <;> rfl
  rw [e]
  exact net_noRegion r hr
/-- The inbound handover entries are listed as closed. -/
def quiet (s : State) : State := { s with regs := (List.range 1024).map (fun h => ((HEL_IN_W0.VALID h).off, 0)) ++ s.regs }
theorem quiet_reg (s : State) (h : Nat) (hh : h < 1024) : (quiet s).reg (HEL_IN_W0.VALID h).off = 0 := by
  simp only [State.reg, Tab.get]
  rw [show (quiet s).regs = (List.range 1024).map (fun h => ((HEL_IN_W0.VALID h).off, (0 : Word))) ++ s.regs from rfl,
    find_append _ _ _ _ (find_map_const (fun h => (HEL_IN_W0.VALID h).off) 0 (List.range 1024) h (List.mem_range.2 hh))]
  rfl
theorem quiet_findHo (s t : State) (ok : Nat → Bool) (e : t.regs = (quiet s).regs) : t.findHo true ok = none := by
  unfold State.findHo firstBelow
  refine firstFrom_none _ 1024 0 (fun h hh => ?_)
  have a : t.on (hoValid true h) = false := by
    show (getBits (t.reg (HEL_IN_W0.VALID h).off) 20 1 == 1) = false
    have b : t.reg (HEL_IN_W0.VALID h).off = 0 := by
      have := quiet_reg s h (by omega)
      simp only [State.reg, e] at this ⊢
      exact this
    rw [b]; decide
  simp only [a, Bool.false_and]
/-- Partition 5 decodes with handover key 1; record 16383 of request 9 is ADMITTED; unit 0 of KV space 1 is homed. -/
def inbound : State :=
  let s := ((net.wr (HEL_P_HKEY.KEY 5) 1).wr (PRT_ROLE.ROLE 5) 2).wr (STW_P_SPACE.UNITS 5 1) 1
  let s := ((s.wr (STW_P_MAP.DPA 5 1) 0x110000).setWord 0x110000 5).setWord 0x110008 0x140000
  (s.setRecWord 16383 1 9).setRec 16383 Rec.PART 5 |>.setRec 16383 Rec.STATE ReqState.admitted.code
/-- The checks of R335 before the table of inbound entries pass; no entry is newer; so the outcome follows TOTAL and the role. -/
theorem quiet_refusal (t : State) (total : Nat) (e : t.regs = (quiet inbound).regs) (m : t.mem = inbound.mem)
    (k : t.rd (HEL_P_HKEY.KEY 5) = 1) :
    t.layerRefusal 5 9 1 1 16383 total =
      if total = 0 then .badLength else if t.role 5 = 0 ∨ t.role 5 = 1 then .refusedPolicy else .ok := by
  have f : t.findHo true (fun h => t.rd (hoRecord true h) == 16383 && decide (1 < t.rd (hoEpoch true h))) = none :=
    quiet_findHo inbound t _ e
  have r : ∀ i w, t.recWord i w = inbound.recWord i w := by
    intro i w; simp only [State.recWord, State.word, State.num, State.bytes, State.byte, m]
  unfold State.layerRefusal
  rw [f]
  simp only [k, State.recF, State.inStates, State.inState, State.recState, r]
  rw [if_neg (by decide), if_neg (by decide +kernel)]
theorem heard_same (s : State) (h : PktHdr) (kind b : Nat) (a : s.epochAhead h.epoch.toNat = false) :
    (s.heardPsn h kind b).regs = s.regs ∧ (s.heardPsn h kind b).mem = s.mem := by
  unfold State.heardPsn
  simp only [a, Bool.false_eq_true, and_false, if_false]
  split <;> exact ⟨rfl, rfl⟩
theorem quiet_mem (s : State) : (quiet s).mem = s.mem := rfl
theorem inboundEntry_opens (t : State) (r p n h ep total : Nat) (id : Word) (a : ∀ ok, t.findHo true ok = none)
    (b : t.freeHo true = some h) : (t.inboundEntry r p n id ep total).isSome = true := by
  simp only [State.inboundEntry, a, b, Option.map_some, Option.isSome_some]
theorem wit_ClassSRequests_layer :
    let t := (quiet inbound).heardPsn (hd 0) 0x26 4036
    let u := inbound.heardPsn (hd 0) 0x26 4036
    let dst (a : BitVec 53) : Src := { part := some 5, addr := tensorAddr 1 a.toNat }
    (quiet inbound).hearsPsn (hd 0) 0x26 ∧ t.layerRefusal 5 9 1 1 16383 0 = .badLength ∧
    (u.layerRefusal 5 9 2 1 16383 1 = .keyMismatch ∧ u.layerRefusal 5 10 1 1 16383 1 = .notOwner) ∧
    (t.layerRefusal 5 9 1 1 16383 255 = .ok ∧ t.msgRoom 3 (some (16383, 1, 254)) 0 = true ∧
      t.writeSrcStatus (dst 0) 4036 = .ok ∧ t.writeSrcStatus (dst 4156) 4036 = .ok ∧ (t.inboundEntry 16383 5 2 9 1 255).isSome = true) := by
  have a : (quiet inbound).epochAhead (hd 0).epoch.toNat = false := by decide +kernel
  have e := (heard_same (quiet inbound) (hd 0) 0x26 4036 a).1
  have m := (heard_same (quiet inbound) (hd 0) 0x26 4036 a).2.trans (quiet_mem inbound)
  have k : ((quiet inbound).heardPsn (hd 0) 0x26 4036).rd (HEL_P_HKEY.KEY 5) = 1 := by decide +kernel
  have r : ((quiet inbound).heardPsn (hd 0) 0x26 4036).role 5 = 2 := by decide +kernel
  refine ⟨by decide +kernel, ?_, ?_, ?_, by decide +kernel, by decide +kernel, by decide +kernel, ?_⟩
  · rw [quiet_refusal _ _ e m k]; rfl
  · and_intros <;> decide +kernel
  · rw [quiet_refusal _ _ e m k, r]; rfl
  · exact inboundEntry_opens _ _ _ _ 0 _ _ _ (fun ok => quiet_findHo inbound _ ok e) (by decide +kernel)

/-- A request of context 3 under number 7. -/
def aReq (kind : Nat) (o : Owner) : Req := { ctx := 3, req := 7, kind := kind, owner := o }
def asked (r : Req) : State := { region with tp := { region.tp with reqs := [r] } }
theorem wit_Responses :
    let h := hd 0
    let l : Req := { aReq 0x10 (.wr 0) with line := some (64, 9, 5) }
    let d : Req := { aReq 0x21 (.wr 255) with dst := some { part := none, addr := 0x200000 } }
    let t := (asked d).heardPsn h 0x22 4036
    (region.hearsPsn h 0x25 ∧ (region.heardPsn h 0x25 0).findReq 3 7 = none) ∧
    (region.hearsPsn h 0x15 ∧ (region.heardPsn h 0x15 0).findReq 3 7 = none) ∧
    (region.hearsPsn h 0x22 ∧ (region.heardPsn h 0x22 1).findReq 3 7 = none) ∧
    ((asked (aReq 0x23 .none)).hearsPsn h 0x25 ∧ ((asked (aReq 0x23 .none)).heardPsn h 0x25 0).findReq 3 7 = some (aReq 0x23 .none)) ∧
    ((asked l).hearsPsn h 0x15 ∧ ((asked l).heardPsn h 0x15 64).findReq 3 7 = some l ∧
      (((asked l).heardPsn h 0x15 64).dropReq l).stillWaits l = true ∧ l.line = some (64, 9, 5)) ∧
    ((asked d).hearsPsn h 0x22 ∧ t.findReq 3 7 = some d ∧ d.owner = .wr 255 ∧ d.dst = some { part := none, addr := 0x200000 } ∧
      t.writeSrcStatus (Src.plus { part := none, addr := 0x200000 } 0) 4036 = .ok) := by
  dsimp only; and_intros <;> decide +kernel
theorem wit_ControlPackets :
    let h := hd 0
    let c (f : TpCtx → TpCtx) : TpCtx := (conn f).tpc 3
    let o := (inState 1).wr (FAB_P_CFG.CREDIT_SHARE 0 5) 1
    let z := (inState 1).wr (FAB_P_CFG.CREDIT_SHARE 0 5) 0
    let k := (sealed (fun c => { c with keyB := { held := true, gen := 2 } }))
    let m : Msg := ⟨1, 0x20, 1, 2, none, 0, false, none, 0, none, some 64, 3⟩
    let v : State := { net with tp := { net.tp with msgs := [m] } }
    (o.hearsControl h ∧ (o.tpc 3).cached = true ∧ (o.tpc 3).state = 1 ∧ (o.tpc 3).peerCtx = 0 ∧ (o.tpc 3).aes = false ∧
      (o.heardControl h).rd (FAB_P_CFG.CREDIT_SHARE 0 5) ≠ 0 ∧ (z.heardControl h).rd (FAB_P_CFG.CREDIT_SHARE 0 5) = 0) ∧
    (∀ st ∈ [0, 1, 2, 3, 4], (inState st).hearsControl h ∧ ((inState st).tpc 3).cached = true ∧ ((inState st).tpc 3).state = st) ∧
    (psnDist (c id).granted 0x7FFFFFFF < 2 ^ 31 ∧ psnDist (c id).granted 0 < 2 ^ 31) ∧
    (k.hearsControl { h with kgen := 1, auth := true } ∧ (k.tpc 3).knowsGen 2 = true ∧ (k.tpc 3).txGen = 1 ∧
      (k.tpc 3).knowsGen 3 = false) ∧
    (c (fun c => { c with offered := some 2 })).offered = some 2 ∧
    (v.hearsControl h ∧ (v.heardControl h).tp.msgs.find? (fun m => m.inval == some 64 && m.ctx == 3) = some m ∧ m.failed = none) ∧
    (c (fun c => { c with cached := false })).cached = false ∧
    ((k.tpc 3).cached = true ∧ (k.tpc 3).knowsGen 1 = true ∧ (k.tpc 3).aes = true) := by
  dsimp only; and_intros <;> decide +kernel
theorem wit_ControlPackets_rack :
    let s := (inState 1).wr (PRT_MAP_STATUS.CUR_EPOCH 0) 1
    s.hearsControl { hd 0 with epoch := 1 } ∧ (s.heardControl { hd 0 with epoch := 1 }).sameRack 2 = true := by decide +kernel
/-- A packet of context 3 with PSN 5 is out. -/
def outPkt : Sent := { send := { ctx := 3, kind := 0x20 }, psn := 5, units := 1, epoch := 0 }
def sentOne : State := { net with tp := { net.tp with sent := [outPkt] } }
theorem wit_NackEffects :
    (net.hearsControl (hd 0) ∧ (net.tpc 3).cached = true ∧ (net.heardControl (hd 0)).findSent 3 5 = none) ∧
    (sentOne.hearsControl (hd 0) ∧ (sentOne.heardControl (hd 0)).findSent 3 5 = some outPkt) ∧
    (let u := (((sentOne.heardControl (hd 0)).noteNack 3 .staleMap 0x20).dropSent outPkt).modTpc 3 (fun c => { c with held := c.held + 1 })
     outPkt.epoch = u.curEpoch) ∧
    (let s := sentOne.wr (PRT_MAP_STATUS.CUR_EPOCH 0) 1
     let h : PktHdr := { hd 0 with epoch := 1 }
     s.hearsControl h ∧ (s.heardControl h).findSent 3 5 = some outPkt ∧
     outPkt.epoch ≠ (((((s.heardControl h).noteNack 3 .staleMap 0x20).dropSent outPkt).modTpc 3 (fun c => { c with held := c.held + 1 }))).curEpoch) := by
  dsimp only; and_intros <;> decide +kernel
theorem wit_ConnectionCommands :
    let a : Agent := .pf .HA
    let up (s : State) : State := (s.wr (PREFIX_STATUS.READY (blockBase .FAB 0)) 1).wr (FAB_CTX_ARG.PEER_NODE 0) 2
    let s (f : TpCtx → TpCtx) : State := up (conn f)
    let mine (s : State) : Prop := s.anyReady .FAB ∧ s.mayCtx a (s.ctxOwner 3) = true
    (mine (s id) ∧ ((s id).tpc 3).state = 2 ∧ (s id).anyReady .FAB ∧ (s id).mayCtx (.pf .HB) ((s id).ctxOwner 3) = false) ∧
    (mine (s (fun c => { c with state := 1 })) ∧ mine (s (fun c => { c with state := 4 }))) ∧
    ((s id).mayWritePart a 5 = true ∧ (s id).actingPart a 5 = some 5 ∧ (s id).createStatus 3 5 2 7 false ≠ .ok) ∧
    (let i := s (fun c => { c with aes := true, keyA := { held := true, gen := 1 } })
     mine i ∧ (i.tpc 3).aes = true ∧ (i.tpc 3).otherKey.held = false ∧ (i.tpc 3).txGen < 255 ∧ ∀ d ∈ i.tp.derives, d.1 ≠ 3) ∧
    (let i := s (fun c => { c with aes := true, keyA := { held := true, gen := 1 }, keyB := { held := true, gen := 2 } })
     mine i ∧ (i.tpc 3).aes = true ∧ (i.tpc 3).otherKey.held = true ∧ (i.tpc 3).oldLive = false ∧ (i.tpc 3).offered = none) ∧
    (mine (s (fun c => { c with pinned := true })) ∧ ((s (fun c => { c with pinned := true })).tpc 3).pinned = true) ∧
    (((s id).tpc 3).pinned = false ∧ (s id).rd (FAB_CTX_STATE.PINNED 0) < 2048 ∧
      2048 ≤ ((s id).wr (FAB_CTX_STATE.PINNED 0) 2048).rd (FAB_CTX_STATE.PINNED 0)) := by
  dsimp only; and_intros <;> decide +kernel
theorem wit_ConnectionCommands_create :
    let a : Agent := .pf .HA
    let s := (net.wr (PREFIX_STATUS.READY (blockBase .FAB 0)) 1).wr VES_STATE.FKR_CUR 1
    let s := (s.setLive (PRT_CTX.FIRST 5).off 0xFFFFFFFFFFFFFFFF)
    let n := s.rd (PRT_CTX.FIRST 5)
    s.mayWritePart a 5 = true ∧ s.anyReady .FAB ∧ s.createStatus n 5 2 8 true = .ok ∧
      ((s.setTpc n { state := 1, part := 5, node := 2, peerPart := 8, aes := true }).makeFrame).isSome = true := by
  dsimp only; and_intros <;> decide +kernel
theorem wit_TransportTimers :
    let d (x : Bool) : State := { net with tp := { net.tp with derives := [(3, x)] } }
    let p (k t : Nat) : Sent := { outPkt with send := { ctx := 3, kind := k, timeouts := t } }
    let o (x : Sent) : State := { net with tp := { net.tp with sent := [x] } }
    let i := net.wr (FAB_TP_POOL.IDLE_REVOKE 0) 1
    let fetch : State := { net with tp := { net.tp with fetching := [3] } }
    net.tp.derives.find? (fun d => d.1 == 3) = none ∧
    (∀ x ∈ [true, false], (d x).tp.derives.find? (fun d => d.1 == 3) = some (3, x) ∧ (d x).on VES_STATE.RESTARTING = false ∧
      ((d x).wr VES_STATE.RESTARTING 1).on VES_STATE.RESTARTING = true) ∧
    ((o (p 0x20 15)).findSent 3 5 = some (p 0x20 15) ∧ (o (p 0x20 15)).rd (FAB_TP_CFG.RETRIES 0) ≤ 15 ∧
      (o (p 0x10 15)).findSent 3 5 = some (p 0x10 15) ∧ 0 < net.rd (FAB_TP_CFG.RETRIES 0)) ∧
    (net.findReq 3 7 = none ∧ (asked (aReq 0x21 .none)).findReq 3 7 = some (aReq 0x21 .none) ∧ classCReq 0x21 = false) ∧
    (let w := i.wr MER_COUNT.COUNT 1
     (w.tpc 3).state = 2 ∧ (w.tpc 3).cached = true ∧ w.rd (FAB_TP_POOL.IDLE_REVOKE 0) ≠ 0 ∧
      (w.tpc 3).lastArrival + w.rd (FAB_TP_POOL.IDLE_REVOKE 0) ≤ w.mer) ∧
    i.mer < (i.tpc 3).lastArrival + i.rd (FAB_TP_POOL.IDLE_REVOKE 0) ∧
    ((net.tpc 3).arrivals = 0 ∧ ((conn (fun c => { c with arrivals := 63 })).tpc 3).arrivals ≠ 0) ∧
    (3 ∉ net.tp.fetching ∧ 3 ∈ fetch.tp.fetching ∧ fetch.accessStatus (fetch.backingAt 3) 256 = .ok ∧ fetch.makeFrame.isSome = true) := by
  dsimp only; and_intros <;> decide +kernel
theorem wit_RegionsAndLines :
    let a : Agent := .pf .HA
    let s := net.wr (PREFIX_STATUS.READY (blockBase .FAB 0)) 1
    s.anyReady .FAB ∧ (s.mayWritePart a 5 = true ∧ s.mayWritePart (.pf .HB) 5 = false) ∧
    (s.accessStatus 0x1000 32 = .ok ∧ s.accessStatus 0x1008 32 = .ok ∧ 0x1008 % 32 ≠ 0 ∧ s.regionCheck 5 255 (s.words 0x1000 4) ≠ .ok) ∧
    (s.mayWriteDevice a = true ∧ s.mayWriteDevice (.pf .HB) = false) := by
  dsimp only; and_intros <;> decide +kernel
theorem regionCheck_free (s : State) (h : ∀ r, r < 256 → s.on (FAB_RGN_W0.VALID 0 5 r) = false)
    (hc : ¬ s.rd (PRT_REGIONS.COUNT 5) ≤ 255) (hu : s.spaceUnits 5 2 = 1) :
    s.regionCheck 5 255 [0, 8192, 0x40000000000000, 9] = .ok := by
  have o : ∀ f g : Nat → Bool, firstBelow 256 (fun r => s.on (FAB_RGN_W0.VALID 0 5 r) && f r && g r) = none := by
    intro f g
    unfold firstBelow
    exact firstFrom_none _ 256 0 (fun r hr => by simp only [h r (by omega), Bool.false_and])
  have e : taSpace (getBits ([(0 : Word), 8192, 0x40000000000000, 9].getD 2 0) 0 57) = 2 := by decide
  have f : getBit ([(0 : Word), 8192, 0x40000000000000, 9].getD 2 0) 63 = false := by decide
  unfold State.regionCheck
  simp only [o, e, f, hu, h 255 (by decide), Bool.false_eq_true, if_false]
  rw [if_neg (by decide), if_neg (by simp [hc])]
theorem wit_RegionsAndLines_ok :
    let s := (net.wr (STW_P_SPACE.UNITS 5 2) 1).setLive (PRT_REGIONS.COUNT 5).off 0xFFFFFFFFFFFFFFFF
    s.regionCheck 5 255 [0, 8192, 0x40000000000000, 9] = .ok := by
  refine regionCheck_free _ (fun r hr => ?_) (by decide +kernel) (by decide +kernel)
  have e : (net.wr (STW_P_SPACE.UNITS 5 2) 1).rd (FAB_RGN_W0.VALID 0 5 r) = net.rd (FAB_RGN_W0.VALID 0 5 r) :=
    State.rd_wr_other _ _ _ _ (Or.inl (by simp only [FAB_RGN_W0.VALID, STW_P_SPACE.UNITS]; omega))
  have n := net_noRegion r hr
  simp only [State.on] at n ⊢
  exact (congrArg (fun x => x == 1) e).trans n

/-! ## Witnesses: the orrery and the host interface -/

/-- Port 3 is UP with 16 active lanes and node 2 is reached through it; a work request's packet to it waits. -/
def orrery (kind : Nat) (f : State → State) : State :=
  let s : State := { lanes3 with prt := { lanes3.prt with cur := [(0x8020, 0x23)] } }
  let s : State := { s with tp := { s.tp with ctxs := [(3, { state := 2, part := 5, node := 2, peerPart := 7, cached := true, held := 64 })] } }
  let x : Send := { ctx := 3, kind := kind, port := some 3 }
  f (if 0x20 ≤ kind then { s with tp := { s.tp with sends := [x] } } else { s with tp := { s.tp with express := [x] } })
theorem wit_OrreryScheduling :
    let own := State.reset.setLive (ORR_SLOT.SLOTS8 0).off 0x85
    let k := State.reset.rd ORR_STATE.SLOT
    let m (x : Nat) (s : State) : State := s.wr ORR_STATE.MODE x
    let w := (m 0 own)
    let s := orrery 0x20 (fun s => m 1 ((s.setReg (ORR_P_STATE.ALLOWANCE 5).off 0x100000000).wr (ORR_P_BUCKET.BURST_KIB 5) 1))
    let e := orrery 0x05 (fun s => m 1 (s.wr ORR_CFG.EXPRESS_MAX 1))
    let none_ := orrery 0x20 (fun s => m 1 s)
    let sp := orrery 0x20 (fun s => m 0 ((s.setReg (ORR_P_STATE.ALLOWANCE 5).off 0).setLive (ORR_P_WHEEL.SPILL 5).off 0xFFFFFFFFFFFFFFFF))
    k = 0 ∧ ((w.addMod ORR_STATE.SLOT 1).wheel = true ∧ (w.addMod ORR_STATE.SLOT 1).slotOwner 0 = some 5) ∧
    ((m 1 own).wheel = false ∧ State.reset.slotOwner 0 = none) ∧
    (State.reset.canSend 3 = false ∧ s.canSend 3 = true) ∧
    (e.canSend 3 = true ∧ (e.choosePorts.orrPort 3).starts.count true < e.choosePorts.rd ORR_CFG.EXPRESS_MAX ∧
      (e.choosePorts.nextExpress 3).isSome = true) ∧
    (s.choosePorts.nextExpress 3 = none ∧ (s.choosePorts.chooseIn 3 (s.choosePorts.pool 3 false)).isSome = true) ∧
    (sp.canSend 3 = true ∧ sp.choosePorts.nextExpress 3 = none ∧ sp.choosePorts.chooseIn 3 (sp.choosePorts.pool 3 false) = none ∧
      (sp.choosePorts.chooseIn 3 (sp.choosePorts.pool 3 true)).isSome = true) ∧
    (none_.canSend 3 = true ∧ none_.choosePorts.nextExpress 3 = none ∧
      none_.choosePorts.chooseIn 3 (none_.choosePorts.pool 3 false) = none ∧
      none_.choosePorts.chooseIn 3 (none_.choosePorts.pool 3 true) = none) ∧
    (s.allowance 5 = 1 ∧ s.allowance 5 ≤ s.burst s.wheel 5 ∧ State.reset.allowance 63 ≤ State.reset.burst State.reset.wheel 63) := by
  dsimp only; and_intros <;> decide +kernel
/-- Host port HB in a state, its block READY, partition 5 bound to HA. -/
def hostB (st : Nat) : State := (rdy .HIF 1).wr (HIF_PORT_STATE.STATE 1) st
theorem wit_HostPorts :
    let a : Agent := .pf .HA
    let hb (s : State) : State := s.wr (HIF_PORT_STATE.LAST_HB 1) s.mer32
    let map := (hostB 1).setLive (HIF_VF_MAP.PART0 1 3).off (BitVec.ofNat 64 (0x85 * 2 ^ 56))
    let t (n : Nat) : State := ((hostB 1).wr (HIF_CFG.HB_TIMEOUT_MS 1) 1).wr MER_COUNT.COUNT n
    ((hostB 0).portState .HB = 0 ∧ (hostB 0).ready .HIF 1 = true ∧ State.reset.ready .HIF 1 = false) ∧
    ((hostB 1).portState .HB = 1 ∧ (hostB 2).portState .HB = 2 ∧ map.vfPart .HB 31 = some 5 ∧ (hostB 1).vfPart .HB 31 = none) ∧
    ((hb (hostB 1)).portState .HB ≠ 2 ∧ (hb (hostB 2)).portState .HB = 2 ∧ (hostB 1).mayWriteDevice (.vf .HA 0) = false ∧
      (hostB 1).mayWriteDevice a = true) ∧
    (1000 * 1 ≤ merLenUs (t 166).merLen * (((t 166).mer32 + 2 ^ 32 - (t 166).rd (HIF_PORT_STATE.LAST_HB 1)) % 2 ^ 32 + 1) ∧ (t 166).portState .HB = 1 ∧
      merLenUs (t 165).merLen * (((t 165).mer32 + 2 ^ 32 - (t 165).rd (HIF_PORT_STATE.LAST_HB 1)) % 2 ^ 32 + 1) < 1000 * 1 ∧
      (t 166).rd (HIF_CFG.HB_TIMEOUT_MS 1) = 1) := by
  dsimp only; and_intros <;> decide +kernel
theorem wit_Rebinding :

    let s := hostB 1
    (s.anyReady .HIF ∧ s.rebindPending 63 = false ∧ s.portOf 63 = .HA ∧ s.portState .HA ≠ 1 ∧ s.portState .HB = 1) ∧
    (s.pendRebind 63).rebindPending 63 = true ∧ (s.primary = .HA ∧ (s.setPrimary .HB).primary = .HB) ∧
    ((s.wr MER_PHASE.LANDING 1).inLanding = true ∧ s.inLanding = false) := by decide
theorem wit_MsixAndConfig :
    let m (v : Nat) : Msix := { target := 40, part := 5, vector := v }
    let s (v : Nat) : State := { State.reset with hif := { State.reset.hif with msixQueue := [m v], held := [m v] } }
    let g := State.reset.servingFn 5
    let free : State :=
      let u : State := { s 2047 with hif := { (s 2047).hif with unmasked := [(2047, true)], fns := [(0, { busMaster := true, msixEnable := true })] } }
      u.wr (HIF_PORT_STATE.STATE 0) 1
    State.reset.hif.msixQueue = [] ∧ g = 0 ∧ State.reset.portOf 5 = .HA ∧
    (fnVectors g ≤ 2048 ∧ 2047 < fnVectors g ∧ fnVectors 1 ≤ 64 ∧ 63 < fnVectors 1) ∧
    ((s 2047).hif.msixQueue = m 2047 :: [] ∧ (s 2047).hif.held[0]? = some (m 2047) ∧ (s 2047).hif.held[1]? = none) ∧
    (s 2047).msixBlocked .HA 0 2047 = true ∧ free.msixBlocked .HA 0 2047 = false ∧ free.servingFn 5 = 0 ∧
    (State.reset.portState .HB = 0 ∧ (hostB 2).portState .HB ≠ 0) ∧
    ((hostB 1).portUp .HB = true ∧ Port.HB ∉ (hostB 1).hif.timeouts ∧ State.reset.portUp .HB = false) := by
  dsimp only; and_intros <;> decide +kernel
theorem wit_WindowsAndMailboxes :
    let live (s : State) (x : Port) (fn off n : Nat) : Prop :=
      s.portState x ≠ 0 ∧ (s.fn x fn).d3hot = false ∧ off + n ≤ 2 ^ s.barLog2 x fn
    let w := (hostB 1).setLive (HIF_WIN.DPA 1 7).off 0xFFFFFFFFFFFFFFFF
    let p := ((hostB 1).setLive (HIF_WIN.EN 1 0).off (setBits 0 (HIF_WIN.EN 1 0).lo 1 1)).wr (PREFIX_STATUS.READY (blockBase .NBU 0)) 1
    let v := (((hostB 1).setLive (HIF_VF_WIN.EN 1 248).off (setBits 0 (HIF_VF_WIN.EN 1 248).lo 1 1)).wr
      (PREFIX_STATUS.READY (blockBase .NBU 0)) 1).setLive (HIF_VF_MAP.PART0 1 3).off (BitVec.ofNat 64 (0x85 * 2 ^ 56))
    let vg := v.setLive (PRT_PCS.STACK_EVEN 5 0).off 1
    let doe : State := { (hostB 1).wr VES_STATE.STEP 6 with hif := { (hostB 1).hif with doe := [{ port := .HB, kind := 1, len := 1 }] } }
    live (hostB 1) .HB 0 (2 ^ 34 - 8) 8 ∧ ¬ live (hostB 1) .HB 0 (2 ^ 34 - 8) 9 ∧ (hostB 1).window .HB 0 0 = none ∧
    (w.window .HB 0 (2 ^ 34 - 8)).isSome = true ∧ (live v .HB 32 0 8 ∧ (hostB 1).vfPart .HB 31 = none ∧ v.vfPart .HB 31 = some 5) ∧
    (v.window .HB 32 0 = some 0 ∧ v.inGrant 5 0 8 = false ∧ v.vfPart .HB 31 = some 5) ∧
    (vg.window .HB 32 0 = some 0 ∧ vg.inGrant 5 0 8 = true ∧ vg.hostReserved 0 8 = false ∧ vg.vfPart .HB 31 = some 5) ∧
    (p.window .HB 0 0 = some 0 ∧ p.hostReserved 0 8 = false ∧ dpaKind 0 ≠ .record) ∧
    (let r := p.setLive (HIF_WIN.DPA 1 0).off (p.liveReg (HIF_WIN.DPA 1 0).off ||| BitVec.ofNat 64 0x20000000000)
     r.window .HB 0 0 = some 0x20000000000 ∧ r.hostReserved 0x20000000000 8 = false ∧ dpaKind 0x20000000000 = .record) ∧
    (p.accessStatus 0 8 = .ok) ∧ ((hostB 1).portUp .HB = true ∧ ((hostB 1).wr VES_STATE.STEP 6).rd VES_STATE.STEP = 6 ∧
      (hostB 1).hif.doe.any (fun o => o.port == .HB) = false ∧ doe.hif.doe.any (fun o => o.port == .HB) = true) := by
  dsimp only; and_intros <;> decide +kernel

/-! ## Witnesses: the doorbell hall, partitions and maps -/

/-- Target 511 in a state of Table 18-3, the hall READY. -/
def target (st : Nat) : State := (rdy .DBH 0).wr (DBH_T_STATE.STATE 511) st
/-- Its vector's function is masked: the target is blocked; and it has the blocked function's unmasked vector: it is not. -/
def unblocked (st : Nat) : State :=
  let s : State := { target st with hif := { (target st).hif with unmasked := [(0, true)], fns := [(0, { busMaster := true, msixEnable := true })] } }
  s.wr (HIF_PORT_STATE.STATE 0) 1
theorem wit_DoorbellRings :
    let a : Agent := .pf .HA
    let map := (target 0).setLive (HIF_VF_MAP.PART0 1 3).off (BitVec.ofNat 64 (0xBF * 2 ^ 56))
    let src := ((target 0).wr (DBH_SOURCE.ACTIVE 4095) 1).wr (DBH_SOURCE.PART 4095) 63
    ((target 0).ready .DBH 0 = true ∧ (target 0).mayWriteTarget a 511 = true ∧ map.mayWriteTarget (.vf .HB 31) 511 = true ∧
      (target 0).mayWriteTarget (.vf .HB 31) 511 = false ∧ State.reset.ready .DBH 0 = false) ∧
    (wordReserved 0x1000 = false ∧ wordReserved 0x8000000000000000 = false ∧ wordReserved 0x3F0FFF = true) ∧
    ((target 0).on (DBH_SOURCE.ACTIVE 4095) = false ∧ src.on (DBH_SOURCE.ACTIVE 4095) = true ∧ src.rd (DBH_SOURCE.PART 4095) ≠ 62) ∧
    (∀ st ∈ [0, 1, 2], (target st).rd (DBH_T_STATE.STATE 511) = st ∧ (unblocked st).rd (DBH_T_STATE.STATE 511) = st) ∧
    ((target 0).targetBlocked 511 = true ∧ (unblocked 0).targetBlocked 511 = false ∧ (target 0).rd (DBH_T_CFG.KIND 511) = 0) ∧
    (((unblocked 1).wr (DBH_T_IDLE.IDLE 511) 1).on (DBH_T_IDLE.IDLE 511) = true ∧
      ((unblocked 1).wr (DBH_T_IDLE.IDLE 511) 1).targetBlocked 511 = false ∧ (unblocked 1).on (DBH_T_IDLE.IDLE 511) = false) := by
  dsimp only; and_intros <;> decide +kernel
theorem wit_DoorbellTargets :
    let a : Agent := .pf .HA
    let p := (target 2).setReg (DBH_T_PENDING.BITS 511 63).off 3
    let run (st : Nat) : State := (target st).setTimer 511 true
    (p.ready .DBH 0 = true ∧ p.mayWriteTarget a 511 = true ∧ p.reg (DBH_T_PENDING.BITS 511 63).off &&& ~~~(1 : Word) ≠ 0 ∧
      p.reg (DBH_T_PENDING.BITS 511 63).off &&& ~~~(3 : Word) = 0) ∧ (target 2).mayWriteTarget (.vf .HB 31) 511 = false ∧
    (((unblocked 2).wr (DBH_T_IDLE.IDLE 511) (b01 true)).rd (DBH_T_STATE.STATE 511) = 2 ∧
      ((unblocked 2).wr (DBH_T_IDLE.IDLE 511) (b01 true)).targetBlocked 511 = false) ∧
    ((target 1).timerRuns 511 = false ∧ ∀ st ∈ [0, 1, 2], (run st).timerRuns 511 = true ∧ (run st).rd (DBH_T_STATE.STATE 511) = st) ∧
    (((unblocked 2).setTimer 511 true).targetBlocked 511 = false ∧ (run 2).targetBlocked 511 = true) ∧
    ((unblocked 2).rd (DBH_T_STATE.STATE 511) = 2 ∧ (unblocked 2).timerRuns 511 = false) := by
  dsimp only; and_intros <;> decide +kernel

/-- A state whose register table lists these words as 0, before the others. -/
def zeros (keys : List Nat) (s : State) : State := { s with regs := keys.map (fun k => (k, 0)) ++ s.regs }
theorem zeros_reg (keys : List Nat) (s : State) (k : Nat) (h : k ∈ keys) : (zeros keys s).reg k = 0 := by
  simp only [State.reg, Tab.get]
  rw [show (zeros keys s).regs = keys.map (fun k => (k, (0 : Word))) ++ s.regs from rfl,
    find_append _ _ _ _ (find_map_const (fun k => k) 0 keys k h)]
  rfl
def heliostatKeys : List Nat :=
  (List.range 1024).map (fun h => (HEL_TRIG_W8.VALID h).off) ++ (List.range 1024).map (fun h => (HEL_OUT_W0.VALID h).off) ++
    (List.range 1024).map (fun h => (HEL_IN_W0.VALID h).off)
/-- Partition 5 is DRAINING and every drain condition is met. -/
def drained : State := ((grantBays State.reset).wr (PRT_ROLE.DRAINING 5) 1).wr MER_PHASE.LANDING 1
def still : State := zeros heliostatKeys drained
theorem recF_empty (s : State) (h : s.mem = []) (i : Nat) (f : RecField) : s.recF i f = 0 := by
  have b : ∀ a, s.byte a = 0 := by intro a; simp only [State.byte, h]; rfl
  simp only [State.recF, State.recWord, State.word, State.num, State.bytes, leNat, b]
  simp [getBits]
theorem helEmpty_of (s : State) (p : Nat) (w : s.hel.wrs = []) (f : s.hel.fired = [])
    (h : ∀ i, i < 1024 → s.on (HEL_TRIG_W8.VALID i) = false ∧ s.on (HEL_OUT_W0.VALID i) = false ∧ s.on (HEL_IN_W0.VALID i) = false) :
    s.helEmpty p = true := by
  have a : s.armedSlots = [] := by
    unfold State.armedSlots
    refine List.filter_eq_nil_iff.2 (fun i hi => ?_)
    simp only [State.trigUsed, (h i (List.mem_range.1 hi)).1]
    decide
  have b (inb : Bool) : allBelow 1024 (fun h => !s.on (hoValid inb h) || s.rd (hoPart inb h) != p) = true := by
    unfold allBelow firstBelow
    rw [firstFrom_none _ 1024 0 (fun i hi => by
      have : s.on (hoValid inb i) = false := by
        cases inb
        · exact (h i (by omega)).2.1
        · exact (h i (by omega)).2.2
      simp only [this]; rfl)]
    rfl
  simp [State.helEmpty, w, f, a, b]
theorem still_reg (k : Nat) (h : k ∈ heliostatKeys) : still.reg k = 0 := zeros_reg _ _ _ h
theorem still_on (i : Nat) (hi : i < 1024) : still.on (HEL_TRIG_W8.VALID i) = false ∧ still.on (HEL_OUT_W0.VALID i) = false ∧
    still.on (HEL_IN_W0.VALID i) = false := by
  have r := List.mem_range.2 hi
  have t : still.reg (HEL_TRIG_W8.VALID i).off = 0 := still_reg _
    (List.mem_append_left _ (List.mem_append_left _ (List.mem_map_of_mem r)))
  have o : still.reg (HEL_OUT_W0.VALID i).off = 0 := still_reg _
    (List.mem_append_left _ (List.mem_append_right _ (List.mem_map_of_mem r)))
  have n : still.reg (HEL_IN_W0.VALID i).off = 0 := still_reg _ (List.mem_append_right _ (List.mem_map_of_mem r))
  simp [State.on, State.rd, HEL_TRIG_W8.VALID, HEL_OUT_W0.VALID, HEL_IN_W0.VALID] at t o n ⊢
  simp [t, o, n, getBits]
theorem wit_RoleChanges :
    let a : Agent := .pf .HA
    let s := rdy .PRT 5
    let d := s.wr (PRT_ROLE.DRAINING 5) 1
    let l := (d.wr (PRT_ROLE_CFG.DRAIN_LIMIT 5) 1).wr MER_PHASE.LANDING 1
    (s.ready .PRT 5 = true ∧ s.mayWriteDevice a = true ∧ s.on (PRT_ROLE.DRAINING 5) = false ∧ s.role 5 = 0 ∧
      s.mayWriteDevice (.vf .HA 0) = false) ∧ (d.on (PRT_ROLE.DRAINING 5) = true ∧ d.ready .PRT 5 = true) ∧
    (l.inLanding = true ∧ l.rd (PRT_ROLE_CFG.DRAIN_LIMIT 5) ≠ 0 ∧
      Tab.get (fun _ => 0) l.prt.drainFrom 5 + l.rd (PRT_ROLE_CFG.DRAIN_LIMIT 5) ≤ l.mer + 1) := by
  dsimp only; and_intros <;> decide +kernel
/-- Partition 5's batch still runs: the first drain condition fails. -/
theorem wit_RoleChanges_unmet : (withBatch drained [aBatch]).noBatches 5 = false := by decide +kernel
theorem drainUnmet_ne (s : State) (p : Nat) (h : s.noBatches p = false) : s.drainUnmet p ≠ 0 := by
  simp only [State.drainUnmet, h, Bool.not_false, b01]
  simp
theorem drainUnmet_zero (s : State) (m : s.mem = []) (w : s.hel.wrs = []) (f : s.hel.fired = []) (b : s.cat.batches = [])
    (i : s.tp.inMsgs = []) (e : s.stwEmpty 5 = true) (g : s.galsQuiet 5 = true)
    (h : ∀ i, i < 1024 → s.on (HEL_TRIG_W8.VALID i) = false ∧ s.on (HEL_OUT_W0.VALID i) = false ∧ s.on (HEL_IN_W0.VALID i) = false) :
    s.drainUnmet 5 = 0 := by
  have r : s.recordsRest 5 = true := by
    unfold State.recordsRest
    refine List.all_eq_true.2 (fun i _ => ?_)
    rw [recF_empty s m i Rec.PART]; rfl
  have n : s.noBatches 5 = true := by simp [State.noBatches, b]
  simp only [State.drainUnmet, r, helEmpty_of s 5 w f h, n, e, g, i]
  rfl
theorem wit_RoleChanges_met : still.drainUnmet 5 = 0 :=
  drainUnmet_zero still (by decide +kernel) (by decide +kernel) (by decide +kernel) (by decide +kernel) (by decide +kernel)
    (by decide +kernel) (by decide +kernel) still_on
theorem wit_RoleChanges_due : still.inLanding = true ∧ still.on (PRT_ROLE.DRAINING 5) = true := by decide +kernel
/-- A map image at DPA 0x100000 of epoch 2 for node 0, with no anchor slots and no barriers. -/
def imageMem (s : State) : State :=
  let s : State := { s with prt := { s.prt with loadFrom := 0x100000 } }
  ((s.setWord 0x100000 0x216203A90).setWord 0x108000 3).wr (PRT_MAP_STATUS.BUSY 0) 1
theorem wit_SystemMaps :
    let a : Agent := .pf .HA
    let s := rdy .PRT 63
    let busy := s.wr (PRT_MAP_STATUS.BUSY 0) 1
    let i := imageMem s
    let st (s : State) : Status := s.mapCheck (s.mapImage s.prt.loadFrom) (s.accessStatus s.prt.loadFrom mapBytes)
    let gone : State := { i with prt := { i.prt with loadFrom := 0x1F000000000 } }
    let due : State := { (s.wr MER_PHASE.LANDING 1).wr (PRT_MAP_STATUS.STAGED 0) 1 with prt := { s.prt with staged := [(0, 0x90)] } }
    let past := ((s.wr MER_PHASE.LANDING 1).wr (PRT_MAP_STATUS.PREV_VALID 0) 1).wr MER_PHASE.CYCLE (lenBudget s.merLen + 64)
    let sweep := s.wr (PRT_ANCH_COPY.BUSY 0) 1
    let waits : State := { sweep with tp := { sweep.tp with reqs := [aReq 0x24 .sweep] } }
    (s.ready .PRT 63 = true ∧ s.mayWriteDevice a = true ∧ s.on (PRT_MAP_STATUS.BUSY 0) = false ∧ busy.on (PRT_MAP_STATUS.BUSY 0) = true ∧
      busy.ready .PRT 63 = true) ∧
    (i.on (PRT_MAP_STATUS.BUSY 0) = true ∧ st i = .ok) ∧ (gone.on (PRT_MAP_STATUS.BUSY 0) = true ∧ st gone ≠ .ok) ∧
    (i.accessStatus 0x100000 mapBytes = .ok ∧ mapOk (i.mapImage 0x100000) i.nodeId = true ∧ mapOk (s.mapImage 0x100000) s.nodeId = false ∧
      (i.wr (PRT_MAP_STATUS.CUR_EPOCH 0) 2).mapCurrent = true ∧ mapEpoch (i.mapImage 0x100000) = 2 ∧ nextEpoch 2 ≠ 2 ∧ nextEpoch 1 = 2) ∧
    (due.inLanding = true ∧ due.on (PRT_MAP_STATUS.STAGED 0) = true ∧ mapSwitchAt due.prt.staged ≤ due.mer + 1 ∧ due.prevMap = false ∧
      s.inLanding = false) ∧
    (past.inLanding = true ∧ lenBudget past.merLen + 64 ≤ past.cycle ∧ past.prevMap = true ∧ past.prt.prevUntil ≤ past.mer) ∧
    (s.on (PRT_ANCH_COPY.BUSY 0) = false ∧ sweep.on (PRT_ANCH_COPY.BUSY 0) = true ∧ (∀ r ∈ sweep.tp.reqs, r.owner ≠ .sweep) ∧
      ∃ r ∈ waits.tp.reqs, r.owner = .sweep) := by
  dsimp only; and_intros <;> decide +kernel

/-! ## Witnesses: the vestibule -/

/-- The vestibule READY, with these items in its queue. -/
def ves (q : List VesItem) : State := { rdy .VES 0 with ves := { State.reset.ves with queue := q } }
theorem wit_VestibuleCommands :
    let a : Agent := .pf .HA
    let s := ves []
    let own (n : Nat) : State := { s with ves := { s.ves with owner := some 0, enrolSerial := n } }
    (a = .pf s.primary ∧ s.ready .VES 0 = true ∧ s.vesCmdRuns = false ∧ s.ves.update.phase = .idle) ∧
    ((ves [.cmd a 7 0 0 0]).vesCmdRuns = true ∧ a = .pf (ves [.cmd a 7 0 0 0]).primary) ∧ Agent.pf .HB ≠ .pf s.primary ∧
    ((63 : Nat) % 64 ≠ 0 ∧ s.accessStatus 0 1 = .ok ∧ s.ves.owner = none) ∧
    ((own 0xFFFFFFFFFFFFFFFE).accessStatus 0 1 = .ok ∧ (own 0).ves.owner.isSome = true ∧
      (own 0xFFFFFFFFFFFFFFFE).ves.enrolSerial < 0xFFFFFFFFFFFFFFFF ∧ 5 ≤ (own 5).ves.enrolSerial) := by
  dsimp only; and_intros <;> decide +kernel
/-- A firmware image of component 6 at DPA 0x100000, of 3,512 bytes and SVN 1. -/
def fwMem (s : State) : State := ((s.setWord 0x100000 0x61F11620F1A5).setWord 0x100000 0x00060001_1620F1A5).setWord 0x100008 8 |>.setWord 0x100010 1
theorem wit_FirmwareImages :
    let a : Agent := .pf .HA
    let q : VesItem := .cmd a 1 6 0x100000 3512
    let s := fwMem (ves [q])
    let rd := s.imageAt 0x100000
    let hi := s.setComp 6 { s.comp 6 with floor := 2 }
    let rev : State := { s with ves := { s.ves with revoked := 1 } }
    let act (x : VesItem) : State := { ves [x] with ves := { (ves [x]).ves with activating := some 6 } }
    (fwHeaderOk (State.reset.imageAt 0) 3512 6 = false ∧ fwHeaderOk rd 3512 6 = true ∧ (fwImage rd).svn = 1) ∧
    ((fwImage (hi.imageAt 0x100000)).svn < (hi.comp 6).floor ∧ (s.comp 6).floor ≤ (fwImage rd).svn ∧ s.keysLive (fwImage rd) = true ∧
      rev.keysLive (fwImage rd) = false) ∧
    (s.ves.queue = q :: [] ∧ s.ready .VES 0 = true ∧ s.accessStatus 0x100000 3512 = .ok ∧ s.fwDetail rd 3512 6 0 = 1 ∧
      s.fwDetail rd 3512 6 3 = 1 ∧ s.fwDetail rd 3512 6 1 ≠ 1) ∧ (ves []).ves.queue = [] ∧ (ves []).ves.activating = none ∧
    ((act q).ves.activating = some 6 ∧ (act q).ves.queue = q :: [] ∧ (act (.pldm 0)).ves.queue = .pldm 0 :: []) := by
  dsimp only; and_intros <;> decide +kernel
/-- The vestibule READY, with these SPDM sessions and fabric roots that wait. -/
def spdm (l : List Session) : State := { rdy .VES 0 with ves := { State.reset.ves with sessions := l } }
theorem wit_SpdmRequests :
    let e : Session := { path := SpdmPath.i3c.num }
    ((spdm []).spdmTurn .i3c 1 = true ∧ (spdm []).ves.sessions.length < 4 ∧ (spdm [e, e, e]).ves.sessions.length < 4 ∧
      (spdm [e, e, e, e]).spdmTurn .i3c 1 = true ∧ 4 ≤ (spdm [e, e, e, e]).ves.sessions.length) ∧
    State.reset.spdmTurn .i3c 1 = false ∧ ((spdm []).spdmTurn (.vdm .HB) 1 = false) ∧
    (let s : State := { ves [.doe .HB] with hif := { State.reset.hif with doe := [{ port := .HB, kind := 1, len := 1 }] } }
     s.spdmTurn (.doe .HB) 1 = true ∧ s.spdmTurn (.doe .HB) 2 = false) := by
  dsimp only; and_intros <;> decide +kernel
theorem wit_SpdmSessions :
    let o : OwnerRoot := 1
    let e (f : Bool) (c : Option OwnerRoot) : Session := { path := SpdmPath.i3c.num, finished := f, chain := c }
    let s (f : Bool) (c : Option OwnerRoot) : State := spdm [e true none, e true none, e true none, e f c]
    let owned (x : OwnerRoot) : State := { s true (some o) with ves := { (s true (some o)).ves with owner := some x } }
    let roots (n : Nat) : State := { spdm [] with ves := { (spdm []).ves with roots := [(n, 0)] } }
    (∀ f ∈ [true, false], (s f (some o)).spdmTurn .i3c 2 = true ∧ (s f (some o)).ves.sessions[3]? = some (e f (some o)) ∧
      (e f (some o)).path = SpdmPath.i3c.num) ∧
    ((spdm []).spdmTurn .i3c 2 = true ∧ (spdm []).ves.sessions[3]? = none) ∧ State.reset.spdmTurn .i3c 2 = false ∧
    ((e true (some o)).finished = true ∧ (e true (some o)).chain.isSome = true ∧ (s true (some o)).ves.owner = none ∧
      (e true (some o)).chain = some o) ∧
    ((owned o).ves.owner.isSome = true ∧ (e true (some o)).chain = (owned o).ves.owner ∧ (owned o).rd VES_STATE.FKR_CUR = 0 ∧
      (owned o).spdmTurn .i3c 2 = true) ∧ (e true (some o)).chain ≠ (owned 2).ves.owner ∧
    ((spdm []).ves.roots.find? (fun r => decide (r.2 ≤ (spdm []).mer)) = none) ∧
    ((roots 65535).ves.roots.find? (fun r => decide (r.2 ≤ (roots 65535).mer)) = some (65535, 0) ∧
      (roots 65535).rd VES_STATE.FKR_CUR < 65535 ∧ (roots 0).ves.roots.find? (fun r => decide (r.2 ≤ (roots 0).mer)) = some (0, 0)) := by
  dsimp only; and_intros <;> decide +kernel

/-! ## Witnesses: power, bring-up and resets -/

def atr (a : AtrPart) : State := { State.reset with atr := a }
theorem wit_PowerEvents :
    let a := State.reset.atr
    (State.reset.powered = true ∧ a.inputValid = true ∧ a.powering = true ∧ a.rails = 9 ∧ a.disabled = false ∧ a.tripped = false) ∧
    ((atr { a with inputValid := false }).atr.inputValid = false) ∧
    ((atr { a with rails := 0 }).atr.rails < 8 ∧ (atr { a with rails := 7 }).atr.rails < 8 ∧ (atr { a with rails := 8 }).atr.rails = 8 ∧
      (atr { a with rails := 8 }).powered = false) ∧
    ((atr { a with retryDue := true }).atr.retryDue = true ∧ (atr { a with disabled := true }).atr.disabled = true) ∧
    (110 ≤ (110 : BitVec 8).toNat ∧ (119 : BitVec 8).toNat < 120 ∧ (50999 : BitVec 16).toNat < 51000 ∧ 59000 < (59001 : BitVec 16).toNat) ∧
    (State.reset.rd ATR_PWR_CFG.WARN_W < (2047 : BitVec 11).toNat ∧ (0 : BitVec 11).toNat ≤ State.reset.rd ATR_PWR_CFG.WARN_W) ∧
    (Tab.get (fun _ => 2) a.phases 8 = 2 ∧ Tab.get (fun _ => 2) (atr { a with phases := [(8, 0)] }).atr.phases 8 = 0) := by
  dsimp only; and_intros <;> decide
theorem wit_ModuleStarts :
    let a := State.reset.atr
    let step (n : Nat) : State := State.reset.wr VES_STATE.STEP n
    let warm (b : Bool) : State := atr { a with warm := some b }
    ((atr { a with rails := 8 }).powered = false ∧ (step 0).powered = true ∧ (step 0).atr.warm = none ∧
      ∀ n ∈ [0, 1, 6, 7], (step n).rd VES_STATE.STEP = n) ∧
    ((warm true).atr.warm = some true ∧ (warm true).quiet = true ∧ (warm true).powered = true) ∧
    ((step 6).booted = true ∧ (step 6).isHeld .GAL 15 = false ∧ 15 < readyInsts .GAL ∧ readyInsts .PRT = 1 ∧
      (step 6).isHeld .PRT 0 = false ∧ (step 6).ready .PRT 0 = false ∧ State.reset.booted = false) ∧
    (dpaKind 0 = .hbm ∧ dpaKind 0x20000000000 ≠ .hbm ∧ dpaKind 0x800000000000 = .host .HA ∧ dpaKind 0xFFFFFFFFFFFF = .host .HB) := by
  dsimp only; and_intros <;> decide +kernel
/-- The supervisor's block READY, and an image in core 0. -/
def supervisor : State :=
  let s := rdy .ATR 0
  { s with larty := { s.larty with installed := [(0x20, { present := true, codeWords := 1 })] } }
theorem wit_Resets :
    let a : Agent := .pf .HA
    let s := supervisor
    let asked (q : Option Nat) : State := { s with atr := { s.atr with ctxResets := [(cr.key, q)] } }
    let part : State := { s with atr := { s.atr with partResets := [5] } }
    let warm : State := { s with atr := { s.atr with warm := some false } }
    (s.ready .ATR 0 = true ∧ a = .pf s.primary ∧ Agent.pf .HB ≠ .pf s.primary ∧ s.portOf 5 = .HA) ∧
    (ctxOf 0x1F 0 = none ∧ ctxOf 0x20 0 = some cr ∧ s.unitInService cr.unit = true ∧ (s.installedImage cr.unit).present = true ∧
      s.absorbed cr = false ∧ s.ctxResetting cr = false ∧ (s.installedImage 0x21).present = false) ∧
    (let b := { inPart s with atr := part.atr }
     b.absorbed bg = true ∧ b.unitInService bg.unit = true) ∧
    (s.atr.ctxResets.find? (fun r => r.1 == cr.key) = none ∧ (asked none).atr.ctxResets.find? (fun r => r.1 == cr.key) = some (cr.key, none) ∧
      (asked (some 5)).atr.ctxResets.find? (fun r => r.1 == cr.key) = some (cr.key, some 5)) ∧
    (cr.critical = true ∧ (asked none).inLanding = false ∧ ((asked none).slice cr.unit).isOpen = false ∧
      ((asked none).wr MER_PHASE.LANDING 1).inLanding = true) ∧
    (5 ∈ part.atr.partResets ∧ 5 ∉ s.atr.partResets ∧ 5 ∉ s.atr.partRunning ∧ (part.wr MER_PHASE.LANDING 1).inLanding = true) ∧
    (s.atr.warm = none ∧ warm.atr.warm.isSome = true ∧ (0x1621 : BitVec 16) ≠ 0x1620) := by
  dsimp only; and_intros <;> decide +kernel

/-! ## Witnesses: faults, health and spares -/

theorem wit_FaultRecording :
    let r : Report := { cls := 5, sev := 1, blk := 8 }
    let e : FoldEntry := ⟨r.cls, r.blk, r.inst, r.unit, r.status, 0, 65535⟩
    let s : State := (({ State.reset with flt := { State.reset.flt with fold := [e] } } : State).wr FLT_FOLD.MERIDIANS 1)
    let q (n : Nat) : State := { State.reset with flt := { State.reset.flt with queue := List.replicate n ⟨r, 0, 0, 0⟩ } }
    (r.legal = true ∧ ({ cls := 15, blk := 0 } : Report).legal = false ∧ State.reset.flt.inbound = []) ∧
    (s.foldOf r = some e ∧ s.mer - e.meridian < s.rd FLT_FOLD.MERIDIANS ∧
      ¬ (s.wr MER_COUNT.COUNT 1).mer - e.meridian < (s.wr MER_COUNT.COUNT 1).rd FLT_FOLD.MERIDIANS ∧ State.reset.foldOf r = none) ∧
    ((q 63).flt.queue ≠ [] ∧ (q 63).flt.queue.length < 64 ∧ 64 ≤ (q 64).flt.queue.length ∧ State.reset.fltRoom = false) ∧
    ((99 : BitVec 8).toNat < 100 ∧ (109 : BitVec 8).toNat < 110 ∧ 110 ≤ (110 : BitVec 8).toNat) := by
  dsimp only; and_intros <;> decide +kernel
theorem wit_HealthCommands :
    let a : Agent := .pf .HA
    let st (n : Nat) : State := (rdy .FLT 0).wr FLT_HEALTH.STATE n
    let calm (s : State) : Prop := s.rd FLT_LATE_SELF.ACC < s.rd FLT_LATE_CFG.LATE_SUSPECT ∧ s.rd FLT_ERR.ACC < s.rd FLT_ERR_CFG.ERR_SUSPECT
    let loud := (st 2).wr FLT_ERR_CFG.ERR_SUSPECT 0
    ((st 0).ready .FLT 0 = true ∧ a = .pf (st 0).primary ∧ Agent.pf .HB ≠ .pf (st 0).primary) ∧
    (∀ n ∈ [0, 1, 2, 3], (st n).rd FLT_HEALTH.STATE = n) ∧ calm (st 2) ∧ ¬ calm loud ∧
    ((st 0).on (NWL_C_STATE.IN_SERVICE 0) = true ∧ (st 0).on (NWL_C_STATE.IN_SERVICE 7) = false) ∧
    (((st 0).wr MER_PHASE.LANDING 1).inLanding = true ∧ (st 0).inLanding = false) := by
  dsimp only; and_intros <;> decide +kernel
theorem wit_SpareTests :
    let t := ((State.reset.wr (GAL_BAYMAP.SPARE_STATE 15) 3).wr (NBU_PCMAP.SPARE_STATE 7) 1).setPass 7 true
    (State.reset.spareIdle 1 15 = true ∧ State.reset.spareIdle 2 7 = true ∧ State.reset.spareIdle 7 8 = true ∧
      State.reset.spareIdle 7 9 = false ∧ State.reset.spareIdle 1 16 = false) ∧
    (t.testing 1 15 = true ∧ t.testing 2 7 = true ∧ t.testing 7 8 = true ∧ State.reset.testing 1 15 = false) := by
  dsimp only; and_intros <;> decide +kernel

/-! ## Witnesses: the photometer, the debug paths and management -/

theorem wit_SamplesAndTraces :
    let s := (rdy .PHO 0).wr MER_PHASE.LANDING 1
    let p := s.wr PHO_SAMPLE_CFG.PERIOD 1
    let i (s : State) : State := { s with pho := { s.pho with samplePass := some 16383 } }
    let tr (n m : Nat) : State :=
      let u : State := { s with pho := { s.pho with trace := [(1, 2)] } }
      (u.wr PHO_TRACE_SIZE.ENTRIES n).wr PHO_TRACE_CFG.MODE m
    (s.inLanding = true ∧ s.pho.sampledAt ≠ s.mer + 1 ∧ (rdy .PHO 0).inLanding = false) ∧
    (¬ (0 < s.rd PHO_SAMPLE_CFG.PERIOD) ∧ s.pho.samplePass = none ∧ 0 < p.rd PHO_SAMPLE_CFG.PERIOD ∧
      p.mer % p.rd PHO_SAMPLE_CFG.PERIOD = 0 ∧ (i s).pho.samplePass = some 16383 ∧ (i p).pho.samplePass = some 16383) ∧
    (s.pho.trace = [] ∧ (tr 0 0).pho.trace = (1, 2) :: [] ∧ (tr 0 0).rd PHO_TRACE_SIZE.ENTRIES = 0 ∧
      roomIn 16 ((tr 16 0).rd PHO_TRACE_TAIL.INDEX) ((tr 16 0).rd PHO_TRACE_HEAD.INDEX) = true) ∧
    (∀ m ∈ [0, 1], let f := (tr 16 m).wr PHO_TRACE_TAIL.INDEX 16
      roomIn 16 (f.rd PHO_TRACE_TAIL.INDEX) (f.rd PHO_TRACE_HEAD.INDEX) = false ∧ f.on PHO_TRACE_CFG.MODE = (m == 1)) ∧
    (s.primary = .HA ∧ s.ready .PHO 0 = true) := by
  dsimp only; and_intros <;> decide +kernel
/-- The photometer READY, its BAR0 debug path used before, and a context in a state. -/
def debug (c : LCtx) (st : CtxState) : State :=
  let s := rdy .PHO 0
  { s with larty := { s.larty with ctxs := [(c.key, { state := st })] }, ves := { s.ves with debugPaths := [0] } }
theorem wit_DebugPaths :
    let t (s : State) : State := s.notePath (.pf .HA) 0
    let d (w : Bool) (a : Nat) : DbgAccess := ⟨0, w, a⟩
    let acc (x : DbgAccess) : State := { debug bg .debug with pho := { (debug bg .debug).pho with dbg := [x] } }
    let wait : State := (debug bg .waiting).modCtx bg (fun c => { c with wait := .access })
    let sel (f i : Nat) : State := (((debug bg .debug).wr PHO_REG_SEL.UNIT 0x20).wr PHO_REG_SEL.CTX 1).wr PHO_REG_SEL.FILE f |>.wr
      PHO_REG_SEL.INDEX i
    ((debug bg .running).primary = .HA ∧ (debug bg .running).ready .PHO 0 = true) ∧
    ((t (debug bg .running)).rd PHO_DBG_STATUS.BUSY ≠ 1 ∧ (t ((debug bg .running).wr PHO_DBG_STATUS.BUSY 1)).rd PHO_DBG_STATUS.BUSY = 1) ∧
    (State.reset.pho.dbg.find? (fun d => d.path == 0) = none ∧
      (acc (d false 0x20000000000)).pho.dbg.find? (fun d => d.path == 0) = some (d false 0x20000000000) ∧
      dpaKind 0x20000000000 ≠ .hbm ∧ (acc (d true 0)).pcHeld (dpaStack 0) (dpaPc 0) = false) ∧
    (debugReaches 0x200001FFFF8 = true ∧ (acc (d false 0)).accessStatus 0x200001FFFF8 8 = .ok) ∧
    (ctxOf 0x28 0 = none ∧ ctxOf 0x20 1 = some bg ∧ (t (debug bg .running)).unitInService 0x20 = true) ∧
    (∀ st ∈ [CtxState.running, .waiting, .debug, .stopped, .faulted], ((t (debug bg st)).ctx bg).state = st ∧
      ((t (debug bg st)).ctx bg).waitsRemote = false) ∧
    (((t wait).ctx bg).state = .waiting ∧ ((t wait).ctx bg).waitsRemote = true) ∧
    ((((debug bg .waiting).modCtx bg (fun c => { c with stopPending := true })).ctx bg).stopPending = true) ∧
    (∀ f ∈ [0, 1, 2, 4, 5], regFileSize f - 1 < regFileSize f ∧ (t (sel f 0)).rd PHO_REG_SEL.FILE = f) ∧
    (ctxOf ((t (sel 0 31)).rd PHO_REG_SEL.UNIT) ((t (sel 0 31)).rd PHO_REG_SEL.CTX) = some bg ∧ ((t (sel 0 31)).ctx bg).state = .debug ∧
      (t (sel 0 31)).rd PHO_REG_SEL.INDEX < regFileSize 0 ∧ regFileSize 1 ≤ (t (sel 1 8)).rd PHO_REG_SEL.INDEX) ∧
    ((State.reset.wr VES_DEBUG.J7_EN 1).on VES_DEBUG.J7_EN = true ∧ 0x60 ≤ (0x60 : BitVec 16).toNat ∧ (0x98 : BitVec 16).toNat ≤ 0x98 ∧
      State.reset.on VES_DEBUG.J7_EN = false) := by
  dsimp only; and_intros <;> decide +kernel
theorem wit_ManagementRequests :
    ((rdy .VES 0).served .i3c = true ∧ State.reset.served .i3c = false ∧ (rdy .VES 0).served (.vdm .HB) = false) ∧
    (pldmCommands (0 : BitVec 6).toNat).isSome = true ∧ pldmCommands (63 : BitVec 6).toNat = none ∧
    ((1 : BitVec 16).toNat = 1 ∧ (14 : BitVec 16).toNat ≤ 14 ∧ (65535 : BitVec 16).toNat > 21) := by decide
theorem wit_ManagementCommands :
    let o : OwnerRoot := 1
    let s : State := { rdy .VES 0 with ves := { State.reset.ves with owner := some o,
                                                                       sessions := [{ path := 4, finished := true, chain := some o }] } }
    let r : State := { rdy .VES 0 with mgmt := { State.reset.mgmt with receiver := some (.i3c, 255) } }
    s.served .i3c = true ∧ s.ownerSession .i3c 0 = true ∧ s.ownerSession .i3c 3 = false ∧ s.atr.warm = none ∧
    (r.mgmt.receiver = some (.i3c, 255) ∧ (r.wr FLT_HEALTH.STATE 3).shows 19 ≠ Tab.get (fun _ => 0) (r.wr FLT_HEALTH.STATE 3).mgmt.shown 19 ∧
      r.shows 19 = Tab.get (fun _ => 0) r.mgmt.shown 19 ∧ r.served .i3c = true) := by
  dsimp only; and_intros <;> decide +kernel
/-- The vestibule READY, with an update where it stands. -/
def updating (u : PldmUpdate) : State := { rdy .VES 0 with ves := { State.reset.ves with update := u } }
/-- An image of component 6: its header, 8 bytes and its signatures. -/
def pldmImage : Bytes := leBytes 8 0x00060001_1620F1A5 ++ leBytes 8 8 ++ List.replicate 3496 0
theorem wit_FirmwareUpdates :
    let u (p : UpdatePhase) : PldmUpdate := { phase := p, maxXfer := 4096, table := [6], comp := 6, size := 3512 }
    let s (p : UpdatePhase) : State := updating (u p)
    let got : PldmUpdate := { u .transferred with image := pldmImage }
    let whole : PldmUpdate := { u .download with image := pldmImage }
    let op : State := { s .idle with ves := { (s .idle).ves with queue := [.cmd (.pf .HA) 2 6 0 0] } }
    (∀ p ∈ [UpdatePhase.idle, .learn, .ready, .download, .transferred, .verified, .activate], (s p).ves.update.phase = p ∧
      (s p).served .i3c = true) ∧
    ((s .idle).fwCmdRuns = false ∧ op.fwCmdRuns = true ∧ op.served .i3c = true ∧ (s .learn).updatable 6 = true) ∧
    (6 ∈ (u .ready).table ∧ maxFirmware = 16780720 ∧ (u .ready).maxXfer ≠ 0) ∧
    ((u .download).image.length < (u .download).size ∧ pldmImage.length = (u .download).piece) ∧
    (whole.size ≤ whole.image.length) ∧
    ((updating got).fwDetail (imageOf got.image) got.size got.comp 0 = 1 ∧ (updating got).fwDetail (imageOf got.image) got.size got.comp 1 ≠ 1) ∧
    ((u .ready).staged = [] ∧ (s .ready).inRecovery = false ∧ ({ u .ready with staged := [6] } : PldmUpdate).staged ≠ []) := by
  dsimp only; and_intros <;> decide +kernel

/-! ## Witnesses: the whole machine -/

theorem wit_ResetState : (regAt (ATR_ID.DEVICE).off).isSome = true ∧ (regAt 0x3FFFFF8).isNone = true := by decide +kernel
theorem wit_StepKeepsForms : State.reset.Formed ∧ ∃ t, step State.reset = .next t :=
  ⟨⟨by decide, by decide⟩, _, rfl⟩
theorem wit_MemoryLaws : ∃ s : State, Memory.wf s.mem = true ∧ s.byte 7 = 1 := ⟨State.reset.setByte 7 1, by decide, by decide⟩
theorem wit_AddressesAndWords :
    (dpaKind (hbmDpa 7 30 0x47FFFFFF) = .hbm ∧ dpaKind (hbmDpa 7 31 0) = .reserved ∧ dpaKind (hbmDpa 0 0 0) = .hbm) ∧
    gfaNode (gfaOf 16383 63 (2 ^ 44 - 1)) = 16383 ∧ (heldWord 1 1 1 ≠ 0 ∧ inboundWord 1 1 1 2 ≠ 0 ∧
      ownNewer (heldWord 1 1 1) (inboundWord 1 1 1 2) = true) := by decide
theorem wit_NumberFormats :
    (fpValue 0 0 0x7F7FFFFF ≠ .nan ∧ fpValue 1 0 0xFFFF = .nan ∧ fpValue 2 0 0xFBFF ≠ .nan) ∧ (0x7F800001 % 2 ^ 31 > 0x7F800000) ∧
    ((List.range 1024).any (fun c => decide (fpValue 0xA 0 c ≠ .nan)) = true) := by decide +kernel

/-! ## Single steps and the spec's worked examples -/

/-- ADDI of −1 wraps (R86); the destination is its own source. -/
theorem test_addi : ((after (exec (.addi bg { d := 1, a := 1, imm := 0x1FFFFFFFF }) (prog (State.reset.setG bg 1 0) bg 0x19
    { d := 1, a := 1, imm := 0x1FFFFFFFF }))).gReg bg 1) = 0xFFFFFFFFFFFFFFFF := by decide +kernel
/-- The worked device physical address of spec/06 and global fabric address of spec/08 or 14. -/
theorem test_dpa : hbmDpa 5 7 0x2000 = 0x002EF8002000 := by decide
theorem test_gfa : gfaOf 0x135 12 0x402000 = 0x04D4C00000402000 := by decide
/-- The worked KV10 and BF16 codes of spec/05. -/
theorem test_kv10 : encodeKv10 0 (-17) (fpValue 0 0 0x3F600000) = 0x1FC ∧ encodeIeee 1 0 (fpValue 0xA (-17) 0x1FC) = 0x3F60 := by
  decide +kernel

end Sys2Proof.Tests
end

section
/-! The canonical form of memory and of the register tables (`State.Formed`) is kept by every step. One lemma per function of the
model that gives a state, in the model's order; each is assembled from the lemmas of the functions it calls, by the frame
rule for an update of other parts of the state and by the rules for branches and folds. -/

namespace Sys2Proof.Machine

open Sys2Proof

variable {s : State}

/-! ### Rules for updates, branches and folds -/

/-- The frame rule: an update that leaves memory and the register tables alone keeps their form. -/
theorem State.Formed.frame {pending atr ves merp larty stw cat gal nb tp fab orr hel prt flt pho mgmt hif dbhTimer outbox freeCtr}
    (h : s.Formed) : State.Formed { s with
      pending := pending, atr := atr, ves := ves, merp := merp, larty := larty, stw := stw, cat := cat, gal := gal, nb := nb,
      tp := tp, fab := fab, orr := orr, hel := hel, prt := prt, flt := flt, pho := pho, mgmt := mgmt, hif := hif,
      dbhTimer := dbhTimer, outbox := outbox, freeCtr := freeCtr } := h

theorem State.Formed.ite {c : Prop} [Decidable c] {t : State} (hs : s.Formed) (ht : t.Formed) :
    (if c then s else t).Formed := by
  split <;> assumption

theorem State.Formed.foldl {α : Type} {f : State → α → State} {l : List α} (h : s.Formed)
    (hf : ∀ t a, t.Formed → (f t a).Formed) : (l.foldl f s).Formed := by
  induction l generalizing s with
  | nil => exact h
  | cons a l ih => exact ih (hf s a h)

/-- Every state that the option holds is in canonical form. -/
def State.FormedIn (o : Option State) : Prop := ∀ t, o = some t → t.Formed

theorem State.FormedIn.none : State.FormedIn none := fun _ e => nomatch e

theorem State.FormedIn.some (h : s.Formed) : State.FormedIn (some s) := fun _ e => Option.some.inj e ▸ h

theorem State.FormedIn.ite {c : Prop} [Decidable c] {o p : Option State} (ho : State.FormedIn o) (hp : State.FormedIn p) :
    State.FormedIn (if c then o else p) := by
  split <;> assumption

/-- A fold that carries a state and more keeps the form of its state where every turn does. -/
theorem State.Formed.foldl_fst {α β : Type} {f : State × β → α → State × β} {l : List α} {p : State × β} (h : p.1.Formed)
    (hf : ∀ q a, q.1.Formed → (f q a).1.Formed) : (l.foldl f p).1.Formed := by
  induction l generalizing p with
  | nil => exact h
  | cons a l ih => exact ih (hf p a h)

theorem State.FormedIn.map_of {α : Type} {o : Option α} {f : α → State} (h : ∀ a, o = .some a → (f a).Formed) :
    State.FormedIn (o.map f) := by
  intro t e
  obtain ⟨a, ha, rfl⟩ := Option.map_eq_some_iff.1 e
  exact h a ha

theorem State.FormedIn.map {α : Type} {o : Option α} {f : α → State} (h : ∀ a, (f a).Formed) : State.FormedIn (o.map f) :=
  .map_of fun a _ => h a

theorem State.Formed.ite_fst {α : Type} {c : Prop} [Decidable c] {p q : State × α} (hp : p.1.Formed) (hq : q.1.Formed) :
    (if c then p else q).1.Formed := by
  split <;> assumption

theorem State.Formed.ite_snd {α : Type} {c : Prop} [Decidable c] {p q : α × State} (hp : p.2.Formed) (hq : q.2.Formed) :
    (if c then p else q).2.Formed := by
  split <;> assumption

/-! ### Bytes, frames and registers -/

theorem State.Formed.setReg {off w} (h : s.Formed) : (s.setReg off w).Formed :=
  ⟨h.1, Registers.wf_setReg _ _ _ h.2⟩

theorem State.Formed.setLive {off w} (h : s.Formed) : (s.setLive off w).Formed :=
  ⟨h.1, Registers.wf_setLive _ _ _ h.2⟩

theorem State.Formed.setPriv {off agent w} (h : s.Formed) : (s.setPriv off agent w).Formed :=
  ⟨h.1, Registers.wf_setPriv _ _ _ _ h.2⟩

theorem State.Formed.wr {f v} (h : s.Formed) : (s.wr f v).Formed := .ite (.setLive (.setReg h)) (.setReg h)

theorem State.Formed.wrShadow {f v} (h : s.Formed) : (s.wrShadow f v).Formed := .setReg h

theorem State.Formed.add {f n} (h : s.Formed) : (s.add f n).Formed := .wr h

theorem State.Formed.inc {f} (h : s.Formed) : (s.inc f).Formed := .add h

theorem State.Formed.addMod {f n} (h : s.Formed) : (s.addMod f n).Formed := .wr h

theorem State.Formed.wrPriv {agent f v} (h : s.Formed) : (s.wrPriv agent f v).Formed := .setPriv h

theorem State.Formed.countRefused {b inst} (h : s.Formed) : (s.countRefused b inst).Formed := .inc h

theorem State.Formed.free (h : s.Formed) : s.free.2.Formed := .frame h

theorem State.Formed.freeBytes {n} (h : s.Formed) : (s.freeBytes n).2.Formed := .frame h

theorem State.Formed.emit {o} (h : s.Formed) : (s.emit o).Formed := .frame h

theorem State.Formed.setByte {a b} (h : s.Formed) : (s.setByte a b).Formed :=
  ⟨Memory.wf_setByte _ _ _ h.1, h.2⟩

theorem State.Formed.setBytes {a bs} (h : s.Formed) : (s.setBytes a bs).Formed := by
  induction bs generalizing s a with
  | nil => exact h
  | cons b bs ih => exact ih (.setByte h)

theorem State.Formed.setNum {a n v} (h : s.Formed) : (s.setNum a n v).Formed := .setBytes h

theorem State.Formed.setWord {a w} (h : s.Formed) : (s.setWord a w).Formed := .setNum h

theorem State.Formed.copy {src dst n} (h : s.Formed) : (s.copy src dst n).Formed := .setBytes h

theorem State.Formed.setWords {a ws} (h : s.Formed) : (s.setWords a ws).Formed := .setBytes h

/-! ### Words, reports, doorbells and counters -/

theorem State.Formed.setFn {x fn v} (h : s.Formed) : (s.setFn x fn v).Formed := .frame h

theorem State.Formed.countPart {p word n} (h : s.Formed) : (s.countPart p word n).Formed := .add h

theorem State.Formed.issueGive {x} (h : s.Formed) : (s.issueGive x).Formed := .ite h (.frame h)

theorem State.Formed.postReport {r} (h : s.Formed) : (s.postReport r).Formed := .frame h

theorem State.Formed.setTimer {t b} (h : s.Formed) : (s.setTimer t b).Formed := .frame h

theorem State.Formed.giveFromBlock {b unit ctr} (h : s.Formed) : (s.giveFromBlock b unit ctr).Formed :=
  .ite (.issueGive h) (.postReport h)

theorem State.Formed.deliverNewel {t} (h : s.Formed) : (s.deliverNewel t).Formed :=
  .ite (.issueGive h) (.postReport h)

theorem State.Formed.deliverHost {t} (h : s.Formed) : (s.deliverHost t).Formed := .frame h

theorem State.Formed.deliver {t} (h : s.Formed) : (s.deliver t).Formed :=
  .wr (.setTimer (.wr (.inc (.inc (.wr (.ite (.deliverHost h) (.deliverNewel h)))))))

theorem State.Formed.freshRing {t} (h : s.Formed) : (s.freshRing t).Formed :=
  .ite (.ite (.wr h) (.deliver h)) (.ite (.ite (.inc (.deliver h)) (.wr h)) h)

theorem State.Formed.ignoreRing {addr part src reason} (h : s.Formed) : (s.ignoreRing addr part src reason).Formed :=
  .wr (.wr (.wr (.wr (.wr (.inc h)))))

theorem State.Formed.setPendingBit {t src} (h : s.Formed) : (s.setPendingBit t src).Formed :=
  .ite (.inc (.inc h)) (.wr (.wr (.inc h)))

theorem State.Formed.ring {addr reservedZero part src} (h : s.Formed) :
    (s.ring addr reservedZero part src).Formed := by
  unfold State.ring
  split
  exacts [.ignoreRing h, .freshRing (.setPendingBit h)]

theorem State.Formed.notify {part src} (h : s.Formed) : (s.notify part src).Formed := .ring h

theorem State.Formed.notifyIf {en part src} (h : s.Formed) : (s.notifyIf en part src).Formed := .ite (.notify h) h

theorem State.Formed.trace {dev event unit ctx payload} (h : s.Formed) :
    (s.trace dev event unit ctx payload).Formed :=
  .ite h (.ite (.inc h) (.frame h))

theorem State.Formed.traceDev {event unit ctx payload} (h : s.Formed) : (s.traceDev event unit ctx payload).Formed :=
  .ite (.trace h) h

theorem State.Formed.setFold {r e} (h : s.Formed) : (s.setFold r e).Formed := .frame h

theorem State.Formed.foldReport {r} (h : s.Formed) : (s.foldReport r).Formed := by
  unfold State.foldReport
  split
  exacts [.inc (.setFold h), h]

theorem State.Formed.ringFault {r} (h : s.Formed) : (s.ringFault r).Formed := by
  unfold State.ringFault
  extract_lets
  split
  exacts [.notifyIf (.notifyIf h), .notifyIf h]

theorem State.Formed.writeFaultRec {r} (h : s.Formed) : (s.writeFaultRec r).Formed :=
  .ringFault (.addMod (.ite (.inc (.setWords h)) (.inc h)))

theorem State.Formed.setFltLast {ws} (h : s.Formed) : (s.setFltLast ws).Formed := .foldl h (fun _ _ h1 => .setReg h1)

theorem State.Formed.makeRecord {r} (h : s.Formed) : (s.makeRecord r).Formed :=
  have h1 : State.Formed _ := .ite (.setFltLast (.setFold (.frame h))) (.traceDev (.setFltLast (.setFold (.frame h))))
  .ite (.writeFaultRec h1) (.ite (.frame h1) (.inc h1))

theorem State.Formed.recordOne {r} (h : s.Formed) : (s.recordOne r).Formed := .ite (.foldReport h) (.makeRecord h)

theorem State.Formed.settleReports (h : s.Formed) : s.settleReports.Formed :=
  .foldl (.frame h) (fun _ _ h1 => .recordOne h1)

theorem State.Formed.report {r} (h : s.Formed) : (s.report r).Formed := .settleReports (.postReport h)

theorem State.Formed.drainFaults {n} (h : s.Formed) : (s.drainFaults n).Formed := by
  induction n generalizing s with
  | zero => exact h
  | succ n ih =>
    unfold State.drainFaults
    split
    exacts [h, .ite (ih (.writeFaultRec (.frame h))) h]

theorem State.Formed.bell {part src} (h : s.Formed) : (s.bell part src).Formed := .settleReports (.notify h)

theorem State.Formed.bellIf {en part src} (h : s.Formed) : (s.bellIf en part src).Formed := .ite (.bell h) h

theorem State.Formed.noteUe (h : s.Formed) : s.noteUe.Formed := .frame h

theorem State.Formed.noteSub (h : s.Formed) : s.noteSub.Formed := .frame h

theorem State.Formed.noteCe {n} (h : s.Formed) : (s.noteCe n).Formed := .frame h

theorem State.Formed.endTimeout {p} (h : s.Formed) : (s.endTimeout p).Formed := .frame h

theorem State.Formed.noteAccess {write r a n} (h : s.Formed) : (s.noteAccess write r a n).Formed := by
  unfold State.noteAccess
  split
  · exact .report h
  · split
    exacts [.ite (.inc h) (.ite (.endTimeout h) (.inc h)), h]
  · exact h

theorem State.Formed.devWrite {r a bs} (h : s.Formed) : (s.devWrite r a bs).Formed :=
  .ite (.setBytes (.noteAccess h)) (.noteAccess h)

theorem State.Formed.devWriteWords {r a ws} (h : s.Formed) : (s.devWriteWords r a ws).Formed :=
  .ite (.setWords (.noteAccess h)) (.noteAccess h)

theorem State.Formed.requestCommit {b inst} (h : s.Formed) : (s.requestCommit b inst).Formed := .ite (.wr h) h

/-! ### Larty files, contexts, traces and tensor bytes -/

theorem State.Formed.setG {x n w} (h : s.Formed) : (s.setG x n w).Formed := .ite h (.frame h)

theorem State.Formed.setP {x n b} (h : s.Formed) : (s.setP x n b).Formed := .ite h (.frame h)

theorem State.Formed.setT {x n v} (h : s.Formed) : (s.setT x n v).Formed := .frame h

theorem State.Formed.setK {unit n v} (h : s.Formed) : (s.setK unit n v).Formed := .frame h

theorem State.Formed.setC {unit n v} (h : s.Formed) : (s.setC unit n v).Formed := .frame h

theorem State.Formed.setCounter {credit unit n v} (h : s.Formed) : (s.setCounter credit unit n v).Formed :=
  .ite (.setC h) (.setK h)

theorem State.Formed.setCtx {x c} (h : s.Formed) : (s.setCtx x c).Formed := .frame h

theorem State.Formed.modCtx {x f} (h : s.Formed) : (s.modCtx x f).Formed := .setCtx h

theorem State.Formed.setPc {x n} (h : s.Formed) : (s.setPc x n).Formed := .modCtx h

theorem State.Formed.setSlice {unit v} (h : s.Formed) : (s.setSlice unit v).Formed := .frame h

theorem State.Formed.closeSlice {unit} (h : s.Formed) : (s.closeSlice unit).Formed := .setSlice h

theorem State.Formed.markSlice {unit f} (h : s.Formed) : (s.markSlice unit f).Formed := .ite (.setSlice h) h

theorem State.Formed.leaveSlice {x} (h : s.Formed) : (s.leaveSlice x).Formed := .ite (.closeSlice h) h

theorem State.Formed.freeLocal {unit} (h : s.Formed) : (s.freeLocal unit).Formed := .frame h

theorem State.Formed.setLocal {unit off bs} (h : s.Formed) : (s.setLocal unit off bs).Formed := by
  induction bs generalizing s off with
  | nil => exact h
  | cons b bs ih => exact ih (.frame h)

theorem State.Formed.instrFault {x word st} (h : s.Formed) : (s.instrFault x word st).Formed := by
  refine .report ?_
  split
  exacts [.wr (.wr (.wr (.wr (.inc (.leaveSlice (.modCtx h)))))), .leaveSlice (.modCtx h)]

theorem State.Formed.issue {x op f fault eff} (h : s.Formed) (heff : ∀ {t : State}, t.Formed → (eff t).Formed) :
    (s.issue x op f fault eff).Formed := by
  refine .ite h (.ite (.instrFault h) (.ite h (.ite (.instrFault h) ?_)))
  split
  exacts [.instrFault h, .ite (heff (.setPc h)) (.setPc h)]

theorem State.Formed.issueOrWait {x op f fault wait eff} (h : s.Formed) (heff : ∀ {t : State}, t.Formed →
  (eff t).Formed) :
    (s.issueOrWait x op f fault wait eff).Formed :=
  .issue h (fun h1 => .ite h (heff h1))

/-! ### Records -/

theorem State.Formed.setRecWord {i w v} (h : s.Formed) : (s.setRecWord i w v).Formed := .setWord h

theorem State.Formed.setRec {i f v} (h : s.Formed) : (s.setRec i f v).Formed := .setRecWord h

theorem State.Formed.addLcWaiting {p up} (h : s.Formed) : (s.addLcWaiting p up).Formed := .wr h

theorem State.Formed.noteEnded {i} (h : s.Formed) : (s.noteEnded i).Formed :=
  .ite h (.foldl h (fun _ _ h1 => .frame h1))

theorem State.Formed.setRecState {i st} (h : s.Formed) : (s.setRecState i st).Formed :=
  have h1 : State.Formed _ := .ite (.noteEnded (.setRec (.setRec h))) (.setRec (.setRec h))
  .ite (.addLcWaiting h1) (.ite (.addLcWaiting h1) h1)

theorem State.Formed.moveRec {i st status} (h : s.Formed) : (s.moveRec i st status).Formed := .setRec (.setRecState h)

theorem State.Formed.releaseRec {i} (h : s.Formed) : (s.releaseRec i).Formed :=
  .wr (.wr (.noteEnded (.setWords (.ite (.addLcWaiting h) h))))

theorem State.Formed.countRec {i up} (h : s.Formed) : (s.countRec i up).Formed :=
  .ite h (.ite (.addLcWaiting (.wr (.wr h))) (.wr (.wr h)))

theorem State.Formed.pokeRec {a v} (h : s.Formed) : (s.pokeRec a v).Formed := .countRec (.setWord (.countRec h))

/-! ### Commands of a host register -/

theorem State.Formed.whenReady {b inst eff} (h : s.Formed) (heff : ∀ {t : State}, t.Formed → (eff t).Formed) :
    (s.whenReady b inst eff).Formed :=
  .ite (heff h) (.countRefused h)

theorem State.Formed.whenAnyReady {b eff} (h : s.Formed) (heff : ∀ {t : State}, t.Formed → (eff t).Formed) :
    (s.whenAnyReady b eff).Formed :=
  .ite (heff h) (.countRefused h)

theorem State.Formed.refuseWrite {a b inst} (h : s.Formed) : (s.refuseWrite a b inst).Formed := by
  unfold State.refuseWrite
  split
  exacts [.inc h, .countRefused h]

/-! ### Frames, keys and translation -/

theorem State.Formed.setFrame {tier home p} (h : s.Formed) : (s.setFrame tier home p).Formed := .frame h

theorem State.Formed.setEntry {p sp u e} (h : s.Formed) : (s.setEntry p sp u e).Formed := .setWords h

theorem State.Formed.setGroupFld {p g lo len v} (h : s.Formed) : (s.setGroupFld p g lo len v).Formed := .setWord h

theorem State.Formed.setGroupState {p g st} (h : s.Formed) : (s.setGroupState p g st).Formed := .setGroupFld h

theorem State.Formed.addInUse {p slot up} (h : s.Formed) : (s.addInUse p slot up).Formed := .wr h

theorem State.Formed.countGen {p gen up} (h : s.Formed) : (s.countGen p gen up).Formed := by
  unfold State.countGen
  split
  exacts [.addInUse h, h]

theorem State.Formed.setKeySlot {p slot k} (h : s.Formed) : (s.setKeySlot p slot k).Formed := .frame h

theorem State.Formed.setPlain {k bs} (h : s.Formed) : (s.setPlain k bs).Formed := by
  induction bs generalizing s k with
  | nil => exact h
  | cons b bs ih => exact ih (.frame h)

theorem State.Formed.seal {p slot tier home space data} (h : s.Formed) :
    (s.seal p slot tier home space data).Formed := by
  refine .ite ?_ (.setKeySlot (.setPlain h))
  extract_lets
  split
  exacts [.setBytes (.setBytes (.setKeySlot (.setPlain h))), .setBytes (.setKeySlot (.setPlain h))]

theorem State.Formed.noteTensorFail {p ta st report} (h : s.Formed) : (s.noteTensorFail p ta st report).Formed :=
  have h1 : State.Formed _ := .ite (.inc (.wr (.wr (.wr h)))) (.wr (.wr (.wr h)))
  .ite (.report (.ite (.endTimeout h1) h1)) (.ite (.endTimeout h1) h1)

theorem State.Formed.noteRead {p ta n good} (h : s.Formed) : (s.noteRead p ta n good).Formed := by
  refine .foldl h (fun _ _ h1 => ?_)
  split
  exacts [.noteTensorFail h1, .ite h1 (.noteTensorFail h1), h1]

theorem State.Formed.clearTensorTags {p ta n} (h : s.Formed) : (s.clearTensorTags p ta n).Formed :=
  .ite (.foldl h (fun _ _ h1 => .ite (.setEntry h1) h1)) h

theorem State.Formed.landWrite {p ta data} (h : s.Formed) : (s.landWrite p ta data).Formed := by
  refine .foldl_fst h fun q x hq => ?_
  split
  exacts [.setBytes hq, .noteTensorFail hq, hq]

/-! ### The stairwell -/

theorem State.Formed.unhome {p sp u} (h : s.Formed) : (s.unhome p sp u).Formed :=
  .setEntry (.ite (.countGen (.ite (.setFrame h) h)) (.ite (.setFrame h) h))

theorem State.Formed.failHeld {p lo hi} (h : s.Formed) : (s.failHeld p lo hi).Formed :=
  .foldl (.frame h) (fun _ _ h1 => .emit h1)

theorem State.Formed.freeGroup {p g} (h : s.Formed) : (s.freeGroup p g).Formed :=
  .ite h (.ite (.setGroupFld h)
    (.setWord (.setGroupFld (.setGroupFld (.setGroupState (.failHeld (.foldl h (fun _ _ h1 => .unhome h1))))))))

theorem State.Formed.releaseHeld {p sp lo hi} (h : s.Formed) : (s.releaseHeld p sp lo hi).Formed :=
  .foldl (.foldl (.frame h) (fun _ _ h1 => .clearTensorTags (.landWrite h1))) (fun _ _ h1 => .emit h1)

theorem State.Formed.homeUnits {p sp first tier homes} (h : s.Formed) : (s.homeUnits p sp first tier homes).Formed :=
  .foldl h (fun _ _ h1 => .setEntry (.setFrame h1))

theorem State.Formed.doGroupHomed {frames} (h : s.Formed) : (doGroupHomed frames s).Formed := by
  unfold Machine.doGroupHomed
  split
  · exact h
  · extract_lets
    split
    · exact .frame h
    · exact .ite (.frame h) (.ite (.inc (.setRec (.failHeld (.frame h))))
        (.ite (.releaseHeld (.ite (.inc (.setGroupState (.homeUnits (.frame h))))
        (.setGroupState (.homeUnits (.frame h))))) h))

theorem State.Formed.doStwPGrab {a p} (h : s.Formed) : (doStwPGrab a p s).Formed := by
  unfold Machine.doStwPGrab
  split
  exacts [.setPriv (.setGroupState h), .inc (.setPriv h)]

theorem State.Formed.setTransit {p sp first count b} (h : s.Formed) : (s.setTransit p sp first count b).Formed :=
  .foldl h (fun _ _ h1 => .ite (.setEntry h1) h1)

theorem State.Formed.startMigration {m} (h : s.Formed) : (s.startMigration m).Formed :=
  .frame (.ite (.setGroupState (.setTransit h)) (.setTransit h))

theorem State.Formed.endMove {p base kind st group} (h : s.Formed) : (s.endMove p base kind st group).Formed := by
  unfold State.endMove
  extract_lets s1
  have h1 : s1.Formed := by
    dsimp only [s1]
    split
    exacts [.setGroupFld h, h]
  split
  exacts [h1, .issueGive (.wr (.wr h1))]

theorem State.Formed.markParked {p g ttl} (h : s.Formed) : (s.markParked p g ttl).Formed :=
  .setWord (.setGroupFld (.setGroupFld h))

theorem State.Formed.clearParked {p g} (h : s.Formed) : (s.clearParked p g).Formed := .setWord (.setGroupFld h)

theorem State.Formed.decideMove {r} (h : s.Formed) : (s.decideMove r).Formed := by
  refine .ite (.endMove h) (.ite (.frame h) ?_)
  extract_lets
  split
  · exact .ite (.endMove (.markParked h)) (.ite (.startMigration h) (.endMove h))
  · exact .ite (.ite (.ite (.endMove h) (.startMigration h)) (.endMove (.clearParked h))) (.ite (.startMigration h)
      (.endMove h))

theorem State.Formed.moveUnit {m u given} (h : s.Formed) : (s.moveUnit m u given).Formed := by
  unfold State.moveUnit
  generalize s.newHome m u given = d
  obtain ⟨dst, isBacking⟩ := d
  dsimp -zeta only
  extract_lets e data oldBacking sealTo s1 s2 s3 s4 gen
  have h1 : s1.Formed := by
    clear_value sealTo
    cases sealTo with
    | some slot => exact .seal h
    | none => exact .ite h (.setBytes h)
  have h2 : s2.Formed := .ite h1 (.setFrame h1)
  have h4 : s4.Formed := .ite (.countGen (.setFrame h2)) (.setFrame h2)
  exact .setEntry (.ite (.countGen h4) h4)

theorem State.Formed.cancelAlmMoves {e} (h : s.Formed) : (s.cancelAlmMoves e).Formed :=
  .frame (.foldl h (fun _ _ h1 => .setTransit h1))

theorem State.Formed.startEvict {e} (h : s.Formed) : (s.startEvict e).Formed := .inc (.wr (.cancelAlmMoves h))

theorem State.Formed.recCmdResume {p st} (h : s.Formed) : (s.recCmdResume p st).Formed := by
  unfold State.recCmdResume
  split
  exacts [.ite (.frame h) h, h]

theorem State.Formed.endMigration {m st} (h : s.Formed) : (s.endMigration m st).Formed := by
  unfold State.endMigration
  extract_lets s1
  have h1 : s1.Formed := by
    dsimp -zeta only [s1]
    split
    · exact h
    · extract_lets s2 s3
      have h2 : s2.Formed := .setGroupState h
      have h3 : s3.Formed := by
        dsimp only [s3]
        split
        exacts [.ite (.markParked h2) h2, .ite (.markParked h2) h2, .ite (.clearParked h2) h2, .ite (.clearParked h2) h2,
          .ite (.clearParked h2) h2, h2]
      exact .ite (.freeGroup (.setGroupFld (.endMove h3))) (.endMove h3)
  split
  exacts [.recCmdResume h1, .recCmdResume h1, .wr (.wr h1), .wr h1, h1]

theorem State.Formed.retryMoves (h : s.Formed) : s.retryMoves.Formed :=
  .foldl (.frame h) (fun _ _ h1 => .decideMove h1)

theorem State.Formed.setFrontCmd {c} (h : s.Formed) : (s.setFrontCmd c).Formed := .frame h

theorem State.Formed.recCmdGroup {c g} (h : s.Formed) : (s.recCmdGroup c g).Formed :=
  .ite (.setFrontCmd (.freeGroup h)) (.ite (.setFrontCmd h) (.ite h (.ite (.setFrontCmd (.markParked h))
    (.ite (.setFrontCmd (.clearParked h)) (.ite (.setFrontCmd (.startMigration h)) (.setFrontCmd h))))))

theorem State.Formed.walkRecCmd {n} (h : s.Formed) : (s.walkRecCmd n).Formed := by
  induction n generalizing s with
  | zero => exact h
  | succ n ih =>
    unfold State.walkRecCmd
    split
    · exact h
    · refine .ite h (.ite (.ite (ih (.setFrontCmd h)) (.setFrontCmd h)) (.ite (.setFrontCmd h) ?_))
      split
      exacts [ih (.setFrontCmd h), ih (.recCmdGroup h)]

theorem State.Formed.runRecCmds (h : s.Formed) : s.runRecCmds.Formed := .walkRecCmd h

theorem State.Formed.enterRecCmd {a p record gen op tier} (h : s.Formed) :
    (s.enterRecCmd a p record gen op tier).Formed :=
  .ite (.wrPriv (.refuseWrite h)) (.ite (.countRefused h) (.runRecCmds (.frame (.wrPriv (.wrPriv h)))))

theorem State.Formed.doRecPark {a p record gen tier} (h : s.Formed) : (doRecPark a p record gen tier s).Formed :=
  .enterRecCmd h

theorem State.Formed.doRecUnpark {a p record gen tier} (h : s.Formed) : (doRecUnpark a p record gen tier s).Formed :=
  .enterRecCmd h

theorem State.Formed.doRecFree {a p record gen tier} (h : s.Formed) : (doRecFree a p record gen tier s).Formed :=
  .enterRecCmd h

theorem State.Formed.finishRecCmd {c st} (h : s.Formed) : (s.finishRecCmd c st).1.Formed :=
  .ite_fst (.ite h (.setRec h)) (.ite_fst h (.ite_fst (.setRecState h) (.ite_fst h h)))

theorem State.Formed.doRecCommandEnd (h : s.Formed) : (doRecCommandEnd s).Formed := by
  unfold Machine.doRecCommandEnd
  split
  · exact h
  · split
    exacts [h, .runRecCmds (.bellIf (.frame (.wrPriv (.wrPriv (.wrPriv (.finishRecCmd h))))))]

theorem State.Formed.doMigrationConfirm {i frames} (h : s.Formed) : (doMigrationConfirm i frames s).Formed := by
  unfold Machine.doMigrationConfirm
  split
  · exact h
  · exact .ite (.runRecCmds
      (.retryMoves (.endMigration (.releaseHeld (.inc (.foldl (.frame h) (fun _ _ h1 => .moveUnit h1))))))) h

theorem State.Formed.doMigrationFail {i read} (h : s.Formed) : (doMigrationFail i read s).Formed := by
  unfold Machine.doMigrationFail
  split
  · exact h
  · exact .runRecCmds
      (.retryMoves
      (.endMigration (.releaseHeld (.report (.ite (.noteUe (.wr (.wr (.wr (.inc (.setTransit (.frame h)))))))
      (.wr (.wr (.wr (.inc (.setTransit (.frame h)))))))))))

theorem State.Formed.doTensorRead {p ta len good} (h : s.Formed) : (doTensorRead p ta len good s).Formed :=
  .ite (.frame h) (.emit (.noteRead h))

theorem State.Formed.demandMove {p ta} (h : s.Formed) : (s.demandMove p ta).Formed := .ite (.startMigration h) h

theorem State.Formed.startDemand {p ta n} (h : s.Formed) : (s.startDemand p ta n).Formed := by
  refine .foldl h (fun _ _ h1 => ?_)
  split
  exacts [.demandMove h1, h1]

theorem State.Formed.tensorWrite {p ta data} (h : s.Formed) : (s.tensorWrite p ta data).Formed :=
  .ite (.frame (.startDemand h)) (.clearTensorTags (.landWrite h))

theorem State.Formed.doTensorWrite {p ta data} (h : s.Formed) : (doTensorWrite p ta data s).Formed := .tensorWrite h

theorem State.Formed.doGroupExpiry {p g} (h : s.Formed) : (doGroupExpiry p g s).Formed := .ite (.inc (.freeGroup h)) h

theorem State.Formed.demoteOne {p planned r} (h : s.Formed) (e : s.demoteOne p planned = some r) : r.1.Formed := by
  unfold State.demoteOne at e
  split at e
  · nomatch e
  · split at e
    · extract_lets at e
      split at e
      · exact Option.some.inj e ▸ .inc (.startMigration h)
      · nomatch e
    · obtain ⟨g, -, rfl⟩ := Option.map_eq_some_iff.1 e
      exact .inc (.startEvict h)

theorem State.Formed.demote {p n planned} (h : s.Formed) : (s.demote p n planned).Formed := by
  induction n generalizing s planned with
  | zero => exact h
  | succ n ih =>
    unfold State.demote
    split
    · exact ih (.demoteOne h ‹_›)
    · exact h

theorem State.Formed.doDemotionStart {p} (h : s.Formed) : (doDemotionStart p s).Formed := .ite (.demote h) h

theorem State.Formed.keyStatus {p st} (h : s.Formed) : (s.keyStatus p st).Formed := .wr h

theorem State.Formed.refuseKey {p} (h : s.Formed) : (s.refuseKey p).Formed := .countRefused (.keyStatus h)

theorem State.Formed.setKeyState {p slot st} (h : s.Formed) : (s.setKeyState p slot st).Formed := .ite (.wr h) (.wr h)

theorem State.Formed.setKeyGen {p slot g} (h : s.Formed) : (s.setKeyGen p slot g).Formed := .ite (.wr h) (.wr h)

theorem State.Formed.doKeyRotate {a p} (h : s.Formed) : (doKeyRotate a p s).Formed := by
  refine .ite (.refuseWrite h) ?_
  split
  exacts [.refuseKey h, .keyStatus (.setKeyGen (.setKeyState (.frame h)))]

theorem State.Formed.doKeyInstallDone {p keyId} (h : s.Formed) : (doKeyInstallDone p keyId s).Formed := by
  unfold Machine.doKeyInstallDone
  dsimp only
  split
  exacts [h, .ite h (.setKeySlot (.setKeyState h))]

theorem State.Formed.doKeyForceRetire {a p} (h : s.Formed) : (doKeyForceRetire a p s).Formed := by
  refine .ite (.refuseWrite h) ?_
  split
  exacts [.refuseKey h, .keyStatus (.wr (.foldl h (fun _ _ h1 => .addInUse (.setEntry h1))))]

theorem State.Formed.resealUnit {p sp u active} (h : s.Formed) : (s.resealUnit p sp u active).Formed :=
  .addMod (.setEntry (.addInUse (.countGen (.seal h))))

theorem State.Formed.sweepUnits {p active t3 l} (h : s.Formed) : (s.sweepUnits p active t3 l).Formed := by
  induction l generalizing s with
  | nil => exact h
  | cons x l ih => exact .ite (ih (.resealUnit h)) h

theorem State.Formed.doKeySweepStep {p t3} (h : s.Formed) : (doKeySweepStep p t3 s).Formed := by
  unfold Machine.doKeySweepStep
  split
  exacts [.ite (.ite (.wr (.sweepUnits h)) (.sweepUnits h)) h, h]

theorem State.Formed.doKeySlotEmpty {p} (h : s.Formed) : (doKeySlotEmpty p s).Formed := by
  unfold Machine.doKeySlotEmpty
  split
  exacts [h, .ite (.bellIf (.setKeySlot (.setKeyState h))) h]

theorem State.Formed.keySwitch {p} (h : s.Formed) : (s.keySwitch p).Formed := by
  unfold State.keySwitch
  dsimp only
  split
  · exact .countRefused (.wr h)
  · exact .ite (.wr (.wr (.wr (.setKeyState (.ite (.setKeyState (.wr h)) (.wr h))))))
      (.wr (.setKeyState (.ite (.setKeyState (.wr h)) (.wr h))))

/-! ### The almanac -/

theorem State.Formed.countResident {e} (h : s.Formed) : (s.countResident e).Formed := .wr h

theorem State.Formed.toBacking {e first count} (h : s.Formed) : (s.toBacking e first count).Formed :=
  .countResident (.foldl h (fun _ _ h1 => .setEntry (.ite h1 (.setFrame h1))))

theorem State.Formed.almResult {a e st} (h : s.Formed) : (s.almResult a e st).Formed := .wrPriv (.wrPriv (.wrPriv h))

theorem State.Formed.almLast {p e st} (h : s.Formed) : (s.almLast p e st).Formed := .ite (.wr h) h

theorem State.Formed.almCommand {a e p f} (h : s.Formed) (hf : ∀ {a}, (f a).1.Formed) :
    (s.almCommand a e p f).Formed := by
  unfold State.almCommand
  split
  exacts [.refuseWrite h, .ite (.almResult (.refuseWrite h)) (.almResult (.almLast hf))]

theorem State.Formed.homeBacking {e tags} (h : s.Formed) : (s.homeBacking e tags).Formed :=
  .foldl h (fun _ _ h1 => .setEntry (.setFrame h1))

theorem State.Formed.writeAlmEntry {e p ws} (h : s.Formed) : (s.writeAlmEntry e p ws).Formed :=
  .setReg (.setReg (.setReg (.wr (.wr (.setReg (.wr (.wr (.wr (.wr (.wr (.setReg h)))))))))))

theorem State.Formed.almRegister {a e p} (h : s.Formed) : (s.almRegister a e p).1.Formed :=
  .ite_fst h (.ite_fst h (.ite_fst h (.ite_fst h (.countResident (.homeBacking (.writeAlmEntry h))))))

theorem State.Formed.doAlmRegister {a e p} (h : s.Formed) : (doAlmRegister a e p s).Formed :=
  .almCommand h (.almRegister h)

theorem State.Formed.almLoad {e p} (h : s.Formed) : (s.almLoad e p).1.Formed :=
  .ite_fst h (.ite_fst h (.startMigration (.wr (.wr h))))

theorem State.Formed.doAlmLoad {a e p} (h : s.Formed) : (doAlmLoad a e p s).Formed := .almCommand h (.almLoad h)

theorem State.Formed.doAlmEvict {a e p} (h : s.Formed) : (doAlmEvict a e p s).Formed := by
  refine .almCommand h fun {_} => ?_
  split
  exacts [.startEvict h, h]

theorem State.Formed.almPin {e p} (h : s.Formed) : (s.almPin e p).1.Formed := .ite_fst (.wr h) h

theorem State.Formed.doAlmPin {a e p} (h : s.Formed) : (doAlmPin a e p s).Formed := .almCommand h (.almPin h)

theorem State.Formed.almUnpin {e p} (h : s.Formed) : (s.almUnpin e p).1.Formed := .ite_fst (.wr h) h

theorem State.Formed.doAlmUnpin {a e p} (h : s.Formed) : (doAlmUnpin a e p s).Formed := .almCommand h (.almUnpin h)

theorem State.Formed.doAlmUnregister {a e p} (h : s.Formed) : (doAlmUnregister a e p s).Formed := by
  refine .almCommand h fun {_} => ?_
  split
  exacts [.foldl (.foldl h fun _ _ h1 => .unhome h1) fun _ _ h1 => .setReg h1, h]

theorem State.Formed.almAdvance {e p layer} (h : s.Formed) : (s.almAdvance e p layer).1.Formed :=
  .ite_fst h (.startMigration (.wr (.toBacking h)))

theorem State.Formed.doAlmAdvance {a e p} (h : s.Formed) : (doAlmAdvance a e p s).Formed := by
  unfold Machine.doAlmAdvance
  extract_lets
  split
  · exact .refuseWrite h
  · exact .ite (.almResult (.refuseWrite h)) (.ite (.frame h) (.almResult (.almLast (.almAdvance h))))

theorem State.Formed.nextAdvance {e n} (h : s.Formed) : (s.nextAdvance e n).Formed := by
  induction n generalizing s with
  | zero => exact h
  | succ n ih =>
    unfold State.nextAdvance
    refine .ite h ?_
    split
    exacts [h, ih (.almResult (.almLast (.almAdvance (.frame h))))]

theorem State.Formed.almToken {e} (h : s.Formed) : (s.almToken e).Formed := .ite (.settleReports (.giveFromBlock h)) h

theorem State.Formed.doAlmMoveConfirmed {e frames} (h : s.Formed) : (doAlmMoveConfirmed e frames s).Formed := by
  unfold Machine.doAlmMoveConfirmed
  split
  · exact h
  · refine .ite ?_ h
    extract_lets
    split
    · exact .almToken (.inc (.wr (.wr (.inc (.countResident (.foldl (.frame h) (fun _ _ h1 => .moveUnit h1)))))))
    · exact .nextAdvance
        (.almToken (.wr (.inc (.wr (.inc (.countResident (.foldl (.frame h) (fun _ _ h1 => .moveUnit h1))))))))

theorem State.Formed.doAlmEvictDone {e} (h : s.Formed) : (doAlmEvictDone e s).Formed := .ite (.wr (.toBacking h)) h

theorem State.Formed.setAdpState {i st} (h : s.Formed) : (s.setAdpState i st).Formed := .wr (.wr h)

theorem State.Formed.adpBell {p} (h : s.Formed) : (s.adpBell p).Formed := .bellIf h

theorem State.Formed.adpResult {a i st ver} (h : s.Formed) : (s.adpResult a i st ver).Formed :=
  .wrPriv (.wrPriv (.wrPriv (.wrPriv h)))

theorem State.Formed.adpRefuse {a i st} (h : s.Formed) : (s.adpRefuse a i st).Formed := .adpResult (.countRefused h)

theorem State.Formed.adpCommand {a i p f} (h : s.Formed) (hf : ∀ {a}, (f a).Formed) :
    (s.adpCommand a i p f).Formed := by
  unfold State.adpCommand
  split
  exacts [.refuseWrite h, .ite (.adpResult (.refuseWrite h)) hf]

theorem State.Formed.doAdpLoad {a slot p entry} (h : s.Formed) : (doAdpLoad a slot p entry s).Formed :=
  .adpCommand h (.ite (.adpResult h) (.ite (.adpRefuse h)
    (.adpResult (.inc (.ite (.almLast (.almLoad (.almPin (.setAdpState (.wr (.wr (.wr (.wr (.wr h)))))))))
    (.almPin (.setAdpState (.wr (.wr (.wr (.wr (.wr h))))))))))))

theorem State.Formed.doAdpRetire {a slot p} (h : s.Formed) : (doAdpRetire a slot p s).Formed :=
  .adpCommand h (.ite (.adpResult (.setAdpState h)) (.adpRefuse h))

theorem State.Formed.doAdpSlotReady {slot} (h : s.Formed) : (doAdpSlotReady slot s).Formed :=
  .ite (.adpBell (.setAdpState h)) h

theorem State.Formed.doAdpSlotEmpty {slot} (h : s.Formed) : (doAdpSlotEmpty slot s).Formed :=
  .ite (.adpBell (.inc (.setAdpState (.wr (.wr (.wr (.wr h))))))) h

/-! ### The catalogue -/

theorem State.Formed.writeCompletion {p ws} (h : s.Formed) : (s.writeCompletion p ws).Formed :=
  .bell (.addMod (.devWriteWords h))

theorem State.Formed.countStall {p} (h : s.Formed) : (s.countStall p).Formed := .ite h (.inc (.frame h))

theorem State.Formed.complete {p ws} (h : s.Formed) : (s.complete p ws).Formed :=
  .ite (.writeCompletion h) (.countStall (.frame h))

theorem State.Formed.drainCompletions {p n} (h : s.Formed) : (s.drainCompletions p n).Formed := by
  induction n generalizing s with
  | zero => exact h
  | succ n ih =>
    unfold State.drainCompletions
    split
    exacts [h, .ite (ih (.writeCompletion (.frame h))) h]

theorem State.Formed.doCompletionRingDrain {p} (h : s.Formed) : (doCompletionRingDrain p s).Formed :=
  .drainCompletions h

theorem State.Formed.completeRecord {i kind status} (h : s.Formed) : (s.completeRecord i kind status).Formed :=
  .complete h

theorem State.Formed.failRecord {i st} (h : s.Formed) : (s.failRecord i st).Formed :=
  .completeRecord (.report (.moveRec h))

theorem State.Formed.admitRecord {p i ws} (h : s.Formed) : (s.admitRecord p i ws).Formed :=
  .frame (.ite (.addLcWaiting (.wr (.wr (.setWords h)))) (.wr (.wr (.setWords h))))

theorem State.Formed.noteBad {p source index st} (h : s.Formed) : (s.noteBad p source index st).Formed :=
  .wr (.wr (.wr (.wr (.inc h))))

theorem State.Formed.countOutcome {p st} (h : s.Formed) : (s.countOutcome p st).Formed := by
  unfold State.countOutcome
  split
  exacts [.inc h, .inc h, .inc h, .inc h, h]

theorem State.Formed.admitWords {p source index ws} (h : s.Formed) : (s.admitWords p source index ws).1.Formed :=
  .ite_fst (.noteBad h) (.countOutcome (.ite (.admitRecord h) h))

theorem State.Formed.completeAdmission {p r tag} (h : s.Formed) : (s.completeAdmission p r tag).Formed := .complete h

theorem State.Formed.doAdmissionEntry {p} (h : s.Formed) : (doAdmissionEntry p s).Formed := by
  refine .ite h ?_
  split
  · exact .completeAdmission (.admitWords (.addMod h))
  · exact .completeAdmission (.noteBad (.report (.addMod h)))
  · exact h

theorem State.Formed.doCrd {x f} (h : s.Formed) : (doCrd x f s).Formed := .issue h (fun h1 => .setG h1)

theorem State.Formed.homeEntries {i lo hi} (h : s.Formed) : (s.homeEntries i lo hi).Formed := .frame h

theorem State.Formed.cwrWrite {i w v} (h : s.Formed) : (s.cwrWrite i w v).Formed :=
  .ite (.homeEntries (.setRec (.setRec h))) (.ite (.setRecWord (.setRecWord h)) (.setRecWord h))

theorem State.Formed.doCwr {x f} (h : s.Formed) : (doCwr x f s).Formed :=
  .issue h (fun h1 => .ite (.setP (.cwrWrite h1)) (.setP h1))

theorem State.Formed.cstate {i dst} (h : s.Formed) : (s.cstate i dst).Formed :=
  .ite (.releaseRec h) (.ite (.moveRec h) (.setRecState h))

theorem State.Formed.doCstate {x f} (h : s.Formed) : (doCstate x f s).Formed :=
  .issue h (fun h1 => .ite (.setP (.cstate h1)) (.setP h1))

theorem State.Formed.doCadmit {x f} (h : s.Formed) : (doCadmit x f s).Formed :=
  .issue h (fun h1 => .setP (.setG (.admitWords h1)))

theorem State.Formed.doCcommit {x f} (h : s.Formed) : (doCcommit x f s).Formed :=
  .issue h (fun h1 => .ite (.setP (.ite h1 (.countPart (.setRec (.setRec (.setRec h1)))))) (.setP h1))

theorem State.Formed.trimEntries {i lo hi} (h : s.Formed) : (s.trimEntries i lo hi).Formed := by
  refine .foldl h (fun _ _ h1 => .landWrite ?_)
  split
  exacts [.freeGroup h1, h1]

theorem State.Formed.doCtrim {x f} (h : s.Formed) : (doCtrim x f s).Formed :=
  .issue h (fun h1 => .ite (.setP (.setRec (.setRec (.countPart (.countPart (.trimEntries h1)))))) (.setP h1))

theorem State.Formed.doCprog {x f} (h : s.Formed) : (doCprog x f s).Formed := .issue h (fun h1 => .setRecWord h1)

theorem State.Formed.setBatches {bs} (h : s.Formed) : (s.setBatches bs).Formed := .frame h

theorem State.Formed.putBatch {b} (h : s.Formed) : (s.putBatch b).Formed := .setBatches h

theorem State.Formed.countBatches {p} (h : s.Formed) : (s.countBatches p).Formed := .wr (.wr h)

theorem State.Formed.bindRecord {seq hdr i} (h : s.Formed) : (s.bindRecord seq hdr i).Formed := by
  refine .setRec (.setRec ?_)
  split
  exacts [.wr (.setRec (.setRec h)), h]

theorem State.Formed.endDescriptor {p k r tag} (h : s.Formed) : (s.endDescriptor p k r tag).Formed := by
  refine .complete ?_
  split
  exacts [.noteBad h, .noteBad h, .ite (.inc (.inc h)) (.inc h), h]

theorem State.Formed.enterBatch {b hdr} (h : s.Formed) : (s.enterBatch b hdr).Formed :=
  .countBatches (.frame (.setWord (.foldl h (fun _ _ h1 => .bindRecord h1))))

theorem State.Formed.doBatchValidate {p} (h : s.Formed) : (doBatchValidate p s).Formed :=
  .ite h (.ite (.endDescriptor (.report (.addMod h))) (.ite (.endDescriptor (.addMod h))
    (.ite (.endDescriptor (.noteAccess (.addMod h))) (.ite (.endDescriptor (.addMod h))
    (.ite (.enterBatch (.addMod h)) (.ite (.endDescriptor (.noteAccess (.addMod h)))
    (.endDescriptor (.addMod h))))))))

theorem State.Formed.setOutstanding {g n} (h : s.Formed) : (s.setOutstanding g n).Formed := .frame h

theorem State.Formed.giveBatch {g} (h : s.Formed) : (s.giveBatch g).Formed := .setOutstanding (.issueGive h)

theorem State.Formed.dispatch {b grp gals pre} (h : s.Formed) : (s.dispatch b grp gals pre).Formed :=
  have h1 : State.Formed _ := .foldl (.ite (.foldl (.frame (.putBatch h)) (fun _ _ h1 => .ite (.setRecState h1) h1))
    (.frame (.putBatch h))) (fun _ _ h1 => .giveBatch h1)
  .foldl (.ite (.settleReports (.giveFromBlock (.addMod (.wr (.wr (.wr (.wr (.wr (.countPart h1)))))))))
    (.addMod (.wr (.wr (.wr (.wr (.wr (.countPart h1)))))))) (fun _ _ h2 => .ite h2 (.wr h2))

theorem State.Formed.commitPreempt {gals req} (h : s.Formed) : (s.commitPreempt gals req).Formed :=
  .foldl h (fun _ _ h1 => .requestCommit (.wrShadow h1))

theorem State.Formed.dropPreempt {x} (h : s.Formed) : (s.dropPreempt x).Formed := .frame h

theorem State.Formed.preemptBatch {b} (h : s.Formed) : (s.preemptBatch b).Formed :=
  .devWriteWords (.foldl (.putBatch h) (fun _ _ h1 => .setRec h1))

theorem State.Formed.dispatchPreempting {x} (h : s.Formed) : (s.dispatchPreempting x).Formed := by
  unfold State.dispatchPreempting
  split
  · exact .dropPreempt (.commitPreempt h)
  · exact
      have h1 : State.Formed _ := .foldl h (fun _ _ h1 => .preemptBatch h1)
      .dropPreempt (.dispatch (.ite h1 (.inc h1)))

theorem State.Formed.doBatchDispatch {p} (h : s.Formed) : (doBatchDispatch p s).Formed := by
  unfold Machine.doBatchDispatch
  split
  · exact .dispatchPreempting h
  · split
    · exact h
    · split
      exacts [h, .dispatch h]

theorem State.Formed.doBatchPreemptRequest {p} (h : s.Formed) : (doBatchPreemptRequest p s).Formed := by
  unfold Machine.doBatchPreemptRequest
  split
  · exact h
  · refine .ite ?_ h
    split
    exacts [h, .commitPreempt (.frame h)]

theorem State.Formed.preemptRefused {g} (h : s.Formed) : (s.preemptRefused g).Formed := by
  unfold State.preemptRefused
  split
  · exact h
  · extract_lets
    split
    exacts [.putBatch (.dropPreempt (.commitPreempt h)), .dropPreempt (.commitPreempt h)]

theorem State.Formed.batchProgressWrites (h : s.Formed) : s.batchProgressWrites.Formed :=
  .foldl h (fun _ _ h1 => .ite h1 (.devWriteWords (.putBatch h1)))

theorem State.Formed.finishBatch {b st} (h : s.Formed) : (s.finishBatch b st).Formed :=
  have h1 : State.Formed _ := .foldl (.foldl h (fun _ _ h1 => .ite (.setRec (.setRec (.setRec h1))) (.setRec h1)))
    (fun _ _ h1 => .wr h1)
  .complete (.ite (.commitPreempt (.countBatches (.setBatches h1))) (.countBatches (.setBatches h1)))

theorem State.Formed.returnSlot {g} (h : s.Formed) : (s.returnSlot g).Formed := by
  unfold State.returnSlot
  extract_lets
  split
  · exact .setOutstanding h
  · exact .ite (.finishBatch (.putBatch (.setOutstanding h))) (.putBatch (.setOutstanding h))

theorem State.Formed.returnSlots {g n} (h : s.Formed) : (s.returnSlots g n).Formed := by
  induction n generalizing s with
  | zero => exact h
  | succ n ih => exact ih (.returnSlot h)

theorem State.Formed.doGalBatchDone {a g count} (h : s.Formed) : (doGalBatchDone a g count s).Formed :=
  .ite (.refuseWrite h) (.ite (.countRefused h) (.returnSlots h))

theorem State.Formed.freeRecGroups {i} (h : s.Formed) : (s.freeRecGroups i).Formed := by
  refine .foldl h (fun _ _ h1 => ?_)
  split
  exacts [.freeGroup h1, h1]

theorem State.Formed.doRecordExpiry {i} (h : s.Formed) : (doRecordExpiry i s).Formed :=
  .ite (.completeRecord (.freeRecGroups (.inc (.moveRec (.setRec h))))) h

theorem State.Formed.doDeadlineMissed {i} (h : s.Formed) : (doDeadlineMissed i s).Formed := .ite (.inc (.setRec h)) h

theorem State.Formed.doHandoverInTimeout {i} (h : s.Formed) : (doHandoverInTimeout i s).Formed :=
  .ite (.failRecord h) h

theorem State.Formed.doRecordUe {i} (h : s.Formed) : (doRecordUe i s).Formed :=
  .ite (.failRecord (.noteUe h)) (.noteUe h)

theorem State.Formed.doRecordRelease {a p record gen} (h : s.Formed) : (doRecordRelease a p record gen s).Formed :=
  .ite (.refuseWrite h) (.ite (.releaseRec h) (.countRefused h))

/-! ### Control instructions -/

theorem State.Formed.doNop {x op f} (h : s.Formed) : (doNop x op f s).Formed := .issue h (fun h1 => h1)

theorem State.Formed.doBr {x f} (h : s.Formed) : (doBr x f s).Formed := .issue h (fun h1 => .setPc h1)

theorem State.Formed.doCall {x f} (h : s.Formed) : (doCall x f s).Formed := .issue h (fun h1 => .setPc (.setG h1))

theorem State.Formed.doJr {x f} (h : s.Formed) : (doJr x f s).Formed := .issue h (fun h1 => .setPc h1)

theorem State.Formed.countLate {unit} (h : s.Formed) : (s.countLate unit).Formed :=
  .ite (.add (.frame (.setSlice h))) (.setSlice h)

theorem State.Formed.countSlice {unit} (h : s.Formed) : (s.countSlice unit).Formed :=
  .ite h (.traceDev (.wr (.add (.inc (.ite (.countLate h) h)))))

theorem State.Formed.doMyld {x f} (h : s.Formed) : (doMyld x f s).Formed :=
  .issue h (fun h1 => .modCtx (.ite (.closeSlice (.countSlice h1)) h1))

theorem State.Formed.doMchk {x f} (h : s.Formed) : (doMchk x f s).Formed := .issue h (fun h1 => .setG h1)

theorem State.Formed.doMcnt {x f} (h : s.Formed) : (doMcnt x f s).Formed := .issue h (fun h1 => .setG h1)

theorem State.Formed.doHalt {x f} (h : s.Formed) : (doHalt x f s).Formed :=
  .issue h (fun h1 => .modCtx (.ite (.closeSlice (.countSlice h1)) h1))

theorem State.Formed.debugStop {x} (h : s.Formed) : (s.debugStop x).Formed := .traceDev (.leaveSlice (.setCtx h))

theorem State.Formed.doBrk {x f} (h : s.Formed) : (doBrk x f s).Formed := .issue h (fun h1 => .debugStop h1)

/-! ### Units and blocks -/

theorem State.Formed.clearRegs {x} (h : s.Formed) : (s.clearRegs x).Formed := .frame h

theorem State.Formed.clearStall {unit ctx} (h : s.Formed) : (s.clearStall unit ctx).Formed := .setReg h

theorem State.Formed.restartCtx {x} (h : s.Formed) : (s.restartCtx x).Formed :=
  .leaveSlice (.setCtx (.ite (.clearStall (.clearRegs h)) (.clearRegs h)))

theorem State.Formed.countSpare {kind up} (h : s.Formed) : (s.countSpare kind up).Formed := by
  unfold State.countSpare
  split
  exacts [h, .wr (.wr h)]

theorem State.Formed.setPass {kind on} (h : s.Formed) : (s.setPass kind on).Formed := .wr h

theorem State.Formed.useSpare {kind b inst unit old new} (h : s.Formed) :
    (s.useSpare kind b inst unit old new).Formed :=
  .report (.noteSub (.setPass (.countSpare h)))

theorem State.Formed.loseCapacity {kind b inst unit old} (h : s.Formed) :
    (s.loseCapacity kind b inst unit old).Formed :=
  .report h

theorem State.Formed.zeroRange {a n} (h : s.Formed) : (s.zeroRange a n).Formed :=
  ⟨Memory.wf_zeroRange _ _ _ h.1, h.2⟩

/-! ### The transport -/

theorem State.Formed.setTpc {n c} (h : s.Formed) : (s.setTpc n c).Formed := .frame h

theorem State.Formed.modTpc {n f} (h : s.Formed) : (s.modTpc n f).Formed := .setTpc h

theorem State.Formed.tpBell {p} (h : s.Formed) : (s.tpBell p).Formed := .bellIf h

theorem State.Formed.sendExpress {n kind flds} (h : s.Formed) : (s.sendExpress n kind flds).Formed := .frame h

theorem State.Formed.grant {n u} (h : s.Formed) : (s.grant n u).Formed := .ite h (.sendExpress (.setTpc h))

theorem State.Formed.revoke {n} (h : s.Formed) : (s.revoke n).Formed := .ite h (.sendExpress (.modTpc h))

theorem State.Formed.askCredit {n} (h : s.Formed) : (s.askCredit n).Formed := .ite (.sendExpress (.modTpc h)) h

theorem State.Formed.setCached {n b} (h : s.Formed) : (s.setCached n b).Formed := .ite h (.wr (.modTpc h))

theorem State.Formed.evict {n} (h : s.Formed) : (s.evict n).Formed := .inc (.setCached (.devWrite (.freeBytes h)))

theorem State.FormedIn.makeFrame (h : s.Formed) : State.FormedIn s.makeFrame :=
  .ite (.some h) (.map fun _ => .evict h)

theorem State.Formed.touch {n} (h : s.Formed) : (s.touch n).Formed := .modTpc (.frame h)

theorem State.Formed.squeeze (h : s.Formed) : s.squeeze.Formed := by
  unfold State.squeeze
  split
  exacts [.revoke (.ite h (.sendExpress (.setTpc h))), h]

theorem State.Formed.startFetch {n} (h : s.Formed) : (s.startFetch n).Formed :=
  .ite h (.ite (.inc (.frame h)) (.squeeze (.inc (.frame h))))

theorem State.Formed.offer {x} (h : s.Formed) : (s.offer x).Formed :=
  .ite (.askCredit (.touch (.frame h))) (.startFetch (.frame h))

theorem State.Formed.newReq {r} (h : s.Formed) : (s.newReq r).1.Formed := .frame (.modTpc h)

theorem State.Formed.dropReq {r} (h : s.Formed) : (s.dropReq r).Formed := .frame h

theorem State.Formed.newMsg {m} (h : s.Formed) : (s.newMsg m).1.Formed := .frame h

theorem State.Formed.modMsg {k f} (h : s.Formed) : (s.modMsg k f).Formed := .frame h

theorem State.Formed.failMsg {k st} (h : s.Formed) : (s.failMsg k st).Formed := .ite h (.modMsg (.frame h))

theorem State.Formed.noteSrc {x n good} (h : s.Formed) : (s.noteSrc x n good).Formed := by
  unfold State.noteSrc
  split
  exacts [.noteRead h, .noteAccess h]

theorem State.Formed.writeSrc {x data} (h : s.Formed) : (s.writeSrc x data).Formed := by
  unfold State.writeSrc
  split
  exacts [.tensorWrite h, .devWrite h]

theorem State.Formed.tpResult {a st} (h : s.Formed) : (s.tpResult a st).Formed := .wrPriv (.wrPriv (.wrPriv h))

theorem State.Formed.rgnCommand {a p eff} (h : s.Formed) (heff : ∀ {t : State}, t.Formed → (eff t).1.Formed) :
    (s.rgnCommand a p eff).Formed :=
  .ite (.tpResult (.refuseWrite h)) (.tpResult (heff h))

theorem State.Formed.doRgnAdd {a p index desc} (h : s.Formed) : (doRgnAdd a p index desc s).Formed := by
  refine .rgnCommand h fun h1 => ?_
  dsimp only
  split
  · exact .ite_fst (.setReg (.setReg (.setReg (.setReg h1)))) h1
  · exact .noteAccess h1

theorem State.Formed.doRgnRemove {a p index} (h : s.Formed) : (doRgnRemove a p index s).Formed :=
  .rgnCommand h (fun h1 => .setReg (.setReg (.setReg (.setReg h1))))

theorem State.Formed.setRlc {ls} (h : s.Formed) : (s.setRlc ls).Formed := .frame h

theorem State.Formed.dropLine {line} (h : s.Formed) : (s.dropLine line).Formed := .setRlc h

theorem State.Formed.useLine {l} (h : s.Formed) : (s.useLine l).Formed := .setRlc h

theorem State.Formed.doRlcFlush {a p} (h : s.Formed) : (doRlcFlush a p s).Formed := .ite (.refuseWrite h) (.setRlc h)

/-! ### The helices -/

theorem State.Formed.helWrite {p ws} (h : s.Formed) : (s.helWrite p ws).Formed :=
  .bellIf (.ite (.settleReports (.giveFromBlock (.addMod (.devWriteWords h)))) (.addMod (.devWriteWords h)))

theorem State.Formed.helStall {p} (h : s.Formed) : (s.helStall p).Formed := .ite h (.inc (.frame h))

theorem State.Formed.helComplete {p ws} (h : s.Formed) : (s.helComplete p ws).Formed :=
  .ite (.helWrite h) (.helStall (.frame h))

theorem State.Formed.helDrain {p n} (h : s.Formed) : (s.helDrain p n).Formed := by
  induction n generalizing s with
  | zero => exact h
  | succ n ih =>
    unfold State.helDrain
    split
    exacts [h, .ite (ih (.helWrite (.frame h))) h]

theorem State.Formed.setWr {i w} (h : s.Formed) : (s.setWr i w).Formed := .frame h

theorem State.Formed.modWr {i f} (h : s.Formed) : (s.modWr i f).Formed := .setWr h

theorem State.Formed.endWrAs {i st} (h : s.Formed) : (s.endWrAs i st).Formed := .ite (.modWr h) h

theorem State.Formed.openWr {i w} (h : s.Formed) : (s.openWr i w).Formed :=
  .wr (.wr (.wr (.wr (.wr (.wr (.wr (.wr (.wr (.setWr h)))))))))

theorem State.Formed.closeWr {i} (h : s.Formed) : (s.closeWr i).Formed := .wr (.wr (.wr (.setReg (.wr (.frame h)))))

theorem State.Formed.popQueue {q} (h : s.Formed) : (s.popQueue q).Formed := by
  refine .ite ?_ ?_
  · split
    exacts [.frame h, .addMod h]
  · split
    exacts [.frame h, h]

theorem State.Formed.setTrig {i t} (h : s.Formed) : (s.setTrig i t).Formed := .frame h

theorem State.Formed.markTrigs {kind ok} (h : s.Formed) : (s.markTrigs kind ok).Formed :=
  .foldl h (fun _ _ h1 => .setTrig h1)

theorem State.Formed.testCounter {p n} (h : s.Formed) : (s.testCounter p n).Formed := .markTrigs h

theorem State.Formed.bumpCounter {p inc} (h : s.Formed) : (s.bumpCounter p inc).Formed :=
  .ite h (.testCounter (.wr h))

theorem State.Formed.countTrigs {p} (h : s.Formed) : (s.countTrigs p).Formed := .wr (.wr h)

theorem State.Formed.armSlot {i p ws} (h : s.Formed) : (s.armSlot i p ws).Formed :=
  .countTrigs (.setTrig (.wr (.wr (.foldl h (fun _ _ h1 => .setReg h1)))))

theorem State.Formed.freeSlot {i} (h : s.Formed) : (s.freeSlot i).Formed :=
  .countTrigs (.setTrig (.wr (.wr (.foldl h (fun _ _ h1 => .setReg h1)))))

theorem State.Formed.noteHelLast {p op st} (h : s.Formed) : (s.noteHelLast p op st).Formed := .wr (.wr (.wr (.wr h)))

theorem State.Formed.noteHelError {p op st} (h : s.Formed) : (s.noteHelError p op st).Formed := .noteHelLast (.inc h)

theorem State.Formed.abandonSlot {i} (h : s.Formed) : (s.abandonSlot i).Formed :=
  .helComplete (.noteHelError (.freeSlot h))

theorem State.Formed.doTriggerFire {i} (h : s.Formed) : (doTriggerFire i s).Formed :=
  .ite h (.ite (.abandonSlot h) (.ite (.inc (.frame (.freeSlot h))) h))

theorem State.Formed.doHelTrigCancel {a i} (h : s.Formed) : (doHelTrigCancel a i s).Formed :=
  .ite (.refuseWrite h) (.ite (.abandonSlot h) h)

theorem State.Formed.setOut {h v} (hs : s.Formed) : (s.setOut h v).Formed := .frame hs

theorem State.Formed.setInn {h v} (hs : s.Formed) : (s.setInn h v).Formed := .frame hs

theorem State.Formed.countHo {p} (h : s.Formed) : (s.countHo p).Formed := .wr (.wr (.wr h))

theorem State.Formed.openHo {inb h rec p peer req epoch total} (hs : s.Formed) :
    (s.openHo inb h rec p peer req epoch total).Formed :=
  have h1 : State.Formed _ := .foldl (.wr (.wr (.wr (.wr (.wr (.wr (.wr (.wr hs)))))))) (fun _ _ h1 => .wr h1)
  .countHo (.ite (.setInn h1) (.setOut h1))

theorem State.Formed.closeHo {inb h} (hs : s.Formed) : (s.closeHo inb h).Formed :=
  have h1 : State.Formed _ := .foldl (.setReg (.setReg (.setReg (.setReg hs)))) (fun _ _ h1 => .wr h1)
  .countHo (.ite (.setInn h1) (.setOut h1))

theorem State.Formed.setHoBit {inb h l} (hs : s.Formed) : (s.setHoBit inb h l).Formed := .wr hs

theorem State.Formed.issueFlush {n owner tk unit ictx node part place} (h : s.Formed) :
    (s.issueFlush n owner tk unit ictx node part place).Formed :=
  .offer (.newReq h)

/-! ### The expander -/

theorem State.Formed.setObTag {g bay slot v} (h : s.Formed) : (s.setObTag g bay slot v).Formed := .frame h

theorem State.Formed.setGsTag {g slot v} (h : s.Formed) : (s.setGsTag g slot v).Formed := .frame h

theorem State.Formed.setTaTag {p ta v} (h : s.Formed) : (s.setTaTag p ta v).Formed := .ite (.setEntry h) h

theorem State.Formed.setSlotTag {p g bay loc a v} (h : s.Formed) : (s.setSlotTag p g bay loc a v).Formed :=
  .ite (.setTaTag h) (.ite (.setObTag h) (.ite (.setGsTag h) h))

theorem State.Formed.clearSlotTags {g bay loc a n} (h : s.Formed) : (s.clearSlotTags g bay loc a n).Formed :=
  .ite h (.foldl h (fun _ _ h1 => .setSlotTag h1))

theorem State.Formed.setLiveTable {g n ws} (h : s.Formed) : (s.setLiveTable g n ws).Formed :=
  .setLive (.foldl h (fun _ _ h1 => .setLive h1))

theorem State.Formed.noteBlock {part g bay ctab addr b} (h : s.Formed) :
    (s.noteBlock part g bay ctab addr b).Formed := by
  unfold State.noteBlock
  extract_lets
  split
  · exact .ite (.markSlice (.add (.inc (.add (.add (.ite (.inc h) (.inc h)))))))
      (.add (.add (.ite (.inc h) (.inc h))))
  · exact .report
      (.wr (.wr (.wr (.wr (.ite (.inc (.ite (.markSlice (.add (.inc (.add (.add (.ite (.inc h) (.inc h)))))))
      (.add (.add (.ite (.inc h) (.inc h))))))
      (.inc (.ite (.markSlice (.add (.inc (.add (.add (.ite (.inc h) (.inc h)))))))
      (.add (.add (.ite (.inc h) (.inc h)))))))))))

theorem State.Formed.rateFalls {g} (h : s.Formed) : (s.rateFalls g).Formed := .ite (.wr h) h

/-! ### Tile instructions -/

theorem State.Formed.setBayQueue {g bay q} (h : s.Formed) : (s.setBayQueue g bay q).Formed := .frame h

theorem State.Formed.issueTile {x op f ok empty o} (h : s.Formed) : (s.issueTile x op f ok empty o).Formed :=
  .issueOrWait h (fun h1 => .ite h1 (.ite (.inc h1) (.setBayQueue h1)))

theorem State.Formed.doTmma {x f} (h : s.Formed) : (doTmma x f s).Formed := .issueTile h

theorem State.Formed.doTload {x f} (h : s.Formed) : (doTload x f s).Formed := .issueTile h

theorem State.Formed.doTstore {x f} (h : s.Formed) : (doTstore x f s).Formed := .issueTile h

theorem State.Formed.doTew {x f} (h : s.Formed) : (doTew x f s).Formed := .issueTile h

theorem State.Formed.doTfn {x f} (h : s.Formed) : (doTfn x f s).Formed := .issueTile h

theorem State.Formed.doTred {x f} (h : s.Formed) : (doTred x f s).Formed := .issueTile h

theorem State.Formed.doTsync {x f} (h : s.Formed) : (doTsync x f s).Formed :=
  .issue h (fun h1 => .ite h1 (.modCtx h1))

theorem State.Formed.releaseTsync {g} (h : s.Formed) : (s.releaseTsync g).Formed := by
  unfold State.releaseTsync
  split
  exacts [.ite (.modCtx h) h, h]

theorem State.Formed.noteOperand {part g bay t} (h : s.Formed) : (s.noteOperand part g bay t).Formed :=
  .ite (.foldl h (fun _ _ h1 => .noteBlock h1)) h

theorem State.Formed.writeRows {p g bay t rows} (h : s.Formed) : (s.writeRows p g bay t rows).Formed :=
  .foldl h (fun _ _ h1 => .ite (.clearTensorTags (.tensorWrite h1)) (.clearSlotTags (.setBytes h1)))

theorem State.Formed.writeLoc {p g bay loc a bs} (h : s.Formed) : (s.writeLoc p g bay loc a bs).Formed :=
  .ite (.tensorWrite h) (.setBytes h)

theorem State.Formed.runTmma {g bay o} (h : s.Formed) : (s.runTmma g bay o).Formed :=
  .ite (.add (.writeRows (.noteOperand (.noteOperand h)))) (.writeRows (.noteOperand (.noteOperand h)))

theorem State.Formed.readLoc {p g bay loc a n good} (h : s.Formed) : (s.readLoc p g bay loc a n good).2.Formed :=
  .ite_snd (.ite_snd (.noteRead h) (.freeBytes (.noteRead h))) h

theorem State.Formed.readRowsFrom {p g bay t good l} (h : s.Formed) : (s.readRowsFrom p g bay t good l).2.Formed := by
  induction l generalizing s with
  | nil => exact h
  | cons r l ih => exact ih (.readLoc h)

theorem State.Formed.copyBlock {p g bay a d good i} (h : s.Formed) : (s.copyBlock p g bay a d good i).Formed :=
  .setSlotTag (.writeLoc (.readLoc h))

theorem State.Formed.runTload {p g bay o good} (h : s.Formed) : (s.runTload p g bay o good).Formed :=
  .ite (.foldl h (fun _ _ h1 => .copyBlock h1)) (.ite (.writeLoc (.readLoc (.writeRows (.readRowsFrom h))))
    (.writeRows (.readRowsFrom h)))

theorem State.Formed.writeScales {p g bay t rows} (h : s.Formed) : (s.writeScales p g bay t rows).Formed :=
  .ite (.clearTensorTags (.writeLoc h)) (.clearSlotTags (.writeLoc h))

theorem State.Formed.runTstore {p g bay o} (h : s.Formed) : (s.runTstore p g bay o).Formed :=
  .ite (.ite (.writeScales (.writeRows (.wr h))) (.writeScales (.writeRows h))) (.ite (.writeScales (.writeRows h))
    (.writeRows h))

theorem State.Formed.runTew {g bay o} (h : s.Formed) : (s.runTew g bay o).Formed :=
  .ite (.writeRows h) (.add (.writeRows h))

theorem State.Formed.runTfn {g bay o} (h : s.Formed) : (s.runTfn g bay o).Formed := .writeRows h

theorem State.Formed.runTred {g bay o} (h : s.Formed) : (s.runTred g bay o).Formed := .writeRows h

theorem State.Formed.runTileOp {p g bay o good} (h : s.Formed) : (s.runTileOp p g bay o good).Formed :=
  .ite (.runTmma h) (.ite (.runTload h) (.ite (.runTstore h) (.ite (.runTew h) (.ite (.runTfn h) (.runTred h)))))

theorem State.Formed.noteHomes {p g t} (h : s.Formed) : (s.noteHomes p g t).Formed :=
  .ite (.markSlice (.ite (.markSlice h) h)) (.ite (.markSlice h) h)

theorem State.Formed.noteBubbles {g bay n} (h : s.Formed) : (s.noteBubbles g bay n).Formed := .ite h (.wr (.add h))

theorem State.Formed.doBayInstructionComplete {g bay good bubbles busy} (h : s.Formed) :
    (doBayInstructionComplete g bay good bubbles busy s).Formed := by
  unfold Machine.doBayInstructionComplete
  split
  · exact h
  · exact .ite h
      (.releaseTsync (.noteBubbles (.ite (.countPart (.runTileOp (.setBayQueue (.noteHomes (.noteHomes h)))))
      (.runTileOp (.setBayQueue (.noteHomes (.noteHomes h)))))))

/-! ### The near-bank units -/

theorem State.Formed.setSeg {h pc v} (hs : s.Formed) : (s.setSeg h pc v).Formed := .frame hs

theorem State.Formed.setHeldOn {h pc l} (hs : s.Formed) : (s.setHeldOn h pc l).Formed := .frame hs

theorem State.Formed.mergeWrite {k off bs} (h : s.Formed) : (s.mergeWrite k off bs).Formed := by
  induction bs generalizing s off with
  | nil => exact h
  | cons b bs ih => exact ih (.frame h)

theorem State.Formed.doAmrg {x f} (h : s.Formed) : (doAmrg x f s).Formed :=
  .issue h (fun h1 => .foldl h1 (fun _ _ h2 => .mergeWrite h2))

theorem State.Formed.nbProgress {a pos skipped done} (h : s.Formed) : (s.nbProgress a pos skipped done).Formed :=
  .setWord h

theorem State.Formed.doAttn {x f} (h : s.Formed) : (doAttn x f s).Formed :=
  .issueOrWait h (fun h1 => .ite (.setSeg h1) (.markSlice (.setSeg h1)))

theorem State.Formed.showOwed {h} (hs : s.Formed) : (s.showOwed h).Formed := .wr (.wr hs)

theorem State.Formed.setOwed {h pc n} (hs : s.Formed) : (s.setOwed h pc n).Formed := .showOwed (.frame hs)

theorem State.Formed.forceRefreshes {h pc} (hs : s.Formed) : (s.forceRefreshes h pc).Formed := .add (.setOwed hs)

theorem State.Formed.doSegReq {h pc} (hs : s.Formed) : (doSegReq h pc s).Formed :=
  .ite hs (.forceRefreshes (.setSeg hs))

theorem State.Formed.doSegGrant {h pc} (hs : s.Formed) : (doSegGrant h pc s).Formed := .ite (.inc (.setSeg hs)) hs

theorem State.Formed.readPartial {h p loc a n good} (hs : s.Formed) :
    (s.readPartial h p loc a n good).2.2.Formed := by
  unfold State.readPartial
  split
  exacts [hs, .noteRead hs]

theorem State.Formed.writePartial {h p td bs} (hs : s.Formed) : (s.writePartial h p td bs).Formed :=
  .ite (.mergeWrite hs) (.tensorWrite hs)

theorem State.Formed.setNbLast {h pc st entry} (hs : s.Formed) : (s.setNbLast h pc st entry).Formed := .frame hs

theorem State.Formed.runSegment {h pc g l off ue good} (hs : s.Formed) :
    (s.runSegment h pc g l off ue good).Formed := by
  unfold State.runSegment
  extract_lets i td n pl pages fail k taken skipped pb start qt ta st e read rb out s1 pos done
  have hstart : start.2.2.Formed := by
    dsimp only [start]
    split
    · split
      exacts [.readPartial hs, hs]
    · exact .readPartial hs
  have h1 : s1.Formed := .writePartial hstart
  clear_value fail
  refine .ite (.setNbLast (.report (.noteUe (.inc (.nbProgress hstart))))) ?_
  cases fail with
  | some => exact .setNbLast (.report (.noteUe (.inc (.nbProgress h1))))
  | none => exact .setNbLast (.nbProgress h1)

theorem State.Formed.doAttnSegmentEnd {h pc ue ce good} (hs : s.Formed) :
    (doAttnSegmentEnd h pc ue ce good s).Formed := by
  refine .ite hs ?_
  extract_lets
  split
  · exact .setNbLast (.countPart (.noteCe (.add (.setSeg hs))))
  · exact .setNbLast (.report (.noteUe (.inc (.nbProgress (.countPart (.noteCe (.add (.setSeg hs))))))))
  · exact .setNbLast (.nbProgress (.countPart (.noteCe (.add (.setSeg hs)))))
  · exact .runSegment (.countPart (.noteCe (.add (.setSeg hs))))

theorem State.Formed.doSegmentGrantExpiry {h pc} (hs : s.Formed) : (doSegmentGrantExpiry h pc s).Formed :=
  .ite (.setSeg hs) hs

theorem State.Formed.serve {x} (h : s.Formed) : (s.serve x).Formed := .ite (.devWrite h) (.emit (.noteAccess h))

theorem State.Formed.releaseAsync {h} (hs : s.Formed) : (s.releaseAsync h).Formed := by
  unfold State.releaseAsync
  split
  exacts [.ite (.modCtx hs) hs, hs]

theorem State.Formed.doBoundaryGapEnd {h pc gap hold} (hs : s.Formed) : (doBoundaryGapEnd h pc gap hold s).Formed :=
  .ite hs <|
  have h1 : State.Formed _ := .foldl (.setHeldOn hs) (fun _ _ h1 => .serve h1)
  .releaseAsync (.setSeg (.ite (.wr (.ite (.forceRefreshes h1) (.setOwed (.forceRefreshes h1))))
    (.wr (.wr (.ite (.forceRefreshes h1) (.setOwed (.forceRefreshes h1)))))))

theorem State.Formed.doAsync {x f} (h : s.Formed) : (doAsync x f s).Formed :=
  .issue h (fun h1 => .ite h1 (.modCtx h1))

theorem State.Formed.doNbStatus {h position} (hs : s.Formed) : (doNbStatus h position s).Formed := .emit hs

theorem State.Formed.setCm {h m} (hs : s.Formed) : (s.setCm h m).Formed :=
  .foldl (.wr (.wr hs)) (fun _ _ h1 => .rateFalls h1)

theorem State.Formed.doAmode {x f} (h : s.Formed) : (doAmode x f s).Formed :=
  .issue h (fun h1 => .ite (.setP (.setCm h1)) (.setP h1))

theorem State.Formed.doOrdinaryAccess {addr write len data ue} (h : s.Formed) :
    (doOrdinaryAccess addr write len data ue s).Formed :=
  .ite (.serve h) (.ite h (.ite (.ite (.inc (.setHeldOn h)) (.inc h))
    (.ite (.emit (.report (.noteUe (.ite h (.setOwed h))))) (.serve (.ite h (.setOwed h))))))

theorem State.Formed.doRefreshDue {h pc} (hs : s.Formed) : (doRefreshDue h pc s).Formed :=
  .ite (.inc (.setOwed hs)) (.ite hs (.setOwed hs))

theorem State.Formed.setTemp {h t} (hs : s.Formed) : (s.setTemp h t).Formed := .wr (.wr hs)

theorem State.Formed.setPower {h power temp} (hs : s.Formed) : (s.setPower h power temp).Formed := .wr (.setTemp hs)

theorem State.Formed.doRefreshRateChange {h temp} (hs : s.Formed) : (doRefreshRateChange h temp s).Formed :=
  .wr (.setTemp hs)

theorem State.Formed.setPwrState {h v} (hs : s.Formed) : (s.setPwrState h v).Formed :=
  .ite (.wr (.wr hs)) (.markSlice (.wr (.wr hs)))

theorem State.Formed.doNbuThrottleEnter {h power temp} (hs : s.Formed) : (doNbuThrottleEnter h power temp s).Formed :=
  .ite (.report (.setPwrState (.setPower hs))) (.setPower hs)

theorem State.Formed.doNbuThrottleExit {h power temp} (hs : s.Formed) : (doNbuThrottleExit h power temp s).Formed :=
  .ite (.setPwrState (.setPower hs)) (.setPower hs)

theorem State.Formed.doNbuCriticalEnter {h power temp} (hs : s.Formed) : (doNbuCriticalEnter h power temp s).Formed :=
  .ite (.report (.setPwrState (.setPower hs))) (.setPower hs)

theorem State.Formed.doNbuCriticalExit {h power temp} (hs : s.Formed) : (doNbuCriticalExit h power temp s).Formed :=
  .ite (.setPwrState (.setPower hs)) (.setPower hs)

theorem State.Formed.failPcPosition {h pc} (hs : s.Formed) : (s.failPcPosition h pc).Formed := .wr hs

theorem State.Formed.losePc {h pc} (hs : s.Formed) : (s.losePc h pc).Formed :=
  .ite hs (.loseCapacity (.wr (.wr (.failPcPosition hs))))

theorem State.Formed.setPcDue {h l} (hs : s.Formed) : (s.setPcDue h l).Formed := .frame hs

theorem State.Formed.substPc {h pc} (hs : s.Formed) : (s.substPc h pc).Formed :=
  .ite hs (.ite (.wr (.wr (.wr (.wr hs)))) (.ite (.ite hs (.setPcDue hs)) (.losePc hs)))

theorem State.Formed.doNbuSubst {a h index} (hs : s.Formed) : (doNbuSubst a h index s).Formed :=
  .ite (.refuseWrite hs) (.ite (.countRefused hs) (.substPc hs))

theorem State.Formed.doPcFaultSubst {h pc ue} (hs : s.Formed) : (doPcFaultSubst h pc ue s).Formed :=
  .substPc (.ite (.noteUe hs) hs)

theorem State.Formed.loseFrame {h pc frame} (hs : s.Formed) : (s.loseFrame h pc frame).Formed := by
  refine .ite hs ?_
  split
  exacts [.losePc hs, .report (.noteUe (.zeroRange (.wr (.wr (.wr (.wr (.wr hs)))))))]

theorem State.Formed.setRemap {h b} (hs : s.Formed) : (s.setRemap h b).Formed := .frame hs

theorem State.Formed.doPcCopyEnd {h lost} (hs : s.Formed) : (doPcCopyEnd h lost s).Formed :=
  .ite hs <|
  have h1 : State.Formed _ := .foldl (.wr hs) (fun _ _ h1 => .loseFrame h1)
  .ite (.foldl (.setPcDue (.wr h1)) (fun _ _ h2 => .substPc h2)) (.setRemap h1)

theorem State.Formed.remapPc {h} (hs : s.Formed) : (s.remapPc h).Formed :=
  .ite (.foldl (.setPcDue (.useSpare (.wr (.failPcPosition (.setRemap hs))))) (fun _ _ h1 => .substPc h1)) hs

theorem State.Formed.doPcRemapApply {h} (hs : s.Formed) : (doPcRemapApply h s).Formed := .remapPc hs

theorem State.Formed.doRemap {h pc position} (hs : s.Formed) : (doRemap h pc position s).Formed :=
  .ite (.remapPc hs) hs

theorem State.Formed.doSptest {h start} (hs : s.Formed) : (doSptest h start s).Formed :=
  .ite (.ite (.wr hs) hs) (.ite (.wr hs) hs)

theorem State.Formed.doNbuLostClear {a h entry} (hs : s.Formed) : (doNbuLostClear a h entry s).Formed :=
  .ite (.refuseWrite hs) (.ite (.wr (.setReg (.zeroRange hs))) hs)

theorem State.Formed.dropLostCm {h} (hs : s.Formed) : (s.dropLostCm h).Formed := .ite hs (.setCm hs)

/-! ### Handover -/

theorem State.Formed.noteOwn {r anchor back st new} (h : s.Formed) : (s.noteOwn r anchor back st new).Formed :=
  .ite h (.setRec (.setRec (.setRec h)))

theorem State.Formed.endRemote {unit ctx st v} (h : s.Formed) : (s.endRemote unit ctx st v).Formed := by
  unfold State.endRemote
  split
  · exact h
  · split
    exacts [.clearStall (.modCtx (.setP (.setG h))), h]

theorem State.Formed.finalDone {i st} (h : s.Formed) : (s.finalDone i st).Formed := by
  unfold State.finalDone
  extract_lets
  split
  exacts [.endWrAs h, .setOut h]

theorem State.Formed.wrFlush {i failed} (h : s.Formed) (hfailed : ∀ {t : State}, t.Formed → (failed t).Formed) :
    (s.wrFlush i failed).Formed := by
  unfold State.wrFlush
  extract_lets
  split
  exacts [hfailed h, .issueFlush h]

theorem State.Formed.layerEnd {i} (h : s.Formed) : (s.layerEnd i).Formed :=
  .ite (.wrFlush (.setWr h) (fun h1 => .finalDone h1)) (.endWrAs h)

theorem State.Formed.sentSome {i} (h : s.Formed) : (s.sentSome i).Formed :=
  .ite h (.ite (.endWrAs h) (.ite (.layerEnd h)
    (.ite (.ite (.endWrAs h) (.wrFlush (.setWr h) (fun h1 => .endWrAs h1))) h)))

theorem State.Formed.messageFails {k st} (h : s.Formed) : (s.messageFails k st).Formed := by
  unfold State.messageFails
  split
  · exact h
  · extract_lets
    split
    exacts [.failMsg h, .sentSome (.modWr (.failMsg h))]

theorem State.Formed.offerAll {n xs} (h : s.Formed) : (s.offerAll n xs).Formed := by
  unfold State.offerAll
  split
  exacts [h, .offer (.frame h)]

theorem State.Formed.sendWrite {n i addr key tag ctrInc src left data} (h : s.Formed) :
    (s.sendWrite n i addr key tag ctrInc src left data).Formed :=
  .offer (.modTpc (.newMsg h))

theorem State.Formed.sendRead {n i addr len key dst base} (h : s.Formed) :
    (s.sendRead n i addr len key dst base).Formed :=
  .offer (.newReq h)

theorem State.Formed.layerPages {i} (h : s.Formed) : (s.layerPages i).Formed := by
  refine .ite (.layerEnd (.modWr (.setWr h))) ?_
  split
  · exact .sentSome (.foldl (.setWr h) (fun _ _ h1 => .offerAll (.newMsg (.frame h1))))
  · exact .layerEnd (.modWr (.setWr h))

theorem State.Formed.sealImage {p slot data} (h : s.Formed) : (s.sealImage p slot data).1.Formed :=
  .frame (.setKeySlot h)

theorem State.Formed.buildImage {rec_ slot good} (h : s.Formed) : (s.buildImage rec_ slot good).1.Formed := by
  refine .foldl_fst h fun q x hq => ?_
  split
  · exact hq
  · extract_lets
    split
    exacts [.noteRead hq, .sealImage hq]

theorem State.Formed.ckptCheck {i} (h : s.Formed) : (s.ckptCheck i).Formed := by
  refine .ite ?_ (.endWrAs h)
  split
  exacts [.sendWrite (.setWr h), .endWrAs h]

theorem State.Formed.ckptFlushed {i st} (h : s.Formed) : (s.ckptFlushed i st).Formed :=
  .ite (.endWrAs h) (.ite (.ckptCheck h) (.endWrAs h))

theorem State.Formed.restoreHeader {i} (h : s.Formed) : (s.restoreHeader i).Formed := by
  refine .ite (.endWrAs h) ?_
  split
  · exact .endWrAs h
  · refine .ite (.endWrAs h) ?_
    split
    exacts [.endWrAs h, .sendRead (.setWr h)]

theorem State.Formed.restoreFrames {i good} (h : s.Formed) : (s.restoreFrames i good).1.Formed := by
  refine .foldl_fst h fun q x hq => ?_
  split
  · exact hq
  · extract_lets
    split
    · split
      exacts [.tensorWrite hq, hq]
    · exact hq

theorem State.Formed.restoreBody {i good} (h : s.Formed) : (s.restoreBody i good).Formed :=
  .endWrAs (.modWr (.ite (.moveRec (.setRec (.restoreFrames h))) (.restoreFrames h)))

theorem State.Formed.readDone {i got good} (h : s.Formed) : (s.readDone i got good).Formed :=
  .ite (.endWrAs (.wr h)) (.ite (.ite (.ite (.layerPages (.setWr h)) (.layerEnd (.setWr h))) (.setWr h))
    (.ite (.ite (.restoreHeader h) (.restoreBody h)) h))

theorem State.FormedIn.retryClose {inb h st} (hs : s.Formed) : State.FormedIn (s.retryClose inb h st) :=
  .ite (.some (.ite (.setInn hs) (.setOut hs))) .none

theorem State.Formed.endOutbound {h st back} (hs : s.Formed) : (s.endOutbound h st back).Formed :=
  .endWrAs (.closeHo (.ite (.inc (.ite (.moveRec (.modWr hs)) (.modWr hs)))
    (.ite (.inc (.ite (.moveRec (.modWr hs)) (.modWr hs))) (.ite (.ite (.failRecord (.modWr hs)) (.modWr hs))
    (.inc (.modWr hs))))))

theorem State.Formed.endInbound {h st} (hs : s.Formed) : (s.endInbound h st).Formed :=
  .closeHo (.ite (.markTrigs (.inc (.ite (.moveRec hs) hs))) (.ite (.ite (.failRecord hs) hs) (.inc hs)))

theorem State.Formed.closeResult {inb i st back new anchor} (h : s.Formed) :
    (s.closeResult inb i st back new anchor).Formed := by
  refine .ite h ?_
  split
  · exact State.FormedIn.retryClose h _ ‹_›
  · exact .ite (.endInbound (.noteOwn h)) (.endOutbound (.noteOwn h))

theorem State.Formed.endWr {i st back mf} (h : s.Formed) : (s.endWr i st back mf).Formed :=
  .ite h (.ite (.endWrAs (.setWr h)) (.ite (.endWrAs (.setWr (.ite (.noteOwn h) h)))
    (.ite (.endWrAs (.setWr (.ite (.noteOwn (.ite (.inc h) h)) (.ite (.inc h) h))))
    (.ite (.ite (.finalDone h) (.ite (.layerEnd (.setWr h)) (.setWr h))) (.ite (.ckptFlushed h) (.endWrAs h))))))

theorem State.Formed.endOwner {o st back mf new anchor} (h : s.Formed) :
    (s.endOwner o st back mf new anchor).Formed := by
  unfold State.endOwner
  split
  exacts [.endWr h, .endRemote h, .ite (.issueGive h) (.report h), .closeResult h, .ite h (.report h), h]

theorem State.Formed.noteFlushFail {n st} (h : s.Formed) : (s.noteFlushFail n st).Formed :=
  .report (.wr (.wr (.wr (.wr h))))

theorem State.Formed.confirmMsg {o m} (h : s.Formed) : (s.confirmMsg o m).Formed := by
  unfold State.confirmMsg
  extract_lets s1 s2
  have h1 : s1.Formed := by
    dsimp only [s1]
    split
    exacts [.add h, h]
  have h2 : s2.Formed := by
    dsimp only [s2]
    split
    exacts [.ite (.add (.setHoBit h1)) h1, h1]
  refine .ite ?_ h2
  split
  exacts [.wr (.add h2), .add h2]

theorem State.Formed.doFlushComplete {i} (h : s.Formed) : (doFlushComplete i s).Formed := by
  unfold Machine.doFlushComplete
  split
  · exact h
  · refine .ite h ?_
    extract_lets
    split
    · exact .endOwner (.noteFlushFail (.frame (.frame h)))
    · exact .ite (.endOwner (.frame h)) (.endOwner (.frame (.foldl (.frame h) (fun _ _ h1 => .confirmMsg h1))))

/-! ### The anchor -/

theorem State.Formed.countAnch {up} (h : s.Formed) : (s.countAnch up).Formed := .wr h

theorem State.FormedIn.anchStore {req new} (h : s.Formed) : State.FormedIn (s.anchStore req new) := by
  unfold State.anchStore
  split
  · exact .ite (.some (.countAnch (.setWord (.setWord h)))) (.some (.setWord h))
  · refine .ite (.some h) ?_
    split
    exacts [.some (.countAnch (.setWord (.setWord h))), .none]

theorem State.Formed.ownStore {o cur} (h : s.Formed) : (s.ownStore o cur).1.Formed := by
  unfold State.ownStore
  split
  · exact State.FormedIn.anchStore h _ ‹_›
  · exact .inc h

theorem State.Formed.ownDecide {o} (h : s.Formed) : (s.ownDecide o).1.Formed := by
  unfold State.ownDecide
  split
  exacts [h, .ite_fst h (.ite_fst (.ite_fst (.ownStore h) h) (.ite_fst h (.ite_fst (.ownStore h) h)))]

theorem State.Formed.sendReply {n psn kind flds data} (h : s.Formed) : (s.sendReply n psn kind flds data).Formed :=
  .frame (.modTpc h)

theorem State.FormedIn.offerOwn {p owner node part kind req expected new mirror mnode mpart} (h : s.Formed) :
    State.FormedIn (s.offerOwn p owner node part kind req expected new mirror mnode mpart) :=
  .map fun _ => .offer (.newReq h)

theorem State.Formed.sendMirrors {req w l} (h : s.Formed) : (s.sendMirrors req w l).1.Formed := by
  induction l generalizing s with
  | nil => exact h
  | cons x l ih =>
    unfold State.sendMirrors
    split
    · exact ih (State.FormedIn.offerOwn h _ ‹_›)
    · exact ih h

theorem State.Formed.ownAnswer {o} (h : s.Formed) : (s.ownAnswer o).Formed := by
  unfold State.ownAnswer
  extract_lets
  split
  exacts [.sendReply (.ite (.inc h) h), .endOwner (.ite (.inc h) h)]

theorem State.Formed.ownRun {n} (h : s.Formed) : (s.ownRun n).Formed := by
  induction n generalizing s with
  | zero => exact h
  | succ n ih =>
    unfold State.ownRun
    split
    · exact h
    · refine .ite (.ite (ih (.ownAnswer (.frame h))) h) (ih (.frame ?_))
      split
      exacts [.sendMirrors (.ownDecide h), .ownDecide h]

theorem State.Formed.runAnchor (h : s.Formed) : s.runAnchor.Formed := .ownRun h

theorem State.Formed.ownArrive {o} (h : s.Formed) : (s.ownArrive o).Formed := .runAnchor (.frame h)

theorem State.Formed.mirrorBack {st} (h : s.Formed) : (s.mirrorBack st).Formed := by
  unfold State.mirrorBack
  split
  exacts [h, .runAnchor (.frame h)]

theorem State.Formed.issueFailed {p unit gfa kind} (h : s.Formed) : (s.issueFailed p unit gfa kind).Formed := by
  unfold State.issueFailed
  split
  exacts [h, .report h]

theorem State.Formed.sendOwn {p owner node part kind req expected new mirror mnode mpart} (h : s.Formed) :
    (s.sendOwn p owner node part kind req expected new mirror mnode mpart).Formed := by
  refine .ite (.endOwner h) (.ite (.ownArrive h) ?_)
  split
  · exact State.FormedIn.offerOwn h _ ‹_›
  · exact .endOwner (.issueFailed h)

theorem State.Formed.makeClose {inb h} (hs : s.Formed) : (s.makeClose inb h).Formed := by
  unfold State.makeClose
  extract_lets
  split
  exacts [.closeResult (.ite (.setInn hs) (.setOut hs)), .sendOwn (.ite (.setInn hs) (.setOut hs))]

theorem State.Formed.doHandoverClose {inb h} (hs : s.Formed) : (doHandoverClose inb h s).Formed :=
  .ite (.makeClose hs) hs

theorem State.Formed.doOwnRetry {inb h} (hs : s.Formed) : (doOwnRetry inb h s).Formed := .ite (.makeClose hs) hs

theorem State.Formed.finishReq {r st back mf} (h : s.Formed) : (s.finishReq r st back mf).Formed := by
  unfold State.finishReq
  extract_lets
  split
  · exact .mirrorBack (.dropReq h)
  · exact .ite (.dropReq h) (.frame (.dropReq h))
  · exact .endOwner (.dropReq h)
  · exact .endOwner (.dropReq h)

theorem State.Formed.startSweep (h : s.Formed) : s.startSweep.Formed := by
  refine .foldl (.wr (.wr (.frame h))) fun t e ht => ?_
  split
  · exact State.FormedIn.offerOwn ht _ ‹_›
  · exact .frame ht

theorem State.Formed.doAnchCopySweepEnd (h : s.Formed) : (doAnchCopySweepEnd s).Formed := .ite (.wr (.wr h)) h

/-! ### Moves -/

theorem State.Formed.giveToken {u ctr} (h : s.Formed) : (s.giveToken u ctr).Formed := .issueGive h

theorem State.Formed.doMove {x f} (h : s.Formed) : (doMove x f s).Formed :=
  .issue h (fun h1 => .ite (.setP (.giveToken h1)) (.ite (.setP (.frame h1)) (.setP h1)))

theorem State.Formed.moveTags {m tags} (h : s.Formed) : (s.moveTags m tags).Formed :=
  .ite (.foldl (.clearTensorTags h) (fun _ _ h1 => .setTaTag h1)) (.clearTensorTags h)

theorem State.Formed.noteWrite {p ta n} (h : s.Formed) : (s.noteWrite p ta n).Formed := by
  refine .foldl h (fun _ _ h1 => ?_)
  split
  exacts [.noteTensorFail h1, h1]

theorem State.Formed.moveTensor {i m good} (h : s.Formed) : (s.moveTensor i m good).Formed :=
  .ite h (.ite (.noteRead (.frame h)) (.ite (.startDemand h) (.ite (.noteWrite (.frame h))
    (.giveToken (.moveTags (.landWrite (.frame h)))))))

theorem State.Formed.movePhys {i m} (h : s.Formed) : (s.movePhys i m).Formed :=
  .ite (.noteAccess (.frame h)) (.ite (.noteAccess (.frame h)) (.giveToken (.copy (.frame h))))

theorem State.Formed.doMoveComplete {i ue good} (h : s.Formed) : (doMoveComplete i ue good s).Formed := by
  unfold Machine.doMoveComplete
  split
  exacts [h, .ite (.report (.noteUe (.frame h))) (.ite (.movePhys h) (.moveTensor h))]

theorem State.Formed.askMove {x pres r} (h : s.Formed) : (s.askMove x pres r).Formed :=
  .ite (.decideMove (.setP h)) (.setP h)

theorem State.Formed.doMigr {x f} (h : s.Formed) : (doMigr x f s).Formed := .issue h (fun h1 => .askMove h1)

theorem State.Formed.doPark {x f} (h : s.Formed) : (doPark x f s).Formed := .issue h (fun h1 => .askMove h1)

/-! ### Work requests -/

theorem State.Formed.refuseNoPart {e} (h : s.Formed) : (s.refuseNoPart e).Formed := .report (.noteHelLast h)

theorem State.Formed.runEntry {e p eff} (h : s.Formed) (heff : ∀ {a} {t : State}, t.Formed → (eff a t).Formed) :
    (s.runEntry e p eff).Formed := by
  unfold State.runEntry
  split
  · exact h
  · refine .ite (.endWrAs (.inc (.openWr (.frame h)))) (.ite (.ite ?_ (.endWrAs (.inc (.openWr (.frame h)))))
      (heff (.inc (.openWr (.frame h)))))
    split
    exacts [.armSlot (.closeWr (.inc (.openWr (.frame h)))), .endWrAs (.inc (.openWr (.frame h)))]

theorem State.Formed.takeWr {ops eff} (h : s.Formed) (heff : ∀ {a} {t : State}, t.Formed → (eff a t).Formed) :
    (s.takeWr ops eff).Formed := by
  unfold State.takeWr
  split
  · exact h
  · split
    · exact h
    · refine .ite h ?_
      dsimp only
      split
      exacts [.refuseNoPart (.frame (.popQueue h)), .runEntry (.frame (.popQueue h)) heff]

theorem State.Formed.doWrNop (h : s.Formed) : (doWrNop s).Formed := .takeWr h (fun h1 => .endWrAs h1)

theorem State.Formed.onPath {i kind eff} (h : s.Formed) (heff : ∀ {a} {t : State}, t.Formed → (eff a t).Formed) :
    (s.onPath i kind eff).Formed := by
  unfold State.onPath
  extract_lets
  split
  exacts [heff h, .endWrAs (.issueFailed h)]

theorem State.Formed.doWrWrite (h : s.Formed) : (doWrWrite s).Formed :=
  .takeWr h (fun h1 => .ite (.endWrAs h1) (.onPath h1 (fun h2 => .sendWrite h2)))

theorem State.Formed.doWrRead (h : s.Formed) : (doWrRead s).Formed :=
  .takeWr h (fun h1 => .ite (.endWrAs h1) (.onPath h1 (fun h2 => .sendRead h2)))

theorem State.Formed.sendAtom {i op compare operand} (h : s.Formed) : (s.sendAtom i op compare operand).Formed :=
  .onPath h (fun h1 => .offer (.newReq h1))

theorem State.Formed.doWrCas (h : s.Formed) : (doWrCas s).Formed := .takeWr h (fun h1 => .sendAtom h1)

theorem State.Formed.doWrFadd (h : s.Formed) : (doWrFadd s).Formed := .takeWr h (fun h1 => .sendAtom h1)

theorem State.Formed.doWrFlush (h : s.Formed) : (doWrFlush s).Formed :=
  .takeWr h (fun h1 => .onPath h1 (fun h2 => .issueFlush h2))

theorem State.Formed.doWrOwnCas (h : s.Formed) : (doWrOwnCas s).Formed :=
  .takeWr h (fun h1 => .ite (.endWrAs h1) (.sendOwn h1))

theorem State.Formed.doWrOwnRead (h : s.Formed) : (doWrOwnRead s).Formed := .takeWr h (fun h1 => .sendOwn h1)

theorem State.Formed.doWrOwnMirror (h : s.Formed) : (doWrOwnMirror s).Formed := .takeWr h (fun h1 => .sendOwn h1)

theorem State.FormedIn.layerOpen {w} (h : s.Formed) : State.FormedIn (s.layerOpen w) := by
  unfold State.layerOpen
  split
  exacts [.some h, .map fun _ => .openHo h]

theorem State.Formed.readLists {n i} (h : s.Formed) : (s.readLists n i).Formed :=
  .foldl (.setWr h) (fun _ _ h1 => .sendRead h1)

theorem State.Formed.doWrLayer (h : s.Formed) : (doWrLayer s).Formed := by
  refine .takeWr h (fun hs => .ite (.endWrAs hs) ?_)
  split
  · split
    · exact .endWrAs hs
    · exact .onPath (State.FormedIn.layerOpen hs _ ‹_›) (fun ht => .ite (.layerPages ht) (.readLists ht))
  · exact .endWrAs hs

theorem State.Formed.doWrCkpt {good} (h : s.Formed) : (doWrCkpt good s).Formed := by
  refine .takeWr h (fun h1 => .ite (.endWrAs h1) (.ite (.endWrAs h1) ?_))
  split
  · exact .endWrAs h1
  · exact .onPath h1 (fun h2 => .ite (.endWrAs (.modWr (.setWr (.addInUse (.buildImage h2)))))
      (.sendWrite (.setWr (.addInUse (.buildImage h2)))))

theorem State.Formed.doWrRestore (h : s.Formed) : (doWrRestore s).Formed :=
  .takeWr h (fun h1 => .ite (.endWrAs h1) (.onPath h1 (fun h2 => .sendRead (.setWr h2))))

theorem State.Formed.noteWrFail {w st progress} (h : s.Formed) : (s.noteWrFail w st progress).Formed :=
  .ite (.report h) h

theorem State.Formed.doWrComplete {i} (h : s.Formed) : (doWrComplete i s).Formed := by
  unfold Machine.doWrComplete
  split
  · exact h
  · split
    · exact h
    · exact
        have h1 : State.Formed _ := .ite (.closeWr (.ite (.addInUse h) h))
          (.noteWrFail (.noteHelError (.closeWr (.ite (.addInUse h) h))))
        .ite (.helComplete h1) h1

theorem State.Formed.doHelMeasStart {a} (h : s.Formed) : (doHelMeasStart a s).Formed :=
  .ite (.refuseWrite h) (.frame (.wr (.wr h)))

theorem State.Formed.doHelMeasStop {a} (h : s.Formed) : (doHelMeasStop a s).Formed := .ite (.refuseWrite h) (.frame h)

/-! ### Remote instructions -/

theorem State.Formed.remoteRecord {x st gfa kind} (h : s.Formed) : (s.remoteRecord x st gfa kind).Formed := .report h

theorem State.Formed.postRemote {x pres node peer reach gfa kind eff} (h : s.Formed) (heff : ∀ {a} {t : State},
  t.Formed → (eff a t).Formed) :
    (s.postRemote x pres node peer reach gfa kind eff).Formed := by
  refine .ite (.setP h) (.ite (.remoteRecord (.setP h)) ?_)
  split
  exacts [.ite (.setP h) (.remoteRecord (.setP h)), heff (.setP h)]

theorem State.Formed.dropLines {gfa n} (h : s.Formed) : (s.dropLines gfa n).Formed := .dropLine (.dropLine h)

theorem State.Formed.postWrite {x n gfa bytes kind flds} (h : s.Formed) :
    (s.postWrite x n gfa bytes kind flds).Formed :=
  .offer (.newMsg (.dropLines h))

theorem State.Formed.doRst {x f} (h : s.Formed) : (doRst x f s).Formed :=
  .issue h (fun h1 => .postRemote h1 (fun h2 => .postWrite h2))

theorem State.Formed.doMbox {x f} (h : s.Formed) : (doMbox x f s).Formed :=
  .issue h (fun h1 => .postRemote h1 (fun h2 => .postWrite h2))

theorem State.Formed.doRinv {x f} (h : s.Formed) : (doRinv x f s).Formed :=
  .issue h (fun h1 => .postRemote h1 (fun h2 => .frame (.newMsg h2)))

theorem State.Formed.doRfl {x f} (h : s.Formed) : (doRfl x f s).Formed :=
  .issue h (fun h1 => .postRemote h1 (fun h2 => .issueFlush h2))

theorem State.Formed.doRpost {x f} (h : s.Formed) : (doRpost x f s).Formed :=
  .issue h (fun h1 => .ite (.setP h1) (.setP (.frame h1)))

theorem State.Formed.waitRemote {x n op kind gfa d pres size line flds} (h : s.Formed) :
    (s.waitRemote x n op kind gfa d pres size line flds).Formed :=
  .offer (.setReg (.modCtx (.newReq h)))

theorem State.Formed.remoteRefused {x d pres st gfa kind} (h : s.Formed) :
    (s.remoteRefused x d pres st gfa kind).Formed :=
  .remoteRecord (.setP (.setG h))

theorem State.Formed.askRemote {x d pres gfa kind eff} (h : s.Formed) (heff : ∀ {a} {t : State}, t.Formed →
  (eff a t).Formed) :
    (s.askRemote x d pres gfa kind eff).Formed := by
  refine .ite (.remoteRefused h) ?_
  split
  exacts [.ite (.setP (.setG h)) (.remoteRefused h), heff h]

theorem State.Formed.doRld {x f} (h : s.Formed) : (doRld x f s).Formed := by
  refine .issue h (fun h1 => .askRemote h1 (fun h2 => ?_))
  split
  exacts [.setP (.setG (.inc (.useLine h2))), .waitRemote h2]

theorem State.Formed.doRadd {x f} (h : s.Formed) : (doRadd x f s).Formed :=
  .issue h (fun h1 => .askRemote h1 (fun h2 => .waitRemote (.dropLines h2)))

theorem State.Formed.doRcas {x f} (h : s.Formed) : (doRcas x f s).Formed :=
  .issue h (fun h1 => .askRemote h1 (fun h2 => .waitRemote (.dropLines h2)))

/-! ### Barriers -/

theorem State.Formed.noteLate {unit late input} (h : s.Formed) : (s.noteLate unit late input).Formed :=
  .ite (.frame (.add h)) (.frame h)

theorem State.Formed.setBarriers {bs} (h : s.Formed) : (s.setBarriers bs).Formed := .frame h

theorem State.Formed.modBarrier {slot due f} (h : s.Formed) : (s.modBarrier slot due f).Formed := .setBarriers h

theorem State.Formed.barFailed {slot due st} (h : s.Formed) : (s.barFailed slot due st).Formed := .report h

theorem State.Formed.barRelease {slot due} (h : s.Formed) : (s.barRelease slot due).Formed := by
  unfold State.barRelease
  split
  exacts [h, .foldl (.setBarriers h) (fun _ _ h1 => .giveToken h1)]

theorem State.Formed.barSend {slot due node} (h : s.Formed) : (s.barSend slot due node).Formed := by
  refine .ite ?_ ?_
  · split
    exacts [.barRelease (.writeSrc h), .barFailed h]
  · split
    exacts [.barFailed h, .offer (.modTpc h)]

theorem State.Formed.barRoot {off} (h : s.Formed) : (s.barRoot off).Formed := by
  refine .ite h (.ite h ?_)
  split
  exacts [.ite h (.foldl (.writeSrc h) (fun _ _ h1 => .barSend h1)), h]

theorem State.Formed.barTell {slot due} (h : s.Formed) : (s.barTell slot due).Formed := by
  refine .ite ?_ ?_
  · split
    exacts [.barRoot (.writeSrc (.modBarrier h)), .barFailed (.modBarrier h)]
  · split
    exacts [.barFailed (.modBarrier h), .offer (.newReq (.modBarrier h))]

theorem State.Formed.barArrive {x word slot due ctr} (h : s.Formed) : (s.barArrive x word slot due ctr).Formed := by
  refine .ite (.report h) ?_
  extract_lets
  split
  · exact .ite (.barTell (.modBarrier (.ite h (.setBarriers h)))) (.modBarrier (.ite h (.setBarriers h)))
  · exact .modBarrier (.ite h (.setBarriers h))

theorem State.Formed.doBarf {x f} (h : s.Formed) : (doBarf x f s).Formed :=
  .issue h (fun h1 => .barArrive (.noteLate h1))

/-! ### The galleries -/

theorem State.Formed.setSubstDue {g l} (h : s.Formed) : (s.setSubstDue g l).Formed := .frame h

theorem State.Formed.setCopying {g bay b} (h : s.Formed) : (s.setCopying g bay b).Formed := .frame h

theorem State.Formed.failPosition {g bay} (h : s.Formed) : (s.failPosition g bay).Formed := .wr h

theorem State.Formed.zeroBay {g bay} (h : s.Formed) : (s.zeroBay g bay).Formed := .frame (.zeroRange h)

theorem State.Formed.doGalSubst {a g index} (h : s.Formed) : (doGalSubst a g index s).Formed :=
  .ite (.refuseWrite h) (.ite (.countRefused h) (.setSubstDue h))

theorem State.Formed.doBayUe {g bay} (h : s.Formed) : (doBayUe g bay s).Formed :=
  .ite h (.report (.releaseTsync (.noteUe (.setSubstDue (.setBayQueue h)))))

theorem State.Formed.loseBay {g bay} (h : s.Formed) : (s.loseBay g bay).Formed :=
  .loseCapacity (.releaseTsync (.wr (.wr (.setBayQueue (.failPosition h)))))

theorem State.Formed.standIn {g bay ue} (h : s.Formed) : (s.standIn g bay ue).Formed :=
  .useSpare (.ite (.wr (.zeroBay (.wr (.wr (.failPosition h))))) (.setCopying (.wr (.wr (.failPosition h)))))

theorem State.Formed.doBaySubstitute {g} (h : s.Formed) : (doBaySubstitute g s).Formed := by
  unfold Machine.doBaySubstitute
  split
  · exact h
  · exact .ite h (.ite (.setSubstDue h) (.ite (.standIn (.setSubstDue h)) (.ite (.loseBay (.setSubstDue h))
      (.setSubstDue h))))

theorem State.Formed.doBayCopyDone {g bay} (h : s.Formed) : (doBayCopyDone g bay s).Formed := .setCopying h

theorem State.Formed.restoreTags {tags keep} (h : s.Formed) : (s.restoreTags tags keep).Formed :=
  .foldl h (fun _ _ h1 => .ite (.frame h1) (.frame h1))

theorem State.Formed.setSaveInfo {g v} (h : s.Formed) : (s.setSaveInfo g v).Formed := .frame h

theorem State.Formed.markApply {g} (h : s.Formed) : (s.markApply g).Formed := .setSaveInfo h

theorem State.Formed.preemptApply {g} (h : s.Formed) : (s.preemptApply g).Formed :=
  .ite h (.ite (.ite (.wr (.markApply (.wr h))) (.preemptRefused (.countRefused (.wr h)))) (.ite (.wr (.markApply h))
    h))

theorem State.Formed.doPreemptDrainDone {g} (h : s.Formed) : (doPreemptDrainDone g s).Formed :=
  .ite (.wr (.devWriteWords (.wr (.setSaveInfo h)))) h

theorem State.Formed.startAt {x pc} (h : s.Formed) : (s.startAt x pc).Formed := .modCtx h

theorem State.Formed.preemptFault {g st} (h : s.Formed) : (s.preemptFault g st).Formed := .report h

theorem State.Formed.doPreemptSaveDone {g good} (h : s.Formed) : (doPreemptSaveDone g good s).Formed :=
  .ite h <|
  have h1 : State.Formed _ := .ite (.foldl h (fun _ _ h1 => .copy h1)) h
  .ite (.startAt (.wr (.wr (.inc (.wr h1))))) (.preemptFault (.wr (.startAt (.wr (.wr (.inc (.wr h1)))))))

theorem State.Formed.loadSaved {g base} (h : s.Formed) : (s.loadSaved g base).Formed :=
  .startAt (.foldl (.foldl (.foldl (.clearRegs h) (fun _ _ h1 => .setG h1)) (fun _ _ h1 => .setP h1))
    (fun _ _ h1 => .setT h1))

theorem State.Formed.resumeBatches {g} (h : s.Formed) : (s.resumeBatches g).Formed :=
  .foldl h (fun _ _ h1 => .ite (.putBatch h1) h1)

theorem State.Formed.markBatches {g st} (h : s.Formed) : (s.markBatches g st).Formed :=
  .foldl h (fun _ _ h1 => .putBatch h1)

theorem State.Formed.doPreemptRestoreDone {g good} (h : s.Formed) : (doPreemptRestoreDone g good s).Formed :=
  .ite h (.resumeBatches (.ite (.loadSaved (.foldl (.restoreTags (.wr (.wr (.wr h)))) (fun _ _ h1 => .copy h1)))
    (.markBatches (.preemptFault (.restartCtx (.restoreTags (.wr (.wr (.wr h)))))))))

theorem State.Formed.doGalSrSeedWrite {a g n seed} (h : s.Formed) : (doGalSrSeedWrite a g n seed s).Formed :=
  .ite (.refuseWrite h) (.ite (.wr h) (.countRefused h))

theorem State.Formed.doTagLoadGo {a g} (h : s.Formed) : (doTagLoadGo a g s).Formed :=
  .ite (.refuseWrite h) (.ite (.countRefused h) (.ite (.wr (.wr h)) (.wr (.wr (.wr h)))))

theorem State.Formed.loadTags {g loc bay n src dst done} (h : s.Formed) :
    (s.loadTags g loc bay n src dst done).1.Formed := by
  induction n generalizing s src dst done with
  | zero => exact h
  | succ n ih =>
    unfold State.loadTags
    split
    · exact h
    · split
      exacts [h, ih (.setSlotTag h)]

theorem State.Formed.doTagLoadDone {g} (h : s.Formed) : (doTagLoadDone g s).Formed :=
  .ite h (.ite (.report (.wr (.wr (.wr (.loadTags h))))) (.wr (.wr (.wr (.loadTags h)))))

theorem State.Formed.setPendTable {g n ws} (h : s.Formed) : (s.setPendTable g n ws).Formed := .frame h

theorem State.Formed.useTable {g n ws} (h : s.Formed) : (s.useTable g n ws).Formed := by
  unfold State.useTable
  exact .wr (.setLiveTable (.setPendTable h))

theorem State.Formed.resetShadowTable {g n} (h : s.Formed) : (s.resetShadowTable g n).Formed :=
  .setReg (.foldl h (fun _ _ h1 => .setReg h1))

theorem State.Formed.offerTable {g n} (h : s.Formed) : (s.offerTable g n).Formed :=
  .ite h (.ite (.setPendTable h) (.setPendTable (.countRefused (.resetShadowTable h))))

theorem State.Formed.settleTables {g} (h : s.Formed) : (s.settleTables g).Formed := by
  unfold State.settleTables
  exact .wr (.foldl h fun _ _ h1 => .ite h1 (.useTable h1))

/-! ### Connections -/

theorem State.Formed.endReq {r st back mf} (h : s.Formed) : (s.endReq r st back mf).Formed := by
  unfold State.endReq
  split
  exacts [.frame (.dropReq h), .finishReq h]

theorem State.Formed.failSend {x st} (h : s.Formed) : (s.failSend x st).Formed := by
  unfold State.failSend
  split
  · exact .endReq h
  · split
    exacts [.barFailed h, .messageFails h]

theorem State.Formed.dropPackets {r} (h : s.Formed) : (s.dropPackets r).Formed := .frame h

theorem State.Formed.countTp (h : s.Formed) : s.countTp.Formed := .wr (.wr h)

theorem State.Formed.endCtxWork {n st queuedC sentC} (h : s.Formed) : (s.endCtxWork n st queuedC sentC).Formed :=
  .countTp (.foldl (.foldl (.foldl (.foldl (.frame h) (fun _ _ h1 => .ite h1 (.failSend h1))) (fun _ _ h1 => .ite h1
    (.failSend h1))) (fun _ _ h1 => .endReq h1)) (fun _ _ h1 => .modMsg (.messageFails h1)))

theorem State.Formed.finishCmd {n op st} (h : s.Formed) : (s.finishCmd n op st).Formed :=
  .foldl (.setTpc h) (fun _ _ h1 => .tpBell (.tpResult h1))

theorem State.Formed.finishCmds {n st} (h : s.Formed) : (s.finishCmds n st).Formed :=
  .finishCmd (.finishCmd (.finishCmd (.finishCmd h)))

theorem State.Formed.unpin {n} (h : s.Formed) : (s.unpin n).Formed := .ite (.wr (.modTpc h)) h

theorem State.Formed.setClosed {n} (h : s.Formed) : (s.setClosed n).Formed := .setTpc (.setCached (.unpin h))

theorem State.Formed.failCtx {n st} (h : s.Formed) : (s.failCtx n st).Formed :=
  .finishCmds (.tpBell (.report (.endCtxWork (.setTpc h))))

theorem State.Formed.sendOpen {n} (h : s.Formed) : (s.sendOpen n).Formed := .sendExpress (.setTpc h)

theorem State.Formed.goOpen {n} (h : s.Formed) : (s.goOpen n).Formed := .finishCmd (.grant (.frame (.modTpc h)))

theorem State.Formed.ctxCommand {a p eff} (h : s.Formed) (heff : ∀ {t : State}, t.Formed → (eff t).1.Formed) :
    (s.ctxCommand a p eff).Formed := by
  refine .ite (.tpResult (.refuseWrite h)) ?_
  extract_lets
  split
  exacts [.tpResult (heff h), .wrPriv (heff h)]

theorem State.Formed.waitCmd {a n op} (h : s.Formed) : (s.waitCmd a n op).Formed := .modTpc h

theorem State.Formed.doCtxCreate {a n p} (h : s.Formed) : (doCtxCreate a n p s).Formed := by
  refine .ctxCommand h fun h1 => ?_
  extract_lets node peer aes
  split
  · refine .ite_fst (.frame (.waitCmd ?_)) (.sendOpen (.waitCmd ?_))
    all_goals
      split
      · exact .touch (.setCached (State.FormedIn.makeFrame (.setTpc h1) _ ‹_›))
      · exact .startFetch (.setTpc h1)
  · exact h1

theorem State.Formed.doCtxClose {a n} (h : s.Formed) : (doCtxClose a n s).Formed :=
  .ctxCommand h (fun h1 => .ite_fst h1 (.waitCmd (.sendExpress (.revoke (.modTpc h1)))))

theorem State.Formed.doCtxQuery {a n} (h : s.Formed) : (doCtxQuery a n s).Formed :=
  .ctxCommand h (fun h1 => .wrPriv (.wrPriv (.wrPriv (.wrPriv (.wrPriv h1)))))

theorem State.Formed.doCtxKeyInstall {a n} (h : s.Formed) : (doCtxKeyInstall a n s).Formed :=
  .ctxCommand h (fun h1 => .ite_fst h1 (.waitCmd (.frame h1)))

theorem State.Formed.doCtxKeySwitch {a n} (h : s.Formed) : (doCtxKeySwitch a n s).Formed :=
  .ctxCommand h (fun h1 => .ite_fst h1 (.waitCmd (.sendExpress (.setTpc h1))))

theorem State.Formed.doCtxPin {a n} (h : s.Formed) : (doCtxPin a n s).Formed :=
  .ctxCommand h (fun h1 => .ite_fst h1 (.ite_fst h1 (.startFetch (.wr (.modTpc h1)))))

theorem State.Formed.doCtxUnpin {a n} (h : s.Formed) : (doCtxUnpin a n s).Formed :=
  .ctxCommand h (fun h1 => .unpin h1)

theorem State.Formed.doCtxReset {a n} (h : s.Formed) : (doCtxReset a n s).Formed :=
  .ctxCommand h (fun h1 => .ite_fst h1 (.setClosed (.endCtxWork h1)))

theorem State.Formed.doConnKeyInstallDone {n} (h : s.Formed) : (doConnKeyInstallDone n s).Formed := by
  unfold Machine.doConnKeyInstallDone
  extract_lets
  split
  exacts [h, .ite h (.ite (.sendOpen (.modTpc (.frame h))) (.finishCmd (.modTpc (.frame h))))]

theorem State.Formed.requeue {e x} (h : s.Formed) : (s.requeue e x).Formed := .ite (.frame h) (.frame h)

theorem State.Formed.dropSent {e} (h : s.Formed) : (s.dropSent e).Formed := .frame h

theorem State.Formed.resend {e timeouts} (h : s.Formed) : (s.resend e timeouts).Formed := .requeue (.dropSent h)

theorem State.Formed.doPacketResendTimeout {n psn} (h : s.Formed) : (doPacketResendTimeout n psn s).Formed := by
  unfold Machine.doPacketResendTimeout
  extract_lets
  split
  · exact .ite (.failSend (.dropSent h)) (.resend h)
  · exact .ite h (.ite (.ite (.failCtx h) (.sendOpen h)) (.ite (.sendExpress h) h))

theorem State.Formed.doSResponseTimeout {n req} (h : s.Formed) : (doSResponseTimeout n req s).Formed := by
  unfold Machine.doSResponseTimeout
  split
  exacts [h, .ite h (.endReq (.dropPackets h))]

theorem State.Formed.doBusyRetryExpiry {n} (h : s.Formed) : (doBusyRetryExpiry n s).Formed := .frame h

theorem State.Formed.doIdleRevokeTimeout {n} (h : s.Formed) : (doIdleRevokeTimeout n s).Formed := .ite (.revoke h) h

/-! ### Packets received -/

theorem State.Formed.sendNack {n psn st units} (h : s.Formed) : (s.sendNack n psn st units).Formed := .sendExpress h

theorem State.Formed.sendAck {n} (h : s.Formed) : (s.sendAck n).Formed := .sendExpress (.setTpc h)

theorem State.Formed.noteArrival {n} (h : s.Formed) : (s.noteArrival n).Formed :=
  .ite (.sendAck (.modTpc h)) (.modTpc h)

theorem State.Formed.placed {n u} (h : s.Formed) : (s.placed n u).Formed := .ite h (.grant (.modTpc h))

theorem State.Formed.lateTp (h : s.Formed) : s.lateTp.Formed := .inc h

theorem State.Formed.resendKept {n psn} (h : s.Formed) : (s.resendKept n psn).Formed := by
  unfold State.resendKept
  split
  exacts [.inc (.frame h), h]

theorem State.Formed.noteRefused {n kind psn} (h : s.Formed) : (s.noteRefused n kind psn).Formed := .ite (.modTpc h) h

theorem State.Formed.rxPsn {h kind bytes eff} (hs : s.Formed) (heff : ∀ {t : State}, t.Formed → (eff t).1.Formed) :
    (s.rxPsn h kind bytes eff).Formed := by
  refine .ite (.lateTp hs) (.ite (.noteArrival (.resendKept (.inc hs)))
    (.ite (.inc hs) (.ite (.sendNack (.noteRefused (.noteArrival (.modTpc hs))))
    (.ite (.inc hs) (.ite (.sendNack (.inc hs)) ?_)))))
  extract_lets
  split
  · exact .placed (.noteArrival (.modTpc (heff (.ite (.ite (.inc hs) hs) (.modTpc (.touch (.ite (.inc hs) hs)))))))
  · exact .noteArrival (.modTpc (heff (.ite (.ite (.inc hs) hs) (.modTpc (.touch (.ite (.inc hs) hs))))))
  · exact .sendNack
      (.noteRefused (.noteArrival (.modTpc (heff (.ite (.ite (.inc hs) hs) (.modTpc (.touch (.ite (.inc hs) hs))))))))
  · exact .sendNack (heff (.ite (.ite (.inc hs) hs) (.modTpc (.touch (.ite (.inc hs) hs)))))

theorem State.Formed.rxControl {h eff} (hs : s.Formed) (heff : ∀ {t : State}, t.Formed → (eff t).Formed) :
    (s.rxControl h eff).Formed :=
  .ite (.sendNack hs) (.ite (.inc hs) (.ite (.sendNack (.inc hs)) (heff (.ite (.inc hs) hs))))

theorem State.Formed.rxDue {h eff} (hs : s.Formed) (heff : ∀ {t : State}, t.Formed → (eff t).Formed) :
    (s.rxDue h eff).Formed :=
  .ite (.rxControl hs heff) (.lateTp hs)

theorem State.Formed.rxOpen {n src aes} (h : s.Formed) : (s.rxOpen n src aes).Formed :=
  .ite h (.ite (.sendNack h) (.ite (.goOpen (.sendExpress h)) (.sendExpress h)))

theorem State.Formed.rxClose {n} (h : s.Formed) : (s.rxClose n).Formed :=
  .ite (.sendExpress (.finishCmds (.finishCmd (.setClosed (.endCtxWork h))))) (.ite (.sendExpress h) h)

theorem State.Formed.rxCreditReq {n want} (h : s.Formed) : (s.rxCreditReq n want).Formed :=
  .ite h (.ite (.sendExpress (.grant h)) (.grant h))

theorem State.Formed.rxInval {n addr} (h : s.Formed) : (s.rxInval n addr).Formed :=
  .sendExpress (.frame (.dropLine (.inc h)))

theorem State.Formed.rxKeychg {n gen} (h : s.Formed) : (s.rxKeychg n gen).Formed :=
  .ite (.sendNack h) (.sendExpress (.ite h (.modTpc h)))

theorem State.Formed.rxMiss {m} (h : s.Formed) : (s.rxMiss m).Formed := by
  unfold State.rxMiss
  split
  exacts [.rxOpen h, .rxClose h, .rxCreditReq h, .rxInval h, .rxKeychg h]

theorem State.Formed.rxFree {h m} (hs : s.Formed) : (s.rxFree h m).Formed :=
  .ite (.rxControl hs (fun h1 => .rxMiss h1)) (.ite (.sendNack (.inc hs)) (.rxControl hs (fun h1 => .countTp
    (.startFetch (.frame h1)))))

theorem State.Formed.doOpenPacket {h srcCtx aes} (hs : s.Formed) : (doOpenPacket h srcCtx aes s).Formed := .rxFree hs

theorem State.Formed.doClose {h} (hs : s.Formed) : (doClose h s).Formed := .rxFree hs

theorem State.Formed.doCreditReq {h want} (hs : s.Formed) : (doCreditReq h want s).Formed := .rxFree hs

theorem State.Formed.doInval {h addr} (hs : s.Formed) : (doInval h addr s).Formed := .rxFree hs

theorem State.Formed.doKeychg {h gen} (hs : s.Formed) : (doKeychg h gen s).Formed := .rxFree hs

theorem State.Formed.doOpenAck {h} (hs : s.Formed) : (doOpenAck h s).Formed :=
  .rxDue hs (fun h1 => .ite (.goOpen h1) (.lateTp h1))

theorem State.Formed.doCloseAck {h} (hs : s.Formed) : (doCloseAck h s).Formed :=
  .rxDue hs (fun h1 => .ite (.finishCmds (.finishCmd (.setClosed (.endCtxWork h1)))) (.lateTp h1))

theorem State.Formed.ackOne {e} (h : s.Formed) : (s.ackOne e).Formed := by
  unfold State.ackOne
  extract_lets
  split
  · exact .ite (.countPart (.dropSent h)) (.dropSent h)
  · exact .ite (.frame (.ite (.countPart (.dropSent h)) (.dropSent h))) (.ite (.countPart (.dropSent h))
      (.dropSent h))

theorem State.Formed.doAck {h base map} (hs : s.Formed) : (doAck h base map s).Formed :=
  .rxDue hs (fun h1 => .modTpc (.foldl h1 (fun _ _ h2 => .ackOne h2)))

theorem State.Formed.noteNack {n st kind} (h : s.Formed) : (s.noteNack n st kind).Formed := .wr (.wr (.wr (.wr h)))

theorem State.Formed.nackControl {n st} (h : s.Formed) : (s.nackControl n st).Formed :=
  .ite (.frame h) (.ite (.failCtx h) (.ite (.finishCmd (.report (.setTpc h))) h))

theorem State.Formed.doNack {h psn status units} (hs : s.Formed) : (doNack h psn status units s).Formed := by
  refine .rxDue hs (fun h1 => ?_)
  extract_lets
  split
  · exact .nackControl (.noteNack h1)
  · exact
      have h2 : State.Formed _ := .modTpc (.dropSent (.noteNack h1))
      .ite (.requeue h2) (.ite (.requeue (.ite (.inc h2) h2)) (.failSend (.ite (.report h2) h2)))

theorem State.Formed.doCredit {h granted} (hs : s.Formed) : (doCredit h granted s).Formed :=
  .rxDue hs (fun h1 => .ite h1 (.askCredit (.setTpc h1)))

theorem State.Formed.doRevoke {h} (hs : s.Formed) : (doRevoke h s).Formed :=
  .rxDue hs (fun h1 => .sendExpress (.modTpc h1))

theorem State.Formed.doRevokeAck {h returned} (hs : s.Formed) : (doRevokeAck h returned s).Formed :=
  .rxDue hs (fun h1 => .modTpc h1)

theorem State.Formed.doKeychgAck {h gen} (hs : s.Formed) : (doKeychgAck h gen s).Formed :=
  .rxDue hs (fun h1 => .ite (.lateTp h1) (.finishCmd (.modTpc h1)))

theorem State.Formed.doInvalAck {h addr} (hs : s.Formed) : (doInvalAck h addr s).Formed := by
  refine .rxDue hs (fun h1 => ?_)
  split
  exacts [.lateTp h1, .ite (.modMsg h1) (.frame h1)]

theorem State.Formed.doAckSend {n} (h : s.Formed) : (doAckSend n s).Formed := .ite h (.sendAck h)

theorem State.Formed.doCtxFetchDone {n good} (h : s.Formed) : (doCtxFetchDone n good s).Formed := by
  refine .ite h (.ite (.failCtx (.frame h)) (.ite (.noteAccess (.failCtx (.frame h))) ?_))
  split
  · exact .squeeze h
  · have ht := State.FormedIn.makeFrame h _ ‹_›
    exact .askCredit (.foldl (.countTp (.touch (.setCached (.frame ht)))) (fun _ _ hs => .rxMiss hs))

/-! ### Inbound requests -/

theorem State.Formed.keyMismatch (h : s.Formed) : s.keyMismatch.Formed := .inc h

theorem State.Formed.atomic {src good f r} (h : s.Formed) (e : s.atomic src good f = some r) : r.1.Formed := by
  unfold State.atomic at e
  extract_lets at e
  split at e
  · nomatch e
  · split at e
    · exact Option.some.inj e ▸ .noteSrc h
    · exact Option.some.inj e ▸ .ite h (.writeSrc h)

theorem State.Formed.refuseC {n k st} (h : s.Formed) : (s.refuseC n k st).Formed := .sendNack (.noteRefused h)

theorem State.FormedIn.applyC {n k} (h : s.Formed) : State.FormedIn (s.applyC n k) := by
  unfold State.applyC
  extract_lets
  split
  · exact .some (.refuseC (.keyMismatch h))
  · extract_lets
    refine .ite (.ite .none (.some (.placed (.sendReply (.ite h (.noteSrc h)))))) (.ite ?_ ?_)
    · split
      exacts [.some (.ite (.bell (.placed (.writeSrc h))) (.placed (.writeSrc h))), .some (.refuseC (.writeSrc h))]
    · exact .map_of fun _ e => .placed (.sendReply (.atomic h e))

theorem State.Formed.runC {n m} (h : s.Formed) : (s.runC n m).Formed := by
  induction m generalizing s with
  | zero => exact h
  | succ m ih =>
    unfold State.runC
    split
    · exact h
    · split
      · exact ih (State.FormedIn.applyC (.modTpc h) _ ‹_›)
      · exact h

theorem State.Formed.runF {n} (h : s.Formed) : (s.runF n).Formed := .foldl h (fun _ _ h1 => .sendExpress (.setTpc h1))

theorem State.Formed.afterRx {n} (h : s.Formed) : (s.afterRx n).Formed := .runF (.runC h)

theorem State.Formed.rxC {h k} (hs : s.Formed) : (s.rxC h k).Formed := .afterRx (.rxPsn hs (fun h1 => .modTpc h1))

theorem State.Formed.doCLoad {h addr key size line req good} (hs : s.Formed) :
    (doCLoad h addr key size line req good s).Formed :=
  .rxC hs

theorem State.Formed.doCStore {h addr key size data} (hs : s.Formed) : (doCStore h addr key size data s).Formed :=
  .rxC hs

theorem State.Formed.doCAdd {h addr key req data good} (hs : s.Formed) : (doCAdd h addr key req data good s).Formed :=
  .rxC hs

theorem State.Formed.doCCas {h addr key req compare swap good} (hs : s.Formed) :
    (doCCas h addr key req compare swap good s).Formed :=
  .rxC hs

theorem State.Formed.doCMbox {h addr key source data} (hs : s.Formed) : (doCMbox h addr key source data s).Formed :=
  .rxC hs

theorem State.Formed.lateResponse {n kind} (h : s.Formed) : (s.lateResponse n kind).Formed := .report (.lateTp h)

theorem State.Formed.doCResp {pkt req status data line} (h : s.Formed) : (doCResp pkt req status data line s).Formed := by
  refine .afterRx (.rxPsn h fun h1 => ?_)
  split
  · exact .lateResponse h1
  · dsimp only
    split
    · exact .lateResponse (.dropReq h1)
    · refine .finishReq ?_
      split
      exacts [.ite (.ite (.useLine (.inc (.dropReq h1))) (.inc (.dropReq h1))) (.dropReq h1), .dropReq h1]

theorem State.Formed.doSResp {h req status mf result} (hs : s.Formed) :
    (doSResp h req status mf result s).Formed := by
  refine .afterRx (.rxPsn hs (fun h1 => ?_))
  split
  exacts [.lateResponse h1, .endReq h1]

theorem State.Formed.countRx {p bytes} (h : s.Formed) : (s.countRx p bytes).Formed := .countPart h

theorem State.Formed.doSReadData {pkt req off len data good} (h : s.Formed) :
    (doSReadData pkt req off len data good s).Formed := by
  refine .afterRx (.rxPsn h fun h1 => ?_)
  split
  · exact .lateResponse h1
  · extract_lets st s2
    have h2 : s2.Formed := by
      dsimp only [s2]
      split
      · exact .countRx (.writeSrc h1)
      · split
        exacts [.modWr h1, h1]
    split
    · exact .finishReq h2
    · dsimp only
      split
      · split
        exacts [.readDone (.dropReq (.ite (.wr h2) h2)), .frame (.ite (.wr h2) h2)]
      · exact .dropReq h2

theorem State.Formed.notePiece {m off len} (h : s.Formed) : (s.notePiece m off len).Formed := .countTp (.frame h)

theorem State.Formed.doSWrite {h addr off len key tag msg ctrInc data} (hs : s.Formed) :
    (doSWrite h addr off len key tag msg ctrInc data s).Formed := by
  refine .afterRx (.rxPsn hs (fun h1 => ?_))
  split
  · exact .keyMismatch h1
  · refine .ite_fst (.inc h1) ?_
    extract_lets
    split
    · exact .ite (.barRelease (.notePiece (.countRx (.writeSrc h1)))) (.notePiece (.countRx (.writeSrc h1)))
    · exact .writeSrc h1

theorem State.Formed.inboundEntry {rec_ p node reqId epoch total r} (h : s.Formed)
    (e : s.inboundEntry rec_ p node reqId epoch total = some r) : r.1.Formed := by
  unfold State.inboundEntry at e
  split at e
  · exact Option.some.inj e ▸ h
  · obtain ⟨i, -, rfl⟩ := Option.map_eq_some_iff.1 e
    refine .openHo ?_
    split
    exacts [.closeHo h, h]

theorem State.Formed.doSLayer {pkt reqId hkey epoch rec_ layer total units addr data} (h : s.Formed) :
    (doSLayer pkt reqId hkey epoch rec_ layer total units addr data s).Formed := by
  refine .afterRx (.rxPsn h (fun hs => ?_))
  split
  · split
    · exact .inc hs
    · extract_lets
      split
      · split
        · exact hs
        · have ht := State.Formed.inboundEntry hs ‹_›
          exact .notePiece (.ite (.setRecState (.add (.countRx (.writeSrc ht)))) (.add (.countRx (.writeSrc ht))))
      · exact .writeSrc hs
  · exact .ite (.keyMismatch hs) (.ite (.inc hs) hs)

theorem State.Formed.doMessageComplete {i} (h : s.Formed) : (doMessageComplete i s).Formed := by
  unfold Machine.doMessageComplete
  split
  · exact h
  · refine .ite h ?_
    extract_lets
    split
    · exact .markTrigs (.bumpCounter (.countTp (.frame h)))
    · split
      · exact .countTp (.frame h)
      · exact .ite (.setInn (.setHoBit (.countTp (.frame h)))) (.setHoBit (.countTp (.frame h)))

theorem State.Formed.doSRead {h addr len key req} (hs : s.Formed) : (doSRead h addr len key req s).Formed := by
  refine .afterRx (.rxPsn hs (fun h1 => ?_))
  split
  exacts [.keyMismatch h1, .offer h1]

theorem State.Formed.doSAtom {pkt addr key req op compare operand good} (h : s.Formed) :
    (doSAtom pkt addr key req op compare operand good s).Formed := by
  refine .afterRx (.rxPsn h (fun hs => ?_))
  split
  · exact .keyMismatch hs
  · extract_lets
    split
    · exact hs
    · have ht := State.Formed.atomic hs ‹_›
      exact .ite (.barRoot (.sendReply ht)) (.sendReply ht)

theorem State.Formed.doSOwn {h req op reqId expected new mirror mirrorNode mirrorPart} (hs : s.Formed) :
    (doSOwn h req op reqId expected new mirror mirrorNode mirrorPart s).Formed :=
  .afterRx (.rxPsn hs (fun h1 => .ownArrive h1))

theorem State.Formed.doSFlush {h req upto} (hs : s.Formed) : (doSFlush h req upto s).Formed :=
  .afterRx (.rxPsn hs (fun h1 => .modTpc h1))

/-! ### Links -/

theorem State.Formed.setLink {f v} (h : s.Formed) : (s.setLink f v).Formed := .frame h

theorem State.Formed.modLink {f g} (h : s.Formed) : (s.modLink f g).Formed := .setLink h

theorem State.Formed.bellSource {src} (h : s.Formed) : (s.bellSource src).Formed := .bell h

theorem State.Formed.setLinkState {f st} (h : s.Formed) : (s.setLinkState f st).Formed :=
  .ite h (.ite (.report (.bellSource (.wr h))) (.bellSource (.wr h)))

theorem State.Formed.setLaneState {f l st} (h : s.Formed) : (s.setLaneState f l st).Formed := .wr h

theorem State.Formed.showLanes {f} (h : s.Formed) : (s.showLanes f).Formed := .wr (.wr h)

theorem State.Formed.setSpares {f n} (h : s.Formed) : (s.setSpares f n).Formed := .wr (.wr (.modLink h))

theorem State.Formed.adaptLanes {f} (h : s.Formed) : (s.adaptLanes f).Formed :=
  .showLanes (.modLink (.foldl h (fun _ _ h1 => .setLaneState h1)))

theorem State.Formed.setLanes {f mask} (h : s.Formed) : (s.setLanes f mask).Formed :=
  .showLanes (.setSpares (.modLink (.foldl (.foldl (.foldl h (fun _ _ h1 => .wr h1)) (fun _ _ h1 => .setLaneState h1))
    (fun _ _ h1 => .setLaneState h1))))

theorem State.Formed.emitBlock {f kind seq} (h : s.Formed) : (s.emitBlock f kind seq).Formed := .emit h

theorem State.Formed.noteGateLate {f} (h : s.Formed) : (s.noteGateLate f).Formed := .ite h (.inc h)

theorem State.Formed.emitUngated {f kind seq} (h : s.Formed) : (s.emitUngated f kind seq).Formed :=
  .noteGateLate (.emitBlock h)

theorem State.Formed.sendBlock {f packets} (h : s.Formed) : (s.sendBlock f packets).Formed := by
  unfold State.sendBlock
  extract_lets
  split
  exacts [h, .inc (.emitBlock (.setLink h))]

theorem State.Formed.resendBlock {f seq} (h : s.Formed) : (s.resendBlock f seq).Formed := by
  unfold State.resendBlock
  split
  exacts [h, .inc (.emitUngated (.modLink h))]

theorem State.Formed.deliverBlocks {f n} (h : s.Formed) : (s.deliverBlocks f n).Formed := by
  induction n generalizing s with
  | zero => exact h
  | succ n ih => exact .ite (ih (.inc (.setLink h))) (.inc (.setLink h))

theorem State.Formed.rxData {f seq} (h : s.Formed) : (s.rxData f seq).Formed :=
  .ite (.inc h) (.ite (.deliverBlocks h) (.ite h (.emitUngated (.setLink h))))

theorem State.Formed.doLinkBlockReceive {f ty seq ack good missing} (h : s.Formed) :
    (doLinkBlockReceive f ty seq ack good missing s).Formed :=
  .ite h (.ite (.inc h) (.ite (.rxData (.modLink h)) (.ite (.foldl (.modLink h) (fun _ _ h1 => .resendBlock h1))
    (.modLink h))))

theorem State.Formed.doLinkResendTimeout {f seq} (h : s.Formed) : (doLinkResendTimeout f seq s).Formed :=
  .ite (.resendBlock h) h

theorem State.Formed.doLinkControlSend {f} (h : s.Formed) : (doLinkControlSend f s).Formed := .ite (.emitUngated h) h

theorem State.Formed.discardReplay {f} (h : s.Formed) : (s.discardReplay f).Formed := by
  refine .foldl (.modLink h) (fun _ _ h1 => ?_)
  split
  exacts [.resend h1, h1]

theorem State.Formed.startTraining {f} (h : s.Formed) : (s.startTraining f).Formed :=
  .setLinkState (.adaptLanes (.wr (.modLink h)))

theorem State.Formed.disableLink {f} (h : s.Formed) : (s.disableLink f).Formed :=
  .setLinkState (.wr (.adaptLanes (.discardReplay h)))

theorem State.Formed.doLinkEnableChange {f} (h : s.Formed) : (doLinkEnableChange f s).Formed :=
  .ite (.ite (.startTraining h) h) (.ite h (.disableLink h))

theorem State.Formed.enterRetrain {f} (h : s.Formed) : (s.enterRetrain f).Formed :=
  .ite (.frame (.setLinkState (.inc (.modLink (.adaptLanes h))))) (.setLinkState (.inc (.modLink (.adaptLanes h))))

theorem State.Formed.failLink {f} (h : s.Formed) : (s.failLink f).Formed :=
  .setLinkState (.adaptLanes (.discardReplay h))

theorem State.Formed.failAttempt {f toFailed} (h : s.Formed) : (s.failAttempt f toFailed).Formed :=
  .ite (.failLink (.modLink (.inc h))) (.setLinkState (.adaptLanes (.modLink (.inc h))))

theorem State.Formed.goAlign {f mask} (h : s.Formed) : (s.goAlign f mask).Formed :=
  .ite (.modLink (.setLanes h)) (.setLinkState (.setLanes h))

theorem State.Formed.doLanesLocked {f mask} (h : s.Formed) : (doLanesLocked f mask s).Formed := .ite (.goAlign h) h

theorem State.Formed.doTrainingTimeout {f mask light} (h : s.Formed) : (doTrainingTimeout f mask light s).Formed :=
  .ite h (.ite (.goAlign h) (.failAttempt h))

theorem State.Formed.doAlignAgree {f node port} (h : s.Formed) : (doAlignAgree f node port s).Formed :=
  .ite (.setLinkState (.wr (.wr (.wr (.wr h))))) (.ite (.ite (.foldl (.setLinkState (.wr (.modLink h)))
    (fun _ _ h1 => .resendBlock h1)) (.failLink h)) h)

theorem State.Formed.doAlignTimeout {f} (h : s.Formed) : (doAlignTimeout f s).Formed :=
  .ite (.failAttempt h) (.ite (.failAttempt h) h)

theorem State.Formed.doLinkRetrain {f dark} (h : s.Formed) : (doLinkRetrain f dark s).Formed :=
  .ite (.enterRetrain h) h

theorem State.Formed.doLaneFail {f lane} (h : s.Formed) : (doLaneFail f lane s).Formed := by
  refine .ite h ?_
  extract_lets
  split
  · exact .ite (.modLink (.showLanes (.setLaneState h))) (.loseCapacity (.showLanes (.setLaneState h)))
  · exact .ite (.report (.setSpares (.showLanes (.setLaneState h)))) (.showLanes (.setLaneState h))

theorem State.Formed.substLane {f pos old} (h : s.Formed) : (s.substLane f pos old).Formed := by
  unfold State.substLane
  split
  · exact h
  · exact .ite (.showLanes (.report (.noteSub (.setSpares (.inc (.wr (.setLaneState h)))))))
      (.showLanes (.setLaneState (.inc (.wr (.setLaneState h)))))

theorem State.Formed.doLaneSubstitute {f} (h : s.Formed) : (doLaneSubstitute f s).Formed :=
  .ite h (.foldl (.modLink h) (fun _ _ h1 => .substLane h1))

theorem State.Formed.doFabSubst {a f lane} (h : s.Formed) : (doFabSubst a f lane s).Formed := by
  refine .ite (.refuseWrite h) ?_
  split
  exacts [.ite (.modLink h) (.countRefused h), .countRefused h]

theorem State.Formed.recalNext {f} (h : s.Formed) : (s.recalNext f).Formed := by
  unfold State.recalNext
  split
  · exact .wr (.wr h)
  · extract_lets
    split
    exacts [.ite (.modLink (.wr h)) (.showLanes (.setLaneState (.wr h))), .wr h]

theorem State.Formed.startRecal {f} (h : s.Formed) : (s.startRecal f).Formed := .recalNext (.wr (.modLink h))

theorem State.Formed.doFabRecal {a f} (h : s.Formed) : (doFabRecal a f s).Formed := by
  refine .ite ?_ (.ite (.ite (.countRefused h) h) (.ite (.modLink h) (.startRecal h)))
  split
  exacts [.refuseWrite h, h]

theorem State.Formed.doLaneRecalDone {f} (h : s.Formed) : (doLaneRecalDone f s).Formed := by
  unfold Machine.doLaneRecalDone
  split
  exacts [h, .ite h (.recalNext (.showLanes (.modLink (.wr (.setLaneState h)))))]

theorem State.Formed.setLc {x st} (h : s.Formed) : (s.setLc x st).Formed := .wr (.wr (.wr h))

theorem State.Formed.lcBell {x} (h : s.Formed) : (s.lcBell x).Formed := .bellSource h

theorem State.Formed.lcReport {x st} (h : s.Formed) : (s.lcReport x st).Formed := .report h

theorem State.Formed.setFeed {f x} (h : s.Formed) : (s.setFeed f x).Formed := .wr h

theorem State.Formed.moveFeed {f x} (h : s.Formed) : (s.moveFeed f x).Formed :=
  .ite (.setFeed h) (.showLanes (.foldl (.foldl (.setFeed h) (fun _ _ h1 => .setLaneState (.wr h1)))
    (fun _ _ h1 => .setLaneState h1)))

theorem State.Formed.lcFeed {x} (h : s.Formed) : (s.lcFeed x).Formed :=
  .ite h (.ite (.foldl (.setLc h) (fun _ _ h1 => .setFeed h1)) (.ite (.foldl (.setLc h) (fun _ _ h1 => .moveFeed h1))
    (.ite (.setLc h) h)))

theorem State.Formed.doLcInsert {x} (h : s.Formed) : (doLcInsert x s).Formed := .ite (.setLc h) h

theorem State.Formed.doLcWavelengthLock {x} (h : s.Formed) : (doLcWavelengthLock x s).Formed :=
  .ite (.lcFeed (.lcBell (.setLc h))) h

theorem State.Formed.doLcWarmTimeout {x} (h : s.Formed) : (doLcWarmTimeout x s).Formed :=
  .ite (.lcFeed (.lcReport (.setLc h))) h

theorem State.Formed.eject {a x} (h : s.Formed) : (s.eject a x).Formed :=
  .ite (.refuseWrite h) (.ite (.setLc h) (.countRefused h))

theorem State.Formed.doLcEjectA {a} (h : s.Formed) : (doLcEjectA a s).Formed := .eject h

theorem State.Formed.doLcEjectB {a} (h : s.Formed) : (doLcEjectB a s).Formed := .eject h

theorem State.Formed.runDeferred (h : s.Formed) : s.runDeferred.Formed :=
  .foldl h (fun _ _ h1 => .ite (.startRecal h1) h1)

theorem State.Formed.doLcReleaseDone {x} (h : s.Formed) : (doLcReleaseDone x s).Formed :=
  .ite h (.runDeferred (.lcBell (.setLc (.foldl (.ite (.setLc h) h) (fun _ _ h1 => .moveFeed h1)))))

theorem State.Formed.doLcRemove {x} (h : s.Formed) : (doLcRemove x s).Formed := .ite (.setLc h) h

theorem State.Formed.doLcLoss {x removed} (h : s.Formed) : (doLcLoss x removed s).Formed :=
  .ite h <|
  have h1 : State.Formed _ := .foldl (.lcReport (.setLc h)) (fun _ _ h1 => .ite (.enterRetrain h1) h1)
  .ite (.runDeferred (.report (.noteSub (.foldl (.setLc h1) (fun _ _ h2 => .setFeed h2))))) (.foldl (.loseCapacity h1)
    (fun _ _ h2 => .ite (.failLink h2) h2))

/-! ### The timebase -/

theorem State.Formed.setLock {st} (h : s.Formed) : (s.setLock st).Formed := .ite h (.bellSource (.inc (.wr h)))

theorem State.Formed.timeRecord (h : s.Formed) : s.timeRecord.Formed := .report h

theorem State.Formed.setGood {n} (h : s.Formed) : (s.setGood n).Formed := .frame h

theorem State.Formed.alignStep {n} (h : s.Formed) : (s.alignStep n).Formed :=
  .ite h (.ite (.frame (.inc h)) (.wr (.wr (.inc h))))

theorem State.Formed.loadCount {n} (h : s.Formed) : (s.loadCount n).Formed :=
  .ite (.ite h (.timeRecord (.wr h))) (.wr (.frame h))

theorem State.Formed.syncPair {f offset path time} (h : s.Formed) : (s.syncPair f offset path time).Formed :=
  have h1 : State.Formed _ := .wr (.wr h)
  .ite (.setLock (.wr (.setGood h1))) (.ite (.ite (.alignStep (.loadCount (.setGood h1))) (.ite (.setGood h1)
    (.ite (.setGood h1) (.ite (.loadCount (.setGood h1)) (.setLock (.loadCount (.setGood h1)))))))
    (.ite (.ite (.setLock h1) h1) (.ite (.setLock (.setGood h1)) (.setLock h1))))

theorem State.Formed.refuseLen (h : s.Formed) : s.refuseLen.Formed := .countRefused (.inc h)

theorem State.Formed.reacquire {old} (h : s.Formed) : (s.reacquire old).Formed := .ite (.setLock (.setGood h)) h

theorem State.Formed.setPtpPort {f v} (h : s.Formed) : (s.setPtpPort f v).Formed := .frame h

theorem State.Formed.setRole {f r} (h : s.Formed) : (s.setRole f r).Formed :=
  .ite (.setLock (.setPtpPort h)) (.setPtpPort h)

theorem State.Formed.sendPtp {f kind} (h : s.Formed) : (s.sendPtp f kind).Formed := .ite (.noteGateLate (.emit h)) h

theorem State.Formed.doPtpMessageReceive {f m} (h : s.Formed) : (doPtpMessageReceive f m s).Formed := by
  refine .ite h ?_
  split
  · exact .setRole h
  · exact .ite (.setPtpPort h) h
  · exact .ite (.syncPair (.setPtpPort h)) h
  · exact .ite (.sendPtp h) h
  · exact .ite (.wr h) h
  · exact .ite (.sendPtp (.sendPtp h)) h
  · exact h
  · exact .ite (.wr h) h
  · exact h

theorem State.Formed.doPtpSyncSend {f} (h : s.Formed) : (doPtpSyncSend f s).Formed :=
  .ite (.sendPtp (.sendPtp (.setRole h))) h

theorem State.Formed.doPtpAnnounceSend {f} (h : s.Formed) : (doPtpAnnounceSend f s).Formed :=
  .ite (.sendPtp (.setRole h)) h

theorem State.Formed.doPtpDelayReqSend {f} (h : s.Formed) : (doPtpDelayReqSend f s).Formed :=
  .ite h (.ite (.sendPtp h) (.ite (.sendPtp h) h))

theorem State.Formed.doSyncLossTimeout (h : s.Formed) : (doSyncLossTimeout s).Formed := .ite (.setLock h) h

theorem State.Formed.doAcquireTimeout (h : s.Formed) : (doAcquireTimeout s).Formed :=
  .ite (.timeRecord (.setLock h)) h

theorem State.Formed.doHoldoverTimeout (h : s.Formed) : (doHoldoverTimeout s).Formed :=
  .ite (.timeRecord (.setLock h)) h

theorem State.Formed.setD2d {m v} (h : s.Formed) : (s.setD2d m v).Formed := .frame h

theorem State.Formed.doD2dBlockReceive {m good} (h : s.Formed) : (doD2dBlockReceive m good s).Formed :=
  .ite h (.ite (.setD2d h) (.setD2d h))

theorem State.Formed.doD2dLinkFail {m} (h : s.Formed) : (doD2dLinkFail m s).Formed := .ite h (.report (.setD2d h))

/-! ### Host ports -/

theorem State.Formed.clearRing {fs} (h : s.Formed) : (s.clearRing fs).Formed := .foldl h (fun _ _ h1 => .wr h1)

theorem State.Formed.resetRings {p} (h : s.Formed) : (s.resetRings p).Formed :=
  .inc (.clearRing (.clearRing (.foldl h (fun _ _ h1 => .clearRing h1))))

theorem State.Formed.resetPortRings {x} (h : s.Formed) : (s.resetPortRings x).Formed :=
  .foldl h (fun _ _ h1 => .resetRings h1)

theorem State.Formed.bellPorts (h : s.Formed) : s.bellPorts.Formed := .foldl h (fun _ _ h1 => .bellIf h1)

theorem State.Formed.dropDoe {x} (h : s.Formed) : (s.dropDoe x).Formed := .frame h

theorem State.Formed.setPortState {x st} (h : s.Formed) : (s.setPortState x st).Formed :=
  .ite h (.bellPorts (.ite (.wr h) (.dropDoe (.wr h))))

theorem State.Formed.resetFns {x which} (h : s.Formed) : (s.resetFns x which).Formed :=
  .foldl (.frame h) (fun _ _ h1 => .ite h1 (.foldl h1 (fun _ _ h2 => .setLive (.setReg h2))))

theorem State.Formed.heartbeat {x} (h : s.Formed) : (s.heartbeat x).Formed := .wr h

theorem State.Formed.doHostPortLinkUp {x speed width} (h : s.Formed) : (doHostPortLinkUp x speed width s).Formed :=
  .ite h (.setPortState (.heartbeat (.wr (.wr (.wr (.wr h))))))

theorem State.Formed.doHostPortLinkDown {x} (h : s.Formed) : (doHostPortLinkDown x s).Formed :=
  .ite h (.setPortState (.inc (.resetPortRings (.resetFns (.setReg h)))))

theorem State.Formed.doPfFlr {x} (h : s.Formed) : (doPfFlr x s).Formed := .ite h (.resetPortRings (.resetFns h))

theorem State.Formed.doVfFlr {x v} (h : s.Formed) : (doVfFlr x v s).Formed := by
  refine .ite h ?_
  dsimp only
  split
  exacts [.resetRings (.resetFns h), .resetFns h]

theorem State.Formed.doHifHeartbeat {a x} (h : s.Formed) : (doHifHeartbeat a x s).Formed :=
  .ite (.refuseWrite h) (.ite (.setPortState (.heartbeat h)) (.heartbeat h))

theorem State.Formed.doHeartbeatTimeout {x} (h : s.Formed) : (doHeartbeatTimeout x s).Formed :=
  .ite (.setPortState h) h

theorem State.Formed.rebindResult {a op st} (h : s.Formed) : (s.rebindResult a op st).Formed :=
  .wrPriv (.wrPriv (.wrPriv h))

theorem State.Formed.rebindCommand {a op eff} (h : s.Formed) (heff : ∀ {x}, State.FormedIn (eff x)) :
    (s.rebindCommand a op eff).Formed := by
  unfold State.rebindCommand
  split
  · split
    · exact .rebindResult (heff _ ‹_›)
    · exact .rebindResult h
  · exact .rebindResult (.refuseWrite h)

theorem State.Formed.pendRebind {p} (h : s.Formed) : (s.pendRebind p).Formed := .wr h

theorem State.Formed.doRebind {a p} (h : s.Formed) : (doRebind a p s).Formed :=
  .rebindCommand h (.ite (.some (.pendRebind h)) .none)

theorem State.Formed.doRebindAll {a} (h : s.Formed) : (doRebindAll a s).Formed :=
  .rebindCommand h (.ite (.some (.foldl h (fun _ _ h1 => .pendRebind h1))) .none)

theorem State.Formed.setPrimary {x} (h : s.Formed) : (s.setPrimary x).Formed := .wr h

theorem State.Formed.doTakePrimary {a} (h : s.Formed) : (doTakePrimary a s).Formed :=
  .rebindCommand h (.ite (.some (.setPrimary h)) .none)

theorem State.Formed.doGivePrimary {a} (h : s.Formed) : (doGivePrimary a s).Formed :=
  .rebindCommand h (.ite (.some (.setPrimary h)) .none)

theorem State.Formed.rebindBad {a op} (h : s.Formed) : (s.rebindBad a op).Formed := by
  unfold State.rebindBad
  split
  exacts [.rebindResult h, .rebindResult (.refuseWrite h)]

theorem State.Formed.unmapVfs {x p} (h : s.Formed) : (s.unmapVfs x p).Formed :=
  .foldl h (fun _ _ h1 => .setLive (.setReg h1))

theorem State.Formed.applyRebind {p} (h : s.Formed) : (s.applyRebind p).Formed :=
  .inc (.resetRings (.unmapVfs (.wr (.wr h))))

theorem State.Formed.doRebindApply (h : s.Formed) : (doRebindApply s).Formed :=
  .ite h (.foldl h (fun _ _ h1 => .applyRebind h1))

theorem State.Formed.sendMsix {m} (h : s.Formed) : (s.sendMsix m).Formed := .inc (.emit h)

theorem State.Formed.doMsixSend (h : s.Formed) : (doMsixSend s).Formed := by
  unfold Machine.doMsixSend
  split
  exacts [h, .ite (.inc (.frame h)) (.ite (.frame (.frame h)) (.sendMsix (.frame h)))]

theorem State.Formed.doMsixHeldRelease {i} (h : s.Formed) : (doMsixHeldRelease i s).Formed := by
  unfold Machine.doMsixHeldRelease
  split
  exacts [h, .ite (.inc (.frame h)) (.ite h (.sendMsix (.frame h)))]

theorem State.Formed.doConfigSpaceWrite {x fn w} (h : s.Formed) : (doConfigSpaceWrite x fn w s).Formed := by
  refine .ite h ?_
  split
  exacts [.setFn h, .setFn h, .setFn h, .setFn h, .ite h (.frame h), .ite (.setFn h) h]

theorem State.Formed.answerUr {x write} (h : s.Formed) : (s.answerUr x write).Formed := .ite (.inc h) (.emit (.inc h))

theorem State.Formed.answerCa {x} (h : s.Formed) : (s.answerCa x).Formed := .emit (.inc h)

theorem State.Formed.serveHost {x part a write len data ue} (h : s.Formed) :
    (s.serveHost x part a write len data ue).Formed := by
  refine .ite (.devWrite h) ?_
  split
  exacts [.ite (.answerCa (.report (.noteUe h))) (.emit h), .answerCa (.noteAccess h)]

theorem State.Formed.doBar2Access {x fn off write len data ue} (h : s.Formed) :
    (doBar2Access x fn off write len data ue s).Formed := by
  refine .ite h (.ite (.answerUr h) ?_)
  split
  · exact .answerUr h
  · split
    · exact .ite (.serveHost h) (.ite (.inc (.ite (.report h) h)) (.answerCa (.ite (.report h) h)))
    · exact .ite (.ite (.report h) (.answerCa (.report h))) (.ite h (.serveHost h))

theorem State.Formed.doPcieCompletionTimeout {x} (h : s.Formed) : (doPcieCompletionTimeout x s).Formed :=
  .ite h (.frame h)

theorem State.Formed.doDoeObject {x kind len} (h : s.Formed) : (doDoeObject x kind len s).Formed :=
  .ite h (.ite (.frame h) (.ite (.emit (.inc h)) (.frame h)))

theorem State.Formed.doDoeAbort {x} (h : s.Formed) : (doDoeAbort x s).Formed := .dropDoe (.frame h)

/-! ### The vestibule -/

theorem State.Formed.putDigest {ref d} (h : s.Formed) : (s.putDigest ref d).Formed := .foldl h (fun _ _ h1 => .wr h1)

theorem State.Formed.extend {n v} (h : s.Formed) : (s.extend n v).Formed :=
  .ite (.frame (.wr (.addMod (.putDigest h)))) (.inc (.wr (.addMod (.putDigest h))))

theorem State.Formed.securityRecord {a st blk what} (h : s.Formed) : (s.securityRecord a st blk what).Formed :=
  .report h

theorem State.Formed.debugEvent {a} (h : s.Formed) : (s.debugEvent a).Formed :=
  .securityRecord (.inc (.extend (.freeBytes h)))

theorem State.Formed.notePath {a path} (h : s.Formed) : (s.notePath a path).Formed := .ite h (.debugEvent (.frame h))

theorem State.Formed.setComp {c v} (h : s.Formed) : (s.setComp c v).Formed := .frame h

theorem State.Formed.showComp {c} (h : s.Formed) : (s.showComp c).Formed :=
  .putDigest (.wr (.wr (.wr (.wr (.wr (.wr (.wr h)))))))

theorem State.Formed.vesResult {a op detail st} (h : s.Formed) : (s.vesResult a op detail st).Formed :=
  .wrPriv (.wrPriv (.wrPriv (.wrPriv (.wrPriv h))))

theorem State.Formed.popVes (h : s.Formed) : s.popVes.Formed := .frame h

theorem State.Formed.setSessions {l} (h : s.Formed) : (s.setSessions l).Formed := .wr (.frame h)

theorem State.Formed.raiseReady {b inst} (h : s.Formed) : (s.raiseReady b inst).Formed := .ite h (.bellIf (.wr h))

theorem State.Formed.startActivation {c} (h : s.Formed) : (s.startActivation c).Formed :=
  .ite (.frame (.setComp h)) (.dropDoe (.dropDoe (.setSessions (.wr (.wr (.frame (.setComp h)))))))

theorem State.Formed.commitSvn {c} (h : s.Formed) : (s.commitSvn c).Formed :=
  .showComp (.ite (.frame (.setComp h)) (.setComp h))

theorem State.Formed.decideVes {a op comp addr len r} (h : s.Formed) (e : s.decideVes a op comp addr len = some r) :
    r.1.Formed := by
  unfold State.decideVes at e
  dsimp only at e
  split_ifs at e <;> injection e with e <;> subst e
  exacts [h, h, h, .commitSvn h, h, .debugEvent (.wr h), .debugEvent (.wr h), h, .devWrite h, .devWrite h, h]

theorem State.Formed.decideEnroll {addr len serial keys good} (h : s.Formed) :
    (s.decideEnroll addr len serial keys good).1.Formed :=
  .ite_fst h (.ite_fst (.noteAccess h) (.ite_fst h (.extend (.frame h))))

theorem State.Formed.settleVes {n} (h : s.Formed) : (s.settleVes n).Formed := by
  induction n generalizing s with
  | zero => exact h
  | succ n ih =>
    unfold State.settleVes
    refine .ite h ?_
    split
    · split
      · exact ih (.vesResult (.popVes (.decideVes h ‹_›)))
      · exact .ite (.startActivation h) h
    · exact ih (.vesResult (.popVes (.decideEnroll h)))
    · exact .ite (.startActivation h) h
    · exact h

theorem State.Formed.runVes (h : s.Formed) : s.runVes.Formed := .settleVes h

theorem State.Formed.vesCommand {a q} (h : s.Formed) : (s.vesCommand a q).Formed :=
  .ite (.refuseWrite h) (.ite (.countRefused h) (.runVes (.frame (.wrPriv h))))

theorem State.Formed.vesOp {a op comp} (h : s.Formed) : (s.vesOp a op comp).Formed := .vesCommand h

theorem State.Formed.doStageFw {a comp} (h : s.Formed) : (doStageFw a comp s).Formed := .vesOp h

theorem State.Formed.doActivate {a comp} (h : s.Formed) : (doActivate a comp s).Formed := .vesOp h

theorem State.Formed.doCommitSvn {a comp} (h : s.Formed) : (doCommitSvn a comp s).Formed := .vesOp h

theorem State.Formed.doEnroll {a serial keys good} (h : s.Formed) : (doEnroll a serial keys good s).Formed :=
  .vesCommand h

theorem State.Formed.doDebugEnable {a} (h : s.Formed) : (doDebugEnable a s).Formed := .vesOp h

theorem State.Formed.doDebugDisable {a} (h : s.Formed) : (doDebugDisable a s).Formed := .vesOp h

theorem State.Formed.doLogRead {a} (h : s.Formed) : (doLogRead a s).Formed := .vesOp h

theorem State.Formed.doStageFwDone {verdict} (h : s.Formed) : (doStageFwDone verdict s).Formed := by
  unfold Machine.doStageFwDone
  split
  · exact .ite h <|
    have h1 : State.Formed _ := .vesResult
      (.popVes (.showComp (.ite_fst (.noteAccess h) (.ite_fst (.report (.noteUe h)) (.ite_fst (.inc h)
      (.ite_fst (.inc (.setComp h)) (.inc (.setComp h))))))))
    .runVes (.ite (.securityRecord h1) h1)
  · exact h

theorem State.Formed.endActivation {c} (h : s.Formed) : (s.endActivation c).Formed :=
  .ite (.raiseReady (.wr (.extend (.showComp (.frame (.setComp h)))))) (.extend (.showComp (.frame (.setComp h))))

theorem State.Formed.endUpdate (h : s.Formed) : s.endUpdate.Formed := .ite h (.frame h)

theorem State.Formed.doLiveActivationEnd (h : s.Formed) : (doLiveActivationEnd s).Formed := by
  unfold Machine.doLiveActivationEnd
  split
  · exact .runVes (.vesResult (.popVes (.endActivation h)))
  · exact .runVes (.endUpdate (.popVes (.endActivation h)))
  · exact h

theorem State.Formed.spdmAnswer {x code ws} (h : s.Formed) : (s.spdmAnswer x code ws).Formed := by
  refine .runVes (.emit ?_)
  split
  exacts [.inc (.inc (.dropDoe h)), h]

theorem State.Formed.spdmPlain {x code ws} (h : s.Formed) : (s.spdmPlain x code ws).Formed := .ite (.spdmAnswer h) h

theorem State.Formed.spdmInside {x i f} (h : s.Formed) (hf : ∀ {a}, (f a).Formed) : (s.spdmInside x i f).Formed := by
  refine .ite h ?_
  split
  exacts [.ite hf (.spdmAnswer h), .spdmAnswer h]

theorem State.Formed.doGetVersion {x} (h : s.Formed) : (doGetVersion x s).Formed := .spdmPlain h

theorem State.Formed.doGetCapabilities {x} (h : s.Formed) : (doGetCapabilities x s).Formed := .spdmPlain h

theorem State.Formed.doNegotiateAlgorithms {x} (h : s.Formed) : (doNegotiateAlgorithms x s).Formed := .spdmPlain h

theorem State.Formed.doGetDigests {x} (h : s.Formed) : (doGetDigests x s).Formed := .spdmPlain h

theorem State.Formed.doGetCertificate {x slot} (h : s.Formed) : (doGetCertificate x slot s).Formed :=
  .ite (.spdmPlain h) (.spdmPlain h)

theorem State.Formed.doChallenge {x slot} (h : s.Formed) : (doChallenge x slot s).Formed :=
  .ite (.spdmPlain h) (.spdmPlain h)

theorem State.Formed.doGetMeasurements {x index signed} (h : s.Formed) :
    (doGetMeasurements x index signed s).Formed :=
  .spdmPlain h

theorem State.Formed.doKeyExchange {x} (h : s.Formed) : (doKeyExchange x s).Formed :=
  .ite h (.ite (.spdmAnswer h) (.spdmAnswer (.setSessions h)))

theorem State.Formed.doSpdmFinish {x i good chain} (h : s.Formed) : (doSpdmFinish x i good chain s).Formed :=
  .spdmInside h (.ite (.spdmAnswer h) (.spdmAnswer (.setSessions h)))

theorem State.Formed.spdmSession {x i f} (h : s.Formed) (hf : ∀ {a}, (f a).Formed) : (s.spdmSession x i f).Formed :=
  .spdmInside h (.ite hf (.spdmAnswer h))

theorem State.Formed.doSpdmHeartbeat {x i} (h : s.Formed) : (doSpdmHeartbeat x i s).Formed :=
  .spdmSession h (.spdmAnswer h)

theorem State.Formed.doKeyUpdate {x i} (h : s.Formed) : (doKeyUpdate x i s).Formed := .spdmSession h (.spdmAnswer h)

theorem State.Formed.doEndSession {x i} (h : s.Formed) : (doEndSession x i s).Formed :=
  .spdmSession h (.spdmAnswer (.setSessions h))

theorem State.Formed.vendor {x i own f} (h : s.Formed) (hf : ∀ {t : State}, t.Formed → (f t).1.Formed) :
    (s.vendor x i own f).Formed := by
  refine .ite h ?_
  extract_lets
  split
  exacts [.ite (.spdmAnswer (hf h)) (.spdmAnswer h), .spdmAnswer h]

theorem State.Formed.doTakeOwnership {x i root} (h : s.Formed) : (doTakeOwnership x i root s).Formed :=
  .vendor h (fun h1 => .ite_fst h1 (.wr (.frame h1)))

theorem State.Formed.doFabricRoot {x i serial activeAt} (h : s.Formed) :
    (doFabricRoot x i serial activeAt s).Formed :=
  .vendor h (fun h1 => .ite_fst h1 (.extend (.frame h1)))

theorem State.Formed.doFabricRootActivate (h : s.Formed) : (doFabricRootActivate s).Formed := by
  unfold Machine.doFabricRootActivate
  split
  exacts [h, .ite (.frame h) (.wr (.wr (.frame h)))]

/-! ### Programs -/

theorem State.Formed.doProgStage {a u} (h : s.Formed) : (doProgStage a u s).Formed :=
  .ite h (.ite (.refuseWrite h) (.ite (.countRefused h) (.runVes (.frame (.wr h)))))

theorem State.Formed.loadStandby {u a words} (h : s.Formed) : (s.loadStandby u a words).Formed := .frame h

theorem State.Formed.stageImage {u a k} (h : s.Formed) : (s.stageImage u a k).Formed :=
  .extend (.inc (.wr (.wr (.frame (.loadStandby h)))))

theorem State.Formed.doProgVerifyDone {verdict} (h : s.Formed) : (doProgVerifyDone verdict s).Formed := by
  unfold Machine.doProgVerifyDone
  split
  · split
    · exact h
    · exact .ite h <|
      have h1 : State.Formed _ := .ite (.ite (.noteAccess h) (.report (.noteUe h))) (.ite (.stageImage h)
        (.report (.inc h)))
      .runVes (.popVes (.wr (.wr (.ite h1 (.inc h1)))))
  · exact h

theorem State.Formed.showEntries {u} (h : s.Formed) : (s.showEntries u).Formed := .wr (.wr (.wr (.wr (.wr (.wr h)))))

theorem State.Formed.restartUnit {u} (h : s.Formed) : (s.restartUnit u).Formed :=
  .foldl h (fun _ _ h1 => .restartCtx h1)

theorem State.Formed.install {u} (h : s.Formed) : (s.install u).Formed :=
  .traceDev (.restartUnit (.ite (.showEntries (.wr (.wr (.wr (.frame h))))) (.wr (.wr (.wr (.frame h))))))

theorem State.Formed.swap {u} (h : s.Formed) : (s.swap u).Formed := .wr (.ite (.install (.wr h)) (.inc (.wr h)))

/-! ### Bring-up -/

theorem State.Formed.holdBlocks (h : s.Formed) : s.holdBlocks.Formed := .foldl h (fun _ _ h1 => .setReg h1)

theorem State.Formed.doBlockReady {b i} (h : s.Formed) : (doBlockReady b i s).Formed :=
  .ite h (.ite (.ite h (.raiseReady (.foldl h (fun _ _ h1 => .wr h1)))) (.raiseReady h))

theorem State.Formed.moduleReset {warm preserve} (h : s.Formed) : (s.moduleReset warm preserve).Formed := by
  obtain ⟨hmem, hregs⟩ := h
  obtain ⟨hreg, hlive, hpriv⟩ := (Registers.wf_iff s).1 hregs
  exact ⟨Memory.wf_memKept _ _ hmem, (Registers.wf_iff _).2 ⟨Tab.wf_filter _ _ _ hreg, Tab.wf_filter _ _ _ hlive,
    Tab.wf_filter _ _ _ hpriv⟩⟩

theorem State.Formed.bootComp {bad c} (h : s.Formed) : (s.bootComp bad c).Formed :=
  .ite (.ite (.securityRecord (.wr (.extend (.showComp (.setComp h))))) (.extend (.showComp (.setComp h))))
    (.ite (.ite (.securityRecord (.wr (.extend (.showComp (.setComp h))))) (.extend (.showComp (.setComp h))))
    (.securityRecord (.showComp (.setComp h))))

theorem State.Formed.keepPcie (h : s.Formed) : s.keepPcie.Formed := .extend (.showComp (.setComp h))

theorem State.Formed.boot {bad warm preserve} (h : s.Formed) : (s.boot bad warm preserve).Formed :=
  .ite (.wr (.bootComp (.wr (.wr (.wr h))))) <|
  have h1 : State.Formed _ := .foldl (.wr (.extend (.freeBytes (.bootComp (.wr (.wr (.wr h)))))))
    (fun _ _ h1 => .bootComp h1)
  have h2 : State.Formed _ := .raiseReady (.wr (.holdBlocks (.ite (.keepPcie h1) (.bootComp h1))))
  .ite (.report (.frame (.ite (.debugEvent h2) h2))) (.ite (.debugEvent h2) h2)

theorem State.Formed.doVestibuleBoot {bad} (h : s.Formed) : (doVestibuleBoot bad s).Formed := by
  refine .ite h ?_
  split
  exacts [.ite (.boot (.moduleReset h)) h, .ite (.boot h) h]

theorem State.Formed.powerDown (h : s.Formed) : s.powerDown.Formed := .frame (.moduleReset h)

theorem State.Formed.powerUp {kind requester} (h : s.Formed) : (s.powerUp kind requester).Formed := .frame h

theorem State.Formed.doInputValid (h : s.Formed) : (doInputValid s).Formed :=
  .ite h (.ite (.frame h) (.powerUp (.frame h)))

theorem State.Formed.doInputInvalid (h : s.Formed) : (doInputInvalid s).Formed := .ite h (.frame (.powerDown h))

theorem State.Formed.powerEvent {f} (h : s.Formed) : (s.powerEvent f).Formed :=
  .ite h (.bellIf (.report (.inc (.wr h))))

theorem State.Formed.doInputOutOfRange {mv} (h : s.Formed) : (doInputOutOfRange mv s).Formed :=
  .ite h (.powerEvent (.wr h))

theorem State.Formed.doRailPowerGood (h : s.Formed) : (doRailPowerGood s).Formed :=
  .ite h (.ite (.frame h) (.frame h))

theorem State.Formed.railFails {order} (h : s.Formed) : (s.railFails order).Formed := .frame (.wr (.powerDown h))

theorem State.Formed.doRailTimeout (h : s.Formed) : (doRailTimeout s).Formed := .ite (.railFails h) h

theorem State.Formed.doRailLoss {r} (h : s.Formed) : (doRailLoss r s).Formed := .ite (.railFails h) h

theorem State.Formed.doPowerRetry (h : s.Formed) : (doPowerRetry s).Formed := .ite (.powerUp h) h

theorem State.Formed.doPwrDis {high} (h : s.Formed) : (doPwrDis high s).Formed :=
  .ite h (.ite (.frame (.powerDown h)) (.ite (.powerUp (.frame h)) (.frame h)))

theorem State.Formed.doThermalTrip {stack temp} (h : s.Formed) : (doThermalTrip stack temp s).Formed :=
  .ite h (.frame (.emit (.powerDown h)))

theorem State.Formed.doPowerOverWarn {power} (h : s.Formed) : (doPowerOverWarn power s).Formed :=
  .ite h (.powerEvent (.wr h))

theorem State.Formed.doPhaseLost {r} (h : s.Formed) : (doPhaseLost r s).Formed :=
  .ite h (.powerEvent (.ite (.loseCapacity h) (.useSpare (.frame h))))

/-! ### Doorbells -/

theorem State.Formed.ringAt {t part w} (h : s.Formed) : (s.ringAt t part w).Formed := .settleReports (.ring h)

theorem State.Formed.doDoorbellRing {r t w} (h : s.Formed) : (doDoorbellRing r t w s).Formed := by
  unfold Machine.doDoorbellRing
  split
  · exact .settleReports (.ring h)
  · refine .whenReady h (fun h1 => .ite (.refuseWrite h1) ?_)
    split <;> exact .ringAt h1

theorem State.Formed.doBell {x f} (h : s.Formed) : (doBell x f s).Formed := .issue h (fun h1 => .ringAt h1)

theorem State.Formed.doPendingWordClear {a t k bits} (h : s.Formed) : (doPendingWordClear a t k bits s).Formed :=
  .ite (.refuseWrite h) (.ite (.wr (.setReg h)) (.setReg h))

theorem State.Formed.deliverNow {t} (h : s.Formed) : (s.deliverNow t).Formed := .settleReports (.deliver h)

theorem State.Formed.doTargetIdleWrite {a t v} (h : s.Formed) : (doTargetIdleWrite a t v s).Formed :=
  .ite (.refuseWrite h) (.ite (.inc (.deliverNow (.wr h))) (.wr h))

theorem State.Formed.doModerationTimerExpire {t} (h : s.Formed) : (doModerationTimerExpire t s).Formed :=
  .ite h (.ite (.wr (.setTimer h)) (.ite (.deliverNow (.setTimer h)) (.setTimer h)))

theorem State.Formed.doDeliveryUnblock {t} (h : s.Formed) : (doDeliveryUnblock t s).Formed := .ite (.deliverNow h) h

/-! ### The orrery -/

theorem State.Formed.setAllowance {p v} (h : s.Formed) : (s.setAllowance p v).Formed := .wr h

theorem State.Formed.fill {p v} (h : s.Formed) : (s.fill p v).Formed := .ite h (.setAllowance h)

theorem State.Formed.doWheelSlot (h : s.Formed) : (doWheelSlot s).Formed := by
  refine .ite (.addMod h) ?_
  split
  exacts [.fill (.addMod h), .addMod h]

theorem State.Formed.doBucketFill (h : s.Formed) : (doBucketFill s).Formed :=
  .ite h (.foldl h (fun _ _ h1 => .fill (.frame h1)))

theorem State.Formed.enterMode {mode} (h : s.Formed) : (s.enterMode mode).Formed :=
  .ite h (.foldl (.inc (.wr h)) (fun _ _ h1 => .setAllowance h1))

theorem State.Formed.orrModeStep (h : s.Formed) : s.orrModeStep.Formed :=
  .ite (.enterMode (.wr (.frame h))) (.ite (.ite (.frame h) (.ite (.enterMode (.wr (.frame h))) (.frame h)))
    (.enterMode (.frame h)))

theorem State.Formed.setSend {i x} (h : s.Formed) : (s.setSend i x).Formed := .frame h

theorem State.Formed.choosePorts (h : s.Formed) : s.choosePorts.Formed := by
  refine .foldl h (fun _ _ h1 => ?_)
  split
  · exact h1
  · refine .ite h1 (.ite (.setSend h1) ?_)
    split
    exacts [.modTpc (.setSend h1), .setSend h1]

theorem State.Formed.setOrrPort {f v} (h : s.Formed) : (s.setOrrPort f v).Formed := .frame h

theorem State.Formed.noteStart {f express} (h : s.Formed) : (s.noteStart f express).Formed := .setOrrPort h

theorem State.Formed.sourceFails {i x st good} (h : s.Formed) : (s.sourceFails i x st good).Formed := by
  refine .ite (.sendExpress (.frame ?_)) (.messageFails (.frame ?_))
  · split
    exacts [.noteSrc h, h]
  · split
    exacts [.noteSrc h, h]

theorem State.Formed.measure {x} (h : s.Formed) : (s.measure x).Formed := .ite h (.frame h)

theorem State.Formed.noteSent {x n last} (h : s.Formed) : (s.noteSent x n last).Formed := by
  unfold State.noteSent
  split
  exacts [.ite h (.ite (.sentSome (.add h)) (.add h)), h]

theorem State.Formed.emitPacket {f x psn units data} (h : s.Formed) : (s.emitPacket f x psn units data).Formed :=
  .sendBlock (.emit (.ite (.inc (.frame h)) (.frame h)))

theorem State.Formed.takePsn {x} (h : s.Formed) : (s.takePsn x).1.Formed := by
  unfold State.takePsn
  split
  exacts [h, .modTpc h]

theorem State.Formed.startPacket {f i o spill good} (h : s.Formed) : (s.startPacket f i o spill good).Formed := by
  unfold State.startPacket
  split
  · exact h
  · exact .ite (.sourceFails h)
      (.askCredit
      (.noteSent
      (.measure (.emitPacket
      (.takePsn (.touch
      (.modTpc (.frame
      (.frame (.inc
      (.add (.add (.ite (.noteStart (.setOrrPort h)) (.setAllowance (.noteStart (.setOrrPort h))))))))))))))))

theorem State.Formed.startExpress {f x} (h : s.Formed) : (s.startExpress f x).Formed :=
  .ite (.emitPacket (.takePsn (.noteGateLate (.inc (.noteStart (.frame h)))))) <|
  have h1 : State.Formed _ := .sendBlock (.emit (.noteGateLate (.inc (.noteStart (.frame h)))))
  .ite (.modTpc h1) (.ite (.askCredit (.modTpc h1)) h1)

theorem State.Formed.doPortBlockStart {f good} (h : s.Formed) : (doPortBlockStart f good s).Formed := by
  refine .ite h ?_
  dsimp only
  split
  · exact .startExpress (.choosePorts h)
  · split
    · exact .startPacket (.choosePorts h)
    · split
      exacts [.startPacket (.choosePorts h), .noteStart (.choosePorts h)]

theorem State.Formed.countWaits (h : s.Formed) : s.countWaits.Formed := by
  refine .foldl (.ite (.inc (.choosePorts (.frame h))) (.choosePorts (.frame h))) (fun _ _ h1 => ?_)
  extract_lets
  split
  exacts [.inc (.inc h1), .inc h1]

/-! ### Partitions -/

theorem State.Formed.showDrains (h : s.Formed) : s.showDrains.Formed := .foldl h (fun _ _ h1 => .wr h1)

theorem State.Formed.roleStatus {p st} (h : s.Formed) : (s.roleStatus p st).Formed := .wr h

theorem State.Formed.roleBell {p} (h : s.Formed) : (s.roleBell p).Formed := .bellIf h

theorem State.Formed.setDrainFrom {p n} (h : s.Formed) : (s.setDrainFrom p n).Formed := .frame h

theorem State.Formed.endDrain {p st} (h : s.Formed) : (s.endDrain p st).Formed :=
  .roleBell (.roleStatus (.setDrainFrom (.wr h)))

theorem State.Formed.roleCommand {a p f} (h : s.Formed) (hf : ∀ {t : State}, t.Formed → (f t).Formed) :
    (s.roleCommand a p f).Formed :=
  .ite (hf h) (.roleStatus (.refuseWrite h))

theorem State.Formed.doRoleSet {a p role} (h : s.Formed) : (doRoleSet a p role s).Formed :=
  .roleCommand h (fun h1 => .ite (.roleStatus h1) (.ite (.roleStatus h1)
    (.roleBell (.roleStatus (.setDrainFrom (.wr (.wr h1)))))))

theorem State.Formed.doRoleCancel {a p} (h : s.Formed) : (doRoleCancel a p s).Formed :=
  .roleCommand h (fun h1 => .ite (.endDrain h1) (.roleStatus h1))

theorem State.Formed.roleBad {a p} (h : s.Formed) : (s.roleBad a p).Formed :=
  .roleCommand h (fun h1 => .roleStatus h1)

theorem State.Formed.doRoleDrainComplete {p} (h : s.Formed) : (doRoleDrainComplete p s).Formed :=
  .ite h (.endDrain (.inc (.ite (.wr (.wr (.wr (.wr h)))) (.wr (.wr (.wr h))))))

theorem State.Formed.doRoleDrainLimit {p} (h : s.Formed) : (doRoleDrainLimit p s).Formed :=
  .ite h (.ite h (.endDrain (.wr h)))

theorem State.Formed.mapResult {st} (h : s.Formed) : (s.mapResult st).Formed := .wr h

theorem State.Formed.doMapLoad {a i} (h : s.Formed) : (doMapLoad a i s).Formed :=
  .ite (.mapResult (.refuseWrite h)) (.ite (.countRefused h) (.wr (.frame h)))

theorem State.Formed.doMapLoadDone {ue} (h : s.Formed) : (doMapLoadDone ue s).Formed :=
  .ite h <|
  have h1 : State.Formed _ := .ite (.report (.noteUe h)) (.noteAccess h)
  .ite (.inc (.mapResult (.wr h1))) (.wr (.wr (.frame (.mapResult (.wr h1)))))

theorem State.Formed.doMapSweep {a i} (h : s.Formed) : (doMapSweep a i s).Formed :=
  .ite (.wr (.refuseWrite h)) (.ite (.countRefused h) (.startSweep h))

theorem State.Formed.mapBad {a i} (h : s.Formed) : (s.mapBad a i).Formed :=
  .ite (.mapResult h) (.mapResult (.refuseWrite h))

theorem State.Formed.mapTimebase {t} (h : s.Formed) : (s.mapTimebase t).Formed :=
  .ite h <|
  have h1 : State.Formed _ := .wr (.wr (.wr h))
  .reacquire (.ite h1 (.ite (.wr (.wr (.frame h1))) (.refuseLen h1)))

theorem State.Formed.dropUnracked (h : s.Formed) : s.dropUnracked.Formed := .foldl h (fun _ _ h1 => .failCtx h1)

theorem State.Formed.doMapSwitch (h : s.Formed) : (doMapSwitch s).Formed :=
  .ite h <|
  have h1 : State.Formed _ := .wr (.wr (.wr (.frame (.ite (.wr (.wr (.frame h))) h))))
  .bellIf (.dropUnracked (.inc (.ite (.mapTimebase (.ite (.inc h1) h1)) (.ite (.inc h1) h1))))

theorem State.Formed.doMapRetire (h : s.Formed) : (doMapRetire s).Formed := .ite h (.wr (.wr (.frame h)))

/-! ### Resets -/

theorem State.Formed.resetDecided {st} (h : s.Formed) : (s.resetDecided st).Formed := .addMod (.wr h)

theorem State.Formed.showResets (h : s.Formed) : s.showResets.Formed := .wr h

theorem State.Formed.resetRefused {a allowed} (h : s.Formed) : (s.resetRefused a allowed).Formed := by
  refine .resetDecided (.countRefused ?_)
  split
  exacts [.ite h (.inc h), h]

theorem State.Formed.resetBegins {type} (h : s.Formed) : (s.resetBegins type).Formed := .addMod (.wr (.showResets h))

theorem State.Formed.resetEnds (h : s.Formed) : s.resetEnds.Formed := .wr (.showResets h)

theorem State.Formed.doResetContext {a unit ctx} (h : s.Formed) : (doResetContext a unit ctx s).Formed := by
  refine .ite (.resetRefused h) ?_
  split
  · exact .resetDecided h
  · exact .ite (.resetRefused h) (.ite (.resetDecided h) (.ite (.resetRefused h) (.resetBegins (.frame h))))

theorem State.Formed.endPartReset {p} (h : s.Formed) : (s.endPartReset p).Formed := .ite (.resetEnds (.frame h)) h

theorem State.Formed.clearPreempt {x} (h : s.Formed) : (s.clearPreempt x).Formed := by
  unfold State.clearPreempt
  split
  exacts [.wr (.wr h), h]

theorem State.Formed.doContextResetApply {x} (h : s.Formed) : (doContextResetApply x s).Formed := by
  unfold Machine.doContextResetApply
  split
  · exact h
  · refine .ite h ?_
    extract_lets
    split
    · exact .resetEnds (.inc (.ite (.restartCtx (.frame h)) (.frame h)))
    · exact .endPartReset (.clearPreempt (.inc (.ite (.restartCtx (.frame h)) (.frame h))))

theorem State.Formed.doResetPartition {a p} (h : s.Formed) : (doResetPartition a p s).Formed :=
  .ite (.resetRefused h) (.ite (.resetRefused h) (.resetBegins (.frame h)))

theorem State.Formed.resetCatalogue {p} (h : s.Formed) : (s.resetCatalogue p).Formed :=
  .foldl (.foldl h (fun _ _ h1 => .finishBatch h1)) (fun _ _ h1 => .setRec (.moveRec h1))

theorem State.Formed.resetHeliostat {p} (h : s.Formed) : (s.resetHeliostat p).Formed :=
  .foldl (.foldl (.foldl h (fun _ _ h1 => .doWrComplete (.endWrAs h1))) (fun _ _ h1 => .abandonSlot h1))
    (fun _ _ h1 => .foldl h1 (fun _ _ h2 => .closeHo h2))

theorem State.Formed.resetTransport {p} (h : s.Formed) : (s.resetTransport p).Formed :=
  .setAllowance (.foldl h (fun _ _ h1 => .finishCmds (.setClosed (.endCtxWork h1))))

theorem State.Formed.resetRecCmds {p} (h : s.Formed) : (s.resetRecCmds p).Formed :=
  .foldl (.frame h) (fun _ _ h1 => .bellIf (.wrPriv (.wrPriv (.wrPriv (.finishRecCmd h1)))))

theorem State.Formed.resetTargets {p} (h : s.Formed) : (s.resetTargets p).Formed :=
  .foldl h (fun _ _ h1 => .setTimer (.wr (.wr (.foldl h1 (fun _ _ h2 => .wr h2)))))

theorem State.Formed.doPartitionResetApply {p} (h : s.Formed) : (doPartitionResetApply p s).Formed :=
  .ite h (.endPartReset
    (.inc (.frame
    (.ite (.endDrain (.resetTargets (.resetRecCmds (.resetTransport (.resetHeliostat (.resetCatalogue h))))))
    (.resetTargets (.resetRecCmds (.resetTransport (.resetHeliostat (.resetCatalogue h)))))))))

theorem State.Formed.beginWarm {requester preserve} (h : s.Formed) : (s.beginWarm requester preserve).Formed :=
  .resetBegins (.frame (.foldl h (fun _ _ h1 => .disableLink h1)))

theorem State.Formed.beginCold {requester} (h : s.Formed) : (s.beginCold requester).Formed := .powerUp (.powerDown h)

theorem State.Formed.doResetWarm {a preserve confirm} (h : s.Formed) : (doResetWarm a preserve confirm s).Formed :=
  .ite (.resetRefused h) (.ite (.resetRefused h) (.beginWarm h))

theorem State.Formed.doResetCold {a confirm} (h : s.Formed) : (doResetCold a confirm s).Formed :=
  .ite (.resetRefused h) (.beginCold h)

theorem State.Formed.resetBad {a} (h : s.Formed) : (s.resetBad a).Formed := .ite (.resetDecided h) (.resetRefused h)

/-! ### Management -/

theorem State.Formed.answer {x code ws} (h : s.Formed) : (s.answer x code ws).Formed := .emit h

theorem State.Formed.ask {x code ws} (h : s.Formed) : (s.ask x code ws).Formed := .ite (.answer h) h

theorem State.Formed.doSetEndpointId {x eid} (h : s.Formed) : (doSetEndpointId x eid s).Formed :=
  .ite h (.answer (.frame h))

theorem State.Formed.doGetEndpointId {x} (h : s.Formed) : (doGetEndpointId x s).Formed := .ask h

theorem State.Formed.doGetEndpointUuid {x} (h : s.Formed) : (doGetEndpointUuid x s).Formed := .ask h

theorem State.Formed.doGetMctpVersionSupport {x} (h : s.Formed) : (doGetMctpVersionSupport x s).Formed := .ask h

theorem State.Formed.doGetMessageTypeSupport {x} (h : s.Formed) : (doGetMessageTypeSupport x s).Formed := .ask h

theorem State.Formed.doGetTid {x} (h : s.Formed) : (doGetTid x s).Formed := .ask h

theorem State.Formed.doGetPldmVersion {x} (h : s.Formed) : (doGetPldmVersion x s).Formed := .ask h

theorem State.Formed.doGetPldmTypes {x} (h : s.Formed) : (doGetPldmTypes x s).Formed := .ask h

theorem State.Formed.doGetPldmCommands {x type} (h : s.Formed) : (doGetPldmCommands x type s).Formed := .ask h

theorem State.Formed.doGetSensorReading {x id} (h : s.Formed) : (doGetSensorReading x id s).Formed := .ask h

theorem State.Formed.doGetStateSensorReadings {x id} (h : s.Formed) : (doGetStateSensorReadings x id s).Formed :=
  .ask h

theorem State.Formed.doGetPdr {x record} (h : s.Formed) : (doGetPdr x record s).Formed := .ask h

theorem State.Formed.doGetPdrRepositoryInfo {x} (h : s.Formed) : (doGetPdrRepositoryInfo x s).Formed := .ask h

theorem State.Formed.noteShown {id} (h : s.Formed) : (s.noteShown id).Formed := .frame h

theorem State.Formed.doSetEventReceiver {x eid} (h : s.Formed) : (doSetEventReceiver x eid s).Formed :=
  .ite h (.answer (.foldl (.frame h) (fun _ _ h1 => .noteShown h1)))

theorem State.Formed.doPlatformEventMessage {id} (h : s.Formed) : (doPlatformEventMessage id s).Formed := by
  unfold Machine.doPlatformEventMessage
  split
  exacts [h, .ite h (.ask (.noteShown h))]

theorem State.Formed.doQueryDeviceIdentifiers {x} (h : s.Formed) : (doQueryDeviceIdentifiers x s).Formed := .ask h

theorem State.Formed.doGetFirmwareParameters {x} (h : s.Formed) : (doGetFirmwareParameters x s).Formed := .ask h

theorem State.Formed.setUpdate {u} (h : s.Formed) : (s.setUpdate u).Formed := .frame h

theorem State.Formed.doRequestUpdate {x maxXfer} (h : s.Formed) : (doRequestUpdate x maxXfer s).Formed :=
  .ite h (.ite (.answer h) (.answer (.setUpdate h)))

theorem State.Formed.inPhase {x code phases f} (h : s.Formed) (hf : ∀ {a}, (f a).Formed) :
    (s.inPhase x code phases f).Formed :=
  .ite h (.ite (.answer h) (.ite hf (.answer h)))

theorem State.Formed.doPassComponentTable {x comp last} (h : s.Formed) :
    (doPassComponentTable x comp last s).Formed :=
  .inPhase h (.answer (.setUpdate h))

theorem State.Formed.pull {x} (h : s.Formed) : (s.pull x).Formed := .answer h

theorem State.Formed.doUpdateComponent {x comp size} (h : s.Formed) : (doUpdateComponent x comp size s).Formed :=
  .inPhase h (.ite (.answer h) (.pull (.answer (.setUpdate h))))

theorem State.Formed.doRequestFirmwareDataResp {x piece} (h : s.Formed) :
    (doRequestFirmwareDataResp x piece s).Formed :=
  .ite h (.ite (.answer (.setUpdate h)) (.pull (.setUpdate h)))

theorem State.Formed.doTransferComplete {x} (h : s.Formed) : (doTransferComplete x s).Formed := .ite h (.setUpdate h)

theorem State.Formed.doVerifyComplete {x verdict} (h : s.Formed) : (doVerifyComplete x verdict s).Formed :=
  .ite h (.ite (.setUpdate (.inc (.answer h))) (.securityRecord (.setUpdate (.inc (.answer h)))))

theorem State.Formed.doApplyComplete {x good} (h : s.Formed) : (doApplyComplete x good s).Formed :=
  .ite h (.answer (.setUpdate (.showComp (.setComp h))))

theorem State.Formed.doActivateFirmware {x} (h : s.Formed) : (doActivateFirmware x s).Formed :=
  .inPhase h (.ite (.answer h) (.ite (.answer (.setUpdate (.setComp h))) (.runVes (.frame (.answer (.setUpdate h))))))

theorem State.Formed.doGetStatus {x} (h : s.Formed) : (doGetStatus x s).Formed := .ask h

theorem State.Formed.doCancelUpdateComponent {x} (h : s.Formed) : (doCancelUpdateComponent x s).Formed :=
  .inPhase h (.answer (.setUpdate h))

theorem State.Formed.doCancelUpdate {x} (h : s.Formed) : (doCancelUpdate x s).Formed :=
  .inPhase h (.answer (.setUpdate h))

theorem State.Formed.doVendorReset {x i cold preserve confirm} (h : s.Formed) :
    (doVendorReset x i cold preserve confirm s).Formed :=
  .ite h (.ite (.answer h) (.ite (.answer (.resetRefused h)) (.ite (.beginCold (.answer h))
    (.beginWarm (.answer h)))))

theorem State.Formed.doFaultLast {x} (h : s.Formed) : (doFaultLast x s).Formed := .ask h

/-! ### The photometer -/

theorem State.Formed.doTmark {x f} (h : s.Formed) : (doTmark x f s).Formed := .issue h (fun h1 => .trace h1)

theorem State.Formed.doTadd {x f} (h : s.Formed) : (doTadd x f s).Formed := .issue h (fun h1 => .add h1)

theorem State.Formed.writeSample {i} (h : s.Formed) : (s.writeSample i).Formed := .addMod (.devWriteWords h)

theorem State.Formed.visit {n left i} (h : s.Formed) : (s.visit n left i).Formed := by
  induction n generalizing s left i with
  | zero => exact .frame h
  | succ n ih => exact .ite (ih h) (.ite (.frame h) (ih (.writeSample h)))

theorem State.Formed.doSamplePass (h : s.Formed) : (doSamplePass s).Formed := by
  refine .ite h ?_
  extract_lets
  split
  · exact .ite (.frame h) (.ite (.inc (.frame h)) (.frame (.frame h)))
  · exact .visit (.ite (.frame h) (.ite (.inc (.frame h)) (.frame (.frame h))))

theorem State.Formed.drainTrace {n} (h : s.Formed) : (s.drainTrace n).Formed := by
  induction n generalizing s with
  | zero => exact h
  | succ n ih =>
    unfold State.drainTrace
    split
    · exact h
    · exact .ite h (ih (.addMod (.devWriteWords (.frame (.ite h (.addMod h))))))

theorem State.Formed.doTraceDrain (h : s.Formed) : (doTraceDrain s).Formed := .drainTrace h

theorem State.Formed.dbgWr {path f v} (h : s.Formed) : (s.dbgWr path f v).Formed := .ite (.wr h) (.wrPriv h)

theorem State.Formed.dbgStatus {path st} (h : s.Formed) : (s.dbgStatus path st).Formed := .dbgWr h

theorem State.Formed.onDebugPath {a eff} (h : s.Formed) (heff : ∀ {a} {t : State}, t.Formed → (eff a t).Formed) :
    (s.onDebugPath a eff).Formed := by
  unfold State.onDebugPath
  split
  exacts [.whenReady h (fun h1 => heff (.notePath h1)), .refuseWrite h]

theorem State.Formed.onDebugCmd {a refused eff} (h : s.Formed) (hrefused : ∀ {a} {t : State}, t.Formed →
  (refused a t).Formed) (heff : ∀ {a} {t : State}, t.Formed → (eff a t).Formed) :
    (s.onDebugCmd a refused eff).Formed := by
  unfold State.onDebugCmd
  split
  exacts [hrefused (.onDebugPath h heff), hrefused (.onDebugPath h heff), .onDebugPath h heff]

theorem State.Formed.dbgCommand {a write} (h : s.Formed) : (s.dbgCommand a write).Formed :=
  .onDebugCmd h (fun h1 => .dbgStatus h1) (fun h1 => .ite (.countRefused h1) (.dbgWr (.frame h1)))

theorem State.Formed.doDbgRead {a} (h : s.Formed) : (doDbgRead a s).Formed := .dbgCommand h

theorem State.Formed.doDbgWrite {a} (h : s.Formed) : (doDbgWrite a s).Formed := .dbgCommand h

theorem State.Formed.dbgBad {a} (h : s.Formed) : (s.dbgBad a).Formed :=
  .onDebugCmd h (fun h1 => .dbgStatus h1) (fun h1 => .ite (.countRefused h1) (.dbgStatus h1))

theorem State.Formed.dbgAccess {x ue} (h : s.Formed) : (s.dbgAccess x ue).1.Formed :=
  .ite_fst (.report h) (.ite_fst (.noteAccess h) (.ite_fst (.ite (.pokeRec h) (.setWord h))
    (.ite_fst (.report (.noteUe h)) (.dbgWr h))))

theorem State.Formed.doDbgAccessDone {path ue} (h : s.Formed) : (doDbgAccessDone path ue s).Formed := by
  unfold Machine.doDbgAccessDone
  split
  exacts [h, .ite h (.frame (.dbgWr (.dbgStatus (.dbgAccess h))))]

theorem State.Formed.stopResult {path st} (h : s.Formed) : (s.stopResult path st).Formed := .dbgWr (.dbgWr h)

theorem State.Formed.stopCommand {a unit ctx eff} (h : s.Formed) (heff : ∀ {a} {t : State}, t.Formed →
  (eff a t).1.Formed) :
    (s.stopCommand a unit ctx eff).Formed := by
  refine .onDebugCmd h (fun h1 => .stopResult h1) (fun h1 => ?_)
  split
  exacts [.stopResult h1, .ite (.stopResult h1) (.stopResult (heff h1))]

theorem State.Formed.stopCtx {x} (h : s.Formed) : (s.stopCtx x).1.Formed := by
  unfold State.stopCtx
  split
  exacts [h, h, h, h, .ite_fst (.modCtx h) (.debugStop h)]

theorem State.Formed.resumeCtx {x} (h : s.Formed) : (s.resumeCtx x).1.Formed := by
  unfold State.resumeCtx
  split
  exacts [h, h, .modCtx h, h]

theorem State.Formed.doDbgStop {a unit ctx} (h : s.Formed) : (doDbgStop a unit ctx s).Formed :=
  .stopCommand h (fun h1 => .stopCtx h1)

theorem State.Formed.doDbgResume {a unit ctx} (h : s.Formed) : (doDbgResume a unit ctx s).Formed :=
  .stopCommand h (fun h1 => .resumeCtx h1)

theorem State.Formed.doStopPendingComplete {x} (h : s.Formed) : (doStopPendingComplete x s).Formed :=
  .ite (.debugStop h) h

theorem State.Formed.setCtxReg {x file i word v} (h : s.Formed) : (s.setCtxReg x file i word v).Formed := by
  unfold State.setCtxReg
  split
  exacts [.setG h, .setP h, .setT h, .setPc h, .setK h, .setC h]

theorem State.Formed.regAccess {path write} (h : s.Formed) : (s.regAccess path write).Formed := by
  unfold State.regAccess
  extract_lets
  split
  · exact .dbgStatus (.dbgWr h)
  · refine .ite (.dbgStatus (.dbgWr h)) (.ite (.dbgStatus (.dbgWr h)) ?_)
    split
    exacts [.dbgStatus (.dbgWr h), .ite (.dbgStatus h) (.dbgStatus (.dbgWr (.setCtxReg h)))]

theorem State.Formed.doPhoRegDataAccess {a write} (h : s.Formed) : (doPhoRegDataAccess a write s).Formed :=
  .onDebugPath h (fun h1 => .regAccess h1)

theorem State.Formed.doPhoClear {a} (h : s.Formed) : (doPhoClear a s).Formed := by
  unfold Machine.doPhoClear
  split
  exacts [.ite (.whenReady h (fun h1 => .foldl h1 (fun _ _ h2 => .wr h2))) (.refuseWrite h), .refuseWrite h]

/-! ### Effects of a register read -/

theorem State.Formed.readEffect {a off} (h : s.Formed) : (s.readEffect a off).2.Formed := by
  unfold State.readEffect
  split
  · refine .ite ?_ h
    split
    · exact h
    · split
      exacts [.doStwPGrab h, h]
  · exact h

/-! ### Faults -/

theorem State.Formed.doFaultReport {r} (h : s.Formed) : (doFaultReport r s).Formed := .report h

theorem State.Formed.doFaultRingDrain (h : s.Formed) : (doFaultRingDrain s).Formed := .settleReports (.drainFaults h)

theorem State.Formed.doDieTempLimit {temp} (h : s.Formed) : (doDieTempLimit temp s).Formed :=
  .ite (.wr h) (.report (.wr h))

theorem State.Formed.setHealth {st cause} (h : s.Formed) : (s.setHealth st cause).Formed := .report (.wr (.wr h))

theorem State.Formed.healthCommand {a f} (h : s.Formed) (hf : ∀ {t : State}, t.Formed → (f t).Formed) :
    (s.healthCommand a f).Formed :=
  .ite (hf h) (.refuseWrite h)

theorem State.Formed.doHealthQuarantine {a} (h : s.Formed) : (doHealthQuarantine a s).Formed :=
  .healthCommand h (fun h1 => .ite (.setHealth h1) h1)

theorem State.Formed.doHealthRelease {a} (h : s.Formed) : (doHealthRelease a s).Formed :=
  .healthCommand h (fun h1 => .ite h1 (.ite (.setHealth h1) (.setHealth h1)))

theorem State.Formed.doHealthClear {a} (h : s.Formed) : (doHealthClear a s).Formed :=
  .healthCommand h (fun h1 => .foldl h1 (fun _ _ h2 => .wr h2))

theorem State.Formed.judgeHealth (h : s.Formed) : s.judgeHealth.Formed := by
  refine .ite (.ite (.setHealth (.inc h)) (.ite (.setHealth (.inc h)) h)) (.ite ?_ h)
  split
  exacts [.ite (.setHealth (.wr h)) (.inc h), .ite (.setHealth h) h]

theorem State.Formed.updateHealth (h : s.Formed) : s.updateHealth.Formed :=
  .frame (.judgeHealth (.frame (.add (.add (.add (.add (.ite (.foldl h (fun _ _ h1 => .wr h1)) h)))))))

theorem State.Formed.doSelftestPassStart {kind i} (h : s.Formed) : (doSelftestPassStart kind i s).Formed :=
  .ite h (.setPass (.ite (.wr h) (.ite (.wr h) h)))

theorem State.Formed.failSpare {kind i} (h : s.Formed) : (s.failSpare kind i).Formed := by
  unfold State.failSpare
  split
  · exact .countSpare (.wr h)
  · exact .countSpare (.wr h)
  · exact .setSpares (.modLink (.setLaneState h))
  · exact .countSpare (.wr h)
  · exact .lcReport (.setLc h)
  · exact .countSpare (.frame h)

theorem State.Formed.doSelftestPassEnd {kind i passed} (h : s.Formed) : (doSelftestPassEnd kind i passed s).Formed :=
  .ite h <|
  have h1 : State.Formed _ := .wr (.setPass h)
  .ite (.ite (.wr h1) (.ite (.wr h1) h1)) (.report (.frame (.inc (.failSpare h1))))

theorem State.Formed.newelDue {c} (h : s.Formed) : (s.newelDue c).Formed := .ite h (.frame h)

theorem State.Formed.doFltNwlSubst {a core} (h : s.Formed) : (doFltNwlSubst a core s).Formed :=
  .ite (.refuseWrite h) (.ite (.countRefused h) (.newelDue h))

theorem State.Formed.doNewelCoreUe {core} (h : s.Formed) : (doNewelCoreUe core s).Formed :=
  .ite h (.report (.noteUe (.newelDue h)))

theorem State.Formed.loseNewel {c} (h : s.Formed) : (s.loseNewel c).Formed :=
  .loseCapacity (.foldl (.wr (.wr h)) (fun _ _ h1 => .setCtx (.ite (.leaveSlice h1) (.clearStall h1))))

theorem State.Formed.substNewel {c} (h : s.Formed) : (s.substNewel c).Formed := by
  unfold State.substNewel
  extract_lets
  split
  · exact .loseNewel (.wr h)
  · exact .useSpare (.ite (.restartUnit (.showEntries (.wr (.wr (.freeLocal (.wr (.wr (.wr h))))))))
      (.freeLocal (.wr (.wr (.wr h)))))

theorem State.Formed.doNewelSubstitute (h : s.Formed) : (doNewelSubstitute s).Formed :=
  .ite h (.foldl (.frame h) (fun _ _ h1 => .substNewel h1))

/-! ### Register writes -/

theorem State.Formed.ringMoved {r} (h : s.Formed) : (s.ringMoved r).Formed := by
  unfold State.ringMoved
  split
  exacts [.helDrain h, h]

theorem State.Formed.doRingIndexWrite {a r index} (h : s.Formed) : (doRingIndexWrite a r index s).Formed :=
  .whenReady h (fun h1 => .ite (.refuseWrite h1) (.ite (.countRefused h1) (.ringMoved (.wr h1))))

theorem State.Formed.onIf {c f} (hf : ∀ {t : State}, t.Formed → (f t).Formed) (h : s.Formed) : (onIf c f s).Formed :=
  .ite (hf h) h

theorem State.FormedIn.atrCommand {a w} (h : s.Formed) : State.FormedIn (s.atrCommand a w) :=
  .ite .none (.ite (.some (.doResetContext h)) (.ite (.some (.doResetPartition h)) (.ite (.some (.doResetWarm h))
    (.ite (.some (.doResetCold h)) (.some (.resetBad h))))))

theorem State.FormedIn.vesWrite {a w} (h : s.Formed) : State.FormedIn (s.vesWrite a w) :=
  .ite .none (.ite (.some (.doEnroll (.free (.free h)))) (.some (.vesOp h)))

theorem State.FormedIn.hifCommand {a h w} (hs : s.Formed) : State.FormedIn (s.hifCommand a h w) :=
  .ite (.some (.doHifHeartbeat hs)) (.ite .none (.ite (.some (.doRebind hs)) (.ite (.some (.doRebindAll hs))
    (.ite (.some (.doTakePrimary hs)) (.ite (.some (.doGivePrimary hs)) (.some (.rebindBad hs)))))))

theorem State.FormedIn.dbhCommand {a h w} (hs : s.Formed) : State.FormedIn (s.dbhCommand a h w) :=
  .ite (.some (.doDoorbellRing hs)) (.ite (.some (.doTargetIdleWrite hs)) (.ite (.some (.doPendingWordClear hs))
    .none))

theorem State.FormedIn.catCommand {a h w} (hs : s.Formed) : State.FormedIn (s.catCommand a h w) :=
  .ite (.some (.doRecordRelease hs)) .none

theorem State.FormedIn.helCommand {a h w} (hs : s.Formed) : State.FormedIn (s.helCommand a h w) :=
  .ite (.some (.onIf (fun h1 => .doHelMeasStop h1) (.onIf (fun h1 => .doHelMeasStart h1) hs)))
    (.ite (.some (.doHelTrigCancel hs)) .none)

theorem State.FormedIn.stwCommand {a h w} (hs : s.Formed) : State.FormedIn (s.stwCommand a h w) :=
  .ite (.some (.enterRecCmd hs)) (.ite (.some (.onIf (fun h1 => .doKeyForceRetire h1)
    (.onIf (fun h1 => .doKeyRotate h1) hs))) .none)

theorem State.FormedIn.ctxWrite {a w} (h : s.Formed) : State.FormedIn (s.ctxWrite a w) :=
  .ite .none (.ite (.some (.doCtxCreate h)) (.ite (.some (.doCtxClose h)) (.ite (.some (.doCtxQuery h))
    (.ite (.some (.doCtxKeyInstall h)) (.ite (.some (.doCtxKeySwitch h)) (.ite (.some (.doCtxPin h))
    (.ite (.some (.doCtxUnpin h)) (.ite (.some (.doCtxReset h)) (.some (.ctxCommand h (fun h1 => h1)))))))))))

theorem State.FormedIn.rgnWrite {a p w} (h : s.Formed) : State.FormedIn (s.rgnWrite a p w) :=
  .ite .none (.ite (.some (.doRgnAdd h)) (.ite (.some (.doRgnRemove h)) (.some (.rgnCommand h (fun h1 => h1)))))

theorem State.FormedIn.fabCommand {a h w} (hs : s.Formed) : State.FormedIn (s.fabCommand a h w) :=
  .ite (.some (.doFabSubst hs)) (.ite (.some (.doFabRecal hs))
    (.ite (.some (.onIf (fun h1 => .doLcEjectB h1) (.onIf (fun h1 => .doLcEjectA h1) hs))) (.ite (.ctxWrite hs)
    (.ite (.some (.doRlcFlush hs)) (.ite (.rgnWrite hs) .none)))))

theorem State.FormedIn.galCommand {a h w} (hs : s.Formed) : State.FormedIn (s.galCommand a h w) :=
  .ite (.some (.doGalSubst hs)) (.ite (.some (.doGalBatchDone hs)) (.ite (.some (.doTagLoadGo hs))
    (.ite (.some (.doGalSrSeedWrite hs)) .none)))

theorem State.FormedIn.nbuCommand {a h w} (hs : s.Formed) : State.FormedIn (s.nbuCommand a h w) :=
  .ite (.some (.doNbuSubst hs)) (.ite (.some (.doNbuLostClear hs)) .none)

theorem State.FormedIn.prtCommand {a h w} (hs : s.Formed) : State.FormedIn (s.prtCommand a h w) :=
  .ite (.ite .none (.ite (.some (.doRoleSet hs)) (.ite (.some (.doRoleCancel hs)) (.some (.roleBad hs)))))
    (.ite (.ite .none (.ite (.some (.doMapLoad hs)) (.ite (.some (.doMapSweep hs)) (.some (.mapBad hs))))) .none)

theorem State.FormedIn.phoCommand {a h w} (hs : s.Formed) : State.FormedIn (s.phoCommand a h w) :=
  .ite (.some (.onDebugPath hs (fun h1 => .ite (.countRefused h1) (.foldl h1 (fun _ _ h2 => .dbgWr h2)))))
    (.ite (.ite .none (.ite (.some (.doDbgRead hs)) (.ite (.some (.doDbgWrite hs)) (.some (.dbgBad hs)))))
    (.ite (.ite (.some (.doDbgStop hs)) (.ite (.some (.doDbgResume hs)) .none)) (.ite (.some (.doPhoRegDataAccess hs))
    (.ite (.some (.doPhoClear hs)) .none))))

theorem State.FormedIn.fltCommand {a h w} (hs : s.Formed) : State.FormedIn (s.fltCommand a h w) :=
  .ite (.ite (.some (.doHealthQuarantine hs)) (.ite (.some (.doHealthRelease hs)) (.ite (.some (.doHealthClear hs))
    .none))) (.ite (.some (.doFltNwlSubst hs)) .none)

theorem State.Formed.almBad {a e p} (h : s.Formed) : (s.almBad a e p).Formed := by
  unfold State.almBad
  split
  exacts [.refuseWrite h, .ite (.almResult h) (.almResult (.refuseWrite h))]

theorem State.FormedIn.almWrite {a w} (h : s.Formed) : State.FormedIn (s.almWrite a w) :=
  .ite .none (.ite (.some (.doAlmRegister h)) (.ite (.some (.doAlmLoad h)) (.ite (.some (.doAlmEvict h))
    (.ite (.some (.doAlmPin h)) (.ite (.some (.doAlmUnpin h)) (.ite (.some (.doAlmAdvance h))
    (.ite (.some (.doAlmUnregister h)) (.some (.almBad h)))))))))

theorem State.FormedIn.adpWrite {a w} (h : s.Formed) : State.FormedIn (s.adpWrite a w) :=
  .ite .none (.ite (.some (.doAdpLoad h)) (.ite (.some (.doAdpRetire h)) (.some (.adpCommand h (.adpResult h)))))

theorem State.FormedIn.regCommand {a h w} (hs : s.Formed) : State.FormedIn (s.regCommand a h w) := by
  unfold State.regCommand
  split
  · exact .some (.doRingIndexWrite hs)
  · split
    · exact .ite (.atrCommand hs) .none
    · exact .ite (.vesWrite hs) .none
    · exact .hifCommand hs
    · exact .dbhCommand hs
    · exact .catCommand hs
    · exact .helCommand hs
    · exact .stwCommand hs
    · exact .fabCommand hs
    · exact .galCommand hs
    · exact .nbuCommand hs
    · exact .prtCommand hs
    · exact .phoCommand hs
    · exact .fltCommand hs
    · exact .ite (.almWrite hs) (.ite (.adpWrite hs) .none)
    · exact .none
    · exact .none
    · exact .none

theorem State.Formed.afterWrite {a h w} (hs : s.Formed) : (s.afterWrite a h w).Formed := by
  refine .ite (.testCounter hs) (.ite (.wr hs) (.ite ?_ hs))
  split
  exacts [.doProgStage hs, .doProgStage hs, .doProgStage hs, .doProgStage hs, hs]

theorem State.Formed.plainWrite {a x w} (h : s.Formed) : (s.plainWrite a x w).Formed :=
  have h1 : State.Formed _ := .ite (.setPriv h) (.setReg h)
  .afterWrite (.ite (.countRefused h1) h1)

theorem State.Formed.expertWrite {a x w} (h : s.Formed) : (s.expertWrite a x w).Formed :=
  .ite (.plainWrite h) (.countRefused h)

theorem State.Formed.newLive {old b} (h : s.Formed) : (s.newLive old b).Formed := by
  unfold State.newLive
  split
  exacts [.reacquire (.foldl (.frame h) (fun _ _ h1 => .ite (.setRole h1) h1)), .bellIf h, h]

theorem State.Formed.setBoth {x w} (h : s.Formed) : (s.setBoth x w).Formed := .setReg (.setLive h)

theorem State.Formed.askSwap {u w} (h : s.Formed) : (s.askSwap u w).Formed := .frame h

theorem State.Formed.afterLive {old x w} (h : s.Formed) : (s.afterLive old x w).Formed := by
  unfold State.afterLive
  extract_lets
  split
  · exact .ite (.keySwitch h) h
  · exact .ite (.useTable h) (.ite (.askSwap h) (.ite (.foldl h (fun _ _ h1 => .rateFalls h1)) h))
  · exact .foldl h (fun _ _ h1 => .rateFalls h1)
  · exact .ite (.askSwap h) h
  · exact .ite (.askSwap h) h
  · exact .ite (.askSwap h) h
  · exact .newLive h

theorem State.Formed.liveWrite {x w} (h : s.Formed) : (s.liveWrite x w).Formed :=
  .ite (.countRefused h) (.ite (.ite (.refuseLen h) (.countRefused h)) (.afterLive (.setBoth h)))

theorem State.Formed.commitWrite {b inst w} (h : s.Formed) : (s.commitWrite b inst w).Formed :=
  .ite (.requestCommit h) h

theorem State.Formed.writeReg {a x w} (h : s.Formed) : (s.writeReg a x w).Formed := by
  have hcmd : State.FormedIn (if x.live then none else s.regCommand a x.hit w) := .ite .none (.regCommand h)
  refine .ite (.refuseWrite h) (.ite (.countRefused h) ?_)
  dsimp only
  split
  · exact hcmd _ ‹_›
  · exact .ite (.refuseWrite h) (.ite (.commitWrite h) (.ite (.liveWrite h) (.ite (.expertWrite h) (.plainWrite h))))

theorem State.Formed.writeBar0 {a off w} (h : s.Formed) : (s.writeBar0 a off w).Formed := by
  unfold State.writeBar0
  split
  exacts [.writeReg h, h]

theorem State.Formed.vfCommit {w} (h : s.Formed) : (s.vfCommit w).Formed := .foldl h (fun _ _ h1 => .requestCommit h1)

theorem State.Formed.writeVf {x v off w} (h : s.Formed) : (s.writeVf x v off w).Formed := by
  unfold State.writeVf
  extract_lets
  split
  · exact .refuseWrite h
  · refine .ite (.vfCommit h) (.ite (.setFn h) ?_)
    split
    exacts [.ite (.writeBar0 h) (.refuseWrite h), .refuseWrite h]

theorem State.Formed.hostWrite {a off narrow w} (h : s.Formed) : (s.hostWrite a off narrow w).Formed := by
  unfold State.hostWrite
  split
  · exact .ite h (.writeBar0 h)
  · refine .ite (.inc h) ?_
    split
    exacts [.writeVf h, .writeBar0 h]

theorem State.Formed.doExpertLiveWrite {a off w} (h : s.Formed) : (doExpertLiveWrite a off w s).Formed := by
  unfold Machine.doExpertLiveWrite
  split
  exacts [.ite (.hostWrite h) h, h]

theorem State.Formed.doCommitRequest {a b inst} (h : s.Formed) : (doCommitRequest a b inst s).Formed :=
  .ite (.hostWrite h) h

/-! ### Local accesses -/

theorem State.Formed.issueOrStall {x op f fault waits stall eff} (h : s.Formed) (hstall : ∀ {t : State}, t.Formed →
  (stall t).Formed) (heff : ∀ {t : State}, t.Formed → (eff t).Formed) :
    (s.issueOrStall x op f fault waits stall eff).Formed :=
  .issue h (fun h1 => .ite (.modCtx (.setPc (hstall h1))) (heff (.modCtx h1)))

theorem State.Formed.unitRead {x off} (h : s.Formed) : (s.unitRead x off).2.Formed := by
  unfold State.unitRead
  split
  exacts [.ite_snd (.readEffect h) h, h]

theorem State.Formed.storeStall {x f n} (h : s.Formed) : (s.storeStall x f n).Formed := .startDemand h

theorem State.Formed.loadBytes {x f n good} (h : s.Formed) : (s.loadBytes x f n good).2.Formed := by
  unfold State.loadBytes
  dsimp only
  split
  · exact h
  · split
    · split
      exacts [h, .freeBytes (.noteRead h)]
    · exact .unitRead h

theorem State.Formed.storeBytes {x f data} (h : s.Formed) : (s.storeBytes x f data).Formed :=
  .ite (.setLocal h) (.ite (.clearTensorTags (.landWrite h)) (.hostWrite h))

theorem State.Formed.doLd {x f good} (h : s.Formed) : (doLd x f good s).Formed :=
  .issueOrStall h (fun h1 => h1) (fun h1 => .setG (.loadBytes h1))

theorem State.Formed.doSt {x f} (h : s.Formed) : (doSt x f s).Formed :=
  .issueOrStall h (fun h1 => .storeStall h1) (fun h1 => .storeBytes h1)

theorem State.Formed.doLdt {x f good} (h : s.Formed) : (doLdt x f good s).Formed :=
  .issueOrStall h (fun h1 => h1) (fun h1 => .setT (.loadBytes h1))

theorem State.Formed.doStt {x f} (h : s.Formed) : (doStt x f s).Formed :=
  .issueOrStall h (fun h1 => .storeStall h1) (fun h1 => .storeBytes h1)

theorem State.Formed.localAtomic {x op f good new} (h : s.Formed) : (s.localAtomic x op f good new).Formed := by
  refine .issueOrStall h (fun h1 => .storeStall h1) (fun h1 => .setG ?_)
  split
  exacts [.ite (.loadBytes h1) (.storeBytes (.loadBytes h1)), .loadBytes h1]

theorem State.Formed.doAadd {x f good} (h : s.Formed) : (doAadd x f good s).Formed := .localAtomic h

theorem State.Formed.doAcas {x f good} (h : s.Formed) : (doAcas x f good s).Formed := .localAtomic h

theorem State.Formed.doFencel {x f} (h : s.Formed) : (doFencel x f s).Formed := .issue h (fun h1 => h1)

theorem State.Formed.doCmt {x f} (h : s.Formed) : (doCmt x f s).Formed := by
  refine .issue h (fun h1 => ?_)
  split
  exacts [.ite (.requestCommit h1) (.countRefused h1), h1]

theorem State.Formed.doCfgw {x f} (h : s.Formed) : (doCfgw x f s).Formed := .issue h (fun h1 => .hostWrite h1)

theorem State.Formed.doCfgr {x f} (h : s.Formed) : (doCfgr x f s).Formed := .issue h (fun h1 => .setG (.unitRead h1))

/-! ### Scalar instructions -/

theorem State.Formed.alu {x op f r} (h : s.Formed) : (s.alu x op f r).Formed := .issue h (fun h1 => .setG h1)

theorem State.Formed.shift {x op f r} (h : s.Formed) : (s.shift x op f r).Formed := .issue h (fun h1 => .setG h1)

theorem State.Formed.doAdd {x f} (h : s.Formed) : (doAdd x f s).Formed := .alu h

theorem State.Formed.doSub {x f} (h : s.Formed) : (doSub x f s).Formed := .alu h

theorem State.Formed.doAnd {x f} (h : s.Formed) : (doAnd x f s).Formed := .alu h

theorem State.Formed.doOr {x f} (h : s.Formed) : (doOr x f s).Formed := .alu h

theorem State.Formed.doXor {x f} (h : s.Formed) : (doXor x f s).Formed := .alu h

theorem State.Formed.doShl {x f} (h : s.Formed) : (doShl x f s).Formed := .shift h

theorem State.Formed.doShr {x f} (h : s.Formed) : (doShr x f s).Formed := .shift h

theorem State.Formed.doSra {x f} (h : s.Formed) : (doSra x f s).Formed := .shift h

theorem State.Formed.doMul {x f} (h : s.Formed) : (doMul x f s).Formed := .alu h

theorem State.Formed.doAddi {x f} (h : s.Formed) : (doAddi x f s).Formed := .issue h (fun h1 => .setG h1)

theorem State.Formed.doMovl {x f} (h : s.Formed) : (doMovl x f s).Formed := .issue h (fun h1 => .setG h1)

theorem State.Formed.doMovh {x f} (h : s.Formed) : (doMovh x f s).Formed := .issue h (fun h1 => .setG h1)

theorem State.Formed.doCmp {x f} (h : s.Formed) : (doCmp x f s).Formed := .issue h (fun h1 => .setP h1)

theorem State.Formed.doCmpi {x f} (h : s.Formed) : (doCmpi x f s).Formed := .issue h (fun h1 => .setP h1)

theorem State.Formed.doPset {x f} (h : s.Formed) : (doPset x f s).Formed := .issue h (fun h1 => .setP h1)

theorem State.Formed.doTdset {x f} (h : s.Formed) : (doTdset x f s).Formed := .issue h (fun h1 => .setT h1)

/-! ### Tokens -/

theorem State.Formed.giveOrDiscard {x credit f count} (h : s.Formed) : (s.giveOrDiscard x credit f count).Formed :=
  .ite h (.ite (.issueGive h) (.report h))

theorem State.Formed.doGive {x f} (h : s.Formed) : (doGive x f s).Formed := .issue h (fun h1 => .giveOrDiscard h1)

theorem State.Formed.doRetc {x f} (h : s.Formed) : (doRetc x f s).Formed := .issue h (fun h1 => .giveOrDiscard h1)

theorem State.Formed.take {credit unit ctr n} (h : s.Formed) : (s.take credit unit ctr n).Formed :=
  .ite (.setCounter h) (.frame (.setCounter h))

theorem State.Formed.tryTake {x credit ctr n pres} (h : s.Formed) : (s.tryTake x credit ctr n pres).Formed :=
  .ite (.setP (.take h)) (.setP h)

theorem State.Formed.doTakek {x f} (h : s.Formed) : (doTakek x f s).Formed := .issue h (fun h1 => .tryTake h1)

theorem State.Formed.doTakec {x f} (h : s.Formed) : (doTakec x f s).Formed := .issue h (fun h1 => .tryTake h1)

theorem State.Formed.startWait {x credit f} (h : s.Formed) : (s.startWait x credit f).Formed :=
  .ite (.tryTake h) (.ite (.traceDev (.setP h)) (.modCtx h))

theorem State.Formed.doWaitk {x f} (h : s.Formed) : (doWaitk x f s).Formed := .issue h (fun h1 => .startWait h1)

theorem State.Formed.doWaitc {x f} (h : s.Formed) : (doWaitc x f s).Formed := .issue h (fun h1 => .startWait h1)

theorem State.Formed.doWaitTakeSuccess {x} (h : s.Formed) : (doWaitTakeSuccess x s).Formed := by
  unfold Machine.doWaitTakeSuccess
  split
  exacts [.ite (.modCtx (.tryTake h)) h, h]

theorem State.Formed.doWaitLimitExpired {x} (h : s.Formed) : (doWaitLimitExpired x s).Formed := by
  unfold Machine.doWaitLimitExpired
  split
  exacts [.ite h (.traceDev (.modCtx (.setP h))), h]

theorem State.Formed.doRdk {x f} (h : s.Formed) : (doRdk x f s).Formed := .issue h (fun h1 => .setG h1)

theorem State.Formed.doRdc {x f} (h : s.Formed) : (doRdc x f s).Formed := .issue h (fun h1 => .setG h1)

theorem State.Formed.doSetk {x f} (h : s.Formed) : (doSetk x f s).Formed := .issue h (fun h1 => .setK h1)

theorem State.Formed.doSetc {x f} (h : s.Formed) : (doSetc x f s).Formed := .issue h (fun h1 => .setC h1)

theorem State.Formed.applyGive {x} (h : s.Formed) : (s.applyGive x).Formed :=
  .ite (.setCounter h) (.report (.setCounter h))

theorem State.Formed.doTokenGiveArrive {i} (h : s.Formed) : (doTokenGiveArrive i s).Formed := by
  unfold Machine.doTokenGiveArrive
  split
  exacts [.applyGive (.frame h), h]

/-! ### Debug -/

theorem State.Formed.runLarty {x op f good} (h : s.Formed) : (s.runLarty x op f good).Formed := by
  unfold State.runLarty
  split
  · exact .doBr h
  · exact .doCall h
  · exact .doJr h
  · exact .doMyld h
  · exact .doMchk h
  · exact .doMcnt h
  · exact .doHalt h
  · exact .doBarf h
  · exact .doBrk h
  · exact .doAdd h
  · exact .doSub h
  · exact .doAnd h
  · exact .doOr h
  · exact .doXor h
  · exact .doShl h
  · exact .doShr h
  · exact .doSra h
  · exact .doMul h
  · exact .doAddi h
  · exact .doMovl h
  · exact .doMovh h
  · exact .doCmp h
  · exact .doCmpi h
  · exact .doPset h
  · exact .doTdset h
  · exact .doLd h
  · exact .doSt h
  · exact .doLdt h
  · exact .doStt h
  · exact .doAadd h
  · exact .doAcas h
  · exact .doFencel h
  · exact .doRld h
  · exact .doRst h
  · exact .doRadd h
  · exact .doRcas h
  · exact .doRpost h
  · exact .doRfl h
  · exact .doRinv h
  · exact .doMbox h
  · exact .doGive h
  · exact .doRetc h
  · exact .doTakek h
  · exact .doTakec h
  · exact .doWaitk h
  · exact .doWaitc h
  · exact .doRdk h
  · exact .doRdc h
  · exact .doSetk h
  · exact .doSetc h
  · exact .doTmma h
  · exact .doTload h
  · exact .doTstore h
  · exact .doTew h
  · exact .doTfn h
  · exact .doTred h
  · exact .doTsync h
  · exact .doAttn h
  · exact .doAmrg h
  · exact .doAmode h
  · exact .doAsync h
  · exact .doMove h
  · exact .doMigr h
  · exact .doPark h
  · exact .doCrd h
  · exact .doCwr h
  · exact .doCstate h
  · exact .doCadmit h
  · exact .doCcommit h
  · exact .doCtrim h
  · exact .doCprog h
  · exact .doBell h
  · exact .doTmark h
  · exact .doTadd h
  · exact .doCmt h
  · exact .doCfgw h
  · exact .doCfgr h
  · exact .doNop h

theorem State.Formed.endStep {x} (h : s.Formed) : (s.endStep x).Formed := by
  unfold State.endStep
  extract_lets
  split
  · exact .modCtx h
  · exact .modCtx h
  · exact .modCtx (.traceDev (.setP h))
  · exact .modCtx h
  · exact .modCtx (.modCtx h)
  · exact .modCtx (.modCtx h)
  · exact .modCtx h
  · exact h

theorem State.Formed.stepCtx {x good} (h : s.Formed) : (s.stepCtx x good).Formed :=
  .traceDev (.endStep (.ite (.closeSlice (.runLarty (.ite (.setSlice (.modCtx h)) (.modCtx h))))
    (.runLarty (.ite (.setSlice (.modCtx h)) (.modCtx h)))))

theorem State.Formed.doDbgStep {a unit ctx good} (h : s.Formed) : (doDbgStep a unit ctx good s).Formed := by
  refine .stopCommand h (fun h1 => ?_)
  split
  exacts [h1, h1, .stepCtx h1, h1]

theorem State.Formed.doRegisterWrite {a off narrow w} (h : s.Formed) : (doRegisterWrite a off narrow w s).Formed := by
  unfold Machine.doRegisterWrite
  split
  exacts [.ite (.hostWrite h) (.doDbgStep (.free h)), .hostWrite h]

theorem State.Formed.j7Answer {st data} (h : s.Formed) : (s.j7Answer st data).Formed := .emit h

theorem State.Formed.doJ7DebugRead {offset present} (h : s.Formed) : (doJ7DebugRead offset present s).Formed :=
  .ite (.j7Answer h) (.j7Answer (.ite (.doPhoRegDataAccess h) h))

theorem State.Formed.doJ7DebugWrite {offset w present} (h : s.Formed) : (doJ7DebugWrite offset w present s).Formed :=
  .ite (.j7Answer h) (.j7Answer (.doRegisterWrite h))

/-! ### The meridian, the tick and the apply point -/

theorem State.Formed.newPhase (h : s.Formed) : s.newPhase.Formed :=
  .ite (.wr (.free (.wr (.wr (.wr (.frame h)))))) (.wr (.wr (.wr (.wr (.frame h)))))

theorem State.Formed.newCount (h : s.Formed) : s.newCount.Formed := .wr (.frame h)

theorem State.Formed.moveOrigin (h : s.Formed) : s.moveOrigin.Formed := .wr (.wr (.wr h))

theorem State.Formed.switchLength (h : s.Formed) : s.switchLength.Formed := .ite (.frame (.ite h (.moveOrigin h))) h

theorem State.Formed.openSlice {x} (h : s.Formed) : (s.openSlice x).Formed := .traceDev (.setSlice (.setCtx h))

theorem State.Formed.wakeCtx {x} (h : s.Formed) : (s.wakeCtx x).Formed :=
  .ite (.ite (.openSlice h) h) (.ite (.setCtx h) h)

theorem State.Formed.carrySlices {cycles} (h : s.Formed) : (s.carrySlices cycles).Formed :=
  .foldl h (fun _ _ h1 => .markSlice h1)

theorem State.Formed.countMeridian (h : s.Formed) : s.countMeridian.Formed :=
  .frame (.foldl (.foldl (.foldl h (fun _ _ h1 => .ite h1 (.inc h1))) (fun _ _ h1 => .ite (.add h1) h1))
    (fun _ _ h1 => .ite (.helStall (.ite (.countStall h1) h1)) (.ite (.countStall h1) h1)))

theorem State.Formed.latchGates (h : s.Formed) : s.latchGates.Formed := .frame h

theorem State.Formed.doMeridianStart (h : s.Formed) : (doMeridianStart s).Formed :=
  .ite h (.foldl (.latchGates (.countMeridian (.newPhase (.switchLength (.newCount (.carrySlices h))))))
    (fun _ _ h1 => .wakeCtx h1))

theorem State.Formed.slipRecord {x cause} (h : s.Formed) : (s.slipRecord x cause).Formed :=
  .ite h (.report (.frame h))

theorem State.Formed.slip {x} (h : s.Formed) : (s.slip x).Formed :=
  .ite h (.traceDev (.slipRecord (.wr (.wr (.wr (.inc (.markSlice (.countLate h))))))))

theorem State.Formed.doDrainStart (h : s.Formed) : (doDrainStart s).Formed :=
  .ite h (.foldl (.wr (.wr h)) (fun _ _ h1 => .slip h1))

theorem State.Formed.refuseShadow {b inst off f} (h : s.Formed) : (s.refuseShadow b inst off f).Formed :=
  .countRefused (.setReg h)

theorem State.Formed.copyField {off f} (h : s.Formed) : (s.copyField off f).Formed := .setLive h

theorem State.Formed.noteLength {h} (hs : s.Formed) : (s.noteLength h).Formed := .ite (.inc hs) hs

theorem State.Formed.applyReg {s0 : State} {inst e} (h : s.Formed) : (s0.applyReg s inst e).Formed :=
  .ite (.foldl (.setReg (.setLive h)) (fun _ _ h1 => .countRefused h1))
    (.ite (.ite (.foldl h (fun _ _ h1 => .copyField h1)) (.countRefused (.setReg h)))
    (.foldl h (fun _ _ h1 => .ite (.copyField h1) (.noteLength (.refuseShadow h1)))))

theorem State.Formed.startApplied {e} (h : s.Formed) : (s.startApplied e).Formed :=
  .ite (.keySwitch h) (.ite (.frame h) h)

theorem State.Formed.applyBlock {b inst} (h : s.Formed) : (s.applyBlock b inst).Formed :=
  .ite h <|
  have h1 : State.Formed _ := .foldl (.foldl h (fun _ _ h1 => .applyReg h1)) (fun _ _ h1 => .startApplied h1)
  .wr (.ite (.foldl h1 (fun _ _ h2 => .offerTable h2)) h1)

theorem State.Formed.applyBlocks (h : s.Formed) : s.applyBlocks.Formed :=
  .foldl h (fun _ _ h1 => .foldl h1 (fun _ _ h2 => .applyBlock h2))

theorem State.Formed.installSwaps (h : s.Formed) : s.installSwaps.Formed :=
  .foldl h (fun _ _ h1 => .ite (.swap (.frame h1)) h1)

theorem State.Formed.rateApply {g} (h : s.Formed) : (s.rateApply g).Formed := .ite (.markSlice (.wr h)) (.wr h)

theorem State.Formed.settleGallery {g} (h : s.Formed) : (s.settleGallery g).Formed :=
  .rateFalls (.preemptApply (.settleTables h))

theorem State.Formed.helProgress (h : s.Formed) : s.helProgress.Formed :=
  .foldl (.foldl h (fun _ _ h1 => .ite (.wr h1) h1)) (fun _ _ h1 => .foldl h1 (fun _ _ h2 => .ite h2
    (.setRecWord (.frame h2))))

theorem State.Formed.dropInbound (h : s.Formed) : s.dropInbound.Formed :=
  .foldl h (fun _ _ h1 => .ite h1 (.closeHo h1))

theorem State.Formed.settleLanding {old} (h : s.Formed) : (s.settleLanding old).Formed :=
  .updateHealth
    (.showDrains
    (.orrModeStep
    (.dropInbound (.helProgress (.batchProgressWrites
    (.foldl (.foldl (.installSwaps (.foldl (.newLive (.newLive h)) (fun _ _ h1 => .rateApply h1)))
    (fun _ _ h1 => .settleGallery h1)) (fun _ _ h1 => .dropLostCm h1)))))))

theorem State.Formed.doApplyPoint (h : s.Formed) : (doApplyPoint s).Formed :=
  .ite h (.settleLanding (.applyBlocks (.wr h)))

theorem State.Formed.tick (h : s.Formed) : s.tick.Formed := .ite h (.ite (.countWaits (.wr h)) (.wr h))

/-! ### Commands and steps -/

/-- The state that the outcome gives, if it gives one, is in canonical form. -/
def FormedOut (o : Host.Outcome State Fault Refusal) : Prop := ∀ t, o = .next t → t.Formed

theorem FormedOut.next (h : s.Formed) : FormedOut (.next s) := fun _ e => Host.Outcome.next.inj e ▸ h

theorem FormedOut.fault {r : Fault} : FormedOut (.fault r) := fun _ e => nomatch e

theorem FormedOut.ite {c : Prop} [Decidable c] {o p : Host.Outcome State Fault Refusal} (ho : FormedOut o) (hp : FormedOut p) :
    FormedOut (if c then o else p) := by
  split <;> assumption

/-- Every command keeps the canonical form: one arm per command, each the lemma of the command's meaning. -/
theorem exec_formed (i : Instr) (h : s.Formed) : FormedOut (exec i s) :=
  match i with
  | .registerWrite .. => .next (.doRegisterWrite h)
  | .expertLiveWrite .. => .next (.doExpertLiveWrite h)
  | .commitRequest .. => .next (.doCommitRequest h)
  | .d2dBlockReceive .. => .next (.doD2dBlockReceive h)
  | .d2dLinkFail .. => .next (.doD2dLinkFail h)
  | .tokenGiveArrive .. => .next (.doTokenGiveArrive h)
  | .meridianStart => .next (.doMeridianStart h)
  | .drainStart => .next (.doDrainStart h)
  | .applyPoint => .next (.doApplyPoint h)
  | .ptpMessageReceive .. => .next (.doPtpMessageReceive h)
  | .ptpSyncSend .. => .next (.doPtpSyncSend h)
  | .syncLossTimeout => .next (.doSyncLossTimeout h)
  | .acquireTimeout => .next (.doAcquireTimeout h)
  | .holdoverTimeout => .next (.doHoldoverTimeout h)
  | .nop .. => .next (.doNop h)
  | .br .. => .next (.doBr h)
  | .call .. => .next (.doCall h)
  | .jr .. => .next (.doJr h)
  | .myld .. => .next (.doMyld h)
  | .mchk .. => .next (.doMchk h)
  | .mcnt .. => .next (.doMcnt h)
  | .halt .. => .next (.doHalt h)
  | .barf .. => .next (.doBarf h)
  | .brk .. => .next (.doBrk h)
  | .add .. => .next (.doAdd h)
  | .sub .. => .next (.doSub h)
  | .and .. => .next (.doAnd h)
  | .or .. => .next (.doOr h)
  | .xor .. => .next (.doXor h)
  | .shl .. => .next (.doShl h)
  | .shr .. => .next (.doShr h)
  | .sra .. => .next (.doSra h)
  | .mul .. => .next (.doMul h)
  | .addi .. => .next (.doAddi h)
  | .movl .. => .next (.doMovl h)
  | .movh .. => .next (.doMovh h)
  | .cmp .. => .next (.doCmp h)
  | .cmpi .. => .next (.doCmpi h)
  | .pset .. => .next (.doPset h)
  | .tdset .. => .next (.doTdset h)
  | .ld .. => .next (.doLd h)
  | .st .. => .next (.doSt h)
  | .ldt .. => .next (.doLdt h)
  | .stt .. => .next (.doStt h)
  | .aadd .. => .next (.doAadd h)
  | .acas .. => .next (.doAcas h)
  | .fencel .. => .next (.doFencel h)
  | .rld .. => .next (.doRld h)
  | .rst .. => .next (.doRst h)
  | .radd .. => .next (.doRadd h)
  | .rcas .. => .next (.doRcas h)
  | .rpost .. => .next (.doRpost h)
  | .rfl .. => .next (.doRfl h)
  | .rinv .. => .next (.doRinv h)
  | .mbox .. => .next (.doMbox h)
  | .give .. => .next (.doGive h)
  | .retc .. => .next (.doRetc h)
  | .takek .. => .next (.doTakek h)
  | .takec .. => .next (.doTakec h)
  | .waitk .. => .next (.doWaitk h)
  | .waitc .. => .next (.doWaitc h)
  | .waitTakeSuccess .. => .next (.doWaitTakeSuccess h)
  | .waitLimitExpired .. => .next (.doWaitLimitExpired h)
  | .rdk .. => .next (.doRdk h)
  | .rdc .. => .next (.doRdc h)
  | .setk .. => .next (.doSetk h)
  | .setc .. => .next (.doSetc h)
  | .tmma .. => .next (.doTmma h)
  | .tload .. => .next (.doTload h)
  | .tstore .. => .next (.doTstore h)
  | .tew .. => .next (.doTew h)
  | .tfn .. => .next (.doTfn h)
  | .tred .. => .next (.doTred h)
  | .tsync .. => .next (.doTsync h)
  | .bayInstructionComplete .. => .next (.doBayInstructionComplete h)
  | .attn .. => .next (.doAttn h)
  | .amrg .. => .next (.doAmrg h)
  | .amode .. => .next (.doAmode h)
  | .async .. => .next (.doAsync h)
  | .attnSegmentEnd .. => .next (.doAttnSegmentEnd h)
  | .move .. => .next (.doMove h)
  | .moveComplete .. => .next (.doMoveComplete h)
  | .migr .. => .next (.doMigr h)
  | .park .. => .next (.doPark h)
  | .crd .. => .next (.doCrd h)
  | .cwr .. => .next (.doCwr h)
  | .cstate .. => .next (.doCstate h)
  | .cadmit .. => .next (.doCadmit h)
  | .ccommit .. => .next (.doCcommit h)
  | .ctrim .. => .next (.doCtrim h)
  | .cprog .. => .next (.doCprog h)
  | .bell .. => .next (.doBell h)
  | .tmark .. => .next (.doTmark h)
  | .tadd .. => .next (.doTadd h)
  | .cmt .. => .next (.doCmt h)
  | .cfgw .. => .next (.doCfgw h)
  | .cfgr .. => .next (.doCfgr h)
  | .progStage .. => .next (.whenReady h .doProgStage)
  | .progVerifyDone .. => .next (.doProgVerifyDone h)
  | .segReq .. => .next (.doSegReq h)
  | .segGrant .. => .next (.doSegGrant h)
  | .nbStatus .. => .next (.doNbStatus h)
  | .remap .. => .next (.doRemap h)
  | .sptest .. => .next (.doSptest h)
  | .segmentGrantExpiry .. => .next (.doSegmentGrantExpiry h)
  | .boundaryGapEnd .. => .next (.doBoundaryGapEnd h)
  | .ordinaryAccess .. => .next (.doOrdinaryAccess h)
  | .refreshDue .. => .next (.doRefreshDue h)
  | .refreshRateChange .. => .next (.doRefreshRateChange h)
  | .nbuThrottleEnter .. => .next (.doNbuThrottleEnter h)
  | .nbuThrottleExit .. => .next (.doNbuThrottleExit h)
  | .nbuCriticalEnter .. => .next (.doNbuCriticalEnter h)
  | .nbuCriticalExit .. => .next (.doNbuCriticalExit h)
  | .nbuSubst .. => .next (.whenReady h .doNbuSubst)
  | .pcFaultSubst .. => .next (.doPcFaultSubst h)
  | .pcCopyEnd .. => .next (.doPcCopyEnd h)
  | .pcRemapApply .. => .next (.doPcRemapApply h)
  | .nbuLostClear .. => .next (.whenReady h .doNbuLostClear)
  | .galSubst .. => .next (.whenReady h .doGalSubst)
  | .bayUe .. => .next (.doBayUe h)
  | .baySubstitute .. => .next (.doBaySubstitute h)
  | .bayCopyDone .. => .next (.doBayCopyDone h)
  | .preemptDrainDone .. => .next (.doPreemptDrainDone h)
  | .preemptSaveDone .. => .next (.doPreemptSaveDone h)
  | .preemptRestoreDone .. => .next (.doPreemptRestoreDone h)
  | .galBatchDone .. => .next (.whenReady h .doGalBatchDone)
  | .galSrSeedWrite .. => .next (.whenReady h .doGalSrSeedWrite)
  | .tagLoadGo .. => .next (.whenReady h .doTagLoadGo)
  | .tagLoadDone .. => .next (.doTagLoadDone h)
  | .admissionEntry .. => .next (.doAdmissionEntry h)
  | .batchValidate .. => .next (.doBatchValidate h)
  | .batchDispatch .. => .next (.doBatchDispatch h)
  | .batchPreemptRequest .. => .next (.doBatchPreemptRequest h)
  | .recordExpiry .. => .next (.doRecordExpiry h)
  | .deadlineMissed .. => .next (.doDeadlineMissed h)
  | .handoverInTimeout .. => .next (.doHandoverInTimeout h)
  | .recordUe .. => .next (.doRecordUe h)
  | .completionRingDrain .. => .next (.doCompletionRingDrain h)
  | .recordRelease .. => .next (.whenReady h .doRecordRelease)
  | .ringIndexWrite .. => .next (.doRingIndexWrite h)
  | .stwPGrab .. => .next (.doStwPGrab h)
  | .groupHomed .. => .next (.doGroupHomed h)
  | .tensorRead .. => .next (.doTensorRead h)
  | .tensorWrite .. => .next (.doTensorWrite h)
  | .migrationConfirm .. => .next (.doMigrationConfirm h)
  | .migrationFail .. => .next (.doMigrationFail h)
  | .groupExpiry .. => .next (.doGroupExpiry h)
  | .recPark .. => .next (.whenReady h .doRecPark)
  | .recUnpark .. => .next (.whenReady h .doRecUnpark)
  | .recFree .. => .next (.whenReady h .doRecFree)
  | .recCommandEnd => .next (.doRecCommandEnd h)
  | .demotionStart .. => .next (.doDemotionStart h)
  | .keyRotate .. => .next (.whenReady h .doKeyRotate)
  | .keyForceRetire .. => .next (.whenReady h .doKeyForceRetire)
  | .keyInstallDone .. => .next (.doKeyInstallDone h)
  | .keySweepStep .. => .next (.doKeySweepStep h)
  | .keySlotEmpty .. => .next (.doKeySlotEmpty h)
  | .almRegister .. => .next (.whenReady h .doAlmRegister)
  | .almLoad .. => .next (.whenReady h .doAlmLoad)
  | .almEvict .. => .next (.whenReady h .doAlmEvict)
  | .almPin .. => .next (.whenReady h .doAlmPin)
  | .almUnpin .. => .next (.whenReady h .doAlmUnpin)
  | .almAdvance .. => .next (.whenReady h .doAlmAdvance)
  | .almUnregister .. => .next (.whenReady h .doAlmUnregister)
  | .almMoveConfirmed .. => .next (.doAlmMoveConfirmed h)
  | .almEvictDone .. => .next (.doAlmEvictDone h)
  | .adpLoad .. => .next (.whenReady h .doAdpLoad)
  | .adpRetire .. => .next (.whenReady h .doAdpRetire)
  | .adpSlotReady .. => .next (.doAdpSlotReady h)
  | .adpSlotEmpty .. => .next (.doAdpSlotEmpty h)
  | .wrNop => .next (.doWrNop h)
  | .wrWrite => .next (.doWrWrite h)
  | .wrRead => .next (.doWrRead h)
  | .wrCas => .next (.doWrCas h)
  | .wrFadd => .next (.doWrFadd h)
  | .wrFlush => .next (.doWrFlush h)
  | .wrOwnCas => .next (.doWrOwnCas h)
  | .wrOwnRead => .next (.doWrOwnRead h)
  | .wrOwnMirror => .next (.doWrOwnMirror h)
  | .wrLayer => .next (.doWrLayer h)
  | .wrCkpt .. => .next (.doWrCkpt h)
  | .wrRestore => .next (.doWrRestore h)
  | .wrComplete .. => .next (.doWrComplete h)
  | .triggerFire .. => .next (.doTriggerFire h)
  | .helTrigCancel .. => .next (.whenReady h .doHelTrigCancel)
  | .messageComplete .. => .next (.doMessageComplete h)
  | .flushComplete .. => .next (.doFlushComplete h)
  | .handoverClose .. => .next (.doHandoverClose h)
  | .ownRetry .. => .next (.doOwnRetry h)
  | .helMeasStart .. => .next (.whenReady h .doHelMeasStart)
  | .helMeasStop .. => .next (.whenReady h .doHelMeasStop)
  | .linkBlockReceive .. => .next (.doLinkBlockReceive h)
  | .linkResendTimeout .. => .next (.doLinkResendTimeout h)
  | .linkControlSend .. => .next (.doLinkControlSend h)
  | .linkRetrain .. => .next (.doLinkRetrain h)
  | .linkEnableChange .. => .next (.doLinkEnableChange h)
  | .lanesLocked .. => .next (.doLanesLocked h)
  | .trainingTimeout .. => .next (.doTrainingTimeout h)
  | .alignAgree .. => .next (.doAlignAgree h)
  | .alignTimeout .. => .next (.doAlignTimeout h)
  | .laneFail .. => .next (.doLaneFail h)
  | .laneSubstitute .. => .next (.doLaneSubstitute h)
  | .fabSubst .. => .next (.whenReady h .doFabSubst)
  | .fabRecal .. => .next (.ite (.whenReady h .doFabRecal) (.doFabRecal h))
  | .laneRecalDone .. => .next (.doLaneRecalDone h)
  | .lcInsert .. => .next (.doLcInsert h)
  | .lcWavelengthLock .. => .next (.doLcWavelengthLock h)
  | .lcWarmTimeout .. => .next (.doLcWarmTimeout h)
  | .lcEjectA .. => .next (.whenAnyReady h .doLcEjectA)
  | .lcEjectB .. => .next (.whenAnyReady h .doLcEjectB)
  | .lcReleaseDone .. => .next (.doLcReleaseDone h)
  | .lcRemove .. => .next (.doLcRemove h)
  | .lcLoss .. => .next (.doLcLoss h)
  | .ctxCreate .. => .next (.whenAnyReady h .doCtxCreate)
  | .ctxClose .. => .next (.whenAnyReady h .doCtxClose)
  | .ctxQuery .. => .next (.whenAnyReady h .doCtxQuery)
  | .ctxKeyInstall .. => .next (.whenAnyReady h .doCtxKeyInstall)
  | .ctxKeySwitch .. => .next (.whenAnyReady h .doCtxKeySwitch)
  | .ctxPin .. => .next (.whenAnyReady h .doCtxPin)
  | .ctxUnpin .. => .next (.whenAnyReady h .doCtxUnpin)
  | .ctxReset .. => .next (.whenAnyReady h .doCtxReset)
  | .ctxFetchDone .. => .next (.doCtxFetchDone h)
  | .openPacket .. => .next (.doOpenPacket h)
  | .openAck .. => .next (.doOpenAck h)
  | .close .. => .next (.doClose h)
  | .closeAck .. => .next (.doCloseAck h)
  | .ack .. => .next (.doAck h)
  | .nack .. => .next (.doNack h)
  | .credit .. => .next (.doCredit h)
  | .creditReq .. => .next (.doCreditReq h)
  | .revoke .. => .next (.doRevoke h)
  | .revokeAck .. => .next (.doRevokeAck h)
  | .keychg .. => .next (.doKeychg h)
  | .keychgAck .. => .next (.doKeychgAck h)
  | .inval .. => .next (.doInval h)
  | .invalAck .. => .next (.doInvalAck h)
  | .cLoad .. => .next (.doCLoad h)
  | .cStore .. => .next (.doCStore h)
  | .cAdd .. => .next (.doCAdd h)
  | .cCas .. => .next (.doCCas h)
  | .cMbox .. => .next (.doCMbox h)
  | .cResp .. => .ite (.next (.doCResp h)) .fault
  | .sWrite .. => .ite (.next (.doSWrite h)) .fault
  | .sRead .. => .next (.doSRead h)
  | .sReadData .. => .ite (.next (.doSReadData h)) .fault
  | .sAtom .. => .next (.doSAtom h)
  | .sOwn .. => .ite (.next (.doSOwn h)) .fault
  | .sResp .. => .next (.doSResp h)
  | .sLayer .. => .ite (.next (.doSLayer h)) .fault
  | .sFlush .. => .next (.doSFlush h)
  | .packetResendTimeout .. => .next (.doPacketResendTimeout h)
  | .sResponseTimeout .. => .next (.doSResponseTimeout h)
  | .idleRevokeTimeout .. => .next (.doIdleRevokeTimeout h)
  | .ackSend .. => .next (.doAckSend h)
  | .rgnAdd .. => .next (.whenAnyReady h .doRgnAdd)
  | .rgnRemove .. => .next (.whenAnyReady h .doRgnRemove)
  | .rlcFlush .. => .next (.whenAnyReady h .doRlcFlush)
  | .wheelSlot => .next (.doWheelSlot h)
  | .bucketFill => .next (.doBucketFill h)
  | .portBlockStart .. => .next (.doPortBlockStart h)
  | .bar2Access .. => .next (.doBar2Access h)
  | .hostPortLinkUp .. => .next (.doHostPortLinkUp h)
  | .hostPortLinkDown .. => .next (.doHostPortLinkDown h)
  | .pfFlr .. => .next (.doPfFlr h)
  | .vfFlr .. => .next (.doVfFlr h)
  | .hifHeartbeat .. => .next (.whenReady h .doHifHeartbeat)
  | .heartbeatTimeout .. => .next (.doHeartbeatTimeout h)
  | .rebind .. => .next (.whenAnyReady h .doRebind)
  | .rebindAll .. => .next (.whenAnyReady h .doRebindAll)
  | .takePrimary .. => .next (.whenAnyReady h .doTakePrimary)
  | .givePrimary .. => .next (.whenAnyReady h .doGivePrimary)
  | .rebindApply => .next (.doRebindApply h)
  | .msixSend => .next (.doMsixSend h)
  | .msixHeldRelease .. => .next (.doMsixHeldRelease h)
  | .doeObject .. => .next (.doDoeObject h)
  | .doeAbort .. => .next (.doDoeAbort h)
  | .doorbellRing .. => .next (.doDoorbellRing h)
  | .pendingWordClear .. => .next (.whenReady h .doPendingWordClear)
  | .targetIdleWrite .. => .next (.whenReady h .doTargetIdleWrite)
  | .moderationTimerExpire .. => .next (.doModerationTimerExpire h)
  | .deliveryUnblock .. => .next (.doDeliveryUnblock h)
  | .roleSet .. => .next (.whenReady h .doRoleSet)
  | .roleCancel .. => .next (.whenReady h .doRoleCancel)
  | .roleDrainComplete .. => .next (.doRoleDrainComplete h)
  | .roleDrainLimit .. => .next (.doRoleDrainLimit h)
  | .mapLoad .. => .next (.whenReady h .doMapLoad)
  | .mapSweep .. => .next (.whenReady h .doMapSweep)
  | .mapSwitch => .next (.doMapSwitch h)
  | .mapRetire => .next (.doMapRetire h)
  | .anchCopySweepEnd => .next (.doAnchCopySweepEnd h)
  | .vestibuleBoot .. => .next (.doVestibuleBoot h)
  | .stageFw .. => .next (.doStageFw h)
  | .activate .. => .next (.doActivate h)
  | .liveActivationEnd => .next (.doLiveActivationEnd h)
  | .commitSvn .. => .next (.doCommitSvn h)
  | .enroll .. => .next (.doEnroll h)
  | .debugEnable .. => .next (.doDebugEnable h)
  | .debugDisable .. => .next (.doDebugDisable h)
  | .logRead .. => .next (.doLogRead h)
  | .getVersion .. => .next (.doGetVersion h)
  | .getCapabilities .. => .next (.doGetCapabilities h)
  | .negotiateAlgorithms .. => .next (.doNegotiateAlgorithms h)
  | .getDigests .. => .next (.doGetDigests h)
  | .getCertificate .. => .next (.doGetCertificate h)
  | .challenge .. => .next (.doChallenge h)
  | .getMeasurements .. => .next (.doGetMeasurements h)
  | .keyExchange .. => .next (.doKeyExchange h)
  | .spdmFinish .. => .next (.doSpdmFinish h)
  | .spdmHeartbeat .. => .next (.doSpdmHeartbeat h)
  | .keyUpdate .. => .next (.doKeyUpdate h)
  | .endSession .. => .next (.doEndSession h)
  | .takeOwnership .. => .next (.doTakeOwnership h)
  | .fabricRoot .. => .next (.doFabricRoot h)
  | .fabricRootActivate => .next (.doFabricRootActivate h)
  | .inputValid => .next (.doInputValid h)
  | .inputInvalid => .next (.doInputInvalid h)
  | .inputOutOfRange .. => .next (.doInputOutOfRange h)
  | .railPowerGood => .next (.doRailPowerGood h)
  | .railTimeout => .next (.doRailTimeout h)
  | .railLoss .. => .next (.doRailLoss h)
  | .powerRetry => .next (.doPowerRetry h)
  | .pwrDis .. => .next (.doPwrDis h)
  | .thermalTrip .. => .next (.doThermalTrip h)
  | .powerOverWarn .. => .next (.doPowerOverWarn h)
  | .phaseLost .. => .next (.doPhaseLost h)
  | .resetContext .. => .next (.whenReady h .doResetContext)
  | .resetPartition .. => .next (.whenReady h .doResetPartition)
  | .resetWarm .. => .next (.whenReady h .doResetWarm)
  | .resetCold .. => .next (.whenReady h .doResetCold)
  | .contextResetApply .. => .next (.doContextResetApply h)
  | .partitionResetApply .. => .next (.doPartitionResetApply h)
  | .blockReady .. => .next (.doBlockReady h)
  | .faultReport .. => .ite (.next (.doFaultReport h)) .fault
  | .faultRingDrain => .next (.doFaultRingDrain h)
  | .dieTempLimit .. => .next (.doDieTempLimit h)
  | .healthQuarantine .. => .next (.whenReady h .doHealthQuarantine)
  | .healthRelease .. => .next (.whenReady h .doHealthRelease)
  | .healthClear .. => .next (.whenReady h .doHealthClear)
  | .fltNwlSubst .. => .next (.whenReady h .doFltNwlSubst)
  | .newelSubstitute => .next (.doNewelSubstitute h)
  | .selftestPassStart .. => .next (.doSelftestPassStart h)
  | .selftestPassEnd .. => .next (.doSelftestPassEnd h)
  | .samplePass => .next (.doSamplePass h)
  | .traceDrain => .next (.doTraceDrain h)
  | .dbgRead .. => .next (.doDbgRead h)
  | .dbgWrite .. => .next (.doDbgWrite h)
  | .dbgAccessDone .. => .next (.doDbgAccessDone h)
  | .dbgStop .. => .next (.doDbgStop h)
  | .dbgStep .. => .next (.doDbgStep h)
  | .dbgResume .. => .next (.doDbgResume h)
  | .stopPendingComplete .. => .next (.doStopPendingComplete h)
  | .phoRegDataAccess .. => .next (.doPhoRegDataAccess h)
  | .phoClear .. => .next (.doPhoClear h)
  | .setEndpointId .. => .next (.doSetEndpointId h)
  | .getEndpointId .. => .next (.doGetEndpointId h)
  | .getMctpVersionSupport .. => .next (.doGetMctpVersionSupport h)
  | .getMessageTypeSupport .. => .next (.doGetMessageTypeSupport h)
  | .getEndpointUuid .. => .next (.doGetEndpointUuid h)
  | .getTid .. => .next (.doGetTid h)
  | .getPldmVersion .. => .next (.doGetPldmVersion h)
  | .getPldmTypes .. => .next (.doGetPldmTypes h)
  | .getPldmCommands .. => .next (.doGetPldmCommands h)
  | .getSensorReading .. => .next (.doGetSensorReading h)
  | .getStateSensorReadings .. => .next (.doGetStateSensorReadings h)
  | .getPdr .. => .next (.doGetPdr h)
  | .getPdrRepositoryInfo .. => .next (.doGetPdrRepositoryInfo h)
  | .setEventReceiver .. => .next (.doSetEventReceiver h)
  | .platformEventMessage .. => .next (.doPlatformEventMessage h)
  | .queryDeviceIdentifiers .. => .next (.doQueryDeviceIdentifiers h)
  | .getFirmwareParameters .. => .next (.doGetFirmwareParameters h)
  | .requestUpdate .. => .next (.doRequestUpdate h)
  | .passComponentTable .. => .next (.doPassComponentTable h)
  | .updateComponent .. => .next (.doUpdateComponent h)
  | .requestFirmwareDataResp .. => .next (.doRequestFirmwareDataResp h)
  | .transferComplete .. => .next (.doTransferComplete h)
  | .verifyComplete .. => .next (.doVerifyComplete h)
  | .applyComplete .. => .next (.doApplyComplete h)
  | .activateFirmware .. => .next (.doActivateFirmware h)
  | .getStatus .. => .next (.doGetStatus h)
  | .cancelUpdateComponent .. => .next (.doCancelUpdateComponent h)
  | .cancelUpdate .. => .next (.doCancelUpdate h)
  | .vendorReset .. => .next (.doVendorReset h)
  | .faultLast .. => .next (.doFaultLast h)
  | .j7DebugRead .. => .next (.doJ7DebugRead h)
  | .j7DebugWrite .. => .next (.doJ7DebugWrite h)
  | .connKeyInstallDone .. => .next (.doConnKeyInstallDone h)
  | .busyRetryExpiry .. => .next (.doBusyRetryExpiry h)
  | .mapLoadDone .. => .next (.doMapLoadDone h)
  | .stageFwDone .. => .next (.doStageFwDone h)
  | .newelCoreUe .. => .next (.doNewelCoreUe h)
  | .pcieCompletionTimeout .. => .next (.doPcieCompletionTimeout h)
  | .configSpaceWrite .. => .next (.doConfigSpaceWrite h)
  | .ptpDelayReqSend .. => .next (.doPtpDelayReqSend h)
  | .ptpAnnounceSend .. => .next (.doPtpAnnounceSend h)

/-- Settles O4: an idle tick keeps the form, and so does every command. -/
theorem stepKeepsForms : Obligations.StepKeepsForms := by
  intro s t h
  cases hp : s.pending with
  | nil =>
    simp only [step, hp, Host.Outcome.next.injEq]
    rintro rfl
    exact .tick h
  | cons c rest =>
    simp only [step, hp]
    exact exec_formed c h.frame t

end Sys2Proof.Machine
end

section
/-! What a write does to the fields of a register word (R6, R28), and what an apply point does to one field (R38, R40). -/

namespace Sys2Proof.Machine

open Sys2Proof

/-! ### The rows of the register map -/

/-- Two fields of a word share no bit. -/
abbrev FieldRow.Apart (f g : FieldRow) : Prop := f.lo + f.len ≤ g.lo ∨ g.lo + g.len ≤ f.lo

/-- The fields of a row lie in a 64-bit word, and no two of them share a bit. -/
def RegRow.FieldsApart (r : RegRow) : Prop :=
  r.fields.Pairwise FieldRow.Apart ∧ ∀ f ∈ r.fields, f.lo + f.len ≤ 64

/-- Every row of the register tables keeps its fields apart: a fact about the finite map. -/
theorem blockMap_fieldsApart : ∀ b ∈ blockMap, ∀ r ∈ rowsCommon ++ b.rows, r.FieldsApart := by
  unfold RegRow.FieldsApart
  decide +kernel

theorem findRow_mem {rs : List RegRow} {loc : Nat} {x : RegRow × Nat} (h : findRow rs loc = some x) : x.1 ∈ rs := by
  induction rs with
  | nil => cases h
  | cons r rs ih =>
    unfold findRow at h
    split at h
    · cases h
      exact List.mem_cons_self
    · exact List.mem_cons_of_mem _ (ih h)

theorem findBlock_mem {bs : List BlockRow} {off : Nat} {b : BlockRow} (h : findBlock bs off = some b) : b ∈ bs := by
  induction bs with
  | nil => cases h
  | cons c bs ih =>
    unfold findBlock at h
    split at h
    · cases h
      exact List.mem_cons_self
    · exact List.mem_cons_of_mem _ (ih h)

theorem locRow_mem {b : BlockRow} {loc : Nat} {x : RegRow × Nat} (h : locRow b loc = some x) : x.1 ∈ rowsCommon ++ b.rows := by
  unfold locRow at h
  split at h
  next hr =>
    cases h
    exact List.mem_append_left _ (findRow_mem hr)
  next => exact List.mem_append_right _ (findRow_mem h)

/-- The register that an access reaches is a row of its block, or one that every block has. -/
theorem accAt_row_mem {off : Nat} {r : RegAcc} (h : accAt off = some r) : ∃ b ∈ blockMap, r.hit.row ∈ rowsCommon ++ b.rows := by
  unfold accAt at h
  split at h
  · cases h
  next b hb =>
    refine ⟨b, findBlock_mem hb, ?_⟩
    dsimp only at h
    split at h
    next hx =>
      cases h
      exact locRow_mem hx
    next =>
      split at h
      · cases h
      next =>
        split at h
        next hx =>
          split at h
          · cases h
            exact locRow_mem hx
          · cases h
        · cases h

theorem accAt_fieldsApart {off : Nat} {r : RegAcc} (h : accAt off = some r) : r.hit.row.FieldsApart := by
  obtain ⟨b, hb, hr⟩ := accAt_row_mem h
  exact blockMap_fieldsApart b hb _ hr

/-! ### Fields set in a word -/

/-- A word with one field set, where a value is given for it. -/
def setField (v : FieldRow → Option Nat) (w : Word) (f : FieldRow) : Word := (v f).elim w (setBits w f.lo f.len)

theorem getBits_setField_self (v : FieldRow → Option Nat) (w : Word) (f : FieldRow) (h : f.lo + f.len ≤ 64) :
    getBits (setField v w f) f.lo f.len = (v f).elim (getBits w f.lo f.len) (· % 2 ^ f.len) := by
  unfold setField
  cases v f with
  | none => rfl
  | some n => exact getBits_setBits_self w _ _ n h

theorem getBits_setField_other (v : FieldRow → Option Nat) (w : Word) {f g : FieldRow} (h : f.Apart g) :
    getBits (setField v w f) g.lo g.len = getBits w g.lo g.len := by
  unfold setField
  cases v f with
  | none => rfl
  | some n => exact getBits_setBits_other w _ _ n _ _ h.symm

theorem getBits_foldl_setField_other (v : FieldRow → Option Nat) {fs : List FieldRow} {g : FieldRow} (w : Word)
    (h : ∀ f ∈ fs, f.Apart g) : getBits (fs.foldl (setField v) w) g.lo g.len = getBits w g.lo g.len := by
  induction fs generalizing w with
  | nil => rfl
  | cons f fs ih =>
    rw [List.foldl_cons, ih _ fun f' hf' => h f' (List.mem_cons_of_mem _ hf')]
    exact getBits_setField_other v w (h f List.mem_cons_self)

/-- Of fields that share no bit, each holds its own value in the end, or what the word held. -/
theorem getBits_foldl_setField (v : FieldRow → Option Nat) {fs : List FieldRow} {g : FieldRow} (w : Word)
    (apart : fs.Pairwise FieldRow.Apart) (hg : g ∈ fs) (h64 : g.lo + g.len ≤ 64) :
    getBits (fs.foldl (setField v) w) g.lo g.len = (v g).elim (getBits w g.lo g.len) (· % 2 ^ g.len) := by
  induction fs generalizing w with
  | nil => cases hg
  | cons f fs ih =>
    obtain ⟨hf, hfs⟩ := List.pairwise_cons.1 apart
    rw [List.foldl_cons]
    rcases List.mem_cons.1 hg with rfl | hg
    · rw [getBits_foldl_setField_other v _ fun f' hf' => (hf f' hf').symm, getBits_setField_self v w g h64]
    · rw [ih _ hfs hg, getBits_setField_other v w (hf g hg)]

/-! ### The word that a write leaves -/

/-- The value that a write of a register gives one field; none where the field keeps what it holds. -/
def State.fieldAfter (s : State) (h : RegHit) (old w : Word) (f : FieldRow) : Option Nat :=
  match f.access with
  | .rw | .sh => if s.checkOk h w f then some (getBits w f.lo f.len) else none
  | .w1c => some (getBits (old &&& ~~~w) f.lo f.len)
  | .sat => some 0
  | .ro | .wo => none

theorem State.mergeWord_eq (s : State) (h : RegHit) (old w : Word) :
    s.mergeWord h old w = h.row.fields.foldl (setField (s.fieldAfter h old w)) old := by
  unfold State.mergeWord
  congr 1
  funext r f
  unfold setField State.fieldAfter
  cases f.access with
  | rw | sh =>
    dsimp only
    split <;> rfl
  | _ => rfl

theorem State.fieldAfter_settable (s : State) (h : RegHit) (old w : Word) {f : FieldRow} (hf : f.settable = true) :
    s.fieldAfter h old w f = if s.checkOk h w f then some (getBits w f.lo f.len) else none := by
  unfold FieldRow.settable at hf
  unfold State.fieldAfter
  cases ha : f.access with
  | rw | sh => rfl
  | _ => simp [ha] at hf

/-- A field of a written register: its new value, or what it held where the write gives it none. -/
theorem State.getBits_mergeWord (s : State) {off : Nat} {r : RegAcc} {f : FieldRow} (old w : Word) (hr : accAt off = some r)
    (hf : f ∈ r.hit.row.fields) : getBits (s.mergeWord r.hit old w) f.lo f.len =
      (s.fieldAfter r.hit old w f).elim (getBits old f.lo f.len) (· % 2 ^ f.len) := by
  obtain ⟨apart, in64⟩ := accAt_fieldsApart hr
  rw [State.mergeWord_eq]
  exact getBits_foldl_setField _ old apart hf (in64 f hf)

theorem registerWordFields : Claims.RegisterWordFields := by
  intro s off r old w f hr hf
  rw [s.getBits_mergeWord old w hr hf]
  refine ⟨fun hset hok => ?_, fun hset hok => ?_, fun hacc => ?_, fun hacc => ?_, fun hacc => ?_⟩
  · simp [s.fieldAfter_settable _ old w hset, hok, Nat.mod_eq_of_lt (getBits_lt w f.lo f.len)]
  · simp [s.fieldAfter_settable _ old w hset, hok]
  · rcases hacc with hacc | hacc <;> simp [State.fieldAfter, hacc]
  · simp [State.fieldAfter, hacc]
  · simp [State.fieldAfter, hacc, Nat.mod_eq_of_lt (getBits_lt _ f.lo f.len)]

/-! ### An apply point -/

theorem State.applyBlock_of_not_due (s : State) (b : Blk) (i : Nat)
    (h : s.shadowPending b i = false ∨ s.instanceHeld b i = true) : s.applyBlock b i = s :=
  if_pos (h.imp_left fun hp => by simp [hp])

theorem State.getBits_copyField_self (s : State) (off : Nat) (f : FieldRow) (h : f.lo + f.len ≤ 64) :
    getBits ((s.copyField off f).liveReg off) f.lo f.len = getBits (s.reg off) f.lo f.len := by
  rw [State.copyField, State.liveReg_setLive_self, getBits_setBits_self _ _ _ _ h, Nat.mod_eq_of_lt (getBits_lt _ _ _)]

theorem applyOneField : Claims.ApplyOneField := by
  intro s b i off off' f h64
  refine ⟨s.applyBlock_of_not_due b i, s.getBits_copyField_self off f h64, fun lo len h => ?_, fun h => ?_, rfl, rfl⟩
  · rw [State.copyField, State.liveReg_setLive_self, getBits_setBits_other _ _ _ _ _ _ h]
  · exact State.liveReg_setLive_other s _ h

/-- Settles O20: the fields of a row share no bit, so each takes its own value; a copied field is one field set. -/
theorem registerFields : Obligations.RegisterFields := ⟨registerWordFields, applyOneField⟩

end Sys2Proof.Machine
end

section
/-! What a register write of a physical function does (R6, R7, R28, R361, R362, R431), a live write (R42) and a commit request
(R39). -/

namespace Sys2Proof.Machine

open Sys2Proof

/-! ### The way of a write to its register -/

theorem stepWrite_of_ne {a : Agent} {off : Nat} {w : Word} (h : off ≠ blockBase .PHO 0 + 0x80) : stepWrite a off w = none :=
  if_neg fun hs => h hs.1

/-- A write that steps no context is a plain write of the host's. -/
theorem doRegisterWrite_of_no_step {a : Agent} {off : BitVec 26} {w : Word} (narrow : Bool) (s : State)
    (h : stepWrite a off.toNat w = none) : doRegisterWrite a off narrow w s = s.hostWrite a off.toNat narrow w := by
  simp only [doRegisterWrite, h]

theorem doRegisterWrite_narrow (a : Agent) (off : BitVec 26) (w : Word) (s : State) :
    doRegisterWrite a off true w s = s.hostWrite a off.toNat true w := by
  unfold doRegisterWrite
  split <;> rfl

/-- PHO_STOP_CMD is an aligned register of the map: a misaligned write, and one at a reserved offset, step no context. -/
theorem stopCmd_aligned : (blockBase .PHO 0 + 0x80) % 8 = 0 := by decide +kernel

theorem stopCmd_mapped : (accAt (blockBase .PHO 0 + 0x80)).isSome = true := by decide +kernel

section
variable {s : State} {x : Port} {off : Nat} {r : RegAcc} {w : Word}

theorem State.hostWrite_pf_malformed {narrow : Bool} (h : narrow = true ∨ off % 8 ≠ 0) :
    s.hostWrite (.pf x) off narrow w = s.inc (HIF_NARROW_WR.COUNT x.num) := if_pos h

theorem State.hostWrite_pf_reserved (h8 : off % 8 = 0) (hr : accAt off = none) : s.hostWrite (.pf x) off false w = s := by
  simp [State.hostWrite, State.writeBar0, Agent.port, h8, hr]

theorem State.hostWrite_pf_register (h8 : off % 8 = 0) (hr : accAt off = some r) :
    s.hostWrite (.pf x) off false w = s.writeReg (.pf x) r w := by
  simp [State.hostWrite, State.writeBar0, Agent.port, h8, hr]

/-! ### A register that is reached -/

theorem State.writeReg_pf_not_ready (hoff : r.hit.row.off ≠ 0xFF8) (hready : s.ready r.hit.blk r.hit.inst = false) :
    s.writeReg (.pf x) r w = s.countRefused r.hit.blk r.hit.inst := by
  simp [State.writeReg, withinLimits, hoff, hready]

/-- Past the check of READY, a write that is no command is refused to an agent that may not make it, and else goes by the kind
of register. -/
theorem State.writeReg_pf_ready (hready : s.ready r.hit.blk r.hit.inst = true)
    (hcmd : r.live = true ∨ s.regCommand (.pf x) r.hit w = none) : s.writeReg (.pf x) r w =
      if s.mayWriteReg (.pf x) r.hit = false then s.inc (HIF_PART_REFUSED.COUNT x.num)
      else if r.hit.row.off = 0xFE8 then s.commitWrite r.hit.blk r.hit.inst w
      else if r.live then s.liveWrite r w
      else if 0x2000 ≤ r.hit.row.off ∧ r.hit.row.off < 0x4000 then s.expertWrite (.pf x) r w
      else s.plainWrite (.pf x) r w := by
  have hnone : (if r.live then none else s.regCommand (.pf x) r.hit w) = none := by
    rcases hcmd with hlive | hcmd
    · rw [if_pos hlive]
    · rw [hcmd, ite_self]
  simp [State.writeReg, withinLimits, hready, hnone, State.refuseWrite, Agent.port]

theorem State.plainWrite_accepted {a : Agent} (hpriv : perAgent r.hit.blk r.hit.row.off = false)
    (hf : s.refusesField r.hit w = false) :
    s.plainWrite a r w = (s.setReg r.home (s.mergeWord r.hit (s.reg r.home) w)).afterWrite a r.hit w := by
  simp [State.plainWrite, hpriv, hf]

/-! ### Live writes -/

theorem State.liveWrite_of_closed (h : ¬ (s.expertOpen r.hit.blk r.hit.inst = true ∧ s.blockIdle r.hit.blk r.hit.inst = true ∧
    s.shadowPending r.hit.blk r.hit.inst = false)) : s.liveWrite r w = s.countRefused r.hit.blk r.hit.inst :=
  if_pos (by simpa [imp_iff_not_or, or_assoc] using h)

theorem State.liveWrite_of_open (h : s.expertOpen r.hit.blk r.hit.inst = true ∧ s.blockIdle r.hit.blk r.hit.inst = true ∧
    s.shadowPending r.hit.blk r.hit.inst = false) (hok : s.liveOk r w = true) :
    s.liveWrite r w = (s.setBoth r w).afterLive s r w := by
  obtain ⟨hopen, hidle, hpending⟩ := h
  simp [State.liveWrite, hopen, hidle, hpending, hok]

theorem doExpertLiveWrite_of_live {a : Agent} {off : BitVec 26} (hr : accAt off.toNat = some r) (hlive : r.live = true) :
    doExpertLiveWrite a off w s = s.hostWrite a off.toNat false w := by
  simp [doExpertLiveWrite, hr, hlive]

/-! ### Commit requests -/

/-- PREFIX_COMMIT holds no ring index. -/
theorem ringOf_commit {h : RegHit} (hoff : h.row.off = 0xFE8) : ringOf h = none := by
  unfold ringOf
  cases h.blk <;> simp [hoff]

/-- PREFIX_COMMIT is no command register of its block. -/
theorem State.regCommand_commit {a : Agent} {h : RegHit} (hoff : h.row.off = 0xFE8) : s.regCommand a h w = none := by
  unfold State.regCommand
  rw [ringOf_commit hoff]
  cases h.blk <;> simp [hoff, State.hifCommand, State.dbhCommand, State.catCommand, State.helCommand, State.stwCommand,
    State.fabCommand, State.galCommand, State.nbuCommand, State.prtCommand, State.phoCommand, State.fltCommand]

theorem Blk.mem_all (b : Blk) : b ∈ Blk.all := by
  cases b <;> decide

/-- PREFIX_COMMIT of every unit of a block stands in the map, under that block and unit number. -/
theorem accAt_commit_of_mem : ∀ b ∈ Blk.all, ∀ i < blockInsts b, (blockBase b i + 0xFE8) % 8 = 0 ∧
    (accAt (blockBase b i + 0xFE8)).map (fun r => (r.hit.blk, r.hit.inst, r.hit.row.off, r.live)) = some (b, i, 0xFE8, false) := by
  decide +kernel

theorem accAt_commit {b : Blk} {i : Nat} (hi : i < blockInsts b) : (blockBase b i + 0xFE8) % 8 = 0 ∧
    ∃ r, accAt (blockBase b i + 0xFE8) = some r ∧ r.hit.blk = b ∧ r.hit.inst = i ∧ r.hit.row.off = 0xFE8 ∧ r.live = false := by
  obtain ⟨h8, h⟩ := accAt_commit_of_mem b b.mem_all i hi
  obtain ⟨r, hr, hx⟩ := Option.map_eq_some_iff.1 h
  exact ⟨h8, r, hr, by simpa using hx⟩

theorem doCommitRequest_pf {b : Blk} {i : Fin 64} (hi : i.val < blockInsts b) : doCommitRequest (.pf x) b i s =
    if s.ready b i then s.wr (PREFIX_STATUS.SHADOW_PENDING (blockBase b i)) 1 else s.countRefused b i := by
  obtain ⟨h8, r, hr, rfl, hinst, hoff, hlive⟩ := accAt_commit hi
  rw [doCommitRequest, if_pos hi, State.hostWrite_pf_register h8 hr, ← hinst]
  cases hready : s.ready r.hit.blk r.hit.inst with
  | false =>
    rw [State.writeReg_pf_not_ready (by simp [hoff]) hready, if_neg Bool.false_ne_true]
  | true =>
    have hmay : s.mayWriteReg (.pf x) r.hit = true := by simp [State.mayWriteReg, hoff]
    have hgo : getBit 1 0 = true := by decide
    rw [State.writeReg_pf_ready hready (.inr (State.regCommand_commit hoff)), if_neg (by simp [hmay]), if_pos hoff,
      State.commitWrite, if_pos hgo, if_pos rfl]
    exact if_pos hready

end

/-! ### The obligation -/

theorem registerWritesPlain : Claims.RegisterWritesPlain := by
  intro s x off w
  simp only [exec_registerWrite, Host.Outcome.next.injEq]
  refine ⟨fun narrow hbad => ?_, fun h8 hnone => ?_, fun r h8 hr hstep => ?_⟩
  · have hwrite : doRegisterWrite (.pf x) off narrow w s = s.hostWrite (.pf x) off.toNat narrow w := by
      cases narrow with
      | true => exact doRegisterWrite_narrow _ off w s
      | false =>
        refine doRegisterWrite_of_no_step false s (stepWrite_of_ne fun heq => ?_)
        exact hbad.elim Bool.false_ne_true fun h => h (heq ▸ stopCmd_aligned)
    rw [hwrite, State.hostWrite_pf_malformed hbad]
  · have hstep : stepWrite (.pf x) off.toNat w = none :=
      stepWrite_of_ne fun heq => by simpa [← heq, hnone] using stopCmd_mapped
    rw [doRegisterWrite_of_no_step false s hstep, State.hostWrite_pf_reserved h8 hnone]
  · rw [doRegisterWrite_of_no_step false s hstep, State.hostWrite_pf_register h8 hr]
    refine ⟨State.writeReg_pf_not_ready, fun _ hready hcmd hmay => ?_, fun _ hready hlive hcmd hmay hcommit hexpert hpriv hf => ?_⟩
    · rw [State.writeReg_pf_ready hready hcmd, if_pos hmay]
    · rw [State.writeReg_pf_ready hready (.inr hcmd), if_neg (by simp [hmay]), if_neg hcommit, if_neg (by simp [hlive]),
        if_neg hexpert, State.plainWrite_accepted hpriv hf]

theorem expertWrites : Claims.ExpertWrites := by
  intro s x off w
  simp only [exec_expertLiveWrite, exec_commitRequest, Host.Outcome.next.injEq]
  refine ⟨fun r hr h8 hready hlive hmay hcommit => ?_, fun b i hi hready => ?_, fun b i hi hready => ?_⟩
  · have hwrite : doExpertLiveWrite (.pf x) off w s = s.liveWrite r w := by
      rw [doExpertLiveWrite_of_live hr hlive, State.hostWrite_pf_register h8 hr, State.writeReg_pf_ready hready (.inl hlive),
        if_neg (by simp [hmay]), if_neg hcommit, if_pos hlive]
    rw [hwrite]
    exact ⟨State.liveWrite_of_open, State.liveWrite_of_closed⟩
  · rw [doCommitRequest_pf hi, if_pos hready]
  · rw [doCommitRequest_pf hi, if_neg (by simp [hready])]

/-- Settles O19: each write is followed from BAR0 to its register, past the checks that may refuse it. -/
theorem registerWrites : Obligations.RegisterWrites := ⟨registerWritesPlain, expertWrites⟩

end Sys2Proof.Machine
end

section
/-! Addresses of HBM (R15, R16) and of the fabric (R19) as positional numbers, and the order of ownership words (R280). -/

namespace Sys2Proof.Machine

open Sys2Proof

/-! ### HBM addresses (R15, R16) -/

section
variable {st p o : Nat}

/-- The 32 pseudo-channels of a stack fill its span, so a stack's part of an address is below that span. -/
theorem pcAddr_lt_stackSpan (hp : p < 32) (ho : o < pcSpan) : p * pcSpan + o < stackSpan := by
  simp only [pcSpan, stackSpan] at *
  omega

theorem hbmDpa_mod_stackSpan (hp : p < 32) (ho : o < pcSpan) : hbmDpa st p o % stackSpan = p * pcSpan + o := by
  rw [hbmDpa, Nat.add_assoc, Nat.mul_add_mod', Nat.mod_eq_of_lt (pcAddr_lt_stackSpan hp ho)]

theorem dpaStack_hbmDpa (hp : p < 32) (ho : o < pcSpan) : dpaStack (hbmDpa st p o) = st := by
  have hlt := pcAddr_lt_stackSpan hp ho
  rw [dpaStack, hbmDpa, Nat.add_assoc, Nat.mul_comm, Nat.mul_add_div (by decide), Nat.div_eq_of_lt hlt, Nat.add_zero]

theorem dpaPc_hbmDpa (hp : p < 32) (ho : o < pcSpan) : dpaPc (hbmDpa st p o) = p := by
  rw [dpaPc, hbmDpa_mod_stackSpan hp ho, Nat.mul_comm, Nat.mul_add_div (by decide), Nat.div_eq_of_lt ho, Nat.add_zero]

/-- Below the end of the eighth stack only the image of PC31 is not HBM (Table 1-5, R16). -/
theorem dpaKind_eq_hbm_iff_of_lt {a : Nat} (ha : a < 8 * stackSpan) : dpaKind a = .hbm ↔ a % stackSpan < 31 * pcSpan := by
  have hmap : dpaKind a = if a % stackSpan < 31 * pcSpan then .hbm else .reserved := if_pos ha
  rw [hmap]
  split <;> simp [*]

theorem dpaKind_hbmDpa (hst : st < 8) (hp : p < 32) (ho : o < pcSpan) : dpaKind (hbmDpa st p o) = .hbm ↔ p < 31 := by
  have hlt : hbmDpa st p o < 8 * stackSpan := by
    have := pcAddr_lt_stackSpan hp ho
    simp only [hbmDpa, stackSpan] at *
    omega
  rw [dpaKind_eq_hbm_iff_of_lt hlt, hbmDpa_mod_stackSpan hp ho]
  simp only [pcSpan] at *
  omega

end

/-! ### Global fabric addresses (R19) -/

section
variable {node part off : Nat}

theorem gfaOf_lt (hn : node < 2 ^ 14) (hp : part < 64) (ho : off < 2 ^ 44) : gfaOf node part off < 2 ^ 64 := by
  simp only [gfaOf]
  omega

theorem gfaNode_gfaOf (hn : node < 2 ^ 14) (hp : part < 64) (ho : off < 2 ^ 44) : gfaNode (gfaOf node part off) = node := by
  simp only [gfaNode, gfaOf]
  omega

theorem gfaPart_gfaOf (hp : part < 64) (ho : off < 2 ^ 44) : gfaPart (gfaOf node part off) = part := by
  simp only [gfaPart, gfaOf]
  omega

theorem gfaOff_gfaOf (ho : off < 2 ^ 44) : gfaOff (gfaOf node part off) = off := by
  simp only [gfaOff, gfaOf]
  omega

end

/-- The parts of an address that fits a word are its fields of Table 1-7. -/
theorem getBits_gfa {a : Nat} (ha : a < 2 ^ 64) : getBits (BitVec.ofNat 64 a) 50 14 = gfaNode a ∧
    getBits (BitVec.ofNat 64 a) 44 6 = gfaPart a ∧ getBits (BitVec.ofNat 64 a) 0 44 = gfaOff a := by
  refine ⟨getBits_ofNat a 50 14 ha, getBits_ofNat a 44 6 ha, ?_⟩
  rw [getBits_ofNat a 0 44 ha, Nat.pow_zero, Nat.div_one, gfaOff]

/-! ### The newer ownership word (R280) -/

/-- Of two words that each hold an entry, the epoch decides, and at one epoch HELD goes before INBOUND. -/
theorem ownNewer_iff {a b : Word} (ha : a ≠ 0) (hb : b ≠ 0) : ownNewer a b = true ↔
    ownEpoch b < ownEpoch a ∨ (ownEpoch a = ownEpoch b ∧ ownKind a = 1 ∧ ownKind b = 2) := by
  rw [ownNewer, bne_iff_ne.2 ha, beq_false_of_ne hb]
  simp [and_assoc]

theorem ownNewer_zero_right {a : Word} (ha : a ≠ 0) : ownNewer a 0 = true := by
  rw [ownNewer, bne_iff_ne.2 ha, beq_self_eq_true, Bool.true_or, Bool.true_or, Bool.true_and]

theorem ownNewer_zero_left (a : Word) : ownNewer 0 a = false := by
  rw [ownNewer, bne_self_eq_false, Bool.false_and]

/-! ### The obligation -/

/-- Settles O59: an HBM address and a fabric address are positional numbers, each part below its span, so dividing gives the
parts back; the order of ownership words is read off its definition, the all-zero word apart. -/
theorem addressesAndWords : Obligations.AddressesAndWords := by
  refine ⟨fun st p o hst hp ho => ?_, fun node part off hn hp ho => ?_, fun a b => ownNewer_iff, fun a ha => ?_⟩
  · exact ⟨rfl, dpaStack_hbmDpa hp ho, dpaPc_hbmDpa hp ho, dpaKind_hbmDpa hst hp ho⟩
  · obtain ⟨hnode, hpart, hoff⟩ := getBits_gfa (gfaOf_lt hn hp ho)
    rw [hnode, hpart, hoff, gfaNode_gfaOf hn hp ho, gfaPart_gfaOf hp ho, gfaOff_gfaOf ho]
    exact ⟨rfl, rfl, rfl, rfl, rfl, rfl⟩
  · exact ⟨ownNewer_zero_right ha, ownNewer_zero_left a⟩

end Sys2Proof.Machine
end

section
/-! The commands of the timebase: its lock states (R47, Table 2-4), the PTP exchange of its ports (R46), the Sync pairs that drive
the lock state (R47, R49), and the die-to-die links (R9, R10). -/

namespace Sys2Proof.Machine

open Sys2Proof

variable {s : State}

/-! ### Lock states (R47) -/

theorem lockTimeouts : Claims.LockTimeouts := by
  intro s
  simp only [exec_syncLossTimeout, exec_acquireTimeout, exec_holdoverTimeout, Host.Outcome.next.injEq]
  exact ⟨fun h => if_pos h, fun h => if_neg h, fun h => if_pos h, fun h => if_neg h, fun h => if_pos h, fun h => if_neg h⟩

/-! ### PTP messages (R46) -/

section
variable {f : Fin 4}

theorem doPtpMessageReceive_of_disabled (m : PtpMsg) (h : s.ptpEnabled f = false) : doPtpMessageReceive f m s = s :=
  if_pos (by simp [h])

theorem doPtpMessageReceive_announce (r : Fin 4) (h : s.ptpEnabled f = true) :
    doPtpMessageReceive f (.announce r) s = s.setRole f r := if_neg (by simp [h])

theorem doPtpMessageReceive_sync (q : BitVec 16) (h : s.ptpEnabled f = true) : doPtpMessageReceive f (.sync q) s =
    if (s.ptpPort f).role = 1 then s.setPtpPort f { s.ptpPort f with syncSeq := q.toNat + 1 } else s := if_neg (by simp [h])

theorem doPtpMessageReceive_followUp (q : BitVec 16) (o p : BitVec 32) (t : BitVec 80) (h : s.ptpEnabled f = true) :
    doPtpMessageReceive f (.followUp q o p t) s =
      if (s.ptpPort f).role = 1 ∧ (s.ptpPort f).syncSeq = q.toNat + 1 then
        (s.setPtpPort f { s.ptpPort f with syncSeq := 0 }).syncPair f o p t.toNat
      else s := if_neg (by simp [h])

theorem State.mayMaster_of_disabled (h : s.ptpEnabled f = false) : s.mayMaster f = false := by simp [State.mayMaster, h]

theorem doPtpDelayReqSend_of_disabled (h : s.ptpEnabled f = false) : doPtpDelayReqSend f s = s := if_pos (by simp [h])

theorem doPtpDelayReqSend_of_enabled (h : s.ptpEnabled f = true) : doPtpDelayReqSend f s =
    if s.on MER_PTP.DELAY_MECH then s.sendPtp f 3 else if (s.ptpPort f).role = 1 then s.sendPtp f 2 else s :=
  if_neg (by simp [h])

end

theorem ptpExchange : Claims.PtpExchange := by
  intro s f q o p t r m
  simp only [exec_ptpMessageReceive, exec_ptpSyncSend, exec_ptpAnnounceSend, exec_ptpDelayReqSend, Host.Outcome.next.injEq]
  refine ⟨fun hoff => ?_, doPtpMessageReceive_announce r, fun hen hrole => ?_, fun hen hrole hseq => ?_, fun hen hseq => ?_,
    fun hm => if_pos hm, fun hm => if_pos hm, fun hen hmech hrole => ?_, fun hen hmech => ?_⟩
  · have hmaster : ¬ s.mayMaster f = true := by simp [State.mayMaster_of_disabled hoff]
    exact ⟨doPtpMessageReceive_of_disabled m hoff, doPtpDelayReqSend_of_disabled hoff, if_neg hmaster, if_neg hmaster⟩
  · rw [doPtpMessageReceive_sync q hen, if_pos hrole]
  · rw [doPtpMessageReceive_followUp q o p t hen, if_pos ⟨hrole, hseq⟩]
  · rw [doPtpMessageReceive_followUp q o p t hen, if_neg fun h => hseq h.2]
  · rw [doPtpDelayReqSend_of_enabled hen, if_neg (by simp [hmech]), if_pos hrole]
  · rw [doPtpDelayReqSend_of_enabled hen, if_pos hmech]

/-! ### Sync pairs (R47, R49) -/

/-- The state once a Sync pair has written the offset and the path delay. -/
def State.withOffset (s : State) (o p : BitVec 32) : State :=
  (s.wr MER_OFFSET.OFFSET_NS o.toNat).wr MER_OFFSET.PATH_NS p.toNat

section
variable {f t : Nat} {o p : BitVec 32}

theorem State.rd_withOffset {g : FieldRef} (h : g.off ≠ MER_OFFSET.OFFSET_NS.off) : (s.withOffset o p).rd g = s.rd g := by
  unfold State.withOffset
  rw [State.rd_wr_other _ MER_OFFSET.PATH_NS g _ (.inl h), State.rd_wr_other _ MER_OFFSET.OFFSET_NS g _ (.inl h)]

@[simp] theorem State.lock_withOffset : (s.withOffset o p).lock = s.lock := State.rd_withOffset (by decide)

@[simp] theorem State.mer_withOffset : (s.withOffset o p).mer = s.mer := State.rd_withOffset (by decide)

@[simp] theorem State.merp_withOffset : (s.withOffset o p).merp = s.merp := by simp [State.withOffset]

@[simp] theorem State.mer_setGood (n : Nat) : (s.setGood n).mer = s.mer := rfl

/-- Loading a count that is not below the current one leaves no order fault. -/
theorem State.orderFault_loadCount_of_le {n : Nat} (h : s.mer ≤ n) : (s.loadCount n).on MER_LOCK.ORDER_FAULT = false := by
  rw [State.loadCount, if_neg (Nat.not_lt.2 h), State.on, State.rd_wr_self _ _ _ (by decide)]
  rfl

theorem State.syncPair_of_freeRun (h : s.lock = 0) :
    s.syncPair f o p t = (((s.withOffset o p).setGood 0).wr MER_LOCK.PORT f).setLock 1 :=
  if_pos (State.lock_withOffset.trans h)

/-- While acquiring, and within 1 µs: a pair over 20 ns starts the count of good pairs again, and the sixteenth good pair locks
unless its count is an order fault. -/
theorem State.syncPair_of_acquiring (h : s.lock = 1) (hnear : o.toInt.natAbs ≤ 1000) : s.syncPair f o p t =
    if 20 < o.toInt.natAbs then (s.withOffset o p).setGood 0
    else if s.merp.goodSyncs + 1 < 16 then (s.withOffset o p).setGood (s.merp.goodSyncs + 1)
    else
      let v := ((s.withOffset o p).setGood 0).loadCount ((s.withOffset o p).nextEdge t).2
      if v.on MER_LOCK.ORDER_FAULT then v else v.setLock 2 := by
  have hlock : (s.withOffset o p).lock = 1 := State.lock_withOffset.trans h
  rw [← State.merp_withOffset (s := s) (o := o) (p := p)]
  refine (if_neg ?_).trans ((if_pos hlock).trans (if_neg (Nat.not_lt.2 hnear)))
  exact hlock.trans_ne (by decide)

theorem State.syncPair_of_locked (h : s.lock = 2) : s.syncPair f o p t =
    if 20 < o.toInt.natAbs then (s.withOffset o p).setLock 3 else s.withOffset o p := by
  have hlock : (s.withOffset o p).lock = 2 := State.lock_withOffset.trans h
  refine (if_neg ?_).trans ((if_neg ?_).trans (if_pos hlock)) <;> exact hlock.trans_ne (by decide)

theorem State.syncPair_of_holdover (h : s.lock = 3) : s.syncPair f o p t =
    if 20 < o.toInt.natAbs then ((s.withOffset o p).setGood 0).setLock 1 else (s.withOffset o p).setLock 2 := by
  have hlock : (s.withOffset o p).lock = 3 := State.lock_withOffset.trans h
  refine (if_neg ?_).trans ((if_neg ?_).trans (if_neg ?_)) <;> exact hlock.trans_ne (by decide)

/-- The sixteenth good pair in a row locks where the edge's count is not below the current one. -/
theorem State.syncPair_locks (h : s.lock = 1) (hgood : o.toInt.natAbs ≤ 20) (hlast : s.merp.goodSyncs = 15)
    (hmer : s.mer ≤ ((s.withOffset o p).nextEdge t).2) : s.syncPair f o p t =
      (((s.withOffset o p).setGood 0).loadCount ((s.withOffset o p).nextEdge t).2).setLock 2 := by
  have hfault := State.orderFault_loadCount_of_le (s := (s.withOffset o p).setGood 0) (by simpa using hmer)
  rw [State.syncPair_of_acquiring h (by omega), if_neg (Nat.not_lt.2 hgood), if_neg (by omega)]
  exact if_neg (by simp [hfault])

end

theorem syncPairLocks : Claims.SyncPairLocks := by
  intro s f o p t
  refine ⟨State.syncPair_of_freeRun, fun h hbad hnear => ?_, fun h hgood hfew => ?_, State.syncPair_locks,
    fun h hgood => ?_, fun h hbad => ?_, fun h hgood => ?_, fun h hbad => ?_⟩
  · exact (State.syncPair_of_acquiring h hnear).trans (if_pos hbad)
  · exact (State.syncPair_of_acquiring h (by omega)).trans ((if_neg (Nat.not_lt.2 hgood)).trans (if_pos hfew))
  · exact (State.syncPair_of_locked h).trans (if_neg (Nat.not_lt.2 hgood))
  · exact (State.syncPair_of_locked h).trans (if_pos hbad)
  · exact (State.syncPair_of_holdover h).trans (if_neg (Nat.not_lt.2 hgood))
  · exact (State.syncPair_of_holdover h).trans (if_pos hbad)

/-! ### Die-to-die links (R9, R10) -/

theorem dieToDieLinks : Claims.DieToDieLinks := by
  intro s m
  simp only [exec_d2dBlockReceive, exec_d2dLinkFail, Host.Outcome.next.injEq]
  refine ⟨fun hup => ?_, fun hup => ?_, fun hup hbad => if_neg ?_, fun hup hbad => if_pos (.inr hbad), fun hfail good => ?_⟩
  · rw [doD2dBlockReceive, if_neg (by simp [hup]), if_pos rfl]
  · rw [doD2dBlockReceive, if_neg (by simp [hup]), if_neg Bool.false_ne_true]
  · simp [hup, hbad]
  · exact ⟨if_pos hfail, if_pos (.inl hfail)⟩

/-- Settles O21: each command is followed through the branches of its definition; a Sync pair writes no register that the lock
state or the count stands in. -/
theorem timebaseCommands : Obligations.TimebaseCommands := ⟨lockTimeouts, ptpExchange, syncPairLocks, dieToDieLinks⟩

end Sys2Proof.Machine
end

section
/-! The three moments of a meridian: the drain (R35, R37), the apply point (R38) and the start of the next meridian (R33, R49). -/

namespace Sys2Proof.Machine

open Sys2Proof

variable {s t : State}

/-! ### The drain and the apply point -/

theorem doDrainStart_of_landing (h : s.inLanding = true) : doDrainStart s = s := if_pos (.inr h)

theorem doDrainStart_of_due (hrun : s.clockRuns = true) (h : s.inLanding = false) : doDrainStart s =
    criticals.foldl (fun t x => t.slip x) ((s.wr MER_PHASE.CYCLE (lenBudget s.merLen)).wr MER_PHASE.LANDING 1) :=
  if_neg (by simp [hrun, h])

/-- Slices that are closed do not slip. -/
theorem State.foldl_slip_of_closed {xs : List LCtx} (h : ∀ x ∈ xs, (s.slice x.unit).isOpen = false) :
    xs.foldl (fun t x => t.slip x) s = s := by
  induction xs with
  | nil => rfl
  | cons x xs ih =>
    have hx : s.slip x = s := if_pos (by simp [h x List.mem_cons_self])
    rw [List.foldl_cons, hx]
    exact ih fun y hy => h y (List.mem_cons_of_mem x hy)

theorem State.slice_wr (f : FieldRef) (v u : Nat) : (s.wr f v).slice u = s.slice u := by
  rw [State.slice, State.wr_larty, State.slice]

theorem doApplyPoint_of_due (hrun : s.clockRuns = true) (h : s.inLanding = true) (hc : s.cycle < lenBudget s.merLen + 64) :
    doApplyPoint s = (s.wr MER_PHASE.CYCLE (lenBudget s.merLen + 64)).applyBlocks.settleLanding
      (s.wr MER_PHASE.CYCLE (lenBudget s.merLen + 64)) :=
  if_neg (by simp [hrun, h, hc])

/-! ### What a meridian's start leaves of the timebase

The timebase's state is its registers, which stand below offset 0x200000 of BAR0, and `merp`. What the start of a meridian does to
the other blocks touches neither. -/

/-- The timebase stands in the second state as in the first. -/
structure State.SameTimebase (s t : State) : Prop where
  merp : t.merp = s.merp
  rd : ∀ g : FieldRef, g.off < 0x200000 → t.rd g = s.rd g

theorem State.SameTimebase.mer (h : s.SameTimebase t) : t.mer = s.mer := h.rd _ (by decide)

theorem State.SameTimebase.cycle (h : s.SameTimebase t) : t.cycle = s.cycle := h.rd _ (by decide)

theorem State.SameTimebase.inLanding (h : s.SameTimebase t) : t.inLanding = s.inLanding := by
  rw [State.inLanding, State.on, h.rd _ (by decide), State.inLanding, State.on]

theorem State.SameTimebase.refl (s : State) : s.SameTimebase s := ⟨rfl, fun _ _ => rfl⟩

/-- Updates of the parts of other blocks. -/
theorem State.SameTimebase.frame {larty cat orr hel pho} (h : s.SameTimebase t) : s.SameTimebase
    { t with larty := larty, cat := cat, orr := orr, hel := hel, pho := pho } := ⟨h.merp, h.rd⟩

theorem State.SameTimebase.ite {c : Prop} [Decidable c] {u : State} (ht : s.SameTimebase t) (hu : s.SameTimebase u) :
    s.SameTimebase (if c then t else u) := by
  split <;> assumption

theorem State.SameTimebase.foldl {α : Type} {f : State → α → State} {l : List α} (h : s.SameTimebase t)
    (hf : ∀ u a, s.SameTimebase u → s.SameTimebase (f u a)) : s.SameTimebase (l.foldl f t) := by
  induction l generalizing t with
  | nil => exact h
  | cons a l ih => exact ih (hf t a h)

theorem State.SameTimebase.wr {f : FieldRef} {v : Nat} (hf : 0x200000 ≤ f.off) (h : s.SameTimebase t) :
    s.SameTimebase (t.wr f v) :=
  ⟨(t.wr_merp f v).trans h.merp, fun g hg => (t.rd_wr_other f g v (.inl (by omega))).trans (h.rd g hg)⟩

theorem State.SameTimebase.add {f : FieldRef} {n : Nat} (hf : 0x200000 ≤ f.off) (h : s.SameTimebase t) :
    s.SameTimebase (t.add f n) := h.wr hf

theorem State.SameTimebase.inc {f : FieldRef} (hf : 0x200000 ≤ f.off) (h : s.SameTimebase t) :
    s.SameTimebase (t.inc f) := h.wr hf

theorem State.SameTimebase.traceDev {event unit ctx payload : Nat} (h : s.SameTimebase t) :
    s.SameTimebase (t.traceDev event unit ctx payload) :=
  .ite (.ite h (.ite (h.inc (by decide)) h.frame)) h

theorem State.SameTimebase.markSlice {u : Nat} {f : Slice → Slice} (h : s.SameTimebase t) :
    s.SameTimebase (t.markSlice u f) := .ite h.frame h

theorem State.SameTimebase.carrySlices {cycles : Nat} (h : s.SameTimebase t) : s.SameTimebase (t.carrySlices cycles) :=
  .foldl h fun _ _ h1 => .markSlice h1

theorem State.SameTimebase.countStall {p : Nat} (h : s.SameTimebase t) : s.SameTimebase (t.countStall p) :=
  .ite h (.inc (Nat.le_add_right_of_le (by decide)) h.frame)

theorem State.SameTimebase.helStall {p : Nat} (h : s.SameTimebase t) : s.SameTimebase (t.helStall p) :=
  .ite h (.inc (Nat.le_add_right_of_le (by decide)) h.frame)

theorem State.SameTimebase.countMeridian (h : s.SameTimebase t) : s.SameTimebase t.countMeridian :=
  have hthrottled : s.SameTimebase _ := .foldl h fun _ _ h1 => .ite h1 (.inc (Nat.le_add_right_of_le (by decide)) h1)
  have hage : s.SameTimebase _ := .foldl hthrottled fun _ _ h1 => .ite (.add (Nat.le_add_right_of_le (by decide)) h1) h1
  .frame (.foldl hage fun _ _ h1 => .ite (.helStall (.ite (.countStall h1) h1)) (.ite (.countStall h1) h1))

theorem State.SameTimebase.latchGates (h : s.SameTimebase t) : s.SameTimebase t.latchGates := h.frame

theorem State.SameTimebase.openSlice {x : LCtx} (h : s.SameTimebase t) : s.SameTimebase (t.openSlice x) :=
  .traceDev h.frame

theorem State.SameTimebase.wakeCtx {x : LCtx} (h : s.SameTimebase t) : s.SameTimebase (t.wakeCtx x) :=
  .ite (.ite h.openSlice h) (.ite h.frame h)

/-! ### The count and the phase of a new meridian (R33, R45, R49) -/

/-- The count that the next meridian takes: the one that a landing loads, where it is above the current one, else the next. -/
def State.nextCount (s : State) : Nat :=
  match s.merp.countNext with
  | some k => if s.mer < k then k else s.mer + 1
  | none => s.mer + 1

theorem State.SameTimebase.nextCount (h : s.SameTimebase t) : t.nextCount = s.nextCount := by
  rw [State.nextCount, State.nextCount, h.merp, h.mer]

theorem State.mer_newCount (s : State) : s.newCount.mer = s.nextCount % 2 ^ 64 := State.rd_wr_self _ _ _ (by decide)

theorem State.mer_moveOrigin (s : State) : s.moveOrigin.mer = s.mer := by
  unfold State.moveOrigin State.mer
  rw [State.rd_wr_other _ MER_ORIGIN_COUNT.COUNT _ _ (.inl (by decide)),
    State.rd_wr_other _ MER_ORIGIN_NS.NS _ _ (.inl (by decide)), State.rd_wr_other _ MER_ORIGIN_SEC.SEC _ _ (.inl (by decide))]

theorem State.mer_switchLength (s : State) : s.switchLength.mer = s.mer := by
  unfold State.switchLength
  split
  · by_cases hkeep : s.merp.keepOrigin = true
    · simp only [hkeep, if_true]
      rfl
    · simp only [hkeep]
      exact s.mer_moveOrigin
  · rfl

/-- The phase of a new meridian, but for its landing adjustment: cycle 0, no landing, and the step that waits. -/
def State.startPhase (s : State) : State :=
  ((s.wr MER_PHASE.CYCLE 0).wr MER_PHASE.LANDING 0).wr MER_PHASE.STEP s.merp.stepNext

theorem State.rd_newPhase (s : State) (g : FieldRef) (h : g.off ≠ MER_PHASE.ADJ.off ∨ (g.lo + g.len ≤ 24 ∨ 32 ≤ g.lo)) :
    s.newPhase.rd g = s.startPhase.rd g := by
  have hadj (t : State) (v : Nat) : (t.wr MER_PHASE.ADJ v).rd g = t.rd g := t.rd_wr_other _ _ _ h
  unfold State.newPhase
  dsimp only
  split
  · rw [hadj]
    rfl
  · rw [hadj]
    rfl

theorem State.mer_newPhase (s : State) : s.newPhase.mer = s.mer := by
  rw [State.mer, s.rd_newPhase _ (.inl (by decide)), State.startPhase,
    State.rd_wr_other _ MER_PHASE.STEP _ _ (.inl (by decide)), State.rd_wr_other _ MER_PHASE.LANDING _ _ (.inl (by decide)),
    State.rd_wr_other _ MER_PHASE.CYCLE _ _ (.inl (by decide)), State.mer]

theorem State.cycle_newPhase (s : State) : s.newPhase.cycle = 0 := by
  rw [State.cycle, s.rd_newPhase _ (.inr (by decide)), State.startPhase,
    State.rd_wr_other _ MER_PHASE.STEP _ _ (.inr (by decide)), State.rd_wr_other _ MER_PHASE.LANDING _ _ (.inr (by decide)),
    State.rd_wr_self _ _ _ (by decide), Nat.zero_mod]

theorem State.inLanding_newPhase (s : State) : s.newPhase.inLanding = false := by
  rw [State.inLanding, State.on, s.rd_newPhase _ (.inr (by decide)), State.startPhase,
    State.rd_wr_other _ MER_PHASE.STEP _ _ (.inr (by decide)), State.rd_wr_self _ _ _ (by decide), Nat.zero_mod]
  rfl

/-! ### The start of a meridian -/

theorem doMeridianStart_of_early (h : s.inLanding = false ∨ s.cycle < lenBudget s.merLen + 64) : doMeridianStart s = s :=
  if_pos (.inr (h.imp_left fun hl => by simp [hl]))

/-- The timebase as the start of a meridian sets it, before the other blocks take note. -/
def State.turnMeridian (s : State) : State := (s.carrySlices s.cyclesNow).newCount.switchLength.newPhase

theorem State.mer_turnMeridian (s : State) : s.turnMeridian.mer = s.nextCount % 2 ^ 64 := by
  rw [State.turnMeridian, State.mer_newPhase, State.mer_switchLength, State.mer_newCount,
    (State.SameTimebase.refl s).carrySlices.nextCount]

/-- Past the settle part, the start of a meridian leaves the timebase as its turn sets it. -/
theorem State.sameTimebase_doMeridianStart (hrun : s.clockRuns = true) (h : s.inLanding = true)
    (hc : lenBudget s.merLen + 64 ≤ s.cycle) : s.turnMeridian.SameTimebase (doMeridianStart s) := by
  unfold doMeridianStart
  rw [if_neg (by simp [hrun, h, hc])]
  exact .foldl (.latchGates (.countMeridian (.refl _))) fun _ _ h1 => .wakeCtx h1

/-! ### The obligation -/

/-- Settles O22: a moment that is due is its definition's last branch; at a meridian's start the other blocks leave the
timebase as the turn of the meridian sets it. -/
theorem meridianMoments : Obligations.MeridianMoments := by
  intro s hrun
  simp only [exec_drainStart, exec_applyPoint, exec_meridianStart, Host.Outcome.next.injEq, exists_eq_left']
  refine ⟨doDrainStart_of_due hrun, fun h hclosed => ?_, doDrainStart_of_landing, doApplyPoint_of_due hrun,
    fun _ hc => if_pos (.inr (.inr hc)), fun _ hc => doMeridianStart_of_early (.inr hc), fun h hc => ?_,
    fun h => ⟨doMeridianStart_of_early (.inl h), if_pos (.inr (.inl ?_))⟩⟩
  · rw [doDrainStart_of_due hrun h]
    exact State.foldl_slip_of_closed fun x hx => by rw [State.slice_wr, State.slice_wr, hclosed x hx]
  · have hsame := State.sameTimebase_doMeridianStart hrun h hc
    exact ⟨hsame.cycle.trans (State.cycle_newPhase _), hsame.inLanding.trans (State.inLanding_newPhase _),
      hsame.mer.trans s.mer_turnMeridian⟩
  · simp [h]

end Sys2Proof.Machine
end

section
/-! The Larty instruction word and the command it stands for (R59, R61, R83, Table 3-5). -/

namespace Sys2Proof.Machine

open Sys2Proof

/-! ### The instruction word -/

/-- The bits of an instruction word, from IMM up to the opcode (Table 3-5). -/
theorem getLsbD_encodeWord (op : BitVec 8) (f : LFields) (i : Nat) : (encodeWord op f).getLsbD i =
    if i < 33 then f.imm.getLsbD i
    else if i < 36 then f.p.getLsbD (i - 33)
    else if i < 37 then f.n
    else if i < 38 then f.g
    else if i < 44 then f.b.getLsbD (i - 38)
    else if i < 50 then f.a.getLsbD (i - 44)
    else if i < 56 then f.d.getLsbD (i - 50)
    else op.getLsbD (i - 56) := by
  simp only [encodeWord, BitVec.getLsbD_append, BitVec.getLsbD_ofBool, Nat.sub_sub]
  grind

@[simp] theorem decodeOp_encodeWord (op : BitVec 8) (f : LFields) : decodeOp (encodeWord op f) = op := by
  refine BitVec.eq_of_getLsbD_eq fun i hi => ?_
  rw [decodeOp, BitVec.getLsbD_extractLsb', getLsbD_encodeWord]
  grind

@[simp] theorem decodeFields_encodeWord (op : BitVec 8) (f : LFields) : decodeFields (encodeWord op f) = f := by
  obtain ⟨d, a, b, g, n, p, imm⟩ := f
  simp only [decodeFields, LFields.mk.injEq]
  refine ⟨?_, ?_, ?_, getLsbD_encodeWord _ _ 37, getLsbD_encodeWord _ _ 36, ?_, ?_⟩
  all_goals
    refine BitVec.eq_of_getLsbD_eq fun i hi => ?_
    rw [BitVec.getLsbD_extractLsb', getLsbD_encodeWord]
    grind

@[simp] theorem encodeWord_decode (w : Word) : encodeWord (decodeOp w) (decodeFields w) = w := by
  refine BitVec.eq_of_getLsbD_eq fun i hi => ?_
  rw [getLsbD_encodeWord]
  simp only [decodeOp, decodeFields, BitVec.getLsbD_extractLsb']
  grind

/-! ### The command of a word -/

/-- The command that a word stands for carries the word's opcode and fields. -/
theorem larty_lartyInstr (x : LCtx) (w : Word) (good : Bool) :
    (lartyInstr x w good).larty = some (x, decodeOp w, decodeFields w) := by
  unfold lartyInstr
  split
  case h_78 => rfl
  all_goals
    rename_i hop
    rw [(BitVec.toNat_eq_nat.1 hop).2]
    rfl

/-- A word with opcode 0x00 or a reserved one stands for the NOP that carries its opcode (R83). -/
theorem lartyInstr_of_nop (x : LCtx) {w : Word} (good : Bool) (h : decodeOp w = 0 ∨ opForm (decodeOp w).toNat = none) :
    lartyInstr x w good = .nop x (decodeOp w) (decodeFields w) := by
  unfold lartyInstr
  split
  case h_78 => rfl
  all_goals
    rename_i hop
    rcases h with h | h
    · rw [h] at hop
      exact absurd hop (by decide)
    · rw [hop] at h
      exact absurd h (by decide)

/-- The verdict that a load or an atomic from an encrypted home carries; no other Larty command has one. -/
def lartyVerdict : Instr → Bool
  | .ld _ _ good => good
  | .ldt _ _ good => good
  | .aadd _ _ good => good
  | .acas _ _ good => good
  | _ => true

/-- The word of a Larty command, read back with the command's verdict, stands for the command. -/
theorem lartyInstr_encodeWord {c : Instr} {x : LCtx} {op : BitVec 8} {f : LFields} (hc : c.larty = some (x, op, f))
    (hnop : (∃ o g, c = .nop x o g) → op = 0 ∨ opForm op.toNat = none) :
    lartyInstr x (encodeWord op f) (lartyVerdict c) = c := by
  unfold Instr.larty at hc
  split at hc
  case h_1 =>
    obtain ⟨rfl, rfl, rfl⟩ := hc
    simpa using lartyInstr_of_nop x (w := encodeWord op f) _ (by simpa using hnop ⟨_, _, rfl⟩)
  case h_79 => cases hc
  all_goals
    obtain ⟨rfl, rfl, rfl⟩ := hc
    rw [lartyInstr, decodeOp_encodeWord, decodeFields_encodeWord]
    rfl

/-- Settles O5: a Larty command is the command of its own word, and the word's bits are its opcode's and its fields'. -/
theorem lartyDecodeOfEncode : Obligations.LartyDecodeOfEncode :=
  ⟨fun _ _ _ _ hc hnop => ⟨_, lartyInstr_encodeWord hc hnop⟩,
    fun x w good => ⟨larty_lartyInstr x w good, encodeWord_decode w⟩,
    fun op f => ⟨decodeOp_encodeWord op f, decodeFields_encodeWord op f⟩⟩

end Sys2Proof.Machine
end

section
/-! Larty classes 0x0 and 0x1: the control instructions (R52, R53, Table 3-6) and the scalar, compare and descriptor instructions
(R55, R62, Table 3-7). -/

namespace Sys2Proof.Machine

open Sys2Proof

/-- Settles O7: the accessors of the register files answer for index 0 before they look at the file. -/
theorem registerZero : Obligations.RegisterZero := fun s x _ _ =>
  ⟨s.gReg_zero x, s.pReg_zero x, if_pos rfl, if_pos rfl⟩

variable {s : State} {x : LCtx} {f : LFields}

/-! ### Control (Table 3-6) -/

/-- PC plus the offset, where the sum is a word of the instruction store. -/
theorem branchTarget_eq_some {pc t : Nat} (ht : (pc : Int) + f.ims 0 32 = t) (hlt : t < x.kind.storeWords) :
    branchTarget x pc f = some t := by
  simp only [branchTarget, ht]
  rw [if_pos (by omega), Int.toNat_natCast]

theorem controlResults : Claims.ControlResults := by
  intro x f s
  refine ⟨fun h => ?_, fun h => ?_, fun t h ht hlt => ?_, fun t h ht hlt hret => ?_, fun h ha => ?_, fun h => ?_, fun h => ?_⟩
  · rw [exec_nop, doNop, State.issue_of_runs h rfl]; rfl
  · rw [exec_fencel, doFencel, State.issue_of_runs h rfl]; rfl
  · have htarget := branchTarget_eq_some ht hlt
    rw [exec_br, doBr, State.issue_of_runs h (faultUnless_none.2 (by simp [htarget])), htarget]; rfl
  · have htarget := branchTarget_eq_some ht hlt
    rw [exec_call, doCall, State.issue_of_runs h (faultUnless_none.2 (by simp [htarget, hret])), htarget]; rfl
  · rw [exec_jr, doJr, State.issue_of_runs h (faultUnless_none.2 (by simp [ha]))]
  · rw [exec_mchk, doMchk, State.issue_of_runs h rfl]; rfl
  · rw [exec_mcnt, doMcnt, State.issue_of_runs h rfl]

theorem contextStops : Claims.ContextStops := by
  intro x f s
  refine ⟨fun h hx => ?_, fun h hx => ?_, fun h hx => ?_, fun h hx => ?_, fun h => ?_⟩
  · rw [exec_myld, doMyld, State.issue_of_runs h rfl, hx]; rfl
  · rw [exec_myld, doMyld, State.issue_of_runs h rfl, hx]; rfl
  · rw [exec_halt, doHalt, State.issue_of_runs h rfl, hx]; rfl
  · rw [exec_halt, doHalt, State.issue_of_runs h rfl, hx]; rfl
  · rw [exec_brk, doBrk, State.issue_of_runs h rfl]

/-- Settles O9: each instruction issues without a fault of its own, so what it does is its effect with the PC advanced. -/
theorem controlInstructions : Obligations.ControlInstructions := ⟨controlResults, contextStops⟩

/-! ### Scalar values (Table 3-7) -/

theorem State.alu_of_runs {op : BitVec 8} (r : Word → Word → Word) (h : s.runs x op f) :
    s.alu x op f r = (s.advance x).setG x f.d.toNat (r (s.gReg x f.a.toNat) (s.gReg x f.b.toNat)) :=
  State.issue_of_runs h rfl

/-- A shift whose unused AMT is 0 shifts by AMT, or by the low six bits of gb. -/
theorem State.shift_of_runs {op : BitVec 8} (r : Word → Nat → Word) (h : s.runs x op f) (hok : f.im 6 1 = 1 ∨ f.im 0 6 = 0) :
    s.shift x op f r = (s.advance x).setG x f.d.toNat (r (s.gReg x f.a.toNat) (f.shiftAmount (s.gReg x f.b.toNat))) :=
  State.issue_of_runs h (by simpa [faultUnless_none, LFields.shiftLegal] using hok)

theorem shiftLeft_eq_ofNat (a : Word) (n : Nat) : a <<< n = BitVec.ofNat 64 (a.toNat * 2 ^ n) := by
  apply BitVec.eq_of_toNat_eq
  simp [Nat.shiftLeft_eq]

theorem ushiftRight_eq_ofNat (a : Word) (n : Nat) : a >>> n = BitVec.ofNat 64 (a.toNat / 2 ^ n) := by
  apply BitVec.eq_of_toNat_eq
  rw [BitVec.toNat_ushiftRight, BitVec.toNat_ofNat, Nat.shiftRight_eq_div_pow,
    Nat.mod_eq_of_lt ((Nat.div_le_self _ _).trans_lt a.isLt)]

theorem sshiftRight_eq_ofInt (a : Word) (n : Nat) : a.sshiftRight n = BitVec.ofInt 64 (a.toInt / 2 ^ n) := by
  rw [← BitVec.ofInt_toInt (x := a.sshiftRight n), BitVec.toInt_sshiftRight, Int.shiftRight_eq_div_pow]
  simp

/-- MOVH's word: the upper half is set, the lower half kept. -/
theorem setBits_upper_eq_append (f : LFields) (w : Word) :
    setBits w 32 32 (f.im 0 32) = (f.imm.setWidth 32 : BitVec 32) ++ (w.setWidth 32 : BitVec 32) := by
  refine BitVec.eq_of_getLsbD_eq fun i hi => ?_
  rw [setBits_getLsbD _ _ _ _ _ hi, BitVec.getLsbD_append, LFields.im, Nat.pow_zero, Nat.div_one,
    Nat.testBit_mod_two_pow, BitVec.testBit_toNat]
  grind

theorem scalarResults : Claims.ScalarResults := by
  intro x f s a b n put shiftOk
  refine ⟨fun h => ?_, fun h => ?_, fun h => ?_, fun h => ?_, fun h => ?_, fun h hok => ?_, fun h hok => ?_, fun h hok => ?_,
    fun h => ?_, fun h => ?_, fun h => ?_, fun h => ?_⟩
  · rw [exec_add, doAdd, State.alu_of_runs _ h]
  · rw [exec_sub, doSub, State.alu_of_runs _ h]
  · rw [exec_and, doAnd, State.alu_of_runs _ h]
  · rw [exec_or, doOr, State.alu_of_runs _ h]
  · rw [exec_xor, doXor, State.alu_of_runs _ h]
  · rw [exec_shl, doShl, State.shift_of_runs _ h hok, shiftLeft_eq_ofNat]; rfl
  · rw [exec_shr, doShr, State.shift_of_runs _ h hok, ushiftRight_eq_ofNat]; rfl
  · rw [exec_sra, doSra, State.shift_of_runs _ h hok, sshiftRight_eq_ofInt]; rfl
  · rw [exec_mul, doMul, State.alu_of_runs _ h]
  · rw [exec_addi, doAddi, State.issue_of_runs h rfl]
  · rw [exec_movl, doMovl, State.issue_of_runs h rfl]
  · rw [exec_movh, doMovh, State.issue_of_runs h rfl, setBits_upper_eq_append]

/-! ### Comparisons, predicates and descriptor words (Table 3-7) -/

section
variable (a b : Word)

theorem condHolds_eq : condHolds 0 a b = decide (a = b) := by simp [condHolds, beq_eq_decide]

theorem condHolds_ne : condHolds 1 a b = decide (a ≠ b) := by simp [condHolds, bne, beq_eq_decide]

theorem condHolds_ltu : condHolds 2 a b = decide (a.toNat < b.toNat) := rfl

theorem condHolds_geu : condHolds 3 a b = decide (b.toNat ≤ a.toNat) := by
  simp [condHolds, BitVec.ult, ← decide_not]

theorem condHolds_lts : condHolds 4 a b = decide (a.toInt < b.toInt) := rfl

theorem condHolds_ges : condHolds 5 a b = decide (b.toInt ≤ a.toInt) := by
  simp [condHolds, BitVec.slt, ← decide_not]

end

theorem b01_eq_toNat (b : Bool) : b01 b = b.toNat := by cases b <;> rfl

/-- A bit of TRUTH is that bit of IMM. -/
theorem bitOf_im_eq_getLsbD {n : Nat} (h : n < 4) : bitOf (f.im 0 4) n = f.imm.getLsbD n := by
  rw [← BitVec.testBit_toNat, bitOf, ← Nat.toNat_testBit, LFields.im, Nat.testBit_mod_two_pow]
  simp [h]

theorem descSetWord_getLsbD (d : Desc) (k : Nat) (w : Word) (i : Nat) (h : i < 256) : (descSetWord d k w).getLsbD i =
    if 64 * k ≤ i ∧ i < 64 * k + 64 then w.getLsbD (i - 64 * k) else d.getLsbD i := by
  simp only [descSetWord, BitVec.getLsbD_or, BitVec.getLsbD_and, BitVec.getLsbD_not, BitVec.getLsbD_shiftLeft,
    BitVec.getLsbD_setWidth, lowMask_getLsbD]
  grind

/-- TDSET's word reads back as written, and the other three words as before. -/
theorem descWord_descSetWord (d : Desc) (w : Word) {k i : Nat} (hi : i < 4) :
    descWord (descSetWord d k w) i = if i = k then w else descWord d i := by
  refine BitVec.eq_of_getLsbD_eq fun j hj => ?_
  simp only [descWord, BitVec.getLsbD_setWidth, BitVec.getLsbD_ushiftRight]
  rw [descSetWord_getLsbD _ _ _ _ (by omega)]
  split <;> grind [descWord]

theorem predicateResults : Claims.PredicateResults := by
  intro x f s a b v holds
  have hcond : ∀ c u w, c < 6 → condHolds c u w = holds c u w
    | 0, u, w, _ => condHolds_eq u w
    | 1, u, w, _ => condHolds_ne u w
    | 2, u, w, _ => condHolds_ltu u w
    | 3, u, w, _ => condHolds_geu u w
    | 4, u, w, _ => condHolds_lts u w
    | 5, u, w, _ => condHolds_ges u w
  refine ⟨fun h hc => ?_, fun h hc => ?_, fun h hc => ?_, fun h hc => ?_, fun h => ?_, fun h => ?_⟩
  · rw [exec_cmp, doCmp, State.issue_of_runs h (faultUnless_none.2 (by simp [hc])), hcond _ _ _ hc]
  · rw [exec_cmp, doCmp, State.issue_of_fault h (faultUnless_some.2 (by simp [hc]))]
  · rw [exec_cmpi, doCmpi, State.issue_of_runs h (faultUnless_none.2 (by simp [hc])), hcond _ _ _ hc]
  · rw [exec_cmpi, doCmpi, State.issue_of_fault h (faultUnless_some.2 (by simp [hc]))]
  · rw [exec_pset, doPset, State.issue_of_runs h rfl, b01_eq_toNat, b01_eq_toNat, bitOf_im_eq_getLsbD]
    have ha := (s.pReg x f.a.toNat).toNat_lt
    have hb := (s.pReg x f.b.toNat).toNat_lt
    omega
  · rw [exec_tdset, doTdset, State.issue_of_runs h rfl]
    refine ⟨_, rfl, by rw [State.tReg_setT_self], fun i hi => ?_⟩
    rw [State.tReg_setT_self, descWord_descSetWord _ _ hi]

/-- Settles O10: the value each instruction computes is the one the table gives. -/
theorem scalarInstructions : Obligations.ScalarInstructions := ⟨scalarResults, predicateResults⟩

end Sys2Proof.Machine
end

section
/-! Larty classes 0x5 and 0x6: the tile instructions and their bays (R58, R73, R128, R138), and attention and the merge of partial
results (R76, R77, R92, R207, R215, R216). -/

namespace Sys2Proof.Machine

open Sys2Proof

variable {s : State} {x : LCtx} {f : LFields}

/-! ### The issue of a tile instruction (R73, R128) -/

section
variable {op : BitVec 8} {fault : Option Status} {wait : Bool} {eff : State → State}

theorem State.issueOrWait_of_wait (h : s.runs x op f) (hf : fault = none) (hw : wait = true) :
    s.issueOrWait x op f fault wait eff = s := by
  rw [State.issueOrWait, State.issue_of_runs h hf, if_pos hw]

theorem State.issueOrWait_of_runs (h : s.runs x op f) (hf : fault = none) (hw : wait = false) :
    s.issueOrWait x op f fault wait eff = eff (s.advance x) := by
  rw [State.issueOrWait, State.issue_of_runs h hf, if_neg (by simp [hw])]

theorem State.issueOrWait_of_fault {st : Status} (h : s.issues x op f) (hf : fault = some st) :
    s.issueOrWait x op f fault wait eff = s.instrFault x (encodeWord op f) st :=
  State.issue_of_fault h hf

end

section
variable {op : BitVec 8} {ok empty : Bool} {o : TileOp}

theorem State.issueTile_of_room (h : s.runs x op f) (hok : ok = true) (hempty : empty = false)
    (hroom : (s.bayQueue x.gallery (f.im 0 4)).length < 16) (hbay : s.bayRefused x.gallery (f.im 0 4) = false) :
    s.issueTile x op f ok empty o =
      (s.advance x).setBayQueue x.gallery (f.im 0 4) (s.bayQueue x.gallery (f.im 0 4) ++ [o]) := by
  have hbay' : (s.advance x).bayRefused x.gallery (f.im 0 4) = false := hbay
  rw [State.issueTile, State.issueOrWait_of_runs h (faultUnless_none.2 hok) (by simp [hroom])]
  simp only [hempty, hbay']
  rfl

theorem State.issueTile_of_full (h : s.runs x op f) (hok : ok = true) (hempty : empty = false)
    (hfull : 16 ≤ (s.bayQueue x.gallery (f.im 0 4)).length) : s.issueTile x op f ok empty o = s :=
  State.issueOrWait_of_wait h (faultUnless_none.2 hok) (by simp [hempty, hfull])

theorem State.issueTile_of_empty (h : s.runs x op f) (hok : ok = true) (hempty : empty = true) :
    s.issueTile x op f ok empty o = s.advance x := by
  rw [State.issueTile, State.issueOrWait_of_runs h (faultUnless_none.2 hok) (by simp [hempty]), if_pos hempty]

theorem State.issueTile_of_refused (h : s.runs x op f) (hok : ok = true) (hempty : empty = false)
    (hroom : (s.bayQueue x.gallery (f.im 0 4)).length < 16) (hbay : s.bayRefused x.gallery (f.im 0 4) = true) :
    s.issueTile x op f ok empty o = (s.advance x).inc (GAL_TILE_REFUSED.COUNT x.gallery) := by
  have hbay' : (s.advance x).bayRefused x.gallery (f.im 0 4) = true := hbay
  rw [State.issueTile, State.issueOrWait_of_runs h (faultUnless_none.2 hok) (by simp [hroom])]
  simp only [hempty, hbay']
  rfl

theorem State.issueTile_of_breach (h : s.issues x op f) (hok : ok = false) :
    s.issueTile x op f ok empty o = s.instrFault x (encodeWord op f) .badLength :=
  State.issueOrWait_of_fault h (faultUnless_some.2 hok)

/-- What a command that is the issue of a tile instruction answers, in each of the five cases. -/
theorem exec_of_issueTile {g : Fin 16} {c : Instr} (hc : exec c s = .next (s.issueTile (.gal g) op f ok empty o)) :
    let bay := f.im 0 4
    (s.runs (.gal g) op f → ok = true → empty = false → (s.bayQueue g bay).length < 16 → s.bayRefused g bay = false →
      exec c s = .next ((s.advance (.gal g)).setBayQueue g bay (s.bayQueue g bay ++ [o]))) ∧
    (s.runs (.gal g) op f → ok = true → empty = false → 16 ≤ (s.bayQueue g bay).length → exec c s = .next s) ∧
    (s.runs (.gal g) op f → ok = true → empty = true → exec c s = .next (s.advance (.gal g))) ∧
    (s.runs (.gal g) op f → ok = true → empty = false → (s.bayQueue g bay).length < 16 → s.bayRefused g bay = true →
      exec c s = .next ((s.advance (.gal g)).inc (GAL_TILE_REFUSED.COUNT g))) ∧
    (s.issues (.gal g) op f → ok = false → exec c s = .next (s.instrFault (.gal g) (encodeWord op f) .badLength)) := by
  intro bay
  rw [hc]
  exact ⟨fun h hok he hroom hbay => congrArg _ (State.issueTile_of_room h hok he hroom hbay),
    fun h hok he hfull => congrArg _ (State.issueTile_of_full h hok he hfull),
    fun h hok he => congrArg _ (State.issueTile_of_empty h hok he),
    fun h hok he hroom hbay => congrArg _ (State.issueTile_of_refused h hok he hroom hbay),
    fun h hok => congrArg _ (State.issueTile_of_breach h hok)⟩

end

theorem tileInstructionsQueue : Claims.TileInstructionsQueue := by
  intro g f s x bay d a b enters
  refine ⟨exec_of_issueTile (exec_tmma x f s), exec_of_issueTile (exec_tload x f s), exec_of_issueTile (exec_tstore x f s),
    exec_of_issueTile (exec_tew x f s), exec_of_issueTile (exec_tfn x f s), exec_of_issueTile (exec_tred x f s),
    fun h hdone => ?_, fun h hwait => ?_⟩
  · rw [exec_tsync, doTsync, State.issue_of_runs h rfl]
    exact congrArg _ (if_pos hdone)
  · rw [exec_tsync, doTsync, State.issue_of_runs h rfl]
    exact congrArg _ (if_neg (Bool.eq_false_iff.1 hwait))

theorem bayCompletes : Claims.BayCompletes := by
  intro g bay good bubbles busy s o q p hq howner hrun hheld
  have hgo : (s.bayStopped g bay || (o.op == 0x51 && s.tileHeld p (descTile o.a))) = false := by
    simpa [hrun] using hheld
  rw [exec_bayInstructionComplete]
  simp only [doBayInstructionComplete, hq, howner, Option.getD_some, hgo, Option.isSome_some, if_true]
  rfl

/-- Settles O13: the six tile instructions are one issue, `State.issueTile`, under six operand rules. -/
theorem tileInstructions : Obligations.TileInstructions := ⟨tileInstructionsQueue, bayCompletes⟩

/-! ### Attention (R76, R77, R92, R215, R216) -/

theorem rangeOk_of_rangeHbm {a n : Nat} (h : rangeHbm a n = true) : rangeOk a n = true := by
  simp only [rangeHbm, Bool.and_eq_true] at h
  exact h.1

section
variable {x : LCtx} {f : LFields}

/-- ATTN on a compute-mode pseudo-channel, of a work item that lies in HBM: it waits, or its segment is issued. -/
theorem doAttn_of_issue (h : s.runs x 0x60 f) (hpc : f.im 0 5 ≤ 30) (hcm : s.inCm x.stack (f.im 0 5) = true)
    (hitem : rangeHbm (s.gReg x f.b.toNat).toNat 64 = true ∧ (s.gReg x f.b.toNat).toNat % 8 = 0)
    (hidle : s.nbBusy x.stack (f.im 0 5) = false) (hpwr : s.pwrState x.stack = 0) :
    doAttn x f s = (s.advance x).setSeg x.stack (f.im 0 5)
      { phase := .issued, item := (s.gReg x f.b.toNat).toNat, ta := s.tReg x f.a.toNat, td := s.tReg x f.d.toNat } := by
  obtain ⟨hhbm, halign⟩ := hitem
  rw [doAttn, State.issueOrWait_of_runs h (by simp [hpc, hcm, rangeOk_of_rangeHbm hhbm, hhbm, halign, faultUnless])
    (by simp [hidle, hpwr])]
  exact if_pos hpwr

theorem doAttn_of_wait (h : s.runs x 0x60 f) (hpc : f.im 0 5 ≤ 30) (hcm : s.inCm x.stack (f.im 0 5) = true)
    (hitem : rangeHbm (s.gReg x f.b.toNat).toNat 64 = true ∧ (s.gReg x f.b.toNat).toNat % 8 = 0)
    (hwait : s.nbBusy x.stack (f.im 0 5) = true ∨ s.pwrState x.stack = 2) : doAttn x f s = s := by
  obtain ⟨hhbm, halign⟩ := hitem
  exact State.issueOrWait_of_wait h (by simp [hpc, hcm, rangeOk_of_rangeHbm hhbm, hhbm, halign, faultUnless])
    (by simpa using hwait)

end

theorem attentionIssue : Claims.AttentionIssue := by
  intro h f s x pc item itemOk seg m fits
  refine ⟨fun hr hpc hcm hitem hidle hpwr => ?_, fun hr hpc hcm hitem hwait => ?_, fun hi hbad => ?_, fun hr hfits => ?_,
    fun hr hfits => ?_, fun hr hdone => ?_, fun hr hwait => ?_⟩
  · rw [exec_attn, doAttn_of_issue hr hpc hcm hitem hidle hpwr]; rfl
  · rw [exec_attn, doAttn_of_wait hr hpc hcm hitem hwait]
  · rw [exec_attn, doAttn, State.issueOrWait_of_fault hi (if_pos ?_)]
    simp only [Bool.not_eq_true', Bool.and_eq_false_iff, decide_eq_false_iff_not, Nat.not_le]
    exact hbad
  · rw [exec_amode, doAmode, State.issue_of_runs hr rfl]
    exact congrArg _ (if_pos hfits)
  · rw [exec_amode, doAmode, State.issue_of_runs hr rfl]
    exact congrArg _ (if_neg hfits)
  · rw [exec_async, doAsync, State.issue_of_runs hr rfl]
    exact congrArg _ (if_pos hdone)
  · rw [exec_async, doAsync, State.issue_of_runs hr rfl]
    exact congrArg _ (if_neg (Bool.eq_false_iff.1 hwait))

/-! ### The merge of partial results (R207) -/

theorem partialMerge : Claims.PartialMerge := by
  intro h f s x d a b ok row
  refine ⟨fun hr hok => ?_, fun hi hbad => ?_⟩
  · obtain ⟨hd, ha, hb, hda, hab, hdc, hac⟩ := hok
    rw [exec_amrg, doAmrg, State.issue_of_runs hr (faultUnless_none.2 (by simp [d, a, b, x, *]))]
    simp only [← List.map_prod_right_eq_zip, List.foldl_map]
    rfl
  · rw [exec_amrg, doAmrg, State.issue_of_fault hi (faultUnless_some.2 ?_)]
    rw [Bool.eq_false_iff]
    intro hok
    apply hbad
    simpa [ok, and_assoc] using hok

/-- Settles O14: ATTN's cases are its operand check and its wait, AMODE's and ASYNC's the two branches of their one condition;
AMRG's fold over rows paired with their indices is a fold over the indices. -/
theorem attentionInstructions : Obligations.AttentionInstructions := ⟨attentionIssue, partialMerge⟩

end Sys2Proof.Machine
end

section
/-! The work requests of the heliostat engine: those that do not start, the end of one that has ended (R268 to R276), and the completion
records (R271). -/

namespace Sys2Proof.Machine

open Sys2Proof

/-! ### The engine takes an entry (R268, R269) -/

section
variable {s : State} {q p i : Nat} {e : QEntry} {ops : Nat → Bool} {eff : Nat → State → State}

/-- Taking an entry from a queue leaves the in-flight slots and the count of starts. -/
theorem State.inflight_popQueue (s : State) (q : Nat) :
    (s.popQueue q).hel.wrs = s.hel.wrs ∧ (s.popQueue q).hel.starts = s.hel.starts := by
  unfold State.popQueue
  split
  · cases s.hel.fired.find? (fun e => e.1 == q) <;> simp
  · cases s.hel.posted.find? (fun e => e.unit == queueUnit q) <;> simp

/-- The state with the front of a queue taken, and that queue served last. -/
def State.servedQueue (s : State) (q : Nat) : State :=
  let t := s.popQueue q
  { t with hel := { t.hel with lastQueue := q } }

theorem State.freeWr_servedQueue (h : s.takesWr q e p i) : (s.servedQueue q).freeWr = some i := by
  obtain ⟨-, -, -, hfree⟩ := h
  have hwrs : (s.servedQueue q).hel.wrs = s.hel.wrs := (s.inflight_popQueue q).1
  simpa only [State.freeWr, State.wr?, hwrs] using hfree

/-- The state with an entry in in-flight slot `i`, and counted. -/
def State.enteredWr (s : State) (e : QEntry) (p i : Nat) : State :=
  let t : State := { s with hel := { s.hel with starts := s.hel.starts + 1 } }
  (t.openWr i { words := e.words, unit := e.unit, ictx := e.ictx, part := p, fired := e.fired, start := s.hel.starts }).inc
    (HEL_P_WRS.COUNT p)

theorem State.takenWr_eq (s : State) (q : Nat) (e : QEntry) (p i : Nat) :
    s.takenWr q e p i = (s.servedQueue q).enteredWr e p i := by
  rw [State.takenWr, ← (s.inflight_popQueue q).2]
  rfl

theorem State.takeWr_of_none (h : s.nextQueue = none) : s.takeWr ops eff = s := by
  simp only [State.takeWr, h]

theorem State.takeWr_of_takes (h : s.takesWr q e p i) (hop : ops (wrOp e.words) = true) :
    s.takeWr ops eff = (s.servedQueue q).runEntry e p eff := by
  obtain ⟨hq, he, hpart, -⟩ := h
  simp only [State.takeWr, hq, he, hop, hpart]
  rfl

theorem State.takeWr_of_noPart (hq : s.nextQueue = some q) (he : s.queueFront q = some e) (hunit : e.unit ≠ 0x18)
    (hpart : e.part = none) (hop : ops (wrOp e.words) = true) :
    s.takeWr ops eff = (s.servedQueue q).refuseNoPart e := by
  simp only [State.takeWr, hq, he, hop, hunit, hpart, if_false]
  rfl

/-! ### What becomes of an entry that does not start (R270, R275) -/

/-- An armed request takes the lowest free trigger slot, or ends with the status of the arm (R275). -/
def State.armedOrEnded (s : State) (e : QEntry) (p i : Nat) : State :=
  if s.armStatus p e.words = .ok then
    match firstBelow 1024 (fun k => !s.trigUsed k) with
    | some k => (s.closeWr i).armSlot k p e.words
    | none => s.endWrAs i .refusedFull
  else s.endWrAs i (s.armStatus p e.words)

theorem State.runEntry_eq (hfree : s.freeWr = some i) : s.runEntry e p eff =
    if !wrLegal e.words then (s.enteredWr e p i).endWrAs i .badLength
    else if wrArm e.words ∧ !e.fired then (s.enteredWr e p i).armedOrEnded e p i
    else eff i (s.enteredWr e p i) := by
  simp only [State.runEntry, hfree]
  rfl

theorem State.takeWr_of_illegal (h : s.takesWr q e p i) (hop : ops (wrOp e.words) = true) (hform : wrLegal e.words = false) :
    s.takeWr ops eff = (s.takenWr q e p i).endWrAs i .badLength := by
  rw [State.takeWr_of_takes h hop, State.runEntry_eq (State.freeWr_servedQueue h), State.takenWr_eq]
  exact if_pos (by simp [hform])

theorem State.takeWr_of_arm (h : s.takesWr q e p i) (hop : ops (wrOp e.words) = true) (hform : wrLegal e.words = true)
    (harm : wrArm e.words = true) (hfired : e.fired = false) :
    s.takeWr ops eff = (s.takenWr q e p i).armedOrEnded e p i := by
  rw [State.takeWr_of_takes h hop, State.runEntry_eq (State.freeWr_servedQueue h), State.takenWr_eq,
    if_neg (by simp [hform]), if_pos (by simp [harm, hfired])]

/-- A reserved OP breaks a rule on the form (R270). -/
theorem wrLegal_of_reserved {ws : List Word} (h : 0x0C ≤ wrOp ws) : wrLegal ws = false := by
  simp [wrLegal, Nat.not_lt.2 h]

end

/-! ### The end of a request that has ended (R271, R272) -/

theorem doWrComplete_of_none {s : State} {i : Fin 256} (h : s.wr? i = none) : doWrComplete i s = s := by
  simp only [doWrComplete, h]

theorem doWrComplete_of_running {s : State} {i : Fin 256} {w : Wr} (h : s.wr? i = some w) (hw : w.done = none) :
    doWrComplete i s = s := by
  simp only [doWrComplete, h, hw]

theorem requestEnds : Claims.WorkRequestEnds := by
  intro s q e
  refine ⟨fun hq => ⟨congrArg _ (State.takeWr_of_none hq), congrArg _ (State.takeWr_of_none hq),
    congrArg _ (State.takeWr_of_none hq)⟩, fun p i htakes => ⟨fun hop hform => ?_, fun hop => ?_,
    fun hop hform => ?_, fun hop hform harm hfired => ⟨fun hst => ?_, fun k hst hk => ?_⟩⟩, fun hq he hunit hpart hop => ?_,
    fun i w st hw => ⟨fun hrun => ?_, fun hdone => ?_⟩, fun i hw => ?_⟩
  · exact congrArg _ (State.takeWr_of_illegal htakes (by simp [hop]) hform)
  · exact congrArg _ (State.takeWr_of_illegal htakes (by simp [hop]) (wrLegal_of_reserved hop))
  · exact congrArg _ (State.takeWr_of_illegal htakes (by simp [hop]) hform)
  · rw [exec_wrWrite, doWrWrite, State.takeWr_of_arm htakes (by simp [hop]) hform harm hfired]
    exact congrArg _ (if_neg hst)
  · rw [exec_wrWrite, doWrWrite, State.takeWr_of_arm htakes (by simp [hop]) hform harm hfired, State.armedOrEnded,
      if_pos hst, hk]
  · rw [exec_wrWrite, doWrWrite, State.takeWr_of_noPart hq he hunit hpart (by simp [hop]), State.refuseNoPart, hop]
    rfl
  · rw [exec_wrComplete, doWrComplete_of_running hw hrun]
  · rw [exec_wrComplete]
    simp only [doWrComplete, hw, hdone]
    by_cases hst : st = .ok
    · simp only [hst, if_true]
    · simp only [hst, if_false, State.noteHelError, State.noteHelLast]
  · rw [exec_wrComplete, doWrComplete_of_none hw]

/-! ### Completion records (R271) -/

/-- The state with a completion record in its partition's ring, and TAIL1 past it. -/
def State.storedRecord (s : State) (p : Nat) (ws : List Word) : State :=
  let a := ringSlot (s.rd (HEL_P_BASE.DPA p 1)) (s.helSize p 1) (s.rd (helTail p 1)) 32
  (s.devWriteWords (memReport Blk.HEL.code 0 0xFF (some p) a) a (ws.set 3 (setBits (ws.getD 3 0) 32 32 s.mer32))).addMod
    (helTail p 1) 1

/-- A record whose partition asks for no notification is written and no more. -/
theorem State.helWrite_of_quiet {s : State} {p : Nat} {ws : List Word}
    (hen : (s.storedRecord p ws).on (HEL_P_NOTIFY.EN p) = false)
    (hdb : (s.storedRecord p ws).on (HEL_P_NOTIFY.DB_EN p) = false) : s.helWrite p ws = s.storedRecord p ws := by
  simp only [State.storedRecord] at hen hdb ⊢
  simp only [State.helWrite, hen, hdb, Bool.false_eq_true, if_false, State.bellIf]

/-- Counting a meridian in which a record waits leaves the waiting records, memory and TAIL1. -/
theorem State.helStall_frame (s : State) (p : Nat) : (s.helStall p).hel.waiting = s.hel.waiting ∧ (s.helStall p).mem = s.mem ∧
    (s.helStall p).rd (helTail p 1) = s.rd (helTail p 1) := by
  unfold State.helStall
  split
  · exact ⟨rfl, rfl, rfl⟩
  · refine ⟨by simp, by simp, ?_⟩
    exact State.rd_wr_other _ _ _ _ (.inl (by simp [helTail, HEL_P_TAIL1.INDEX, HEL_P_CQ_STALL.COUNT]))

theorem completionRecords : Claims.CompletionRecords := by
  intro s p ws a
  refine ⟨fun hroom hclear hen hdb => ?_, fun hwaits => ?_⟩
  · rw [State.helComplete, if_pos (by simp [hroom, hclear])]
    exact State.helWrite_of_quiet hen hdb
  · rw [State.helComplete, if_neg (by rcases hwaits with h | h <;> simp [h])]
    exact State.helStall_frame _ _

/-- Settles O36: a request that does not start never reaches its operation's effect, and a completion record that is not
written at once joins the waiting list. -/
theorem workRequestEnds : Obligations.WorkRequestEnds := ⟨requestEnds, completionRecords⟩

end Sys2Proof.Machine
end

section
/-! The program images of the units: staging (R98, R99), the end of a verification (R97, R99, Table 4-6), and the swap at a landing
(R100, R101). -/

namespace Sys2Proof.Machine

open Sys2Proof

variable {s : State} {u : Fin 64} {k : UnitKind}

/-! ### STAGE (R99) -/

/-- A STAGE that BUSY does not hold back sets BUSY and joins the vestibule's queue. -/
theorem doProgStage_of_idle {a : Agent} (hk : unitKind u = some k) (hload : s.mayLoad a u = true)
    (hidle : s.on (PROG_STATUS.BUSY (progBase u)) = false) : doProgStage a u s =
      let t := s.wr (PROG_STATUS.BUSY (progBase u)) 1
      State.runVes { t with ves := { t.ves with queue := t.ves.queue ++ [.prog u] } } := by
  rw [doProgStage, if_neg (by simp [hk]), if_neg (by simp [hload]), if_neg (by simp [hidle])]

theorem doProgStage_of_busy {a : Agent} (hk : unitKind u = some k) (hload : s.mayLoad a u = true)
    (hbusy : s.on (PROG_STATUS.BUSY (progBase u)) = true) :
    doProgStage a u s = s.countRefused (unitBlk u).1 (unitBlk u).2 := by
  rw [doProgStage, if_neg (by simp [hk]), if_neg (by simp [hload]), if_pos hbusy]

/-! ### The end of a verification (Table 4-6) -/

section
variable {q : List VesItem} {v : Fin 4}

/-- RESULT of the verification of the image that the unit's program-load registers name. -/
def State.stageResult (s : State) (u : Nat) (k : UnitKind) (verdict : Nat) : Nat :=
  s.progResult (s.rd (PROG_IMAGE.DPA (progBase u))) (s.rd (PROG_LEN.BYTES (progBase u))) k verdict

/-- A verification ends: RESULT is written, BUSY falls, and the vestibule goes on to the next item of its queue. -/
def State.endVerify (t : State) (u result : Nat) : State :=
  ((t.wr (PROG_STATUS.RESULT (progBase u)) result).wr (PROG_STATUS.BUSY (progBase u)) 0).popVes.runVes

/-- An image whose header, hash or signature fails is counted in the vestibule and recorded. -/
def State.noteVerifyFail (s : State) (u : Nat) : State :=
  (s.inc VES_VERIFY_FAIL.COUNT).report
    { cls := 0x0C, status := Status.refusedPolicy.code, sev := 3, blk := Blk.VES.code, unit := u, d0 := u }

theorem doProgVerifyDone_of_verified (hk : unitKind u = some k) (hq : s.ves.queue = .prog u :: q)
    (hready : s.ready .VES 0 = true) (hr : s.stageResult u k v = 1) :
    doProgVerifyDone v s = (s.stageImage u (s.rd (PROG_IMAGE.DPA (progBase u))) k).endVerify u 1 := by
  unfold State.stageResult at hr
  simp [doProgVerifyDone, hq, hk, hready, hr, State.endVerify]

/-- A RESULT that is neither success nor a failed read is a failed check of the image. -/
theorem doProgVerifyDone_of_failed (hk : unitKind u = some k) (hq : s.ves.queue = .prog u :: q)
    (hready : s.ready .VES 0 = true) (h1 : s.stageResult u k v ≠ 1) (h9 : s.stageResult u k v ≠ 9) :
    doProgVerifyDone v s =
      ((s.noteVerifyFail u).inc (PROG_FAILS.COUNT (progBase u))).endVerify u (s.stageResult u k v) := by
  unfold State.stageResult at h1 h9 ⊢
  simp [doProgVerifyDone, hq, hk, hready, h1, h9, State.endVerify, State.noteVerifyFail]

end

/-! ### SWAP (R100, R101) -/

theorem State.swap_of_passes (h : s.installResult u = 1) :
    s.swap u = ((s.wr (PROG_CTL.SWAP (progBase u)) 0).install u).wr (PROG_STATUS.RESULT (progBase u)) 1 := by
  simp only [State.swap, h, if_true]

theorem State.swap_of_fails (h : s.installResult u ≠ 1) :
    s.swap u = ((s.wr (PROG_CTL.SWAP (progBase u)) 0).inc (PROG_FAILS.COUNT (progBase u))).wr
      (PROG_STATUS.RESULT (progBase u)) (s.installResult u) := by
  simp only [State.swap, h, if_false]

/-- A SWAP that fails a check writes registers alone, so the Larty units, with their stores and images, stay as they are. -/
theorem State.larty_swap_of_fails (h : s.installResult u ≠ 1) : (s.swap u).larty = s.larty := by
  simp only [State.swap_of_fails h, State.wr_larty, State.inc_larty]

/-- Settles O23: each command is followed through the checks that may turn it away; a SWAP that fails one writes registers alone,
so the working store keeps its words. -/
theorem programImages : Obligations.ProgramImages := by
  intro s u k hk b blk inst busy r ends
  refine ⟨fun a hready hload hidle => ?_, fun a hready hload hbusy => ?_, fun q v hq hready hr => ?_,
    fun q v hq hready hr => ?_, State.swap_of_passes, State.swap_of_fails, fun n h => ?_⟩
  · rw [exec_progStage, execProgStage, State.whenReady_of_ready hready, doProgStage_of_idle hk hload hidle]
  · rw [exec_progStage, execProgStage, State.whenReady_of_ready hready, doProgStage_of_busy hk hload hbusy]
  · rw [exec_progVerifyDone, doProgVerifyDone_of_verified hk hq hready hr]
    rfl
  · have hr1 : r v ≠ 1 := by omega
    have hr9 : r v ≠ 9 := by omega
    rw [exec_progVerifyDone, doProgVerifyDone_of_failed hk hq hready hr1 hr9]
    rfl
  · rw [State.workWord, State.larty_swap_of_fails h, State.workWord]

end Sys2Proof.Machine
end

section
/-! Number formats (R104, R110): what the codes of a float format stand for, and that rounding such a value, which is already
exact at the format's precision, gives its code again (R111, R112, R114). -/

namespace Sys2Proof.Machine

open Sys2Proof

variable {mode fmt eb mb c : Nat} {neg : Bool} {m : Nat} {pb bias : Int}

/-! ### Rounding a value that is already exact (R112) -/

/-- A magnitude that is a whole number of units is not rounded, whatever the mode. -/
@[simp] theorem roundUnits_same (e : Int) : roundUnits mode neg m e e = m := by
  simp [roundUnits]

/-- The code of a subnormal magnitude is its mantissa: its unit is the least the format has. -/
theorem magCode_subnormal (hm : m < 2 ^ mb) : magCode mode neg m (1 - bias - mb) mb bias = m := by
  by_cases h0 : m = 0
  · simp [magCode, h0]
  · have hlog : m.log2 < mb := (Nat.log2_lt h0).mpr hm
    have hunit : max (magLog m (1 - bias - mb) - mb) (1 - bias - mb) = 1 - bias - mb := by
      unfold magLog
      omega
    simp only [magCode, if_neg h0, hunit, roundUnits_same, if_pos hm]

/-- The code of a normal magnitude: its leading bit adds one to the exponent that stands above the mantissa. -/
theorem magCode_normal {e : Nat} (he : e ≠ 0) (hm : m < 2 ^ mb) :
    magCode mode neg (2 ^ mb + m) (e - bias - mb) mb bias = e * 2 ^ mb + m := by
  have h0 : 2 ^ mb + m ≠ 0 := by have := Nat.two_pow_pos mb; omega
  have hlog : (2 ^ mb + m).log2 = mb := (Nat.log2_eq_iff h0).mpr ⟨by omega, by rw [Nat.pow_succ]; omega⟩
  have hunit : max (magLog (2 ^ mb + m) (e - bias - mb) - mb) (1 - bias - mb) = e - bias - mb := by
    unfold magLog
    omega
  have hexp : ((e : Int) - bias - mb + mb + bias).toNat = e := by omega
  obtain ⟨e, rfl⟩ := Nat.exists_eq_succ_of_ne_zero he
  simp only [magCode, if_neg h0, hunit, roundUnits_same, hexp, if_neg (show ¬ 2 ^ mb + m < 2 ^ mb by omega),
    Nat.succ_sub_one, Nat.succ_mul, Nat.add_assoc]

/-! ### The value of a code (R104, R110) -/

theorem fpValue_of_nan (hs : fmtShape fmt pb = (eb, mb, bias)) (hn : fmtNan fmt (c % 2 ^ (eb + mb)) = true) :
    fpValue fmt pb c = .nan := by
  simp only [fpValue, hs, hn, if_true]

theorem fpValue_of_inf (hs : fmtShape fmt pb = (eb, mb, bias)) (hn : fmtNan fmt (c % 2 ^ (eb + mb)) = false)
    (hi : fmtInf fmt (c % 2 ^ (eb + mb)) = true) : fpValue fmt pb c = .inf (bitOf c (eb + mb)) := by
  simp only [fpValue, hs, hn, hi, if_true, Bool.false_eq_true, if_false]

/-- A code that is neither NaN nor infinite has a finite value of its own sign, whose rounded magnitude is the code's. -/
theorem fpValue_of_finite (hs : fmtShape fmt pb = (eb, mb, bias)) (hn : fmtNan fmt (c % 2 ^ (eb + mb)) = false)
    (hi : fmtInf fmt (c % 2 ^ (eb + mb)) = false) :
    ∃ m e, fpValue fmt pb c = .fin (bitOf c (eb + mb)) m e ∧
      ∀ mode neg, magCode mode neg m e mb bias = c % 2 ^ (eb + mb) := by
  have hmant : c % 2 ^ (eb + mb) % 2 ^ mb < 2 ^ mb := Nat.mod_lt _ (Nat.two_pow_pos mb)
  have hparts := Nat.div_add_mod' (c % 2 ^ (eb + mb)) (2 ^ mb)
  by_cases he : c % 2 ^ (eb + mb) / 2 ^ mb = 0
  · refine ⟨_, _, by simp only [fpValue, hs, hn, hi, he, Bool.false_eq_true, if_true, if_false]; rfl, fun mode neg => ?_⟩
    rw [magCode_subnormal hmant]
    simpa [he] using hparts
  · refine ⟨_, _, by simp only [fpValue, hs, hn, hi, he, Bool.false_eq_true, if_false]; rfl, fun mode neg => ?_⟩
    rw [magCode_normal he hmant, hparts]

/-- A code is its sign bit above its magnitude. -/
theorem withSign_bitOf {n : Nat} (hc : c < 2 ^ (n + 1)) : withSign (bitOf c n) (n + 1) (c % 2 ^ n) = c := by
  have hsign : c / 2 ^ n < 2 := Nat.div_lt_of_lt_mul (by rwa [← Nat.pow_succ])
  have hparts := Nat.div_add_mod' c (2 ^ n)
  obtain h | h := Nat.le_one_iff_eq_zero_or_eq_one.mp (Nat.le_of_lt_succ hsign)
  · rw [h] at hparts
    simp only [withSign, bitOf, h]
    simpa using hparts
  · rw [h] at hparts
    simp only [withSign, bitOf, h]
    simpa [Nat.add_comm] using hparts

/-! ### The IEEE 754 formats (Table 5-1) -/

/-- A format laid out as FP32 is: a sign, eb exponent bits and mb mantissa bits. The magnitude with an exponent of ones and no
mantissa is infinite, and those above it are NaN. -/
structure IsIeee (fmt eb mb : Nat) (bias : Int) : Prop where
  shape : fmtShape fmt 0 = (eb, mb, bias)
  bits : fmtBits fmt = eb + mb + 1
  nan : ∀ mag, fmtNan fmt mag = decide ((2 ^ eb - 1) * 2 ^ mb < mag)
  inf : ∀ mag, fmtInf fmt mag = decide (mag = (2 ^ eb - 1) * 2 ^ mb)

theorem isIeee_fp32 : IsIeee 0 8 23 127 := ⟨rfl, rfl, fun _ => rfl, fun _ => rfl⟩
theorem isIeee_bf16 : IsIeee 1 8 7 127 := ⟨rfl, rfl, fun _ => rfl, fun _ => rfl⟩
theorem isIeee_fp16 : IsIeee 2 5 10 15 := ⟨rfl, rfl, fun _ => rfl, fun _ => rfl⟩

theorem IsIeee.encode_nan (h : IsIeee fmt eb mb bias) : encodeIeee fmt mode .nan = (2 ^ eb - 1) * 2 ^ mb + 2 ^ (mb - 1) := by
  simp only [encodeIeee, h.shape]

theorem IsIeee.encode_inf (h : IsIeee fmt eb mb bias) :
    encodeIeee fmt mode (.inf neg) = withSign neg (eb + mb + 1) ((2 ^ eb - 1) * 2 ^ mb) := by
  simp only [encodeIeee, h.shape, h.bits]

/-- A value whose rounded magnitude does not overflow takes that magnitude and its own sign. -/
theorem IsIeee.encode_fin {e : Int} (h : IsIeee fmt eb mb bias)
    (hlt : magCode mode neg m e mb bias < (2 ^ eb - 1) * 2 ^ mb) :
    encodeIeee fmt mode (.fin neg m e) = withSign neg (eb + mb + 1) (magCode mode neg m e mb bias) := by
  simp only [encodeIeee, h.shape, h.bits, if_pos hlt]

/-- An infinity comes back as itself; a finite value needs no rounding and lies below the infinite magnitude. -/
theorem IsIeee.encode_fpValue (h : IsIeee fmt eb mb bias) (hc : c < 2 ^ (eb + mb + 1)) (hv : fpValue fmt 0 c ≠ .nan) :
    encodeIeee fmt mode (fpValue fmt 0 c) = c := by
  have hn : fmtNan fmt (c % 2 ^ (eb + mb)) = false := Bool.eq_false_iff.mpr fun hn => hv (fpValue_of_nan h.shape hn)
  have hle : c % 2 ^ (eb + mb) ≤ (2 ^ eb - 1) * 2 ^ mb := by simpa [h.nan] using hn
  cases hi : fmtInf fmt (c % 2 ^ (eb + mb)) with
  | true =>
    have hmag : c % 2 ^ (eb + mb) = (2 ^ eb - 1) * 2 ^ mb := by simpa [h.inf] using hi
    rw [fpValue_of_inf h.shape hn hi, h.encode_inf, ← hmag, withSign_bitOf hc]
  | false =>
    have hne : c % 2 ^ (eb + mb) ≠ (2 ^ eb - 1) * 2 ^ mb := by simpa [h.inf] using hi
    obtain ⟨m, e, hfin, hcode⟩ := fpValue_of_finite h.shape hn hi
    have hlt : magCode mode (bitOf c (eb + mb)) m e mb bias < (2 ^ eb - 1) * 2 ^ mb := by
      rw [hcode]
      exact lt_of_le_of_ne hle hne
    rw [hfin, h.encode_fin hlt, hcode, withSign_bitOf hc]

/-! ### KV10 (R110, R111) -/

/-- KV10 has no infinity, and below its one NaN magnitude 0x1FF nothing saturates. -/
theorem encodeKv10_fpValue (hc : c < 1024) (hv : fpValue 0xA pb c ≠ .nan) : encodeKv10 mode pb (fpValue 0xA pb c) = c := by
  have hs : fmtShape 0xA pb = (5, 4, 15 - pb) := rfl
  have hn : fmtNan 0xA (c % 2 ^ (5 + 4)) = false := Bool.eq_false_iff.mpr fun hn => hv (fpValue_of_nan hs hn)
  have hne : c % 2 ^ (5 + 4) ≠ 0x1FF := by simpa [fmtNan] using hn
  obtain ⟨m, e, hfin, hcode⟩ := fpValue_of_finite (c := c) hs hn rfl
  have hmax : min 0x1FE (c % 2 ^ (5 + 4)) = c % 2 ^ (5 + 4) := by omega
  rw [hfin, encodeKv10, hcode, hmax, withSign_bitOf hc]

/-- Settles O60: a code's value is exact at its format's precision, so no mode rounds it, and a code that is not NaN lies within
the magnitudes that overflow or saturate. -/
theorem numberFormats : Obligations.NumberFormats := by
  refine ⟨fun fmt mode c hfmt hc hv => ?_, fun mode c pb hc hv => encodeKv10_fpValue hc hv,
    fun mode => ⟨isIeee_fp32.encode_nan, isIeee_bf16.encode_nan, isIeee_fp16.encode_nan⟩, fun mode c hc => ?_⟩
  · obtain rfl | rfl | rfl : fmt = 0 ∨ fmt = 1 ∨ fmt = 2 := by omega
    · exact isIeee_fp32.encode_fpValue hc hv
    · exact isIeee_bf16.encode_fpValue hc hv
    · exact isIeee_fp16.encode_fpValue hc hv
  · have hnan : fpValue 0 0 c = .nan := fpValue_of_nan isIeee_fp32.shape (by simpa [isIeee_fp32.nan] using hc)
    exact ⟨hnan, hnan ▸ isIeee_fp32.encode_nan⟩

end Sys2Proof.Machine
end

section
/-! The catalogue: the state codes of request records and CSTATE (R163, R165), and batches from their descriptors to the return of
their slots (R131, R132, R178 to R183). -/

namespace Sys2Proof.Machine

open Sys2Proof

variable {s : State}

/-! ### Request state codes (R163, Table 8-2) -/

theorem State.inState_iff (s : State) (i : Nat) (st : ReqState) :
    s.inState i st = true ↔ getBits (s.recWord i 0) 0 4 = st.code := beq_iff_eq

theorem ReqState.code_eq_zero {st : ReqState} : st.code = 0 ↔ st = .free := by
  cases st <;> decide

/-- Table 8-5 has no transition from or to a code that is none. -/
theorem cstateAllowed_of_unused {src dst : Nat} (h : 10 ≤ src ∨ 10 ≤ dst) : cstateAllowed src dst = false := by
  rw [Bool.eq_false_iff]
  simp only [cstateAllowed, ne_eq, Bool.or_eq_true, Bool.and_eq_true, beq_iff_eq, decide_eq_true_eq]
  omega

section
variable {x : LCtx} {f : LFields}

theorem State.recIndexOk_of_lt (h : s.recIndex x f < 16384) : s.recIndexOk x f = true := decide_eq_true h

/-- CSTATE of a record in the state FROM, over a transition of Table 8-5, makes the transition. -/
theorem doCstate_of_allowed (h : s.runs x 0x82 f) (hi : s.recIndex x f < 16384)
    (hsrc : s.recState (s.recIndex x f) = f.im 0 4) (hallowed : cstateAllowed (f.im 0 4) (f.im 4 4) = true)
    (hfree : f.im 4 4 = 0 → s.recF (s.recIndex x f) Rec.IN_BATCH = 0) :
    doCstate x f s = ((s.advance x).cstate (s.recIndex x f) (f.im 4 4)).setP x (f.im 8 3) true := by
  rw [doCstate, State.issue_of_runs h (faultUnless_none.2 (State.recIndexOk_of_lt hi))]
  exact if_pos ⟨hsrc, hallowed, hfree⟩

/-- CSTATE of a record in another state, or over what is no transition of Table 8-5, writes its predicate alone. -/
theorem doCstate_of_refused (h : s.runs x 0x82 f) (hi : s.recIndex x f < 16384)
    (hno : s.recState (s.recIndex x f) ≠ f.im 0 4 ∨ cstateAllowed (f.im 0 4) (f.im 4 4) = false) :
    doCstate x f s = (s.advance x).setP x (f.im 8 3) false := by
  rw [doCstate, State.issue_of_runs h (faultUnless_none.2 (State.recIndexOk_of_lt hi))]
  refine if_neg fun ⟨hsrc, hallowed, _⟩ => ?_
  exact hno.elim (fun hne => hne hsrc) (Bool.eq_false_iff.1 · hallowed)

end

/-- Settles O30: a code above 9 stands in no transition of Table 8-5, and a state other than FREE has a code other than 0, so a
transition to it does not ask whether the record is in a batch. -/
theorem stateCodes : Obligations.StateCodes := by
  refine ⟨rfl, State.inState_iff, fun x f s h hi => ⟨fun hunused => ?_, fun a b hsrc hdst hin hallowed hb => ?_⟩⟩
  · exact congrArg _ (doCstate_of_refused h hi (.inr (cstateAllowed_of_unused hunused)))
  · have hcode : b.code ≠ 0 := mt ReqState.code_eq_zero.1 hb
    rw [← hsrc, ← hdst] at hallowed
    rw [← hdst] at hcode ⊢
    exact congrArg _ (doCstate_of_allowed h hi ((beq_iff_eq.1 hin).trans hsrc.symm) hallowed fun h0 => absurd h0 hcode)

/-! ### Validation (R178, R179) -/

section
variable {p : Fin 64}

/-- The entry at the head of a partition's batch ring. -/
def State.batchSlot (s : State) (p : Nat) : Nat :=
  ringSlot (s.rd (CAT_P_BASE.DPA p 2)) (s.catSize p 2) (s.rd (catHead p 2)) 8

/-- The DPA of the descriptor that this entry names. -/
def State.batchDpa (s : State) (p : Nat) : Nat := getBits (s.word (s.batchSlot p)) 0 48

/-- The catalogue may take the entry, and its descriptor's header can be read. -/
abbrev State.batchReady (s : State) (p : Fin 64) : Prop :=
  s.catHas p 2 = true ∧ s.cqRoom p = true ∧ s.cqClear p = true ∧ s.cat.batches.length < 256 ∧
  s.storeStatus (s.batchSlot p) 8 = .ok ∧ getBits (s.word (s.batchSlot p)) 48 16 = 0 ∧ s.batchDpa p % 64 = 0 ∧
  s.accessStatus (s.batchDpa p) 64 = .ok

/-- What becomes of an entry whose header can be read: it ends at once where COUNT is 0, enters the table where it passes R179's
checks, and ends with their status where it does not, with a record of a list entry that could not be read. -/
def State.validateHeader (s : State) (p : Nat) : State :=
  let k := s.rd (catHead p 2)
  let a := s.batchDpa p
  let hdr := s.words a 8
  let t := s.addMod (catHead p 2) 1
  let r := s.batchCheck p a hdr
  let bad := a + 64 + 8 * r.index
  if getBits (hdr.getD 0 0) 0 16 = 0 then t.endDescriptor p k {} (hdr.getD 1 0)
  else if r.status = .ok then t.enterBatch (t.makeBatch p a hdr) hdr
  else if r.status = .uncorrected ∨ r.status = .linkFailed then
    (t.noteAccess false (memReport Blk.CAT.code 0 0xFF (some p) bad) bad 8).endDescriptor p k r (hdr.getD 1 0)
  else t.endDescriptor p k r (hdr.getD 1 0)

theorem doBatchValidate_of_ready (h : s.batchReady p) : doBatchValidate p s = s.validateHeader p := by
  obtain ⟨hhas, hroom, hclear, hspace, hentry, hreserved, haligned, hheader⟩ := h
  unfold State.batchDpa State.batchSlot at haligned hheader
  unfold State.batchSlot at hentry hreserved
  simp only [doBatchValidate]
  rw [if_neg (by simp [hhas, hroom, hclear, hspace, hentry]), if_neg (by simp [hentry]),
    if_neg (by simp [hreserved, haligned]), if_neg (by simp [hheader])]
  rfl

/-- A partition's descriptors wait in their ring while the table is full. -/
theorem doBatchValidate_of_full (h : 256 ≤ s.cat.batches.length) : doBatchValidate p s = s :=
  if_pos (by simp [h])

/-! ### Dispatch (R132, R181) -/

/-- The first pre-empted group of a partition whose galleries are all in LC. -/
def State.preemptedGroup (s : State) (p : Nat) : Option Preempt :=
  s.cat.preempts.find? (fun x => x.part == p && x.gals.all (fun g => s.galState g == 3))

theorem doBatchDispatch_of_preempted {x : Preempt} (h : s.preemptedGroup p = some x) :
    doBatchDispatch p s = s.dispatchPreempting x := by
  unfold State.preemptedGroup at h
  simp only [doBatchDispatch, h]

theorem doBatchDispatch_of_queued {b : Batch} {grp : Nat} (h : s.preemptedGroup p = none)
    (hb : s.firstQueued p false = some b) (hgrp : s.chooseGroup b = some grp) :
    doBatchDispatch p s = s.dispatch b grp (s.groupGals p grp) false := by
  unfold State.preemptedGroup at h
  simp only [doBatchDispatch, h, hb, hgrp]

theorem doBatchDispatch_of_idle (h : s.preemptedGroup p = none) (hb : s.firstQueued p false = none) :
    doBatchDispatch p s = s := by
  unfold State.preemptedGroup at h
  simp only [doBatchDispatch, h, hb]

/-! ### The request for pre-emption (R182) -/

/-- The state in which the catalogue has asked a group for pre-emption. -/
def State.askPreempt (s : State) (p grp : Nat) : State :=
  State.commitPreempt { s with cat := { s.cat with
    preempts := s.cat.preempts ++ [{ part := p, group := grp, gals := s.groupGals p grp }] } } (s.groupGals p grp) 1

/-- The group whose newest dispatch is the latest, of those the catalogue may pre-empt. -/
def State.groupToPreempt (s : State) (p : Nat) : Option Nat :=
  firstBy (fun grp => s.cat.nextDispatch + 1 - s.newestDispatch p grp) ((List.range 16).filter (fun grp => s.preemptable p grp))

theorem doBatchPreemptRequest_of_waited {b : Batch} {grp : Nat} (hb : s.firstQueued p true = some b)
    (hen : s.on (CAT_P_ADMIT.PREEMPT_EN p) = true) (hwaited : s.rd (CAT_P_ADMIT.PREEMPT_WAIT p) ≤ s.mer - b.waitFrom)
    (hnone : s.chooseGroup b = none) (hpending : ∀ x ∈ s.cat.preempts, x.part ≠ p.val)
    (hgrp : s.groupToPreempt p = some grp) : doBatchPreemptRequest p s = s.askPreempt p grp := by
  have hasks : (s.on (CAT_P_ADMIT.PREEMPT_EN p) && decide (s.rd (CAT_P_ADMIT.PREEMPT_WAIT p) ≤ s.mer - b.waitFrom) &&
      (s.chooseGroup b).isNone && s.cat.preempts.all (fun x => x.part != p.val)) = true := by
    simpa [hen, hwaited, hnone] using hpending
  unfold State.groupToPreempt at hgrp
  simp only [doBatchPreemptRequest, hb, hasks, hgrp, if_true]
  rfl

theorem doBatchPreemptRequest_of_disabled (hen : s.on (CAT_P_ADMIT.PREEMPT_EN p) = false) :
    doBatchPreemptRequest p s = s := by
  unfold doBatchPreemptRequest
  split
  · rfl
  · simp only [hen, Bool.false_and, Bool.false_eq_true, if_false]

end

/-! ### The return of slots (R131, R183) -/

section
variable {c : Agent} {g n : Fin 16}

theorem doGalBatchDone_of_held (hmay : s.mayWriteGal c g = true) (hn : n.val ≤ s.outstanding g) :
    doGalBatchDone c g n s = State.returnSlots g n s := by
  rw [doGalBatchDone, if_neg (by simp [hmay]), if_neg (Nat.not_lt.2 hn)]

theorem doGalBatchDone_of_excess (hmay : s.mayWriteGal c g = true) (hn : s.outstanding g < n.val) :
    doGalBatchDone c g n s = s.countRefused .GAL g := by
  rw [doGalBatchDone, if_neg (by simp [hmay]), if_pos hn]

end

/-- Settles O29: each command is followed to the branch its conditions choose; a status of BAD_LENGTH or REFUSED_POLICY is neither
OK nor that of an entry that could not be read, so nothing but the descriptor's end is left. -/
theorem batches : Obligations.Batches := by
  intro s p c g n k slot a hdr t ready count pre
  refine ⟨fun hready hcount => ?_, fun hready hcount hok => ?_, fun hready hcount hbad => ?_,
    fun hfull => congrArg _ (doBatchValidate_of_full hfull),
    fun b grp hpre hb hgrp => congrArg _ (doBatchDispatch_of_queued hpre hb hgrp),
    fun x hpre => congrArg _ (doBatchDispatch_of_preempted hpre),
    fun hpre hb => congrArg _ (doBatchDispatch_of_idle hpre hb),
    fun b grp hb hen hwaited hnone hpending hgrp =>
      congrArg _ (doBatchPreemptRequest_of_waited hb hen hwaited hnone hpending hgrp),
    fun hen => congrArg _ (doBatchPreemptRequest_of_disabled hen), fun hready hmay hn => ?_, fun hready hmay hn => ?_⟩
  · rw [exec_batchValidate, doBatchValidate_of_ready hready]
    exact congrArg _ (if_pos hcount)
  · rw [exec_batchValidate, doBatchValidate_of_ready hready]
    exact congrArg _ ((if_neg hcount).trans (if_pos hok))
  · have hok : (s.batchCheck p a hdr).status ≠ .ok := by rcases hbad with h | h <;> simp [h]
    have hread : ¬ ((s.batchCheck p a hdr).status = .uncorrected ∨ (s.batchCheck p a hdr).status = .linkFailed) := by
      rcases hbad with h | h <;> simp [h]
    rw [exec_batchValidate, doBatchValidate_of_ready hready]
    exact congrArg _ ((if_neg hcount).trans ((if_neg hok).trans (if_neg hread)))
  · rw [exec_galBatchDone, execGalBatchDone, State.whenReady_of_ready hready, doGalBatchDone_of_held hmay hn]
  · rw [exec_galBatchDone, execGalBatchDone, State.whenReady_of_ready hready, doGalBatchDone_of_excess hmay hn]

end Sys2Proof.Machine
end

section
/-! The almanac: its commands and the moves they start (R257 to R259, Table 12-6), and the adapter slots that its entries back
(R232 to R237, Table 11-4). -/

namespace Sys2Proof.Machine

open Sys2Proof

variable {s : State} {a : Agent} {q : Nat}

/-! ### The way of a command to its decision (R258, R362) -/

/-- The almanac is READY, and the agent may command it for partition `q`. -/
abbrev State.almTakes (s : State) (a : Agent) (p q : Nat) : Prop :=
  s.ready .ALM 0 = true ∧ s.actingPart a p = some q ∧ s.mayWritePart a q = true

/-- What a decision leaves: its state, with the outcome in the entry and in the agent's result. -/
abbrev almDecided (a : Agent) (q e : Nat) (r : State × Status) : State := (r.1.almLast q e r.2).almResult a.code e r.2

theorem State.almCommand_of_takes {p e : Nat} {f : State → Nat → State × Status} (h : s.almTakes a p q) :
    s.whenReady .ALM 0 (fun t => t.almCommand a e p (f t)) = almDecided a q e (f s q) := by
  obtain ⟨hready, hacting, hmay⟩ := h
  rw [State.whenReady_of_ready hready]
  simp only [State.almCommand, hacting, hmay, Bool.not_true, Bool.false_eq_true, if_false]

theorem State.adpCommand_of_takes {p i : Nat} {f : State → Nat → State} (h : s.almTakes a p q) :
    s.whenReady .ALM 0 (fun t => t.adpCommand a i p (f t)) = f s q := by
  obtain ⟨hready, hacting, hmay⟩ := h
  rw [State.whenReady_of_ready hready]
  simp only [State.adpCommand, hacting, hmay, Bool.not_true, Bool.false_eq_true, if_false]

/-- The decision of an EVICT. -/
def State.almEvict (s : State) (e q : Nat) : State × Status :=
  if s.almIn e q [2, 3] ∧ s.rd (ALM_E_W0.PINS e) = 0 then (s.startEvict e, .ok) else (s, .refusedPolicy)

/-- The state without an entry: its units unhomed and its words 0. -/
def State.unregistered (s : State) (e q : Nat) : State :=
  (List.range 8).foldl (fun t i => t.setReg ((ALM_E_W0.STATE e).off + 8 * i) 0)
    ((List.range (s.almUnits e)).foldl (fun t i => t.unhome q (s.almSpace e) (s.almFirst e + i)) s)

/-- The decision of an UNREGISTER. -/
def State.almUnregister (s : State) (e q : Nat) : State × Status :=
  if s.almIn e q [1] ∧ s.rd (ALM_E_W0.PINS e) = 0 then (s.unregistered e q, .ok) else (s, .refusedPolicy)

section
variable {e : Fin 4096} {p : Fin 64}

theorem exec_almRegister_of_takes (h : s.almTakes a p q) :
    exec (.almRegister a e p) s = .next (almDecided a q e (s.almRegister a e q)) :=
  (exec_almRegister ..).trans (congrArg _ (State.almCommand_of_takes h))

theorem exec_almPin_of_takes (h : s.almTakes a p q) :
    exec (.almPin a e p) s = .next (almDecided a q e (s.almPin e q)) :=
  (exec_almPin ..).trans (congrArg _ (State.almCommand_of_takes h))

theorem exec_almUnpin_of_takes (h : s.almTakes a p q) :
    exec (.almUnpin a e p) s = .next (almDecided a q e (s.almUnpin e q)) :=
  (exec_almUnpin ..).trans (congrArg _ (State.almCommand_of_takes h))

theorem exec_almLoad_of_takes (h : s.almTakes a p q) :
    exec (.almLoad a e p) s = .next (almDecided a q e (s.almLoad e q)) :=
  (exec_almLoad ..).trans (congrArg _ (State.almCommand_of_takes h))

theorem exec_almEvict_of_takes (h : s.almTakes a p q) :
    exec (.almEvict a e p) s = .next (almDecided a q e (s.almEvict e q)) :=
  (exec_almEvict ..).trans (congrArg _ (State.almCommand_of_takes (f := fun t r => t.almEvict e r) h))

theorem exec_almUnregister_of_takes (h : s.almTakes a p q) :
    exec (.almUnregister a e p) s = .next (almDecided a q e (s.almUnregister e q)) :=
  (exec_almUnregister ..).trans (congrArg _ (State.almCommand_of_takes (f := fun t r => t.almUnregister e r) h))

/-- An ADVANCE of an entry that no other ADVANCE moves is decided at once (R259). -/
theorem exec_almAdvance_of_takes (h : s.almTakes a p q) (hidle : s.advancing e = false) :
    exec (.almAdvance a e p) s =
      .next (almDecided a q e (s.almAdvance e q (s.rdPriv a.code ALM_CMD_ARG.ARG % 65536))) := by
  obtain ⟨hready, hacting, hmay⟩ := h
  rw [exec_almAdvance, execAlmAdvance, State.whenReady_of_ready hready]
  simp only [doAlmAdvance, hacting, hmay, hidle, Bool.not_true, Bool.false_eq_true, and_false, if_false]

end

/-! ### The decisions (Table 12-6) -/

/-- A search finds nothing where none of the indices it tries satisfies the predicate. -/
theorem firstFrom_eq_none_iff {f : Nat → Bool} {n i : Nat} :
    firstFrom f n i = none ↔ ∀ j, i ≤ j → j < i + n → f j = false := by
  induction n generalizing i with
  | zero => exact iff_of_true rfl fun j hle hlt => absurd hlt (by omega)
  | succ n ih =>
    cases hi : f i with
    | true => simpa [firstFrom, hi] using ⟨i, le_rfl, by omega, hi⟩
    | false =>
      simp only [firstFrom, hi, Bool.false_eq_true, if_false, ih]
      refine ⟨fun h j hle hlt => ?_, fun h j hle hlt => h j (by omega) (by omega)⟩
      obtain rfl | hne := eq_or_ne j i
      · exact hi
      · exact h j (by omega) (by omega)

theorem allBelow_iff {n : Nat} {f : Nat → Bool} : allBelow n f = true ↔ ∀ i, i < n → f i = true := by
  simp [allBelow, firstBelow, firstFrom_eq_none_iff]

section
variable {e : Nat}

/-- The entry is the partition's and in one of some states, none of which is that of a free entry. -/
theorem State.almIn_iff {sts : List Nat} (hsts : 0 ∉ sts) :
    s.almIn e q sts = true ↔ s.almPart e = q ∧ s.almState e ∈ sts := by
  simp only [State.almIn, bne_iff_ne, beq_iff_eq, List.contains_iff_mem, Bool.and_eq_true, ne_eq, and_assoc]
  exact and_iff_right_of_imp fun ⟨_, hst⟩ h0 => hsts (h0 ▸ hst)

/-- The entry is the partition's and registered. -/
theorem State.almIn_all_iff : s.almIn e q [1, 2, 3, 4] = true ↔
    s.almPart e = q ∧ (s.almState e = 1 ∨ s.almState e = 2 ∨ s.almState e = 3 ∨ s.almState e = 4) := by
  simp [State.almIn_iff]

theorem State.almIn_absent_iff : s.almIn e q [1] = true ↔ s.almPart e = q ∧ s.almState e = 1 := by
  simp [State.almIn_iff]

theorem State.almIn_resident_iff : s.almIn e q [3] = true ↔ s.almPart e = q ∧ s.almState e = 3 := by
  simp [State.almIn_iff]

theorem State.almIn_loaded_iff :
    s.almIn e q [2, 3] = true ↔ s.almPart e = q ∧ (s.almState e = 2 ∨ s.almState e = 3) := by
  simp [State.almIn_iff]

/-- REGISTER of a free entry without tags, by a good descriptor that can be read, over units none of which is homed. -/
theorem State.almRegister_of_free {d : Nat} {ws : List Word} (hd : d = s.rdPriv a.code ALM_CMD_ARG.ARG) (hws : ws = s.words d 8)
    (hread : s.accessStatus d 64 = .ok) (hgood : s.registerBad q ws = false) (htags : getBits (ws.getD 4 0) 0 48 = 0)
    (hfree : s.almState e = 0)
    (hunhomed : ∀ i, i < getBits (ws.getD 2 0) 0 32 →
      (s.entry q (kindSpace (getBits (ws.getD 0 0) 4 3)) (getBits (ws.getD 1 0) 0 53 / 8192 + i)).homed = false) :
    s.almRegister a e q = (((s.writeAlmEntry e q ws).homeBacking e 0).countResident e, .ok) := by
  have hstatus : (s.accessStatus d 64).worse (if getBits (ws.getD 4 0) 0 48 = 0 then .ok else
      s.accessStatus (getBits (ws.getD 4 0) 0 48) (4 * getBits (ws.getD 2 0) 0 32)) = .ok := by
    rw [hread, if_pos htags]
    rfl
  have hroom : allBelow (getBits (ws.getD 2 0) 0 32) (fun i =>
      !(s.entry q (kindSpace (getBits (ws.getD 0 0) 4 3)) (getBits (ws.getD 1 0) 0 53 / 8192 + i)).homed) = true :=
    allBelow_iff.2 fun i hi => by rw [hunhomed i hi]; rfl
  simp only [State.almRegister, ← hd, ← hws]
  rw [if_neg (not_not.2 hread), if_neg (Bool.eq_false_iff.1 hgood), if_neg (not_not.2 hstatus),
    if_neg (by rw [hroom]; simp [hfree]), htags]

theorem State.almPin_of_mine (hpart : s.almPart e = q)
    (hst : s.almState e = 1 ∨ s.almState e = 2 ∨ s.almState e = 3 ∨ s.almState e = 4)
    (hpins : s.rd (ALM_E_W0.PINS e) < 65535) :
    s.almPin e q = (s.wr (ALM_E_W0.PINS e) (s.rd (ALM_E_W0.PINS e) + 1), .ok) :=
  if_pos ⟨State.almIn_all_iff.2 ⟨hpart, hst⟩, hpins⟩

theorem State.almPin_of_refused (h : s.almPart e ≠ q ∨ s.almState e = 0 ∨ s.rd (ALM_E_W0.PINS e) = 65535) :
    s.almPin e q = (s, .refusedPolicy) :=
  if_neg (by rw [State.almIn_all_iff]; omega)

theorem State.almUnpin_of_mine (hpart : s.almPart e = q)
    (hst : s.almState e = 1 ∨ s.almState e = 2 ∨ s.almState e = 3 ∨ s.almState e = 4)
    (hpins : 0 < s.rd (ALM_E_W0.PINS e)) :
    s.almUnpin e q = (s.wr (ALM_E_W0.PINS e) (s.rd (ALM_E_W0.PINS e) - 1), .ok) :=
  if_pos ⟨State.almIn_all_iff.2 ⟨hpart, hst⟩, hpins⟩

theorem State.almUnpin_of_refused (h : s.almPart e ≠ q ∨ s.almState e = 0 ∨ s.rd (ALM_E_W0.PINS e) = 0) :
    s.almUnpin e q = (s, .refusedPolicy) :=
  if_neg (by rw [State.almIn_all_iff]; omega)

/-- A LOAD into the tier of the backing frames takes no frames, so it is not refused for want of them (R250). -/
theorem State.almLoad_status_of_backed (hpart : s.almPart e = q) (hst : s.almState e = 1) (hbacked : s.almBacked e = true) :
    (s.almLoad e q).2 = .ok := by
  rw [State.almLoad, if_neg (by simp [State.almIn_absent_iff.2 ⟨hpart, hst⟩]), if_neg (by simp [hbacked])]

theorem State.almLoad_of_refused (h : s.almPart e ≠ q ∨ s.almState e ≠ 1) : s.almLoad e q = (s, .refusedPolicy) :=
  if_pos (by rw [Bool.not_eq_true', Bool.eq_false_iff, ne_eq, State.almIn_absent_iff]; omega)

theorem State.almEvict_of_mine (hpart : s.almPart e = q) (hst : s.almState e = 2 ∨ s.almState e = 3)
    (hpins : s.rd (ALM_E_W0.PINS e) = 0) : s.almEvict e q = (s.startEvict e, .ok) :=
  if_pos ⟨State.almIn_loaded_iff.2 ⟨hpart, hst⟩, hpins⟩

theorem State.almEvict_of_refused
    (h : s.almPart e ≠ q ∨ (s.almState e ≠ 2 ∧ s.almState e ≠ 3) ∨ s.rd (ALM_E_W0.PINS e) ≠ 0) :
    s.almEvict e q = (s, .refusedPolicy) :=
  if_neg (by rw [State.almIn_loaded_iff]; omega)

theorem State.almUnregister_of_mine (hpart : s.almPart e = q) (hst : s.almState e = 1)
    (hpins : s.rd (ALM_E_W0.PINS e) = 0) : s.almUnregister e q = (s.unregistered e q, .ok) :=
  if_pos ⟨State.almIn_absent_iff.2 ⟨hpart, hst⟩, hpins⟩

theorem State.almUnregister_of_refused (h : s.almPart e ≠ q ∨ s.almState e ≠ 1) :
    s.almUnregister e q = (s, .refusedPolicy) :=
  if_neg (by rw [State.almIn_absent_iff]; omega)

/-- A register word that is 0, or that is among those set to 0, is 0 once they are set. -/
theorem State.reg_foldl_setReg_zero {k : Nat → Nat} {o : Nat} {l : List Nat} (h : s.reg o = 0 ∨ ∃ i ∈ l, k i = o) :
    (l.foldl (fun t i => t.setReg (k i) 0) s).reg o = 0 := by
  induction l generalizing s with
  | nil => simpa using h
  | cons i l ih =>
    refine ih ?_
    by_cases hi : k i = o
    · exact .inl (hi ▸ State.reg_setReg_self ..)
    · rw [State.reg_setReg_other _ _ (Ne.symm hi)]
      exact h.imp_right fun ⟨j, hj, hjo⟩ => ⟨j, (List.mem_cons.1 hj).resolve_left fun hji => hi (hji ▸ hjo), hjo⟩

theorem State.almState_unregistered : (s.unregistered e q).almState e = 0 := by
  have hword : (s.unregistered e q).reg (ALM_E_W0.STATE e).off = 0 :=
    State.reg_foldl_setReg_zero (.inr ⟨0, by simp, rfl⟩)
  change getBits ((s.unregistered e q).reg (ALM_E_W0.STATE e).off) 0 3 = 0
  rw [hword]
  rfl

/-- An ADVANCE of a RESIDENT window entry from its first window layer starts the next. -/
theorem State.almAdvance_status_of_first (hpart : s.almPart e = q) (hst : s.almState e = 3) (hwindow : s.almWindow e ≠ 0) :
    (s.almAdvance e q (s.rd (ALM_E_W5.WIN_FIRST e))).2 = .ok := by
  simp only [State.almAdvance]
  rw [if_neg (by simp [State.almIn_resident_iff.2 ⟨hpart, hst⟩, hwindow])]

end

theorem almanacCommands : Claims.AlmanacCommands := by
  intro s a e p q hacting hmay hready ends refused mine st pins some4
  have h : s.almTakes a p q := ⟨hready, hacting, hmay⟩
  refine ⟨exec_almRegister_of_takes h, fun hread hgood htags hfree hunhomed => ?register, fun hpart hst hpins => ?pin,
    fun hno => ?pinRefused, fun hpart hst hpins => ?unpin, fun hno => ?unpinRefused,
    fun hpart hst hbacked => ⟨exec_almLoad_of_takes h, State.almLoad_status_of_backed hpart hst hbacked⟩,
    fun hno => ⟨?loadRefused, ?unregisterRefused⟩, fun hpart hst hpins => ?evict, fun hno => ?evictRefused,
    fun hpart hst hpins => ⟨s.unregistered e q, ?unregister, State.almState_unregistered⟩,
    fun _ _ hidle => exec_almAdvance_of_takes h hidle, State.almAdvance_status_of_first,
    fun hst => ?evictDone, fun hst => ?notEvicting⟩
  case register => exact State.almRegister_of_free rfl rfl hread hgood htags hfree hunhomed
  case pin => rw [exec_almPin_of_takes h, State.almPin_of_mine hpart hst hpins]
  case pinRefused => rw [exec_almPin_of_takes h, State.almPin_of_refused hno]
  case unpin => rw [exec_almUnpin_of_takes h, State.almUnpin_of_mine hpart hst hpins]
  case unpinRefused => rw [exec_almUnpin_of_takes h, State.almUnpin_of_refused hno]
  case loadRefused => rw [exec_almLoad_of_takes h, State.almLoad_of_refused hno]
  case unregisterRefused => rw [exec_almUnregister_of_takes h, State.almUnregister_of_refused hno]
  case evict => rw [exec_almEvict_of_takes h, State.almEvict_of_mine hpart hst hpins]
  case evictRefused => rw [exec_almEvict_of_takes h, State.almEvict_of_refused hno]
  case unregister => rw [exec_almUnregister_of_takes h, State.almUnregister_of_mine hpart hst hpins]
  case evictDone => exact (exec_almEvictDone ..).trans (congrArg _ (if_pos hst))
  case notEvicting => exact (exec_almEvictDone ..).trans (congrArg _ (if_neg hst))

/-! ### Confirmed moves (R258, R259) -/

section
variable {e : Fin 4096} {frames : List Nat}

/-- The state in which a migration no longer runs and its units have the homes given. -/
def State.migrated (s : State) (m : Migration) (frames : List Nat) : State :=
  (List.range m.count).foldl (fun t i => t.moveUnit m (m.first + i) (frames.getD i 0))
    { s with stw := { s.stw with migs := s.stw.migs.erase m } }

theorem doAlmMoveConfirmed_of_load {m : Migration}
    (hfound : s.stw.migs.find? (fun x => x.kind.entry == some e.val) = some m) (hkind : m.kind = .almLoad e)
    (hframes : frames.length = (if s.almBacked e then 0 else m.count)) (hfree : s.framesFree m.part m.tier frames = true) :
    doAlmMoveConfirmed e frames s =
      (((((((s.migrated m frames).countResident e).inc (STW_P_MIGRATIONS.COUNT m.part)).wr (ALM_E_W7.LAST_STATUS e)
        Status.ok.code).wr (ALM_E_W0.STATE e) 3).inc ALM_LOADS.COUNT).almToken e) := by
  simp only [doAlmMoveConfirmed, hfound, hkind]
  exact if_pos ⟨hframes, hfree⟩

theorem doAlmMoveConfirmed_of_none (hnone : s.stw.migs.find? (fun x => x.kind.entry == some e.val) = none) :
    doAlmMoveConfirmed e frames s = s := by
  simp only [doAlmMoveConfirmed, hnone]

end

theorem almanacMoves : Claims.AlmanacMoves := fun _ _ _ _ =>
  ⟨fun hfound hkind hframes hfree =>
    (exec_almMoveConfirmed ..).trans (congrArg _ (doAlmMoveConfirmed_of_load hfound hkind hframes hfree)),
  fun hnone => (exec_almMoveConfirmed ..).trans (congrArg _ (doAlmMoveConfirmed_of_none hnone))⟩

/-! ### Adapter slots (R232 to R237) -/

/-- What R234 asks of a LOAD of a slot: it is EMPTY, and the entry is an adapter of the partition that backs no slot and takes
a pin. -/
abbrev State.adpFits (s : State) (i n q : Nat) : Prop :=
  s.adpState i = 0 ∧ s.almState n ≠ 0 ∧ s.rd (ALM_E_W0.KIND n) = 2 ∧ s.almPart n = q ∧ s.adpBacks n = false ∧
  s.rd (ALM_E_W0.PINS n) ≠ 65535

/-- The state in which a slot has taken its version and its entry, and is LOADING (R233). -/
def State.adpTaken (s : State) (i n q : Nat) : State :=
  let ver := s.rd ALM_ADP_NEXTVER.VERSION
  (((((s.wr ALM_ADP_NEXTVER.VERSION (if ver = 65535 then 1 else ver + 1)).wr (ALM_ADP_W0.PART i) q).wr
    (ALM_ADP_W0.VERSION i) ver).wr (ALM_ADP_W0.ALM_ENTRY i) n).wr (ALM_ADP_W0.REFS i) 0).setAdpState i 1

/-- An ABSENT entry's LOAD, which the LOAD of a slot starts. -/
def State.loadAbsent (s : State) (n q : Nat) : State :=
  if s.almState n = 1 then (s.almLoad n q).1.almLast q n (s.almLoad n q).2 else s

/-- What a LOAD of a slot leaves, for the partition it is decided for. -/
def State.adpLoad (s : State) (a : Agent) (i n q : Nat) : State :=
  if 4096 ≤ n then s.adpResult a.code i .badLength 0
  else if s.adpState i ≠ 0 ∨ s.almState n = 0 ∨ s.rd (ALM_E_W0.KIND n) ≠ 2 ∨ s.almPart n ≠ q ∨ s.adpBacks n ∨
      s.rd (ALM_E_W0.PINS n) = 65535 then s.adpRefuse a.code i .refusedPolicy
  else
    ((((s.adpTaken i n q).almPin n q).1.loadAbsent n q).inc ALM_ADP_LOADS.COUNT).adpResult a.code i .ok
      (s.rd ALM_ADP_NEXTVER.VERSION)

/-- What a RETIRE of a slot leaves, for the partition it is decided for. -/
def State.adpRetire (s : State) (a : Agent) (i q : Nat) : State :=
  if (s.adpState i = 1 ∨ s.adpState i = 2) ∧ s.rd (ALM_ADP_W0.PART i) = q then
    (s.setAdpState i 3).adpResult a.code i .ok 0
  else s.adpRefuse a.code i .refusedPolicy

section
variable {i : Fin 256} {p : Fin 64} {n : Nat}

theorem exec_adpLoad_of_takes {e : BitVec 16} (h : s.almTakes a p q) :
    exec (.adpLoad a i p e) s = .next (s.adpLoad a i e.toNat q) :=
  (exec_adpLoad ..).trans (congrArg _ (State.adpCommand_of_takes (f := fun t r => t.adpLoad a i e.toNat r) h))

theorem exec_adpRetire_of_takes (h : s.almTakes a p q) : exec (.adpRetire a i p) s = .next (s.adpRetire a i q) :=
  (exec_adpRetire ..).trans (congrArg _ (State.adpCommand_of_takes (f := fun t r => t.adpRetire a i r) h))

theorem State.adpLoad_of_unfit (hn : n < 4096) (h : ¬ s.adpFits i n q) :
    s.adpLoad a i n q = s.adpRefuse a.code i .refusedPolicy := by
  rw [State.adpLoad, if_neg (Nat.not_le.2 hn)]
  exact if_pos (by simpa [State.adpFits, imp_iff_not_or] using h)

theorem State.adpLoad_of_fits (hn : n < 4096) (h : s.adpFits i n q) :
    s.adpLoad a i n q =
      ((((s.adpTaken i n q).almPin n q).1.loadAbsent n q).inc ALM_ADP_LOADS.COUNT).adpResult a.code i .ok
        (s.rd ALM_ADP_NEXTVER.VERSION) := by
  obtain ⟨hempty, hregistered, hkind, hpart, hbacks, hpins⟩ := h
  rw [State.adpLoad, if_neg (Nat.not_le.2 hn)]
  exact if_neg (by simp [hempty, hregistered, hkind, hpart, hbacks, hpins])

theorem State.adpRetire_of_refused
    (h : (s.adpState i ≠ 1 ∧ s.adpState i ≠ 2) ∨ s.rd (ALM_ADP_W0.PART i) ≠ q) :
    s.adpRetire a i q = s.adpRefuse a.code i .refusedPolicy :=
  if_neg (by omega)

theorem doAdpSlotReady_of_not
    (h : s.inLanding = false ∨ s.adpState i ≠ 1 ∨ s.almInMemory (s.rd (ALM_ADP_W0.ALM_ENTRY i)) = false) :
    doAdpSlotReady i s = s :=
  if_neg (by rintro ⟨hlanding, hloading, hmem⟩; simp [hlanding, hloading, hmem] at h)

theorem doAdpSlotEmpty_of_not
    (h : s.inLanding = false ∨ s.adpState i ≠ 3 ∨ s.rd (ALM_ADP_W0.REFS i) ≠ 0) : doAdpSlotEmpty i s = s :=
  if_neg (by rintro ⟨hlanding, hretiring, hrefs⟩; simp [hlanding, hretiring, hrefs] at h)

end

theorem adapterSlots : Claims.AdapterSlots := by
  intro s a i p e q ok n fit ver refused owner back
  refine ⟨fun h hn => ?tooLarge, fun h hn hfit => ?unfit, fun h hn hfit => ?load, fun h hst howner => ?retire,
    fun h hno => ?retireRefused, fun hlanding hst hmem => ?ready, fun hno => ?notReady,
    fun hlanding hst hrefs => ?empty, fun hno => ?notEmpty⟩
  case tooLarge => exact (exec_adpLoad_of_takes h).trans (congrArg _ (if_pos hn))
  case unfit => exact (exec_adpLoad_of_takes h).trans (congrArg _ (State.adpLoad_of_unfit hn hfit))
  case load => exact (exec_adpLoad_of_takes h).trans (congrArg _ (State.adpLoad_of_fits hn hfit))
  case retire => exact (exec_adpRetire_of_takes h).trans (congrArg _ (if_pos ⟨hst, howner⟩))
  case retireRefused => exact (exec_adpRetire_of_takes h).trans (congrArg _ (State.adpRetire_of_refused hno))
  case ready => exact (exec_adpSlotReady ..).trans (congrArg _ (if_pos ⟨hlanding, hst, hmem⟩))
  case notReady => exact (exec_adpSlotReady ..).trans (congrArg _ (doAdpSlotReady_of_not hno))
  case empty => exact (exec_adpSlotEmpty ..).trans (congrArg _ (if_pos ⟨hlanding, hst, hrefs⟩))
  case notEmpty => exact (exec_adpSlotEmpty ..).trans (congrArg _ (doAdpSlotEmpty_of_not hno))

/-- Settles O34: an agent's command reaches its decision, whose branch the entry's or the slot's state chooses; a confirmed move
and the steps of a landing are followed to theirs. -/
theorem almanacAndAdapters : Obligations.AlmanacAndAdapters := ⟨almanacCommands, almanacMoves, adapterSlots⟩

end Sys2Proof.Machine
end

section
/-! The work requests that the heliostat engine starts, operation by operation (Table 13-2, R270, R282, R288, R292, R293). -/

namespace Sys2Proof.Machine

open Sys2Proof

variable {s t : State} {q p i n : Nat} {e : QEntry} {ops : Nat → Bool} {eff : Nat → State → State}

/-! ### A request that starts (R269, R270) -/

/-- The engine takes this entry next, and its form and its arm let it start. -/
abbrev State.startsWr (s : State) (q : Nat) (e : QEntry) (p i : Nat) : Prop :=
  s.takesWr q e p i ∧ wrLegal e.words = true ∧ (wrArm e.words = true → e.fired = true)

/-- The in-flight request that an entry becomes. -/
def QEntry.asWr (e : QEntry) (p start : Nat) : Wr :=
  { words := e.words, unit := e.unit, ictx := e.ictx, part := p, fired := e.fired, start := start }

theorem State.takeWr_of_starts (h : s.startsWr q e p i) (hop : ops (wrOp e.words) = true) :
    s.takeWr ops eff = eff i (s.takenWr q e p i) := by
  obtain ⟨htakes, hform, harm⟩ := h
  rw [State.takeWr_of_takes htakes hop, State.runEntry_eq (State.freeWr_servedQueue htakes), State.takenWr_eq,
    if_neg (by simp [hform]), if_neg (by simpa using harm)]

/-- A command of another OP than that of the entry leaves the entry in its queue (log 104). -/
theorem State.takeWr_of_other (h : s.takesWr q e p i) (hop : ops (wrOp e.words) = false) : s.takeWr ops eff = s := by
  obtain ⟨hq, he, -, -⟩ := h
  simp [State.takeWr, hq, he, hop]

theorem State.takeWr_of_otherOp {k : Nat} (h : s.takesWr q e p i) (hop : wrOp e.words ≠ k) :
    s.takeWr (fun op => op == k) eff = s :=
  State.takeWr_of_other h (beq_false_of_ne hop)

@[simp] theorem State.wrAt_setWr_self (s : State) (i : Nat) (w : Wr) : (s.setWr i w).wrAt i = w := by
  simp [State.wrAt, State.setWr]

@[simp] theorem State.wrAt_wr (s : State) (f : FieldRef) (v i : Nat) : (s.wr f v).wrAt i = s.wrAt i := by
  simp [State.wrAt]

@[simp] theorem State.wrAt_takenWr (s : State) (q : Nat) (e : QEntry) (p i : Nat) :
    (s.takenWr q e p i).wrAt i = e.asWr p s.hel.starts := by
  simp [State.takenWr, State.openWr, State.inc, State.add, QEntry.asWr]

/-! ### The path of a request (R316) -/

/-- The request ends with LINK_FAILED at issue. -/
abbrev State.lostWr (t : State) (e : QEntry) (p i kind : Nat) : State :=
  (t.issueFailed p e.unit (wrRemote e.words) kind).endWrAs i .linkFailed

section
variable {k kind : Nat} {eff : Nat → State → State}

theorem State.onPath_of_some (hw : t.wrAt i = e.asWr p k)
    (hpath : t.pathTo p (wrNode e.words) (wrPart e.words) = some n) : t.onPath i kind eff = eff n t := by
  simp only [State.onPath, hw, QEntry.asWr, hpath]

theorem State.onPath_of_none (hw : t.wrAt i = e.asWr p k)
    (hpath : t.pathTo p (wrNode e.words) (wrPart e.words) = none) : t.onPath i kind eff = t.lostWr e p i kind := by
  simp only [State.onPath, hw, QEntry.asWr, hpath]

/-- The S_ATOM of a CAS or FADD on context `n`. -/
def State.sendAtomOn (t : State) (e : QEntry) (i n op : Nat) (compare operand : Word) : State :=
  let r := t.newReq { ctx := n, req := 0, kind := 0x23, owner := .wr i }
  r.1.offer { ctx := n, kind := 0x23, tk := 3, owner := .wr i,
              flds := [gfaOff (wrRemote e.words), wrKey e.words, r.2, op, compare.toNat, operand.toNat] }

theorem State.sendAtom_of_some {op : Nat} {compare operand : Word} (hw : t.wrAt i = e.asWr p k)
    (hpath : t.pathTo p (wrNode e.words) (wrPart e.words) = some n) :
    t.sendAtom i op compare operand = t.sendAtomOn e i n op compare operand := by
  rw [State.sendAtom, State.onPath_of_some hw hpath, hw]
  rfl

theorem State.sendAtom_of_none {op : Nat} {compare operand : Word} (hw : t.wrAt i = e.asWr p k)
    (hpath : t.pathTo p (wrNode e.words) (wrPart e.words) = none) :
    t.sendAtom i op compare operand = t.lostWr e p i 0x23 := by
  rw [State.sendAtom, State.onPath_of_none hw hpath]

/-- A LAYER's entry is found or opened without a change to the in-flight slots. -/
theorem State.wrAt_of_layerOpen {u : State} {w : Wr} (hopen : t.layerOpen w = some u) (i : Nat) :
    u.wrAt i = t.wrAt i := by
  unfold State.layerOpen at hopen
  split at hopen
  · rw [Option.some.inj hopen]
  · obtain ⟨h, -, rfl⟩ := Option.map_eq_some_iff.1 hopen
    simp [State.openHo, State.countHo, State.setOut, State.wrAt, List.range, List.range.loop]

end

/-! ### One equation per operation -/

/-- The record of a CKPT or RESTORE, and the bytes of its remote range. -/
abbrev wrRecord (ws : List Word) : Nat := getBits (ws.getD 4 0) 24 14
abbrev wrRoom (ws : List Word) : Nat := getBits (ws.getD 5 0) 0 40

/-- A CKPT may write its image: the record is the partition's and stands still, and the range holds the image (R292). -/
abbrev State.ckptFits (t : State) (ws : List Word) (p : Nat) : Prop :=
  t.recF (wrRecord ws) Rec.PART = p ∧ t.inStates (wrRecord ws) [.paused, .parked] = true ∧
  4096 + t.recF (wrRecord ws) Rec.PL_LEN * t.groupFrames p * 8224 ≤ wrRoom ws

theorem State.not_ckptFits_iff {ws : List Word} : ¬ t.ckptFits ws p ↔
    t.recF (wrRecord ws) Rec.PART ≠ p ∨ t.inStates (wrRecord ws) [.paused, .parked] = false ∨
      wrRoom ws < 4096 + t.recF (wrRecord ws) Rec.PL_LEN * t.groupFrames p * 8224 := by
  simp only [State.ckptFits, not_and_or, Bool.not_eq_true, Nat.not_le]

/-- A RESTORE may read the header of its image (R293). -/
abbrev State.restoreFits (t : State) (ws : List Word) (p : Nat) : Prop :=
  t.recF (wrRecord ws) Rec.PART = p ∧ t.inState (wrRecord ws) .admitted = true ∧ 4096 ≤ wrRoom ws

theorem State.not_restoreFits_iff {ws : List Word} : ¬ t.restoreFits ws p ↔
    t.recF (wrRecord ws) Rec.PART ≠ p ∨ t.inState (wrRecord ws) .admitted = false ∨ wrRoom ws < 4096 := by
  simp only [State.restoreFits, not_and_or, Bool.not_eq_true, Nat.not_le]

/-- A CKPT seals its image under slot `sl` and sends it, or ends with the status of the read that failed. -/
def State.sendImage (t : State) (e : QEntry) (w : Wr) (p i n sl : Nat) (good : Bool) : State :=
  let b := t.buildImage (wrRecord e.words) sl good
  let u := (b.1.addInUse p sl true).setWr i
    { w with phase := 1, keySlot := sl, recState := t.recState (wrRecord e.words),
             recGen := t.recF (wrRecord e.words) Rec.GEN }
  if b.2.1 ≠ .ok then
    (u.modWr i (fun w => { w with progress := u.imageProgress (wrRecord e.words) b.2.1 0 })).endWrAs i b.2.1
  else u.sendWrite n i (gfaOff (wrRemote e.words)) (wrKey e.words) (wrTag e.words) 0 none 0 b.2.2.1

section
variable (h : s.startsWr q e p i)
include h

theorem doWrNop_of_starts (hop : wrOp e.words = 0) : doWrNop s = (s.takenWr q e p i).endWrAs i .ok :=
  State.takeWr_of_starts h (by simp [hop])

theorem doWrWrite_of_starts (hop : wrOp e.words = 1) :
    doWrWrite s = if wrLen e.words = 0 then (s.takenWr q e p i).endWrAs i .ok
      else (s.takenWr q e p i).onPath i 0x20 (fun n t =>
        t.sendWrite n i (gfaOff (wrRemote e.words)) (wrKey e.words) (wrTag e.words) (getBits (e.words.getD 5 0) 0 5)
          (some (wrLocal e.words p)) (wrLen e.words) []) := by
  rw [doWrWrite, State.takeWr_of_starts h (by simp [hop])]
  simp only [State.wrAt_takenWr, QEntry.asWr]

theorem doWrRead_of_starts (hop : wrOp e.words = 2) :
    doWrRead s = if wrLen e.words = 0 then (s.takenWr q e p i).endWrAs i .ok
      else (s.takenWr q e p i).onPath i 0x21 (fun n t =>
        t.sendRead n i (gfaOff (wrRemote e.words)) (wrLen e.words) (wrKey e.words) (some (wrLocal e.words p)) 0) := by
  rw [doWrRead, State.takeWr_of_starts h (by simp [hop])]
  simp only [State.wrAt_takenWr, QEntry.asWr]

theorem doWrCas_of_starts (hop : wrOp e.words = 3) :
    doWrCas s = (s.takenWr q e p i).sendAtom i 0 (e.words.getD 5 0) (e.words.getD 6 0) := by
  rw [doWrCas, State.takeWr_of_starts h (by simp [hop])]
  simp only [State.wrAt_takenWr, QEntry.asWr]

theorem doWrFadd_of_starts (hop : wrOp e.words = 4) :
    doWrFadd s = (s.takenWr q e p i).sendAtom i 1 0 (e.words.getD 5 0) := by
  rw [doWrFadd, State.takeWr_of_starts h (by simp [hop])]
  simp only [State.wrAt_takenWr, QEntry.asWr]

theorem doWrFlush_of_starts (hop : wrOp e.words = 5) :
    doWrFlush s = (s.takenWr q e p i).onPath i 0x27 (fun n t =>
      t.issueFlush n (.wr i) 3 e.unit (some e.ictx) (wrNode e.words) (wrPart e.words) none) := by
  rw [doWrFlush, State.takeWr_of_starts h (by simp [hop])]
  simp only [State.wrAt_takenWr, QEntry.asWr]

theorem doWrOwnCas_of_starts (hop : wrOp e.words = 6) :
    doWrOwnCas s =
      if getBit (e.words.getD 7 0) 46 = true ∧
          ownEpoch (e.words.getD 5 0) < (s.takenWr q e p i).recF (getBits (e.words.getD 7 0) 32 14) Rec.OWN_EPOCH then
        (s.takenWr q e p i).endWrAs i .notOwner
      else (s.takenWr q e p i).sendOwn p (.wr i) (wrNode e.words) (wrPart e.words) 0 (e.words.getD 4 0) (e.words.getD 5 0)
        (e.words.getD 6 0) (wrMirror e.words) (getBits (e.words.getD 7 0) 0 14) (getBits (e.words.getD 7 0) 16 6) := by
  rw [doWrOwnCas, State.takeWr_of_starts h (by simp [hop])]
  simp only [State.wrAt_takenWr, QEntry.asWr]

theorem doWrOwnRead_of_starts (hop : wrOp e.words = 7) :
    doWrOwnRead s = (s.takenWr q e p i).sendOwn p (.wr i) (wrNode e.words) (wrPart e.words) 1 (e.words.getD 4 0) 0 0 false
      0 0 := by
  rw [doWrOwnRead, State.takeWr_of_starts h (by simp [hop])]
  simp only [State.wrAt_takenWr, QEntry.asWr]

theorem doWrOwnMirror_of_starts (hop : wrOp e.words = 8) :
    doWrOwnMirror s = (s.takenWr q e p i).sendOwn p (.wr i) (wrNode e.words) (wrPart e.words) 2 (e.words.getD 4 0) 0
      (e.words.getD 6 0) false 0 0 := by
  rw [doWrOwnMirror, State.takeWr_of_starts h (by simp [hop])]
  simp only [State.wrAt_takenWr, QEntry.asWr]

/-- A LAYER has work to do unless COUNT and FINAL are both 0. -/
theorem doWrLayer_of_empty (hop : wrOp e.words = 9) (hcount : getBits (e.words.getD 4 0) 8 8 = 0)
    (hfinal : wrFinal e.words = false) : doWrLayer s = (s.takenWr q e p i).endWrAs i .ok := by
  rw [doWrLayer, State.takeWr_of_starts h (by simp [hop])]
  simp only [State.wrAt_takenWr, QEntry.asWr]
  exact if_pos ⟨hcount, by simp [hfinal]⟩

section
variable (hop : wrOp e.words = 9) (hwork : getBits (e.words.getD 4 0) 8 8 ≠ 0 ∨ wrFinal e.words = true)
include hop hwork

theorem doWrLayer_of_refused {st : Status} (hcheck : (s.takenWr q e p i).layerCheck ((s.takenWr q e p i).wrAt i) = st)
    (hst : st ≠ .ok) : doWrLayer s = (s.takenWr q e p i).endWrAs i st := by
  rw [doWrLayer, State.takeWr_of_starts h (by simp [hop])]
  simp only [State.wrAt_takenWr, QEntry.asWr] at hcheck ⊢
  rw [if_neg (by simpa [imp_iff_not_or] using hwork), hcheck]
  split
  · exact absurd rfl hst
  · rfl

variable (hcheck : (s.takenWr q e p i).layerCheck ((s.takenWr q e p i).wrAt i) = .ok)
include hcheck

theorem doWrLayer_of_full (hopen : (s.takenWr q e p i).layerOpen ((s.takenWr q e p i).wrAt i) = none) :
    doWrLayer s = (s.takenWr q e p i).endWrAs i .refusedFull := by
  rw [doWrLayer, State.takeWr_of_starts h (by simp [hop])]
  simp only [State.wrAt_takenWr, QEntry.asWr] at hcheck hopen ⊢
  rw [if_neg (by simpa [imp_iff_not_or] using hwork)]
  simp only [hcheck, hopen]

theorem doWrLayer_of_open {u : State}
    (hopen : (s.takenWr q e p i).layerOpen ((s.takenWr q e p i).wrAt i) = some u) :
    doWrLayer s = u.onPath i 0x26 (fun n t =>
      if getBits (e.words.getD 4 0) 8 8 = 0 ∨ t.recF (getBits (e.words.getD 4 0) 24 14) Rec.PL_LEN = 0 ∨
          (t.layoutAt p (getBits (e.words.getD 1 0) 0 57)).noPages = true then t.layerPages i
      else t.readLists n i) := by
  rw [doWrLayer, State.takeWr_of_starts h (by simp [hop])]
  simp only [State.wrAt_takenWr, QEntry.asWr] at hcheck hopen ⊢
  rw [if_neg (by simpa [imp_iff_not_or] using hwork)]
  simp only [hcheck, hopen]

end

section
variable {good : Bool} (hop : wrOp e.words = 10)
include hop

theorem doWrCkpt_of_unfit (hunfit : ¬ (s.takenWr q e p i).ckptFits e.words p) :
    doWrCkpt good s = (s.takenWr q e p i).endWrAs i .badLength := by
  rw [doWrCkpt, State.takeWr_of_starts h (by simp [hop])]
  simp only [State.wrAt_takenWr, QEntry.asWr, Bool.not_eq_true']
  exact if_pos (State.not_ckptFits_iff.1 hunfit)

variable (hfits : (s.takenWr q e p i).ckptFits e.words p)
include hfits

theorem doWrCkpt_of_noPages (hpages : (s.takenWr q e p i).recF (wrRecord e.words) Rec.PL_LEN = 0) :
    doWrCkpt good s = (s.takenWr q e p i).endWrAs i .ok := by
  rw [doWrCkpt, State.takeWr_of_starts h (by simp [hop])]
  simp only [State.wrAt_takenWr, QEntry.asWr, Bool.not_eq_true']
  rw [if_neg (mt State.not_ckptFits_iff.2 (not_not.2 hfits)), if_pos hpages]

variable (hpages : (s.takenWr q e p i).recF (wrRecord e.words) Rec.PL_LEN ≠ 0)
include hpages

theorem doWrCkpt_of_noKey (hkey : (s.takenWr q e p i).activeSlot p = none) :
    doWrCkpt good s = (s.takenWr q e p i).endWrAs i .refusedPolicy := by
  rw [doWrCkpt, State.takeWr_of_starts h (by simp [hop])]
  simp only [State.wrAt_takenWr, QEntry.asWr, Bool.not_eq_true']
  rw [if_neg (mt State.not_ckptFits_iff.2 (not_not.2 hfits)), if_neg hpages]
  simp only [hkey]

theorem doWrCkpt_of_key {sl : Nat} (hkey : (s.takenWr q e p i).activeSlot p = some sl) :
    doWrCkpt good s = (s.takenWr q e p i).onPath i 0x20 (fun n t => t.sendImage e ((s.takenWr q e p i).wrAt i) p i n sl good) := by
  rw [doWrCkpt, State.takeWr_of_starts h (by simp [hop])]
  simp only [State.wrAt_takenWr, QEntry.asWr, Bool.not_eq_true']
  rw [if_neg (mt State.not_ckptFits_iff.2 (not_not.2 hfits)), if_neg hpages]
  simp only [hkey, State.sendImage]

end

section
variable (hop : wrOp e.words = 11)
include hop

theorem doWrRestore_of_unfit (hunfit : ¬ (s.takenWr q e p i).restoreFits e.words p) :
    doWrRestore s = (s.takenWr q e p i).endWrAs i .badLength := by
  rw [doWrRestore, State.takeWr_of_starts h (by simp [hop])]
  simp only [State.wrAt_takenWr, QEntry.asWr, Bool.not_eq_true']
  exact if_pos (State.not_restoreFits_iff.1 hunfit)

theorem doWrRestore_of_fits (hfits : (s.takenWr q e p i).restoreFits e.words p) :
    doWrRestore s = (s.takenWr q e p i).onPath i 0x21 (fun n t =>
      (t.setWr i { (s.takenWr q e p i).wrAt i with phase := 1 }).sendRead n i (gfaOff (wrRemote e.words)) 4096
        (wrKey e.words) none 0) := by
  rw [doWrRestore, State.takeWr_of_starts h (by simp [hop])]
  simp only [State.wrAt_takenWr, QEntry.asWr, Bool.not_eq_true']
  rw [if_neg (mt State.not_restoreFits_iff.2 (not_not.2 hfits))]

end

end

/-! ### The obligation -/

/-- Settles O35: a request that starts has its operation's effect on the state that holds it in its slot; there its path, its
record and its entry choose the branch. -/
theorem workRequests : Obligations.WorkRequests := by
  intro s q e p i good htakes t op w node peer gfa off key path lost ends len at_ atom rc room
  have hwr : t.wrAt i = e.asWr p s.hel.starts := State.wrAt_takenWr s q e p i
  refine ⟨fun hform harm => ?starts, fun hop hlt => ?otherNop, fun hop => ?otherWrite, fun hop => ?otherRead,
    fun hop => ?otherCas, fun hop => ?otherFadd, fun hop => ?otherFlush, fun hop => ?otherOwnCas, fun hop => ?otherOwnRead,
    fun hop => ?otherOwnMirror, fun hop => ?otherLayer, fun hop => ?otherCkpt, fun hop => ?otherRestore⟩
  case starts =>
    have h : s.startsWr q e p i := ⟨htakes, hform, harm⟩
    refine ⟨fun hop => ?nop, fun hop hlen => ?writeEmpty, fun hop hlen hpath => ?writeLost,
      fun hop hlen n hpath => ?write, fun hop hlen => ?readEmpty, fun hop hlen hpath => ?readLost,
      fun hop hlen n hpath => ?read, fun hop hpath => ?casLost, fun hop n hpath => ?cas, fun hop hpath => ?faddLost,
      fun hop n hpath => ?fadd, fun hop hpath => ?flushLost, fun hop n hpath => ?flush,
      fun hop => ⟨fun hstale => ?ownStale, fun hfresh => ?ownCas⟩, fun hop => ?ownRead, fun hop => ?ownMirror,
      fun hop => ⟨fun hcount hfinal => ?layerEmpty, fun hwork => ⟨fun hcheck => ?layerRefused, fun hcheck hopen => ?layerFull,
        fun u hcheck hopen hpath => ?layerLost, fun u n hcheck hopen hpath => ?layer⟩⟩,
      fun hop => ⟨fun hunfit => ?ckptUnfit, fun hpart hstate hroom => ⟨fun hpages => ?ckptEmpty,
        fun hpages hkey => ?ckptNoKey, fun sl hpages hkey hpath => ?ckptLost,
        fun sl n hpages hkey hpath => ⟨fun hread => ?ckpt, fun hread => ?ckptUnread⟩⟩⟩,
      fun hop => ⟨fun hunfit => ?restoreUnfit, fun hpart hstate hroom => ⟨fun hpath => ?restoreLost,
        fun n hpath => ?restore⟩⟩⟩
    case nop => rw [exec_wrNop, doWrNop_of_starts h hop]
    case writeEmpty => rw [exec_wrWrite, doWrWrite_of_starts h hop, if_pos hlen]
    case writeLost => rw [exec_wrWrite, doWrWrite_of_starts h hop, if_neg hlen, State.onPath_of_none hwr hpath]
    case write => rw [exec_wrWrite, doWrWrite_of_starts h hop, if_neg hlen, State.onPath_of_some hwr hpath]
    case readEmpty => rw [exec_wrRead, doWrRead_of_starts h hop, if_pos hlen]
    case readLost => rw [exec_wrRead, doWrRead_of_starts h hop, if_neg hlen, State.onPath_of_none hwr hpath]
    case read => rw [exec_wrRead, doWrRead_of_starts h hop, if_neg hlen, State.onPath_of_some hwr hpath]
    case casLost => rw [exec_wrCas, doWrCas_of_starts h hop, State.sendAtom_of_none hwr hpath]
    case cas => exact (exec_wrCas s).trans (congrArg _ ((doWrCas_of_starts h hop).trans (State.sendAtom_of_some hwr hpath)))
    case faddLost => rw [exec_wrFadd, doWrFadd_of_starts h hop, State.sendAtom_of_none hwr hpath]
    case fadd =>
      exact (exec_wrFadd s).trans (congrArg _ ((doWrFadd_of_starts h hop).trans (State.sendAtom_of_some hwr hpath)))
    case flushLost => rw [exec_wrFlush, doWrFlush_of_starts h hop, State.onPath_of_none hwr hpath]
    case flush => rw [exec_wrFlush, doWrFlush_of_starts h hop, State.onPath_of_some hwr hpath]
    case ownStale => rw [exec_wrOwnCas, doWrOwnCas_of_starts h hop, if_pos hstale]
    case ownCas => rw [exec_wrOwnCas, doWrOwnCas_of_starts h hop, if_neg hfresh]
    case ownRead => rw [exec_wrOwnRead, doWrOwnRead_of_starts h hop]
    case ownMirror => rw [exec_wrOwnMirror, doWrOwnMirror_of_starts h hop]
    case layerEmpty => rw [exec_wrLayer, doWrLayer_of_empty h hop hcount hfinal]
    case layerRefused => rw [exec_wrLayer, doWrLayer_of_refused h hop hwork rfl hcheck]
    case layerFull => rw [exec_wrLayer, doWrLayer_of_full h hop hwork hcheck hopen]
    case layerLost =>
      rw [exec_wrLayer, doWrLayer_of_open h hop hwork hcheck hopen,
        State.onPath_of_none ((State.wrAt_of_layerOpen hopen i).trans hwr) hpath]
    case layer =>
      rw [exec_wrLayer, doWrLayer_of_open h hop hwork hcheck hopen,
        State.onPath_of_some ((State.wrAt_of_layerOpen hopen i).trans hwr) hpath]
    case ckptUnfit => rw [exec_wrCkpt, doWrCkpt_of_unfit h hop (State.not_ckptFits_iff.2 hunfit)]
    case ckptEmpty => rw [exec_wrCkpt, doWrCkpt_of_noPages h hop ⟨hpart, hstate, hroom⟩ hpages]
    case ckptNoKey => rw [exec_wrCkpt, doWrCkpt_of_noKey h hop ⟨hpart, hstate, hroom⟩ hpages hkey]
    case ckptLost =>
      rw [exec_wrCkpt, doWrCkpt_of_key h hop ⟨hpart, hstate, hroom⟩ hpages hkey, State.onPath_of_none hwr hpath]
    case ckpt =>
      rw [exec_wrCkpt, doWrCkpt_of_key h hop ⟨hpart, hstate, hroom⟩ hpages hkey, State.onPath_of_some hwr hpath]
      exact congrArg _ (if_neg (not_not.2 hread))
    case ckptUnread =>
      rw [exec_wrCkpt, doWrCkpt_of_key h hop ⟨hpart, hstate, hroom⟩ hpages hkey, State.onPath_of_some hwr hpath]
      exact congrArg _ (if_pos hread)
    case restoreUnfit => rw [exec_wrRestore, doWrRestore_of_unfit h hop (State.not_restoreFits_iff.2 hunfit)]
    case restoreLost =>
      rw [exec_wrRestore, doWrRestore_of_fits h hop ⟨hpart, hstate, hroom⟩, State.onPath_of_none hwr hpath]
    case restore =>
      rw [exec_wrRestore, doWrRestore_of_fits h hop ⟨hpart, hstate, hroom⟩, State.onPath_of_some hwr hpath]
  case otherNop =>
    exact congrArg _ (State.takeWr_of_other htakes (Bool.or_eq_false_iff.2 ⟨by simpa using hop, by simpa using hlt⟩))
  case otherWrite | otherRead | otherCas | otherFadd | otherFlush | otherOwnCas | otherOwnRead | otherOwnMirror | otherLayer |
      otherCkpt | otherRestore => exact congrArg _ (State.takeWr_of_otherOp htakes hop)

end Sys2Proof.Machine
end

section
/-! The trigger slots of the heliostat engine that end without firing (R278): HEL_LAST_ERR names their requests. -/

namespace Sys2Proof.Machine

open Sys2Proof

variable {s : State} {g : FieldRef} {p i : Nat}

/-! ### What a freed slot, a named failure and a waiting record leave -/

theorem State.rd_setReg_other {off : Nat} {w : Word} (h : g.off ≠ off) : (s.setReg off w).rd g = s.rd g := by
  simp [State.rd, State.reg_setReg_other _ _ h]

theorem State.rd_foldl_setReg {f : Nat → Nat} {l : List Nat} (h : ∀ k, g.off ≠ f k) :
    (l.foldl (fun t k => t.setReg (f k) 0) s).rd g = s.rd g := by
  induction l generalizing s with
  | nil => rfl
  | cons k l ih => exact ih.trans (State.rd_setReg_other (h k))

theorem State.rd_setTrig {v : Trig} : (s.setTrig i v).rd g = s.rd g := rfl

/-- Freeing a trigger slot writes the slot's own words and the counts of armed slots. -/
theorem State.rd_freeSlot (hslot : g.off < 0xC20000) (harmed : g.off ≠ HEL_STATE.ARMED.off)
    (huse : g.off ≠ (HEL_P_USE.TRIGS (s.trigPart i)).off) : (s.freeSlot i).rd g = s.rd g := by
  have hword (k : Nat) : g.off ≠ (HEL_TRIG_WR.WR i k).off := by simp only [HEL_TRIG_WR.WR]; omega
  have hcond : g.off ≠ 0xC20040 + 0x80 * i := by omega
  rw [State.freeSlot, State.countTrigs, State.rd_wr_other _ _ _ _ (.inl huse), State.rd_wr_other _ _ _ _ (.inl harmed),
    State.rd_setTrig, State.rd_wr_other _ _ _ _ (.inl hcond), State.rd_wr_other _ _ _ _ (.inl hcond),
    State.rd_foldl_setReg hword]

theorem State.rd_freeSlot_inc (hslot : g.off < 0xC20000) (harmed : g.off ≠ HEL_STATE.ARMED.off)
    (huse : g.off ≠ (HEL_P_USE.TRIGS (s.trigPart i)).off) (hfailed : g.off ≠ (HEL_P_FAILED.COUNT p).off) :
    ((s.freeSlot i).inc (HEL_P_FAILED.COUNT p)).rd g = s.rd g := by
  rw [State.inc, State.add, State.rd_wr_other _ _ _ _ (.inl hfailed), State.rd_freeSlot hslot harmed huse]

theorem State.rd_noteHelLast {op : Nat} {st : Status} (h : g.off ≠ HEL_LAST_ERR.STATUS.off) :
    (s.noteHelLast p op st).rd g = s.rd g := by
  have hreg (t : State) (f : FieldRef) (v : Nat) (hf : f.off = HEL_LAST_ERR.STATUS.off) : (t.wr f v).rd g = t.rd g :=
    State.rd_wr_other _ _ _ _ (.inl (hf ▸ h))
  rw [State.noteHelLast, hreg _ HEL_LAST_ERR.MERIDIAN _ rfl, hreg _ HEL_LAST_ERR.PART _ rfl, hreg _ HEL_LAST_ERR.OP _ rfl,
    hreg _ _ _ rfl]

theorem State.status_noteHelLast {op : Nat} {st : Status} :
    (s.noteHelLast p op st).rd HEL_LAST_ERR.STATUS = st.code := by
  have hreg (t : State) (f : FieldRef) (v : Nat) (hf : 8 ≤ f.lo) :
      (t.wr f v).rd HEL_LAST_ERR.STATUS = t.rd HEL_LAST_ERR.STATUS := State.rd_wr_other _ _ _ _ (.inr (.inl hf))
  rw [State.noteHelLast, hreg _ _ _ (by decide), hreg _ _ _ (by decide), hreg _ _ _ (by decide),
    State.rd_wr_self _ _ _ (by decide)]
  cases st <;> rfl

/-- Without a ring a completion record waits, and a stall is counted (R271). -/
theorem State.rd_helComplete_of_noRing {ws : List Word} (hsize : s.helSize p 1 = 0)
    (h : g.off ≠ (HEL_P_CQ_STALL.COUNT p).off) : (s.helComplete p ws).rd g = s.rd g := by
  rw [State.helComplete, if_neg (by simp [State.helRoom, hsize]), State.helStall]
  split
  · rfl
  · exact State.rd_wr_other _ _ _ _ (.inl h)

/-! ### The end of a slot that does not fire -/

theorem State.trigPart_lt (s : State) (i : Nat) : s.trigPart i < 64 := getBits_lt _ _ 6

section
variable (hsize : s.helSize (s.trigPart i) 1 = 0)
include hsize

/-- Freeing a slot and counting its failure leave the size of the completion ring. -/
theorem State.helSize_freeSlot_inc :
    ((s.freeSlot i).inc (HEL_P_FAILED.COUNT (s.trigPart i))).helSize (s.trigPart i) 1 = 0 := by
  have hlt := s.trigPart_lt i
  rw [State.helSize, State.rd_freeSlot_inc, ← State.helSize, hsize] <;>
    simp only [HEL_P_SIZE.ENTRIES, HEL_P_FAILED.COUNT, HEL_STATE.ARMED, HEL_P_USE.TRIGS] <;> omega

/-- The freed slot and its completion record alone do not touch the last failed request. -/
theorem State.status_helComplete_freeSlot {ws : List Word} :
    (((s.freeSlot i).inc (HEL_P_FAILED.COUNT (s.trigPart i))).helComplete (s.trigPart i) ws).rd HEL_LAST_ERR.STATUS =
      s.rd HEL_LAST_ERR.STATUS := by
  rw [State.rd_helComplete_of_noRing (State.helSize_freeSlot_inc hsize), State.rd_freeSlot_inc] <;>
    simp only [HEL_LAST_ERR.STATUS, HEL_P_CQ_STALL.COUNT, HEL_P_FAILED.COUNT, HEL_STATE.ARMED, HEL_P_USE.TRIGS] <;> omega

/-- The last failed request is the one of the abandoned slot (log 118). -/
theorem State.status_abandonSlot : (s.abandonSlot i).rd HEL_LAST_ERR.STATUS = Status.abandoned.code := by
  rw [State.abandonSlot, State.noteHelError]
  rw [State.rd_helComplete_of_noRing, State.status_noteHelLast]
  · rw [State.helSize, State.rd_noteHelLast, ← State.helSize, State.helSize_freeSlot_inc hsize]
    simp only [HEL_LAST_ERR.STATUS, HEL_P_SIZE.ENTRIES]
    omega
  · simp only [HEL_LAST_ERR.STATUS, HEL_P_CQ_STALL.COUNT]
    omega

end

/-- Trigger slot 0 holds a request whose record has ended; no completion ring is in use. -/
def deadSlot : State := (State.reset.wr (HEL_TRIG_W8.VALID 0) 1).setTrig 0 { dead := true }

/-- Refutes O37: a dead slot's request ends as ABANDONED and is then named in HEL_LAST_ERR (log 118), a write that the statement's
state after the end leaves out. At `deadSlot` STATUS reads 0x30 after TRIGGER_FIRE, and 0 in the state of the statement. -/
theorem not_triggersAndMessages : ¬ Obligations.TriggersAndMessages := by
  rintro ⟨htriggers, -⟩
  obtain ⟨-, hdead, -⟩ := htriggers deadSlot 0 (.pf .HA)
  have hused : deadSlot.trigUsed 0 = true := by decide +kernel
  have hended : (deadSlot.trig 0).dead = true := by decide +kernel
  have hsize : deadSlot.helSize (deadSlot.trigPart 0) 1 = 0 := by decide +kernel
  have habandon : doTriggerFire 0 deadSlot = deadSlot.abandonSlot 0 := by
    simp [doTriggerFire, hused, hended]
  have hnext := Host.Outcome.next.inj ((exec_triggerFire ..).symm.trans (hdead hused hended))
  have hstatus : Status.abandoned.code = deadSlot.rd HEL_LAST_ERR.STATUS := by
    rw [← State.status_abandonSlot hsize, ← habandon, hnext]
    exact State.status_helComplete_freeSlot hsize
  revert hstatus
  decide +kernel

end Sys2Proof.Machine
end

section
/-! The links of the fabric ports: blocks (R303, R304) and the states of a port (R306, Table 14-4). -/

namespace Sys2Proof.Machine

open Sys2Proof

variable {s : State}

/-! ### The link record of a port -/

@[simp] theorem State.link_setLink_self (s : State) (f : Nat) (k : Link) : (s.setLink f k).link f = k := Tab.get_put_self ..

@[simp] theorem State.link_modLink_self (s : State) (f : Nat) (g : Link → Link) : (s.modLink f g).link f = g (s.link f) :=
  State.link_setLink_self ..

@[simp] theorem State.link_inc (s : State) (f : Nat) (c : FieldRef) : (s.inc c).link f = s.link f := by
  simp only [State.link, State.inc_fab]

/-! ### Blocks (R303, R304) -/

/-- The state in which the replay buffer holds no block below an ACK. -/
def State.acknowledge (s : State) (f ack : Nat) : State :=
  s.modLink f (fun k => { k with replay := k.replay.filter (fun r =>
    !(decide (1 ≤ seqDist r.seq ack) && decide (seqDist r.seq ack < 2 ^ 23))) })

@[simp] theorem State.rxSeq_acknowledge (s : State) (f ack : Nat) : ((s.acknowledge f ack).link f).rxSeq = (s.link f).rxSeq := by
  simp [State.acknowledge]

@[simp] theorem State.reorder_acknowledge (s : State) (f ack : Nat) :
    ((s.acknowledge f ack).link f).reorder = (s.link f).reorder := by
  simp [State.acknowledge]

section
variable {f seq : Nat}

theorem State.rxData_of_duplicate (h : 2 ^ 23 ≤ seqDist (s.link f).rxSeq seq ∨ seq ∈ (s.link f).reorder) :
    s.rxData f seq = s.inc (FAB_DUPLICATES.COUNT f) := if_pos (by simpa using h)

theorem State.rxData_of_fresh (hd : seqDist (s.link f).rxSeq seq < 1024) (hnew : seq ∉ (s.link f).reorder) : s.rxData f seq =
    if seqDist (s.link f).rxSeq seq = 0 then State.deliverBlocks f ((s.link f).reorder.length + 1) s
    else (s.setLink f { s.link f with reorder := seq :: (s.link f).reorder }).emitUngated f 1 0 := by
  have hdup : ¬ (2 ^ 23 ≤ seqDist (s.link f).rxSeq seq ∨ (s.link f).reorder.contains seq = true) := by
    simpa [hnew] using by omega
  exact (if_neg hdup).trans (if_congr Iff.rfl rfl (if_neg (Nat.not_le.2 hd)))

/-- With nothing held behind it, the block at `rxSeq` is delivered alone. -/
theorem State.deliverBlocks_of_empty (n : Nat) (h : (s.link f).reorder = []) : State.deliverBlocks f (n + 1) s =
    (s.setLink f { s.link f with rxSeq := ((s.link f).rxSeq + 1) % 2 ^ 24 }).inc (FAB_BLOCKS_RX.COUNT f) := by
  simp only [State.deliverBlocks, h, List.erase_nil, State.link_inc, State.link_setLink_self, List.contains_nil,
    Bool.false_eq_true, if_false]

end

section
variable {f ty : Fin 4} {seq ack : BitVec 24} {missing : List (BitVec 24)}

theorem doLinkBlockReceive_of_down (good : Bool) (h : s.linkState f ≠ 3) :
    doLinkBlockReceive f ty seq ack good missing s = s := if_pos h

theorem doLinkBlockReceive_of_bad (h : s.linkState f = 3) :
    doLinkBlockReceive f ty seq ack false missing s = s.inc (FAB_CHECK_FAIL.COUNT f) := if_neg (not_not.2 h)

theorem doLinkBlockReceive_of_good (h : s.linkState f = 3) : doLinkBlockReceive f ty seq ack true missing s =
    if ty = 1 then (s.acknowledge f ack.toNat).rxData f seq.toNat
    else if ty = 2 then missing.foldl (fun u q => u.resendBlock f q.toNat) (s.acknowledge f ack.toNat)
    else s.acknowledge f ack.toNat := if_neg (not_not.2 h)

theorem doLinkBlockReceive_of_data (h : s.linkState f = 3) (hty : ty = 1) : doLinkBlockReceive f ty seq ack true missing s =
    (s.acknowledge f ack.toNat).rxData f seq.toNat := (doLinkBlockReceive_of_good h).trans (if_pos hty)

theorem doLinkControlSend_of_closed (h : s.linkState f = 0 ∨ s.linkState f = 1 ∨ s.linkState f = 5) :
    doLinkControlSend f s = s := if_neg (by omega)

end

theorem linkBlocks : Claims.LinkBlocks := by
  intro s f ty seq ack good missing t d rx up
  simp only [rx, exec_linkBlockReceive, execLinkBlockReceive, exec_linkResendTimeout, exec_linkControlSend,
    Host.Outcome.next.injEq]
  refine ⟨doLinkBlockReceive_of_down good, doLinkBlockReceive_of_bad, fun hup hty => ?_, fun hup hty => ?_,
    fun hup hty hdup => ?_, fun hup hty hpast hnear hnew => ?_, fun hup hty hd hempty => ?_, fun hup => if_pos hup,
    fun hdown => if_neg hdown, fun h => if_pos (by tauto), doLinkControlSend_of_closed⟩
  · rw [doLinkBlockReceive_of_good hup]
    rcases hty with rfl | rfl <;> rfl
  · rw [doLinkBlockReceive_of_good hup]
    subst hty
    rfl
  · rw [doLinkBlockReceive_of_data hup hty]
    exact State.rxData_of_duplicate (by simpa using hdup)
  · rw [doLinkBlockReceive_of_data hup hty, State.rxData_of_fresh (by simpa using hnear) (by simpa using hnew),
      State.rxSeq_acknowledge, State.reorder_acknowledge]
    exact if_neg (Nat.ne_of_gt hpast)
  · have hdist : seqDist ((s.acknowledge f ack.toNat).link f).rxSeq seq.toNat = 0 := by simpa using hd
    rw [doLinkBlockReceive_of_data hup hty, State.rxData_of_fresh (by omega) (by simp [hempty]), if_pos hdist,
      State.deliverBlocks_of_empty _ (by simpa using hempty), State.rxSeq_acknowledge]
    rfl

/-! ### The states of a port (Table 14-4) -/

section
variable {f : Fin 4}

theorem doLinkEnableChange_of_disabled (h : s.linkState f = 0) : doLinkEnableChange f s =
    if s.on (FAB_LINK_CFG.EN f) && s.fed f then s.startTraining f else s := if_pos h

theorem doLinkEnableChange_of_enabled (h : s.linkState f ≠ 0) : doLinkEnableChange f s =
    if s.on (FAB_LINK_CFG.EN f) then s else s.disableLink f := if_neg h

theorem doLanesLocked_of_locked {mask : BitVec 20} (h : s.training f = true) (hlocked : 16 ≤ popCount 20 mask.toNat)
    (hfed : s.fed f = true) : doLanesLocked f mask s = s.goAlign f mask.toNat := if_pos (by simp [h, hlocked, hfed])

theorem doLanesLocked_of_not {mask : BitVec 20} (h : s.training f = false ∨ popCount 20 mask.toNat < 16 ∨ s.fed f = false) :
    doLanesLocked f mask s = s := by
  refine if_neg fun hall => ?_
  simp only [Bool.and_eq_true, decide_eq_true_eq] at hall
  obtain ⟨⟨htraining, hlocked⟩, hfed⟩ := hall
  rcases h with h | h | h
  · simp [h] at htraining
  · omega
  · simp [h] at hfed

/-- A port that trains in the light of a cartridge aligns or has failed an attempt after 50 ms. -/
theorem doTrainingTimeout_of_training {mask : BitVec 20} (h : s.training f = true) (hfed : s.fed f = true) :
    doTrainingTimeout f mask true s = if s.rd (FAB_LINK_CFG.MIN_LANES f) ≤ popCount 20 mask.toNat then s.goAlign f mask.toNat
      else s.failAttempt f true := if_neg (by simp [h, hfed])

theorem doTrainingTimeout_of_not {mask : BitVec 20} {light : Bool} (h : s.training f = false ∨ light = false) :
    doTrainingTimeout f mask light s = s := if_pos (by rcases h with h | h <;> simp [h])

/-- The port retrains, and looks for the partner it had. -/
abbrev State.realigning (s : State) (f : Nat) : Prop := s.linkState f = 4 ∧ (s.link f).aligning = true

section
variable {node : BitVec 14} {port : Fin 4}

theorem doAlignAgree_of_otherPartner (h : s.realigning f)
    (hother : s.rd (FAB_PARTNER.NODE f) ≠ node.toNat ∨ s.rd (FAB_PARTNER.PORT f) ≠ port.val) :
    doAlignAgree f node port s = s.failLink f := by
  have hnew : s.linkState f ≠ 2 := h.1.trans_ne (by decide)
  exact (if_neg hnew).trans ((if_pos h).trans (if_neg (by tauto)))

theorem doAlignAgree_of_not (hnew : s.linkState f ≠ 2) (h : ¬ s.realigning f) : doAlignAgree f node port s = s :=
  (if_neg hnew).trans (if_neg h)

end

theorem doAlignTimeout_of_realigning (h : s.realigning f) : doAlignTimeout f s = s.failAttempt f true := by
  have hnew : s.linkState f ≠ 2 := h.1.trans_ne (by decide)
  exact (if_neg hnew).trans (if_pos h)

theorem doAlignTimeout_of_not (hnew : s.linkState f ≠ 2) (h : ¬ s.realigning f) : doAlignTimeout f s = s :=
  (if_neg hnew).trans (if_neg h)

/-- What makes an UP port retrain: darkness, too few lanes, or a block re-sent 16 times. -/
def State.mustRetrain (s : State) (f : Nat) (dark : Bool) : Prop :=
  dark = true ∨ s.activeLanes f < s.rd (FAB_LINK_CFG.MIN_LANES f) ∨ ∃ r ∈ (s.link f).replay, 16 ≤ r.resends

theorem State.not_mustRetrain {dark : Bool} : ¬ s.mustRetrain f dark ↔
    dark = false ∧ s.rd (FAB_LINK_CFG.MIN_LANES f) ≤ s.activeLanes f ∧ ∀ r ∈ (s.link f).replay, r.resends < 16 := by
  simp [State.mustRetrain]

theorem doLinkRetrain_of_mustRetrain {dark : Bool} (hup : s.linkState f = 3) (h : s.mustRetrain f dark) :
    doLinkRetrain f dark s = s.enterRetrain f := if_pos ⟨hup, by simpa [State.mustRetrain] using h⟩

theorem doLinkRetrain_of_not {dark : Bool} (h : s.linkState f ≠ 3 ∨ ¬ s.mustRetrain f dark) :
    doLinkRetrain f dark s = s := by
  refine if_neg fun ⟨hup, hmust⟩ => h.elim (· hup) (· ?_)
  simpa [State.mustRetrain] using hmust

end

theorem linkStates : Claims.LinkStates := by
  intro s f mask light dark node port st en retraining locked
  simp only [exec_linkEnableChange, exec_lanesLocked, exec_trainingTimeout, exec_alignAgree, exec_alignTimeout,
    exec_linkRetrain, Host.Outcome.next.injEq]
  refine ⟨fun hst hen hfed => ?_, fun hst hno => ?_, fun hst hen => ?_, fun hst hen => ?_, doLanesLocked_of_locked,
    doLanesLocked_of_not, fun h hfed hmin => ?_, fun h hfed hmin => ?_, doTrainingTimeout_of_not (.inr rfl),
    fun h => doTrainingTimeout_of_not (.inl h), fun hst => if_pos hst, doAlignAgree_of_otherPartner,
    fun hst h => ⟨doAlignAgree_of_not hst h, doAlignTimeout_of_not hst h⟩, fun hst => if_pos hst,
    doAlignTimeout_of_realigning, doLinkRetrain_of_mustRetrain,
    fun h => doLinkRetrain_of_not (h.imp_right State.not_mustRetrain.2)⟩
  · exact (doLinkEnableChange_of_disabled hst).trans (if_pos (Bool.and_eq_true_iff.2 ⟨hen, hfed⟩))
  · refine (doLinkEnableChange_of_disabled hst).trans (if_neg fun h => ?_)
    exact Bool.eq_false_iff.1 (Bool.and_eq_false_iff.2 hno) h
  · exact (doLinkEnableChange_of_enabled hst).trans (if_neg (Bool.eq_false_iff.1 hen))
  · exact (doLinkEnableChange_of_enabled hst).trans (if_pos hen)
  · exact (doTrainingTimeout_of_training h hfed).trans (if_pos hmin)
  · exact (doTrainingTimeout_of_training h hfed).trans (if_neg (Nat.not_le.2 hmin))

/-- Settles O39: an acknowledgement touches the replay buffer alone, so a DATA block finds the sequence number and the reorder
store that the port had; each event of Table 14-4 is followed to the branch that its conditions choose. -/
theorem links : Obligations.Links := ⟨linkBlocks, linkStates⟩

end Sys2Proof.Machine
end

section
/-! The lanes of a fabric port (R307 to R309) and the laser cartridges (R310 to R313, Table 14-5). -/

namespace Sys2Proof.Machine

open Sys2Proof

variable {s : State}

/-! ### What a change of a lane's state leaves -/

theorem State.rd_setLaneState {g : FieldRef} {f l : Nat} (st : Nat) (h : g.off ≠ (FAB_LANE_W2.LSTATE f l).off) :
    (s.setLaneState f l st).rd g = s.rd g := State.rd_wr_other _ _ _ _ (.inl h)

theorem State.rd_showLanes {g : FieldRef} {f : Nat} (h : g.off ≠ (FAB_LINK_STATE.STATE f).off) :
    (s.showLanes f).rd g = s.rd g :=
  (State.rd_wr_other _ (FAB_LINK_STATE.ACTIVE_MASK f) _ _ (.inl h)).trans
    (State.rd_wr_other _ (FAB_LINK_STATE.ACTIVE_LANES f) _ _ (.inl h))

@[simp] theorem State.mer32_setLaneState (s : State) (f l st : Nat) : (s.setLaneState f l st).mer32 = s.mer32 := by
  rw [State.mer32, State.mer, State.rd_setLaneState, ← State.mer, ← State.mer32]
  simp only [MER_COUNT.COUNT, FAB_LANE_W2.LSTATE]
  omega

/-- The state in which a lane has failed and FAB_LINK_STATE shows it. -/
def State.failLane (s : State) (f l : Nat) : State := (s.setLaneState f l 3).showLanes f

@[simp] theorem State.autoSubst_failLane (s : State) (f l : Nat) :
    (s.failLane f l).on (FAB_LINK_CFG.AUTO_SUBST f) = s.on (FAB_LINK_CFG.AUTO_SUBST f) := by
  rw [State.on, State.failLane, State.rd_showLanes, State.rd_setLaneState, ← State.on] <;>
    simp only [FAB_LINK_CFG.AUTO_SUBST, FAB_LINK_STATE.STATE, FAB_LANE_W2.LSTATE] <;> omega

/-! ### Failure and substitution of a lane (R307, R308) -/

section
variable {f : Fin 4} {lane : Fin 20}

/-- An active lane of an UP port that fails: its position waits for a spare, or is lost. -/
theorem doLaneFail_of_active {pos : Nat} (hup : s.linkState f = 3) (hfailed : s.laneState f lane ≠ 3)
    (hspare : s.laneState f lane ≠ 1) (hpos : (s.failLane f lane).posOf f lane = some pos) :
    doLaneFail f lane s = if s.on (FAB_LINK_CFG.AUTO_SUBST f) = true ∧ s.spareFree f = true then
        (s.failLane f lane).modLink f (fun k => { k with
          substs := (pos, lane.val) :: k.substs.filter (fun e => e.2 != lane.val) })
      else (s.failLane f lane).loseCapacity 3 .FAB f 0xFF lane := by
  have hmatch : (if s.laneState f lane = 1 then none else (s.failLane f lane).posOf f lane) = some pos := by
    rw [if_neg hspare, hpos]
  rw [← State.autoSubst_failLane s f lane]
  unfold State.failLane at hmatch ⊢
  simp only [doLaneFail, hmatch]
  exact if_neg (by simp [hup, hfailed])

theorem doLaneFail_of_not (h : s.linkState f ≠ 3 ∨ s.laneState f lane = 3) : doLaneFail f lane s = s := if_pos h

theorem doLaneSubstitute_of_landing (hup : s.linkState f = 3) (h : s.inLanding = true) : doLaneSubstitute f s =
    (s.link f).substs.foldl (fun u e => u.substLane f e.1 e.2) (s.modLink f (fun k => { k with substs := [] })) :=
  if_neg (by simp [hup, h])

theorem doLaneSubstitute_of_not (h : s.linkState f ≠ 3 ∨ s.inLanding = false) : doLaneSubstitute f s = s :=
  if_pos (by simpa using h)

end

/-- The lane can be substituted by command: active in an UP port, with a spare for it, and not substituted already. -/
abbrev State.maySubst (s : State) (f l : Nat) : Prop :=
  s.linkState f = 3 ∧ l < 20 ∧ s.laneState f l = 0 ∧ s.spareFree f = true ∧ ∀ e ∈ (s.link f).substs, e.2 ≠ l

section
variable {a : Agent} {f : Fin 4} {x : Fin 32} (hmay : s.mayWriteDevice a = true)
include hmay

theorem doFabSubst_of_position {pos : Nat} (hpos : s.posOf f x = some pos) : doFabSubst a f x s =
    if s.maySubst f x then s.modLink f (fun k => { k with substs := k.substs ++ [(pos, x.val)] })
    else s.countRefused .FAB f := by
  simp only [doFabSubst, hmay, hpos, State.maySubst, List.all_eq_true, bne_iff_ne, Bool.not_true, Bool.false_eq_true, if_false]

theorem doFabSubst_of_not (h : s.posOf f x = none ∨ ¬ s.maySubst f x) : doFabSubst a f x s = s.countRefused .FAB f := by
  cases hpos : s.posOf f x with
  | none => simp [doFabSubst, hmay, hpos]
  | some pos => exact (doFabSubst_of_position hmay hpos).trans (if_neg (h.resolve_left (by simp [hpos])))

end

/-! ### Recalibration (R309) -/

/-- The agent that writes GO may do so, or the change of temperature counts. -/
def State.mayRecal (s : State) (f : Nat) : Option Agent → Bool
  | some a => s.mayWriteDevice a
  | none => s.on (FAB_LINK_CFG.AUTO_RECAL f)

section
variable {a : Option Agent} {f : Fin 4}

theorem doFabRecal_of_may (h : s.mayRecal f a = true) : doFabRecal a f s =
    if s.linkState f ≠ 3 ∨ s.on (FAB_RECAL_STATUS.BUSY f) = true then (if a.isSome then s.countRefused .FAB f else s)
    else if s.lcMoving then s.modLink f (fun k => { k with deferred := true })
    else s.startRecal f := by
  cases a <;> exact if_neg (by simpa [State.mayRecal] using h)

theorem doFabRecal_of_idle (h : s.mayRecal f a = true) (hup : s.linkState f = 3)
    (hidle : s.on (FAB_RECAL_STATUS.BUSY f) = false) : doFabRecal a f s =
      if s.lcMoving then s.modLink f (fun k => { k with deferred := true }) else s.startRecal f :=
  (doFabRecal_of_may h).trans (if_neg (by simp [hup, hidle]))

theorem doFabRecal_of_busy {b : Agent} (hmay : s.mayWriteDevice b = true)
    (h : s.linkState f ≠ 3 ∨ s.on (FAB_RECAL_STATUS.BUSY f) = true) : doFabRecal (some b) f s = s.countRefused .FAB f :=
  (doFabRecal_of_may (a := some b) hmay).trans (if_pos h)

theorem doFabRecal_none_of_disabled (h : s.on (FAB_LINK_CFG.AUTO_RECAL f) = false) : doFabRecal none f s = s :=
  if_pos (by simp [h])

/-- A retuned lane holds its position again, or is a spare, with the time of its calibration. -/
theorem doLaneRecalDone_of_adapting {l : Nat} {rest : List Nat} (hrecal : (s.link f).recal = l :: rest)
    (hup : s.linkState f = 3) (hadapt : s.laneState f l = 2) : doLaneRecalDone f s =
      (((((s.setLaneState f l (if (s.posOf f l).isSome then 0 else 1)).wr (FAB_LANE_W3.CAL_AT f l) s.mer32).modLink f
        (fun k => { k with recal := rest })).showLanes f).recalNext f) := by
  simp [doLaneRecalDone, hrecal, hup, hadapt]

theorem doLaneRecalDone_of_none (h : (s.link f).recal = []) : doLaneRecalDone f s = s := by
  simp only [doLaneRecalDone, h]

end

theorem laneHealth : Claims.LaneHealth := by
  intro s a f lane x l rest up t
  simp only [exec_laneFail, exec_laneSubstitute, exec_fabSubst, execFabSubst, exec_fabRecal, execFabRecal, exec_laneRecalDone,
    Option.isSome_some, Option.isSome_none, Bool.false_eq_true, if_true, if_false, Host.Outcome.next.injEq]
  refine ⟨fun hup hfailed hspare pos hpos => ⟨fun hauto hfree => ?_, fun hfree => ?_⟩, doLaneFail_of_not,
    doLaneSubstitute_of_landing, doLaneSubstitute_of_not, fun hready hmay => ?_, doFabRecal_none_of_disabled,
    fun hup hauto hidle hmoving => ?_, fun hrecal hup hadapt => ?_, doLaneRecalDone_of_none⟩
  · exact (doLaneFail_of_active hup hfailed hspare hpos).trans (if_pos ⟨hauto, hfree⟩)
  · exact (doLaneFail_of_active hup hfailed hspare hpos).trans (if_neg (by simp [hfree]))
  · simp only [State.whenReady_of_ready hready]
    refine ⟨fun pos hpos hcan => ?_, doFabSubst_of_not hmay, fun hup hidle hmoving => ?_, fun hup hidle hmoving => ?_,
      doFabRecal_of_busy hmay⟩
    · exact (doFabSubst_of_position hmay hpos).trans (if_pos hcan)
    · exact (doFabRecal_of_idle (a := some a) hmay hup hidle).trans (if_neg (by simp [hmoving]))
    · exact (doFabRecal_of_idle (a := some a) hmay hup hidle).trans (if_pos hmoving)
  · exact (doFabRecal_of_idle (a := none) hauto hup hidle).trans (if_neg (by simp [hmoving]))
  · rw [doLaneRecalDone_of_adapting hrecal hup hadapt, State.mer32_setLaneState]

/-! ### Laser cartridges (Table 14-5) -/

theorem lcField_off (x : Nat) : (lcField x).off = 0x1400088 := by
  unfold lcField
  split <;> rfl

/-- The state of a cartridge has three bits. -/
theorem State.lcState_setLc (s : State) (x st : Nat) (h : st < 8) : (s.setLc x st).lcState x = st := by
  have hspares (t : State) (g : FieldRef) (v : Nat) (hg : g.off = FLT_SPARES.EMPTY.off) :
      (t.wr g v).rd (lcField x) = t.rd (lcField x) :=
    State.rd_wr_other _ _ _ _ (.inl (by rw [lcField_off, hg]; decide))
  have hfield : (lcField x).lo + (lcField x).len ≤ 64 ∧ (lcField x).len = 3 := by
    unfold lcField
    split <;> decide
  rw [State.lcState, State.setLc, hspares _ FLT_SPARES.EMPTY _ rfl, hspares _ FLT_SPARES.CARTRIDGES _ rfl,
    State.rd_wr_self _ _ _ hfield.1, hfield.2]
  exact Nat.mod_eq_of_lt h

/-- A cartridge can be ejected: it feeds, and the other can feed in its place. -/
abbrev State.mayEject (s : State) (x : Nat) : Prop :=
  s.lcState x = 3 ∧ (s.lcState (1 - x) = 2 ∨ s.lcState (1 - x) = 3)

theorem State.eject_of_mayWrite {a : Agent} (x : Nat) (h : s.mayWriteDevice a = true) :
    s.eject a x = if s.mayEject x then s.setLc x 4 else s.countRefused .FAB 0 := if_neg (by simp [h])

theorem State.eject_of_refused {a : Agent} (x : Nat) (h : s.mayWriteDevice a = false) :
    s.eject a x = s.refuseWrite a .FAB 0 := if_pos (by simp [h])

theorem laserCartridges : Claims.LaserCartridges := by
  intro s a x removed y st ok can fed moved lost cut
  simp only [exec_lcInsert, exec_lcWavelengthLock, exec_lcWarmTimeout, exec_lcEjectA, execLcEjectA, exec_lcEjectB,
    execLcEjectB, exec_lcReleaseDone, exec_lcRemove, exec_lcLoss, Host.Outcome.next.injEq]
  have heject (hok : ok) (k : Nat) : s.whenAnyReady .FAB (fun u => u.eject a k) =
      if s.mayEject k then s.setLc k 4 else s.countRefused .FAB 0 := by
    obtain ⟨hready, hmay⟩ := hok
    rw [State.whenAnyReady_of_ready hready, State.eject_of_mayWrite k hmay]
  refine ⟨fun h => if_pos h, fun h0 h5 => if_neg (by tauto), fun h => ⟨if_pos h, if_pos h⟩,
    fun h => ⟨if_neg h, if_neg h⟩,
    fun hok hcan => (heject hok 0).trans (if_pos hcan), fun hok hcan => (heject hok 0).trans (if_neg hcan),
    fun hok hcan => (heject hok 1).trans (if_pos hcan), fun hok hcan => (heject hok 1).trans (if_neg hcan),
    fun hready hmay => ?_, fun h => if_neg (not_not.2 h), fun h => if_pos h, fun h => if_pos h,
    fun h5 h6 => if_neg (by tauto), fun h3 h4 => if_pos ⟨h3, h4⟩, fun h hother => ?_, fun h h2 h3 h4 => ?_,
    s.lcState_setLc x 5 (by decide)⟩
  · exact (State.whenAnyReady_of_ready hready).trans (State.eject_of_refused 0 hmay)
  · exact (if_neg (by tauto)).trans (if_pos hother)
  · exact (if_neg (by tauto)).trans (if_neg (by tauto))

/-- Settles O40: a lane that fails leaves AUTO_SUBST as it was, a lane's state is no part of the meridian count, and the count of
spare cartridges has a register of its own; every other clause is the branch that its conditions choose. -/
theorem lanesAndCartridges : Obligations.LanesAndCartridges := ⟨laneHealth, laserCartridges⟩

end Sys2Proof.Machine
end

section
/-! Class C and class S requests at their target (R277, R282, R289, R325, R333 to R335, R337, R339, R340, R344). -/

namespace Sys2Proof.Machine

open Sys2Proof

variable {s : State} {h : PktHdr}

/-! ### Packets with a PSN that pass their checks (R321, R330, R331, R341) -/

/-- What a packet of this kind and these units leaves, once its effect has ended so. -/
def State.endPsn (h : PktHdr) (kind u : Nat) : State × RxEnd → State
  | (t, .taken) => t.tookPsn h u
  | (t, .waits) => (t.markPsn h).afterRx h.ctx.toNat
  | (t, .refused st) => t.refusePsn h kind u st
  | (t, .again st) => t.againPsn h u st

/-- A packet that passes every check has its effect on the state that heard it. -/
theorem State.afterRx_rxPsn_of_hears {kind : Nat} (bytes : Nat) (eff : State → State × RxEnd) (hears : s.hearsPsn h kind) :
    (s.rxPsn h kind bytes eff).afterRx h.ctx.toNat =
      State.endPsn h kind (s.unitsOf h kind bytes) (eff (s.heardPsn h kind bytes)) := by
  obtain ⟨hcached, hstate, hwindow, hnew, hgen, htag, hepoch⟩ := hears
  simp only [State.rxPsn]
  rw [if_neg (by simpa [hcached, imp_iff_or_not, or_comm] using hstate), if_neg (by simpa [hnew] using hwindow.trans (by decide)),
    if_neg (Nat.not_le.2 hwindow), if_neg (by simp [hgen]), if_neg (by simpa using htag), if_neg (by simpa using hepoch)]
  generalize hr : eff _ = r
  change eff (s.heardPsn h kind bytes) = r at hr
  rw [hr]
  obtain ⟨t, e⟩ := r
  cases e <;> rfl

/-! ### Class C packets wait for their turn (R333) -/

/-- A class C packet that passes joins those that wait. -/
theorem State.rxC_of_hears {k : CPkt} (hears : s.hearsPsn h k.kind) : s.rxC h k =
    (((s.heardPsn h k.kind 0).modTpc h.ctx.toNat (fun c => { c with waitC := c.waitC ++ [k] })).markPsn h).afterRx h.ctx.toNat :=
  State.afterRx_rxPsn_of_hears 0 _ hears

/-! ### Class C packets in their turn (R325, R337, R339, R340) -/

/-- An atomic whose bytes can be read answers the old value, and writes the new one where it differs. -/
theorem State.atomic_of_read {at_ : Src} {good : Bool} {f : Word → Word} {old : Word}
    (hheld : (s.readSrc at_ 8 good).held = false) (hok : (s.readSrc at_ 8 good).status = .ok)
    (hold : BitVec.ofNat 64 (leNat (s.readSrc at_ 8 good).data) = old) :
    s.atomic at_ good f = some (if f old = old then s else s.writeSrc at_ (leBytes 8 (f old).toNat), .ok, old) := by
  simp [State.atomic, hheld, hok, hold]

section
variable {n r : Nat} {k : CPkt}

theorem State.applyC_of_outside (hout : s.regionAt (s.tpc n).part k.addr (if k.kind = 0x10 ∨ k.kind = 0x11 then 2 ^ k.size else 8)
    k.key (if k.kind = 0x10 then 0 else if k.kind = 0x11 ∨ k.kind = 0x14 then 1 else 2) = none) :
    s.applyC n k = some ((s.inc (FAB_TP_KEY_MISMATCH.COUNT 0)).refuseC n k .keyMismatch) := by
  simp only [State.applyC, hout, State.keyMismatch]

theorem State.applyC_store (hkind : k.kind = 0x11) (hin : s.regionAt (s.tpc n).part k.addr (2 ^ k.size) k.key 1 = some r)
    (hok : s.writeSrcStatus (s.regionSrc (s.tpc n).part r k.addr) (2 ^ k.size) = .ok) :
    s.applyC n k = some ((s.writeSrc (s.regionSrc (s.tpc n).part r k.addr) (leBytes (2 ^ k.size) k.data.toNat)).placed n
      ((s.tpc n).units 0)) := by
  simp [State.applyC, hkind, hin, hok]

theorem State.applyC_mbox (hkind : k.kind = 0x14) (hin : s.regionAt (s.tpc n).part k.addr 8 k.key 1 = some r)
    (hok : s.writeSrcStatus (s.regionSrc (s.tpc n).part r k.addr) 8 = .ok) :
    s.applyC n k = some (((s.writeSrc (s.regionSrc (s.tpc n).part r k.addr) (leBytes 8 k.data.toNat)).placed n
      ((s.tpc n).units 0)).bell (s.tpc n).part k.source) := by
  simp [State.applyC, hkind, hin, hok]

theorem State.applyC_load (hkind : k.kind = 0x10) (hline : k.line = false)
    (hin : s.regionAt (s.tpc n).part k.addr (2 ^ k.size) k.key 0 = some r) {d : TRead}
    (hd : s.readSrc (s.regionSrc (s.tpc n).part r k.addr) (2 ^ k.size) k.good = d) (hheld : d.held = false)
    (hok : d.status = .ok) :
    s.applyC n k = some ((s.sendReply n k.psn 0x15 [k.req, 0, leNat (d.data.take (2 ^ k.size))] []).placed n
      ((s.tpc n).units 0)) := by
  simp [State.applyC, hkind, hline, hin, hd, hheld, hok, Status.code]

/-- The value an ADD or CAS leaves. -/
def CPkt.newValue (k : CPkt) (old : Word) : Word :=
  if k.kind = 0x12 then old + k.data else if old = k.data then k.swap else old

theorem State.applyC_atomic (hkind : k.kind = 0x12 ∨ k.kind = 0x13)
    (hin : s.regionAt (s.tpc n).part k.addr 8 k.key 2 = some r) :
    s.applyC n k = (s.atomic (s.regionSrc (s.tpc n).part r k.addr) k.good k.newValue).map (fun x =>
      (x.1.sendReply n k.psn 0x15 [k.req, x.2.1.code, x.2.2.toNat] []).placed n ((s.tpc n).units 0)) := by
  have hload : k.kind ≠ 0x10 := by omega
  have hwrite : k.kind ≠ 0x11 ∧ k.kind ≠ 0x14 := by omega
  simp only [State.applyC, hload, hwrite, or_self, if_false, hin]
  rfl

end

theorem classCPackets : Claims.ClassCPackets := by
  intro s h addr key size line good req data swap source n c psn waits pkt
  simp only [exec_cLoad, exec_cStore, exec_cAdd, exec_cCas, exec_cMbox, Host.Outcome.next.injEq]
  refine ⟨fun hears => ?_, fun hears => ?_, fun hears => ?_, fun hears => ?_, fun hears => ?_,
    fun _ => State.applyC_of_outside, fun _ _ => State.applyC_store, fun _ _ => State.applyC_mbox,
    fun _ _ hkind hline hin => State.applyC_load hkind hline hin rfl, fun k r hkind hin hheld hok => ?_⟩
  · exact State.rxC_of_hears (k := { pkt 0x10 with size := size.toNat, line := line, req := req.toNat, good := good }) hears
  · exact State.rxC_of_hears (k := { pkt 0x11 with size := size.toNat, data := data }) hears
  · exact State.rxC_of_hears (k := { pkt 0x12 with req := req.toNat, data := data, good := good }) hears
  · exact State.rxC_of_hears (k := { pkt 0x13 with req := req.toNat, data := data, swap := swap, good := good }) hears
  · exact State.rxC_of_hears (k := { pkt 0x14 with source := source.toNat, data := data }) hears
  · rw [State.applyC_atomic hkind hin, State.atomic_of_read hheld hok rfl]
    rfl

/-! ### Class S requests (R277, R282, R289, R325, R334, R335, R344) -/

theorem classSRequests : Claims.ClassSRequests := by
  intro s h addr off len key tag msg inc data req op x y good own id exp new mir mn mp ep r layer total la g hmin hmax
  have hsized : (decide (1 ≤ data.length) && decide (data.length ≤ 4036)) = true := by simp [hmin, hmax]
  simp only [exec_sWrite, execSWrite, exec_sRead, exec_sAtom, exec_sOwn, execSOwn, exec_sLayer, execSLayer, hsized, if_true,
    Host.Outcome.next.injEq]
  refine ⟨fun hears => ?_, fun hears => ?_, fun hears => ?_, fun hears hop => ?_, fun hears => ?_⟩
  · simp only [doSWrite, State.afterRx_rxPsn_of_hears _ _ hears]
    refine ⟨fun hout => ?_, fun hin hfull => ?_, fun hin hroom hok => ?_, fun hin hroom hbad => ?_⟩
    · rw [hout]; rfl
    · simp only [hin, hfull]; rfl
    · simp only [hin, hroom, hok]; rfl
    · simp only [hin, hroom, Bool.not_true, Bool.false_eq_true, if_false]
      rfl
  · simp only [doSRead, State.afterRx_rxPsn_of_hears _ _ hears]
    refine ⟨fun hout => ?_, fun hin => ?_⟩
    · rw [hout]; rfl
    · rw [hin]; rfl
  · simp only [doSAtom, State.afterRx_rxPsn_of_hears _ _ hears]
    refine ⟨fun hout => ?_, fun v hin hread => ?_, fun hin hheld => ?_⟩
    · rw [hout]; rfl
    · simp only [hin, hread]; rfl
    · simp only [hin, hheld]; rfl
  · rw [if_pos (by simpa using hop), doSOwn]
    exact congrArg _ (State.afterRx_rxPsn_of_hears _ _ hears)
  · simp only [doSLayer, State.afterRx_rxPsn_of_hears _ _ hears]
    refine ⟨fun hok hkey howner => ?_, fun hkey => ?_, fun howner => ?_, fun v hok hroom hwrite hentry => ?_⟩
    · simp only [hkey, howner, false_and, if_false]
      rfl
    · simp only [hkey]; rfl
    · simp only [howner, reduceCtorEq, if_false, true_and]
      rfl
    · simp only [hok, hroom, hwrite, hentry]; rfl

/-- Settles O42: a packet that passes its checks has its effect on the state that heard it, and each clause is the branch of that
effect that its conditions choose; a class C packet in its turn is the branch of its kind. -/
theorem requestPackets : Obligations.RequestPackets := ⟨classCPackets, classSRequests⟩

end Sys2Proof.Machine
end

section
/-! Control packets and NACKs (R317, R326, R327, R329 to R332, R338, R341). -/

namespace Sys2Proof.Machine

open Sys2Proof

variable {s : State} {h : PktHdr}

/-! ### Control packets that pass their checks (R321, R330, R341) -/

@[simp] theorem State.tpc_inc (s : State) (f : FieldRef) (n : Nat) : (s.inc f).tpc n = s.tpc n := by
  simp [State.tpc]

@[simp] theorem State.tpc_heardControl (s : State) (h : PktHdr) (n : Nat) : (s.heardControl h).tpc n = s.tpc n := by
  unfold State.heardControl
  split <;> simp

theorem State.rxControl_of_hears (eff : State → State) (hears : s.hearsControl h) :
    s.rxControl h eff = eff (s.heardControl h) := by
  obtain ⟨hgen, htag, hepoch⟩ := hears
  simp only [State.rxControl]
  rw [if_neg (by simp [hgen]), if_neg (by simpa using htag), if_neg (by simp [hepoch])]
  rfl

/-- A tag that does not hold is counted, and the packet has no effect. -/
theorem State.rxControl_of_forged (eff : State → State) (hgen : (s.tpc h.ctx.toNat).knowsGen h.kgen.toNat = true)
    (haes : (s.tpc h.ctx.toNat).aes = true) (htag : h.auth = false) :
    s.rxControl h eff = s.inc (FAB_TP_AUTH_FAIL.COUNT 0) := by
  simp [State.rxControl, hgen, haes, htag]

theorem State.rxDue_of_cached (eff : State → State) (hcached : (s.tpc h.ctx.toNat).cached = true) :
    s.rxDue h eff = s.rxControl h eff := if_pos hcached

theorem State.rxDue_of_uncached (eff : State → State) (hcached : (s.tpc h.ctx.toNat).cached = false) :
    s.rxDue h eff = s.inc (FAB_TP_LATE.COUNT 0) := if_neg (by simp [hcached])

theorem State.rxDue_of_hears (eff : State → State) (hcached : (s.tpc h.ctx.toNat).cached = true) (hears : s.hearsControl h) :
    s.rxDue h eff = eff (s.heardControl h) :=
  (State.rxDue_of_cached eff hcached).trans (State.rxControl_of_hears eff hears)

theorem State.rxFree_of_hears (m : Miss) (hcached : (s.tpc h.ctx.toNat).cached = true) (hears : s.hearsControl h) :
    s.rxFree h m = (s.heardControl h).rxMiss m :=
  (if_pos (.inl hcached)).trans (State.rxControl_of_hears _ hears)

/-! ### What a control packet does (Table 15-1, R326, R330, R338) -/

section
variable {t : State} {n : Nat}

theorem State.rxOpen_of_opening {src : Nat} {aes : Bool} (hstate : (t.tpc n).state = 1) (hsrc : src = (t.tpc n).peerCtx)
    (haes : aes = (t.tpc n).aes) : t.rxOpen n src aes =
      if t.rd (FAB_P_CFG.CREDIT_SHARE 0 (t.tpc n).part) = 0 ∨ (!aes ∧ !t.sameRack (t.tpc n).node) then
        t.sendNack n 0 .refusedPolicy 0
      else (t.sendExpress n 0x02 [n, b01 aes]).goOpen n := by
  simp [State.rxOpen, hstate, hsrc, haes]

/-- The work of a context ends with its peer's CLOSE or CLOSE_ACK. -/
def State.endClosing (t : State) (n : Nat) : State :=
  (((t.endCtxWork n .linkFailed true false).setClosed n).finishCmd n opClose .ok).finishCmds n .linkFailed

theorem State.rxClose_of_live (hstate : (t.tpc n).state = 2 ∨ (t.tpc n).state = 3) :
    t.rxClose n = (t.endClosing n).sendExpress n 0x04 [] := if_pos hstate

theorem State.rxCreditReq_of_open {want : Nat} (hstate : (t.tpc n).state = 2) : t.rxCreditReq n want =
    if ((t.grant n want).tpc n).rxGranted = (t.tpc n).rxGranted then
      (t.grant n want).sendExpress n 0x07 [(t.tpc n).rxGranted]
    else t.grant n want := if_neg (not_not.2 hstate)

theorem State.rxKeychg_of_new {gen : Nat} (haes : (t.tpc n).aes = true) (hgen : (t.tpc n).knowsGen gen = true)
    (hnew : (t.tpc n).txGen ≠ gen) : t.rxKeychg n gen =
      (t.modTpc n (fun k => { k.switchKey with offered := k.offered })).sendExpress n 0x0C [gen] := by
  simp [State.rxKeychg, haes, hgen, hnew]

theorem State.rxKeychg_of_unknown {gen : Nat} (hgen : (t.tpc n).aes = false ∨ (t.tpc n).knowsGen gen = false) :
    t.rxKeychg n gen = t.sendNack n 0 .keyGenGone 0 := if_pos (by simpa using hgen)

end

theorem doInvalAck_of_found {addr : BitVec 64} {m : Msg} (hcached : (s.tpc h.ctx.toNat).cached = true)
    (hears : s.hearsControl h)
    (hm : (s.heardControl h).tp.msgs.find? (fun m => m.inval == some addr.toNat && m.ctx == h.ctx.toNat) = some m)
    (hfailed : m.failed = none) : doInvalAck h addr s = { s.heardControl h with tp := { (s.heardControl h).tp with
      msgs := (s.heardControl h).tp.msgs.filter (fun x => x.id != m.id) } } := by
  rw [doInvalAck, State.rxDue_of_hears _ hcached hears]
  simp only [hm, hfailed]
  rfl

theorem controlPacketEffects : Claims.ControlPackets := by
  intro s h src aes base granted back map addr want gen n c t ends
  simp only [exec_openPacket, exec_openAck, exec_close, exec_closeAck, exec_ack, exec_creditReq, exec_credit, exec_revoke,
    exec_revokeAck, exec_keychg, exec_keychgAck, exec_inval, exec_invalAck, Host.Outcome.next.injEq]
  have htpc : t.tpc n = c := s.tpc_heardControl h n
  refine ⟨fun hears hcached => ?_, fun hcached => ?_, fun hcached hgen haes hauth => ?_⟩
  · have hdue (eff : State → State) : s.rxDue h eff = eff t := State.rxDue_of_hears eff hcached hears
    have hfree (m : Miss) : s.rxFree h m = t.rxMiss m := State.rxFree_of_hears m hcached hears
    simp only [doOpenPacket, doOpenAck, doClose, doCloseAck, doAck, doCreditReq, doCredit, doRevoke, doRevokeAck, doKeychg,
      doKeychgAck, doInval, doInvalAck, hdue, hfree, State.rxMiss]
    rw [← htpc]
    refine ⟨fun hstate hsrc haes hshare hsafe => ?_, fun hstate hsrc haes hshare => ?_, fun hstate => if_pos hstate,
      fun hstate => if_neg hstate, State.rxClose_of_live, fun hstate => if_pos hstate, fun hstate => if_neg hstate, rfl,
      State.rxCreditReq_of_open, fun hstate => if_pos hstate, fun hnear => if_neg (Nat.not_le.2 hnear), rfl, rfl,
      State.rxKeychg_of_new, State.rxKeychg_of_unknown, fun hoffered => if_neg (not_not.2 hoffered), rfl,
      fun m hm hfailed => ?_⟩
    · exact (State.rxOpen_of_opening hstate hsrc haes).trans (if_neg (by rcases hsafe with hs | hs <;> simp [hshare, hs]))
    · exact (State.rxOpen_of_opening hstate hsrc haes).trans (if_pos (.inl hshare))
    · exact (hdue _).symm.trans (doInvalAck_of_found hcached hears hm hfailed)
  · simp only [doOpenAck, doAck, doCredit, State.rxDue_of_uncached _ hcached, and_self]
  · exact (State.rxDue_of_cached _ hcached).trans (State.rxControl_of_forged _ hgen haes hauth)

/-! ### NACKs (R332, R341) -/

section
variable {psn : BitVec 32} {st : Status} {units : BitVec 16} (hcached : (s.tpc h.ctx.toNat).cached = true)
  (hears : s.hearsControl h)
include hcached hears

theorem doNack_of_unknown (hnone : (s.heardControl h).findSent h.ctx.toNat psn.toNat = none) :
    doNack h psn st units s = ((s.heardControl h).noteNack h.ctx.toNat st 0).nackControl h.ctx.toNat st := by
  rw [doNack, State.rxDue_of_hears _ hcached hears]
  simp only [hnone]

/-- The NACK of a packet is noted, and the packet's units come back. -/
def State.unsent (t : State) (n : Nat) (e : Sent) (st : Status) (units : Nat) : State :=
  ((t.noteNack n st e.send.kind).dropSent e).modTpc n (fun c => { c with held := c.held + units })

theorem doNack_of_found {e : Sent} (he : (s.heardControl h).findSent h.ctx.toNat psn.toNat = some e) {u : State}
    (hu : (s.heardControl h).unsent h.ctx.toNat e st units.toNat = u) : doNack h psn st units s =
      if st = .ctxBusy ∨ st = .refusedFull then u.requeue e { e.send with paid := false }
      else if st = .staleMap then
        if e.epoch = u.curEpoch then
          (u.inc (FAB_TP_STALE_HELD.COUNT 0)).requeue e { e.send with paid := false, heldAt := some e.epoch }
        else u.requeue e { e.send with paid := false, heldAt := none }
      else if st = .keyGenGone then
        (u.report (tpReport st (some (u.tpc h.ctx.toNat).part) 0xFF h.ctx.toNat 0 e.send.kind)).failSend e.send st
      else u.failSend e.send st := by
  unfold State.unsent at hu
  rw [doNack, State.rxDue_of_hears _ hcached hears]
  simp only [he, hu, beq_iff_eq]
  split_ifs <;> rfl

end

theorem nackEffects : Claims.NackEffects := by
  intro s h psn st units e hears hcached n t u again
  simp only [exec_nack, Host.Outcome.next.injEq]
  refine ⟨doNack_of_unknown hcached hears, fun he => ?_⟩
  rw [doNack_of_found hcached hears he (u := u) rfl]
  refine ⟨fun hst => if_pos hst, fun hst hnew => ?_, fun hst hold => ?_, fun hbusy hfull hstale hgen => ?_, fun hst => ?_⟩
  · rw [if_neg (by simp [hst]), if_pos hst, if_neg hnew]
  · rw [if_neg (by simp [hst]), if_pos hst, if_pos hold]
  · rw [if_neg (by simp [hbusy, hfull]), if_neg hstale, if_neg hgen]
  · rw [if_neg (by simp [hst]), if_neg (by simp [hst]), if_pos hst]

/-- Settles O43: a control packet that passes its checks has its effect on the state that heard it, which differs from the old one in
a counter at most, and its context is the same in both; each clause is then the branch of the effect that its conditions choose. -/
theorem controlPackets : Obligations.ControlPackets := ⟨controlPacketEffects, nackEffects⟩

end Sys2Proof.Machine
end

section
/-! Connection commands (Table 15-1, R316 to R319, R342, R419), the transport's timers and fetches (R320, R321, R327, R330 to R332,
R418), regions and the remote-line cache (R324, R338). -/

namespace Sys2Proof.Machine

open Sys2Proof

variable {s t : State} {a : Agent} {k : BitVec 16}

/-! ### A write of FAB_CTX_CMD (R342) -/

section
variable {p : Option Nat} {eff : State → State × Option Status}

theorem State.ctxCommand_of_refused (hmay : s.mayCtx a p = false) :
    s.ctxCommand a p eff = (s.refuseWrite a .FAB 0).tpResult a.code .refusedPolicy :=
  if_pos (show (!s.mayCtx a p) = true by simp [hmay])

theorem State.ctxCommand_of_done {st : Status} (hmay : s.mayCtx a p = true) (heff : eff s = (t, some st)) :
    s.ctxCommand a p eff = t.tpResult a.code st := by
  refine (if_neg (show ¬ (!s.mayCtx a p) = true by simp [hmay])).trans ?_
  simp only [heff]

theorem State.ctxCommand_of_waiting (hmay : s.mayCtx a p = true) (heff : eff s = (t, none)) :
    s.ctxCommand a p eff = t.wrPriv a.code (FAB_TP_RESULT.BUSY 0) 1 := by
  refine (if_neg (show ¬ (!s.mayCtx a p) = true by simp [hmay])).trans ?_
  simp only [heff]

end

/-! ### CREATE (Table 15-1, R316, R317) -/

section
variable {p : Fin 64} {part n : Nat} (hpart : (s.actingPart a p).getD p = part) (hn : k.toNat = n)
  (hmay : s.mayWritePart a part = true)
include hpart hn hmay

/-- The status of a CREATE with the arguments of FAB_CTX_ARG. -/
abbrev State.createOutcome (s : State) (n part : Nat) : Status :=
  s.createStatus n part (s.rd (FAB_CTX_ARG.PEER_NODE 0)) (s.rd (FAB_CTX_ARG.PEER_PART 0)) (s.on (FAB_CTX_ARG.CIPHER 0))

theorem doCtxCreate_of_refused (hst : s.createOutcome n part ≠ .ok) :
    doCtxCreate a k p s = s.tpResult a.code (s.createOutcome n part) := by
  subst hpart hn
  simp only [doCtxCreate]
  refine State.ctxCommand_of_done (p := some _) hmay ?_
  simp only

/-- The context that a CREATE makes. -/
def State.createdCtx (s : State) (part : Nat) : TpCtx :=
  { state := 1, part := part, node := s.rd (FAB_CTX_ARG.PEER_NODE 0), peerPart := s.rd (FAB_CTX_ARG.PEER_PART 0),
    peerCtx := s.rd (FAB_CTX_ARG.PEER_CTX 0), aes := s.on (FAB_CTX_ARG.CIPHER 0) }

/-- The first key of a context is asked for, under the current root. -/
def State.askFirstKey (u : State) (n : Nat) : State :=
  { u with tp := { u.tp with derives := u.tp.derives ++ [(n, true)],
                             serials := Tab.put (fun _ => 0) u.tp.serials n (u.rd VES_STATE.FKR_CUR + 1) } }

theorem doCtxCreate_of_ok (hst : s.createOutcome n part = .ok)
    (hframe : (s.setTpc n (s.createdCtx part)).makeFrame = some t) {u : State}
    (hu : ((t.setCached n true).touch n).waitCmd a n opCreate = u) :
    doCtxCreate a k p s = State.wrPriv (if s.on (FAB_CTX_ARG.CIPHER 0) = true then u.askFirstKey n else u.sendOpen n)
      a.code (FAB_TP_RESULT.BUSY 0) 1 := by
  subst hpart hn
  simp only [doCtxCreate]
  refine State.ctxCommand_of_waiting (p := some _) hmay ?_
  unfold State.createdCtx at hframe
  simp only [hst, hframe, hu]
  split <;> rfl

end

/-! ### Every command in the states that allow it (Table 15-1) -/

theorem connectionCommands : Claims.ConnectionCommands := by
  intro s a k p hready
  simp only [exec_ctxCreate, execCtxCreate, exec_ctxClose, execCtxClose, exec_ctxQuery, execCtxQuery, exec_ctxKeyInstall,
    execCtxKeyInstall, exec_ctxKeySwitch, execCtxKeySwitch, exec_ctxPin, execCtxPin, exec_ctxUnpin, execCtxUnpin,
    exec_ctxReset, execCtxReset, State.whenAnyReady_of_ready hready, Host.Outcome.next.injEq, doCtxClose, doCtxQuery,
    doCtxKeyInstall, doCtxKeySwitch, doCtxPin, doCtxUnpin, doCtxReset]
  refine ⟨doCtxCreate_of_refused rfl rfl, fun t hmay hst hframe => doCtxCreate_of_ok rfl rfl hmay hst hframe rfl,
    fun hmay => State.ctxCommand_of_refused (by simpa using hmay), fun hmay hopen => ?_,
    fun hmay hopen => ⟨?_, ?_, ?_⟩, fun hmay => ?_, fun hmay hopen haes hfree hgen hderives => ?_,
    fun hmay hopen haes hold hother hoffered => ?_, fun hmay hpinned => ?_, fun hmay hpinned hlive hroom => ?_,
    fun hmay hpinned hnot => ?_, fun hmay => State.ctxCommand_of_done hmay rfl, fun hmay hfailed => ?_,
    fun hmay hfailed => ?_⟩
  · exact State.ctxCommand_of_waiting hmay (if_neg (not_not.2 hopen))
  · exact State.ctxCommand_of_done hmay (if_pos hopen)
  · exact State.ctxCommand_of_done hmay (if_pos (.inl hopen))
  · exact State.ctxCommand_of_done hmay (if_pos (.inl hopen))
  · refine State.ctxCommand_of_done hmay ?_
    simp only [Bool.not_eq_true']
  · have hidle : s.tp.derives.any (fun d => d.1 == k.toNat) = false :=
      List.any_eq_false.2 fun d hd => by simpa using hderives d hd
    refine State.ctxCommand_of_waiting hmay (if_neg ?_)
    simp [hopen, haes, hfree, hgen, hidle]
  · refine State.ctxCommand_of_waiting hmay (if_neg ?_)
    simp [hopen, haes, hold, hother, hoffered]
  · exact State.ctxCommand_of_done hmay (if_pos hpinned)
  · exact State.ctxCommand_of_done hmay ((if_neg (by simp [hpinned])).trans (if_neg (by simp [hlive, hroom])))
  · exact State.ctxCommand_of_done hmay ((if_neg (by simp [hpinned])).trans (if_pos hnot))
  · exact State.ctxCommand_of_done hmay (if_neg (not_not.2 hfailed))
  · exact State.ctxCommand_of_done hmay (if_pos hfailed)

/-! ### Timers and fetches (R320, R321, R327, R330 to R332, R418) -/

theorem doConnKeyInstallDone_of_none (hnone : s.tp.derives.find? (fun d => d.1 == k.toNat) = none) :
    doConnKeyInstallDone k s = s := by
  simp only [doConnKeyInstallDone, hnone]

/-- A key that was asked for is derived: the CREATE goes on with OPEN, the KEY_INSTALL ends. -/
theorem doConnKeyInstallDone_of_asked {n : Nat} {d : Nat × Bool} (hn : k.toNat = n)
    (hd : s.tp.derives.find? (fun d => d.1 == n) = some d)
    (ht : { s with tp := { s.tp with derives := s.tp.derives.erase d } } = t) : doConnKeyInstallDone k s =
      if s.on VES_STATE.RESTARTING then s
      else if d.2 then (t.modTpc n (fun c => { c with keyA := { held := true, gen := 1 } })).sendOpen n
      else (t.modTpc n (fun c => c.setOther { held := true, gen := c.txGen + 1 })).finishCmd n opInstall .ok := by
  subst hn ht
  simp only [doConnKeyInstallDone, hd]

theorem doPacketResendTimeout_of_sent {psn : BitVec 32} {e : Sent} (he : s.findSent k.toNat psn.toNat = some e) :
    doPacketResendTimeout k psn s =
      if 0x20 ≤ e.send.kind ∧ s.rd (FAB_TP_CFG.RETRIES 0) ≤ e.send.timeouts then
        (s.dropSent e).failSend e.send .linkFailed
      else s.resend e (e.send.timeouts + 1) := by
  simp only [doPacketResendTimeout, he]

theorem doSResponseTimeout_of_none {req : BitVec 16} (hnone : s.findReq k.toNat req.toNat = none) :
    doSResponseTimeout k req s = s := by
  simp only [doSResponseTimeout, hnone]

theorem doSResponseTimeout_of_classS {req : BitVec 16} {r : Req} (hr : s.findReq k.toNat req.toNat = some r)
    (hkind : classCReq r.kind = false) : doSResponseTimeout k req s = (s.dropPackets r).endReq r .linkFailed 0 false := by
  simp [doSResponseTimeout, hr, hkind]

theorem doCtxFetchDone_of_none {good : Bool} (hnone : k.toNat ∉ s.tp.fetching) : doCtxFetchDone k good s = s :=
  if_pos (by simpa using hnone)

section
variable {n : Nat} (hn : k.toNat = n) (hfetch : n ∈ s.tp.fetching)
include hn hfetch

theorem doCtxFetchDone_of_unsealed : doCtxFetchDone k false s =
    State.failCtx { s with tp := { s.tp with fetching := s.tp.fetching.erase n } } n .uncorrected := by
  subst hn
  simp [doCtxFetchDone, hfetch]

/-- A fetched context is cached, and what waited for it is processed in order. -/
theorem doCtxFetchDone_of_sealed {u : State} (hread : s.accessStatus (s.backingAt n) 256 = .ok) (hframe : s.makeFrame = some t)
    (hu : { t with tp := { t.tp with fetching := t.tp.fetching.erase n,
                                     misses := t.tp.misses.filter (fun m => m.ctx != n) } } = u) :
    doCtxFetchDone k true s = ((t.tp.misses.filter (fun m => m.ctx == n)).foldl (fun v m => v.rxMiss m)
      (((u.setCached n true).touch n).countTp)).askCredit n := by
  subst hn hu
  simp [doCtxFetchDone, hfetch, hread, hframe]

end

theorem transportTimers : Claims.TransportTimers := by
  intro s k req psn n c idle due
  simp only [exec_connKeyInstallDone, exec_packetResendTimeout, exec_sResponseTimeout, exec_busyRetryExpiry,
    exec_idleRevokeTimeout, exec_ackSend, exec_ctxFetchDone, Host.Outcome.next.injEq]
  refine ⟨doConnKeyInstallDone_of_none, fun d hd => ?_, fun e he => ?_, doSResponseTimeout_of_none,
    fun r => doSResponseTimeout_of_classS, rfl, fun hopen hcached hon hidle => if_pos ⟨hopen, hcached, hon, hidle⟩,
    fun hnot => if_neg ?_, fun hnone => if_pos hnone, fun hsome => if_neg hsome, fun hnone good => doCtxFetchDone_of_none hnone,
    doCtxFetchDone_of_unsealed rfl, fun t hfetch hread hframe => doCtxFetchDone_of_sealed rfl hfetch hread hframe rfl⟩
  · rw [doConnKeyInstallDone_of_asked rfl hd rfl]
    refine ⟨fun hrestart => if_pos hrestart, fun hrun hcreate => ?_, fun hrun hinstall => ?_⟩
    · rw [if_neg (by simp [hrun]), if_pos hcreate]
    · rw [if_neg (by simp [hrun]), if_neg (by simp [hinstall])]
  · rw [doPacketResendTimeout_of_sent he]
    exact ⟨fun hpast => if_pos hpast, fun hpast => if_neg hpast⟩
  · rintro ⟨hopen, hcached, hon, hidle⟩
    rcases hnot with h | h | h | h
    · exact h hopen
    · exact Bool.false_ne_true (h.symm.trans hcached)
    · exact hon h
    · exact absurd hidle (Nat.not_le.2 h)

/-! ### Regions and the remote-line cache (R324, R338) -/

section
variable {p : Nat} {eff : State → State × Status}

theorem State.rgnCommand_of_may (hmay : s.mayWritePart a p = true) : s.rgnCommand a p eff =
    (eff s).1.tpResult a.code (eff s).2 := if_neg (by simp [hmay])

theorem State.rgnCommand_of_refused (hmay : s.mayWritePart a p = false) : s.rgnCommand a p eff =
    (s.refuseWrite a .FAB 0).tpResult a.code .refusedPolicy := if_pos (by simp [hmay])

end

/-- The words of a region's entry; words that are not given are 0. -/
def State.setRegion (s : State) (p i : Nat) (ws : List Word) : State :=
  (((s.setReg (FAB_RGN_W0.BASE 0 p i).off (ws.getD 0 0)).setReg (FAB_RGN_W1.LEN 0 p i).off (ws.getD 1 0)).setReg
    (FAB_RGN_W2.TARGET 0 p i).off (ws.getD 2 0)).setReg (FAB_RGN_W3.KEY 0 p i).off (ws.getD 3 0)

theorem State.setRegion_set_zero {p i : Nat} {ws : List Word} (w : Word) (hlen : 0 < ws.length) :
    s.setRegion p i (ws.set 0 w) = (((s.setReg (FAB_RGN_W0.BASE 0 p i).off w).setReg (FAB_RGN_W1.LEN 0 p i).off
      (ws.getD 1 0)).setReg (FAB_RGN_W2.TARGET 0 p i).off (ws.getD 2 0)).setReg (FAB_RGN_W3.KEY 0 p i).off (ws.getD 3 0) :=
  match ws, hlen with
  | _ :: _, _ => rfl

theorem doRgnAdd_of_readable {p : Fin 64} {i : Fin 256} {d : BitVec 48} {ws : List Word} {st : Status}
    (hws : s.words d.toNat 4 = ws) (hmay : s.mayWritePart a p = true) (hread : s.accessStatus d.toNat 32 = .ok)
    (hst : (if d.toNat % 32 ≠ 0 then .badLength else s.regionCheck p i ws) = st) :
    doRgnAdd a p i d s = if st = .ok then
        (s.setRegion p i (ws.set 0 (setBits (ws.getD 0 0) 63 1 1))).tpResult a.code .ok
      else s.tpResult a.code st := by
  have hlen : 0 < ws.length := by simp [← hws, State.words]
  rw [doRgnAdd, State.rgnCommand_of_may hmay, State.setRegion_set_zero _ hlen]
  simp only [hread, hws, hst]
  split <;> rfl

theorem regionsAndLines : Claims.RegionsAndLines := by
  intro s a p i d hready
  simp only [exec_rgnAdd, execRgnAdd, exec_rgnRemove, execRgnRemove, exec_rlcFlush, execRlcFlush,
    State.whenAnyReady_of_ready hready, Host.Outcome.next.injEq]
  refine ⟨fun hmay hread => ⟨fun halign hok => ?_, fun halign hbad => ?_, fun halign => ?_⟩,
    fun hmay => State.rgnCommand_of_may hmay,
    fun hmay => ⟨State.rgnCommand_of_refused hmay, State.rgnCommand_of_refused hmay⟩,
    fun hmay => if_neg (by simp [hmay]), fun hmay => if_pos (by simp [hmay])⟩
  · exact (doRgnAdd_of_readable rfl hmay hread ((if_neg (not_not.2 halign)).trans hok)).trans (if_pos rfl)
  · exact (doRgnAdd_of_readable rfl hmay hread (if_neg (not_not.2 halign))).trans (if_neg hbad)
  · exact (doRgnAdd_of_readable rfl hmay hread (if_pos halign)).trans (if_neg (by decide))

/-- Settles O44: a command that its agent may give ends with a status or waits for its outcome, as the context's state decides; each
timer and fetch is the branch its conditions choose; a region's entry is the four words of its descriptor with VALID set. -/
theorem connections : Obligations.Connections := ⟨connectionCommands, transportTimers, regionsAndLines⟩

end Sys2Proof.Machine
end

section
/-! What reaches the front of the queue (a step), and the orrery: its allowances and what a start opportunity sends (R345, R347, R349,
R351). -/

namespace Sys2Proof.Machine

open Sys2Proof

/-- Settles O1: a step looks at the queue alone to choose between a tick and the front command. -/
theorem stepRunsFront : Obligations.StepRunsFront := by
  intro c rest s h
  simp only [step, h]

variable {s : State} {f : Fin 4} {good : Bool} {p : Nat}

/-! ### The two rates (R347, R349) -/

theorem doWheelSlot_of_owner {t : State} (ht : s.addMod ORR_STATE.SLOT 1 = t) (hwheel : t.wheel = true)
    (howner : t.slotOwner (s.rd ORR_STATE.SLOT) = some p) : doWheelSlot s = t.fill p t.slotGrant := by
  subst ht
  simp [doWheelSlot, hwheel, howner]

theorem doWheelSlot_of_none {t : State} (ht : s.addMod ORR_STATE.SLOT 1 = t)
    (h : t.wheel = false ∨ t.slotOwner (s.rd ORR_STATE.SLOT) = none) : doWheelSlot s = t := by
  subst ht
  rw [doWheelSlot]
  rcases h with hbucket | hfree
  · simp only [hbucket, Bool.not_false, if_true]
  · simp only [hfree, ite_self]

/-! ### Allowances (R347) -/

/-- A signed number of 32 bits reads back from the field that holds it. -/
theorem getSigned_eq_of_field {w : Word} {lo : Nat} {v : Int} (hw : getBits w lo 32 = (v % 2 ^ 32).toNat)
    (hlow : -(2 ^ 31) ≤ v) (hhigh : v < 2 ^ 31) : getSigned w lo 32 = v := by
  simp only [getSigned, hw]
  split <;> omega

theorem State.allowance_setAllowance {v : Int} (hlow : -(2 ^ 31) ≤ v) (hhigh : v < 2 ^ 31) :
    (s.setAllowance p v).allowance p = v := by
  refine getSigned_eq_of_field ?_ hlow hhigh
  have hself := s.rd_wr_self (ORR_P_STATE.ALLOWANCE p) (v % 2 ^ 32).toNat (Nat.le_refl 64)
  refine hself.trans (Nat.mod_eq_of_lt ?_)
  simp only [ORR_P_STATE.ALLOWANCE]
  omega

/-- A cap is a 16-bit number of KiB. -/
theorem State.burst_bounds (s : State) (wheel : Bool) (p : Nat) : 0 ≤ s.burst wheel p ∧ s.burst wheel p < 2 ^ 26 := by
  have hwidth : s.rd (if wheel then ORR_P_WHEEL.BURST_KIB p else ORR_P_BUCKET.BURST_KIB p) < 2 ^ 16 := by
    cases wheel <;> exact getBits_lt _ _ 16
  unfold State.burst
  omega

theorem State.allowance_fill_le {v : Int} (hcap : s.allowance p ≤ s.burst s.wheel p) (hlow : -(2 ^ 31) ≤ s.allowance p + v) :
    (s.fill p v).allowance p ≤ s.burst s.wheel p := by
  simp only [State.fill]
  split
  · exact hcap
  · have hburst := s.burst_bounds s.wheel p
    rw [State.allowance_setAllowance] <;> omega

/-! ### A start opportunity (R345, R351) -/

/-- Fewer than EXPRESS_MAX of the starts that count were express. -/
abbrev State.expressRoom (s : State) (f : Nat) : Prop := (s.orrPort f).starts.count true < s.rd ORR_CFG.EXPRESS_MAX

theorem doPortBlockStart_of_closed (hsend : s.canSend f = false) : doPortBlockStart f good s = s := if_pos (by simp [hsend])

section
variable (hsend : s.canSend f = true)
include hsend

theorem doPortBlockStart_of_express {x : Send} (hroom : s.choosePorts.expressRoom f) (hx : s.choosePorts.nextExpress f = some x) :
    doPortBlockStart f good s = s.choosePorts.startExpress f x := by
  simp [doPortBlockStart, hsend, hroom, hx]

/-- What goes where no express packet may: by allowance, else by spilling, else IDLE. -/
theorem doPortBlockStart_of_noExpress {c : State} (hc : s.choosePorts = c)
    (hnone : ¬ c.expressRoom f ∨ c.nextExpress f = none) :
    (∀ e o, c.chooseIn f (c.pool f false) = some (e, o) →
      doPortBlockStart f good s = c.startPacket f e.1 (clearDeficits (c.pool f false) o) false good) ∧
    (c.chooseIn f (c.pool f false) = none →
      (∀ e o, c.chooseIn f (c.pool f true) = some (e, o) →
        doPortBlockStart f good s = c.startPacket f e.1 (clearDeficits (c.pool f true) o) true good) ∧
      (c.chooseIn f (c.pool f true) = none → doPortBlockStart f good s = c.noteStart f false)) := by
  have hexpress : (if decide (c.expressRoom f) then c.nextExpress f else none) = none := by
    rcases hnone with hfull | hempty
    · simp [hfull]
    · simp [hempty]
  subst hc
  refine ⟨fun e o hown => ?_, fun hown => ⟨fun e o hspill => ?_, fun hspill => ?_⟩⟩
  · simp only [doPortBlockStart, hsend, hexpress, hown, Bool.not_true, Bool.false_eq_true, if_false]
  · simp only [doPortBlockStart, hsend, hexpress, hown, hspill, Bool.not_true, Bool.false_eq_true, if_false]
  · simp only [doPortBlockStart, hsend, hexpress, hown, hspill, Bool.not_true, Bool.false_eq_true, if_false]

end

/-- Settles O45: a start opportunity is one choice, express first, then by allowance, then by spilling; an allowance is filled up to its
cap, which is below 2^26 bytes, so the 32-bit field holds it. -/
theorem orreryScheduling : Obligations.OrreryScheduling := by
  intro s f good k t c room frac
  simp only [exec_wheelSlot, exec_bucketFill, exec_portBlockStart, Host.Outcome.next.injEq]
  refine ⟨fun hwheel p howner => doWheelSlot_of_owner rfl hwheel howner, doWheelSlot_of_none rfl, fun hwheel => if_pos hwheel,
    fun hbucket => if_neg (by simp [hbucket]), doPortBlockStart_of_closed,
    fun x hsend hroom hx => doPortBlockStart_of_express hsend hroom hx,
    fun e o hsend hnone => (doPortBlockStart_of_noExpress hsend rfl hnone).1 e o,
    fun e o hsend hnone hown => ((doPortBlockStart_of_noExpress hsend rfl hnone).2 hown).1 e o,
    fun hsend hnone hown => ((doPortBlockStart_of_noExpress hsend rfl hnone).2 hown).2,
    fun p v hcap hlow _ _ => State.allowance_fill_le hcap hlow⟩

end Sys2Proof.Machine
end

section
/-! Host ports (R366 to R368) and re-binding (R370, R371). -/

namespace Sys2Proof.Machine

open Sys2Proof

variable {s : State} {a : Agent} {x : Port}

/-! ### The states of a port (R367) -/

theorem doHostPortLinkUp_of_down {speed : Fin 7} {width : Fin 9} {up : State} (hdown : s.portState x = 0)
    (hready : s.ready .HIF x.num = true)
    (hup : (((s.wr (HIF_LINK.SPEED x.num) speed).wr (HIF_LINK.WIDTH x.num) width).wr (HIF_LINK.FLIT x.num)
      (b01 (speed == 6))).wr (HIF_LINK.DL_UP x.num) 1 = up) :
    doHostPortLinkUp x speed width s = (up.wr (HIF_PORT_STATE.LAST_HB x.num) up.mer32).setPortState x 1 := by
  subst hup
  exact if_neg (by simp [hdown, hready])

theorem doVfFlr_of_mapped {v : Fin 32} {p : Nat} (hport : s.portState x ≠ 0) (hv : s.vfPart x v = some p) :
    doVfFlr x v s = (s.resetFns x (fun fn => fn == v.val + 1)).resetRings p := by
  simp only [doVfFlr, if_neg hport, hv]

theorem doVfFlr_of_unmapped {v : Fin 32} (hport : s.portState x ≠ 0) (hv : s.vfPart x v = none) :
    doVfFlr x v s = s.resetFns x (fun fn => fn == v.val + 1) := by
  simp only [doVfFlr, if_neg hport, hv]

theorem doHifHeartbeat_of_may (hmay : a = .pf x ∨ s.mayWriteDevice a = true) : doHifHeartbeat a x s =
    if (s.heartbeat x).portState x = 2 then (s.heartbeat x).setPortState x 1 else s.heartbeat x :=
  if_neg (by rcases hmay with h | h <;> simp [h])

theorem hostPortStates : Claims.HostPorts := by
  intro s a x speed width v up down st hb ms passed
  simp only [exec_hostPortLinkUp, exec_hostPortLinkDown, exec_pfFlr, exec_vfFlr, exec_hifHeartbeat, execHifHeartbeat,
    exec_heartbeatTimeout, Host.Outcome.next.injEq]
  refine ⟨fun hdown hready => doHostPortLinkUp_of_down hdown hready rfl, fun h => if_pos (by simpa using h),
    fun h => ⟨if_neg h, if_neg h⟩, fun h => ⟨if_pos h, if_pos h, if_pos h⟩,
    fun p hport hv => doVfFlr_of_mapped hport hv, doVfFlr_of_unmapped,
    fun hready hmay hother => ?_, fun hready hmay hsilent => ?_, fun hready hown hmay => ?_,
    fun hst hms hlate => if_pos ⟨hst, hms, hlate⟩, fun h => if_neg ?_⟩
  · rw [State.whenReady_of_ready hready, doHifHeartbeat_of_may hmay]
    exact if_neg hother
  · rw [State.whenReady_of_ready hready, doHifHeartbeat_of_may hmay]
    exact if_pos hsilent
  · rw [State.whenReady_of_ready hready]
    exact if_pos (by simp [hown, hmay])
  · rintro ⟨hst, hms, hlate⟩
    rcases h with h | h | h
    · exact h hst
    · exact hms h
    · exact absurd hlate (Nat.not_le.2 h)

/-! ### Re-binding (R370, R371) -/

theorem State.rebindCommand_of_accepted {op : Nat} {eff : Port → Option State} {t : State} (h : eff x = some t) :
    s.rebindCommand (.pf x) op eff = t.rebindResult (.pf x) op .ok := by
  simp only [State.rebindCommand, h]

theorem State.rebindCommand_of_refused {op : Nat} {eff : Port → Option State} (h : eff x = none) :
    s.rebindCommand (.pf x) op eff = s.rebindResult (.pf x) op .refusedPolicy := by
  simp only [State.rebindCommand, h]

theorem State.lost_iff : s.lost x = true ↔ s.portState x ≠ 1 := by simp [State.lost]

/-- Setting a mask's bit sets it. -/
theorem bitOf_withBit_self (v i : Nat) : bitOf (withBit v i) i = true := by
  by_cases hset : bitOf v i = true
  · rw [withBit, if_pos hset, hset]
  · have heven : v / 2 ^ i % 2 = 0 := by simpa [bitOf] using hset
    rw [withBit, if_neg hset, bitOf, Nat.add_div_right _ (Nat.two_pow_pos i)]
    simp only [beq_iff_eq]
    omega

/-- A bit of a mask depends on the mask's low bits alone. -/
theorem bitOf_mod_two_pow {v i n : Nat} (h : i < n) : bitOf (v % 2 ^ n) i = bitOf v i := by
  simp only [bitOf, ← Nat.toNat_testBit, Nat.testBit_mod_two_pow, h, decide_true, Bool.true_and]

theorem State.rebindPending_pendRebind (p : Fin 64) : (s.pendRebind p).rebindPending p = true := by
  rw [State.rebindPending, State.pendRebind, State.rd_wr_self _ _ _ (by decide), HIF_BIND_PENDING.MASK,
    bitOf_mod_two_pow p.isLt, bitOf_withBit_self]

theorem State.primary_setPrimary (s : State) (x : Port) : (s.setPrimary x).primary = x := by
  rw [State.primary, State.setPrimary, State.rd_wr_self _ _ _ (by decide)]
  cases x <;> rfl

theorem rebinding : Claims.Rebinding := by
  intro s x p v hready a lost mine refused
  simp only [exec_rebind, execRebind, exec_rebindAll, execRebindAll, exec_takePrimary, execTakePrimary, exec_givePrimary,
    execGivePrimary, exec_rebindApply, State.whenAnyReady_of_ready hready, Host.Outcome.next.injEq]
  refine ⟨fun hmine => State.rebindCommand_of_accepted (if_pos ?_), fun hmine => State.rebindCommand_of_refused (if_neg ?_),
    fun hlost => State.rebindCommand_of_accepted (if_pos (State.lost_iff.2 hlost)),
    fun hlost => State.rebindCommand_of_refused (if_neg (mt State.lost_iff.1 hlost)),
    fun hother hlost => State.rebindCommand_of_accepted (if_pos ⟨hother, State.lost_iff.2 hlost⟩),
    fun h => State.rebindCommand_of_refused (if_neg ?_), fun h => State.rebindCommand_of_accepted (if_pos h),
    fun h => State.rebindCommand_of_refused (if_neg h), rfl, fun h => if_neg (by simp [h]), fun h => if_pos (by simp [h]),
    s.primary_setPrimary x, State.rebindPending_pendRebind p⟩
  · obtain ⟨hfree, hport⟩ := hmine
    simpa [hfree, State.lost_iff] using hport
  · simpa [mine, lost, State.lost_iff] using hmine
  · rintro ⟨hother, hlost⟩
    exact h.elim (fun hne => hne hother) (fun hup => hup (State.lost_iff.1 hlost))

/-- Settles O46: each event of a port is the branch of its state, and each command of re-binding is accepted or refused by one test; a
pending bit that is set, and the primary port, read back from the fields that hold them. -/
theorem hostPorts : Obligations.HostPorts := ⟨hostPortStates, rebinding⟩

end Sys2Proof.Machine
end

section
/-! MSI-X messages and the configuration space (R366), accesses through BAR2 (R359, R364) and the DOE mailboxes (R372). -/

namespace Sys2Proof.Machine

open Sys2Proof

variable {s : State} {x : Port}

/-! ### MSI-X (R366) -/

section
variable {m : Msix}

theorem doMsixSend_of_none (h : s.hif.msixQueue = []) : doMsixSend s = s := by
  simp only [doMsixSend, h]

/-- The oldest delivery leaves the queue, whatever becomes of it. -/
theorem doMsixSend_of_front {ms : List Msix} {q : State} (h : s.hif.msixQueue = m :: ms)
    (hq : { s with hif := { s.hif with msixQueue := ms } } = q) : doMsixSend s =
      if fnVectors (q.servingFn m.part) ≤ m.vector then q.inc (HIF_MSIX_BAD_VEC.COUNT (q.portOf m.part).num)
      else if q.msixBlocked (q.portOf m.part) (q.servingFn m.part) m.vector then
        { q with hif := { q.hif with held := q.hif.held ++ [m] } }
      else q.sendMsix m := by
  subst hq
  simp only [doMsixSend, h]

theorem doMsixHeldRelease_of_none {i : Nat} (h : s.hif.held[i]? = none) : doMsixHeldRelease i s = s := by
  simp only [doMsixHeldRelease, h]

theorem doMsixHeldRelease_of_held {i : Nat} {free : State} (h : s.hif.held[i]? = some m)
    (hfree : { s with hif := { s.hif with held := s.hif.held.eraseIdx i } } = free) : doMsixHeldRelease i s =
      if fnVectors (s.servingFn m.part) ≤ m.vector then free.inc (HIF_MSIX_BAD_VEC.COUNT (s.portOf m.part).num)
      else if s.msixBlocked (s.portOf m.part) (s.servingFn m.part) m.vector then s
      else free.sendMsix m := by
  subst hfree
  simp only [doMsixHeldRelease, h]

end

theorem doConfigSpaceWrite_of_down {fn : Fin 33} {w : CfgWrite} (h : s.portState x = 0) : doConfigSpaceWrite x fn w s = s :=
  if_pos h

theorem msixAndConfig : Claims.MsixAndConfig := by
  intro s i m ms x fn b n k q y g sent free f
  simp only [exec_msixSend, exec_msixHeldRelease, exec_configSpaceWrite, exec_pcieCompletionTimeout, Host.Outcome.next.injEq]
  refine ⟨doMsixSend_of_none, fun hqueue => ?_, doMsixHeldRelease_of_none, fun hheld => ?_,
    fun hdown w => doConfigSpaceWrite_of_down hdown, fun hup => ?_, fun hup hfirst => if_neg (by simp [hup, hfirst]),
    fun h => if_pos (by simpa using h)⟩
  · rw [doMsixSend_of_front hqueue rfl]
    exact ⟨fun hbad => if_pos hbad, fun hvec hblocked => (if_neg (Nat.not_le.2 hvec)).trans (if_pos hblocked),
      fun hvec hblocked => (if_neg (Nat.not_le.2 hvec)).trans (if_neg (Bool.eq_false_iff.1 hblocked))⟩
  · rw [doMsixHeldRelease_of_held hheld rfl]
    exact ⟨fun hvec hblocked => (if_neg (Nat.not_le.2 hvec)).trans (if_pos hblocked),
      fun hvec hblocked => (if_neg (Nat.not_le.2 hvec)).trans (if_neg (Bool.eq_false_iff.1 hblocked)), fun hbad => if_pos hbad⟩
  · refine ⟨if_neg hup, if_neg hup, if_neg hup, if_neg hup, fun hk => ?_, fun hfn hlow hhigh => ?_⟩
    · exact (if_neg hup).trans (if_neg (Nat.not_le.2 hk))
    · exact (if_neg hup).trans (if_pos (.inl ⟨hfn, hlow, hhigh⟩))

/-! ### Accesses through BAR2 (R359, R364) -/

section
variable {fn : Fin 33} {off : BitVec 39} {write : Bool} {len n : Nat} {data : Bytes} {ue : Bool}

/-- The function answers an access of this length: its port's link is up, it is in D0, and the access lies in BAR2. -/
abbrev State.answersBar2 (s : State) (x : Port) (fn : Fin 33) (off n : Nat) : Prop :=
  s.portState x ≠ 0 ∧ (s.fn x fn).d3hot = false ∧ off + n ≤ 2 ^ s.barLog2 x fn

theorem doBar2Access_of_not (hn : (if write then data.length else len) = n) (h : ¬ s.answersBar2 x fn off.toNat n) :
    doBar2Access x fn off write len data ue s = s := by
  subst hn
  refine if_pos ?_
  by_contra hlive
  simp only [not_or, Nat.not_lt, Bool.not_eq_true] at hlive
  exact h hlive

section
variable (hn : (if write then data.length else len) = n) (h : s.answersBar2 x fn off.toNat n)
include hn h

theorem doBar2Access_of_unmapped (hfn : fn.val ≠ 0) (hpart : s.vfPart x (fn.val - 1) = none) :
    doBar2Access x fn off write len data ue s = s.answerUr x write := by
  subst hn
  obtain ⟨hport, hpower, hbar⟩ := h
  simp [doBar2Access, hport, hpower, Nat.not_lt.2 hbar, hfn, hpart]

theorem doBar2Access_of_closed (hwin : s.window x fn off.toNat = none) :
    doBar2Access x fn off write len data ue s = s.answerUr x write := by
  subst hn
  obtain ⟨hport, hpower, hbar⟩ := h
  simp [doBar2Access, hport, hpower, Nat.not_lt.2 hbar, hwin]

theorem doBar2Access_of_vf {p a : Nat} (hfn : fn.val ≠ 0) (hpart : s.vfPart x (fn.val - 1) = some p)
    (hwin : s.window x fn off.toNat = some a) : doBar2Access x fn off write len data ue s =
      if s.inGrant p a n && !s.hostReserved a n then s.serveHost x (some p) a write n data ue
      else if write then (if s.inGrant p a n then s.report (hifReport x (some p) a) else s).inc (HIF_CA_SENT.COUNT x.num)
      else (if s.inGrant p a n then s.report (hifReport x (some p) a) else s).answerCa x := by
  subst hn
  obtain ⟨hport, hpower, hbar⟩ := h
  simp [doBar2Access, hport, hpower, Nat.not_lt.2 hbar, hfn, hpart, hwin]

theorem doBar2Access_of_pf {a : Nat} (hfn : fn.val = 0) (hwin : s.window x fn off.toNat = some a) (hmem : s.hostReserved a n = false) :
    doBar2Access x fn off write len data ue s =
      if write ∧ dpaKind a = .record then s else s.serveHost x none a write n data ue := by
  subst hn
  obtain ⟨hport, hpower, hbar⟩ := h
  rw [hfn] at hpower hbar hwin
  simp [doBar2Access, hport, hpower, Nat.not_lt.2 hbar, hfn, hwin, hmem]

end
end

/-! ### The DOE mailboxes (R372) -/

section
variable {kind : Fin 3} {k : BitVec 20}

/-- A mailbox takes an object: its port is UP, the vestibule has booted, and it holds no other. -/
abbrev State.mailboxOpen (s : State) (x : Port) : Prop :=
  s.portUp x = true ∧ s.rd VES_STATE.STEP = 6 ∧ s.hif.doe.any (fun o => o.port == x) = false

theorem doDoeObject_of_open (h : s.mailboxOpen x) : doDoeObject x kind k s =
    if 16384 < k.toNat then { s with hif := { s.hif with doeError := Tab.put (fun _ => false) s.hif.doeError x.num true } }
    else if kind = 0 then (s.inc (HIF_DOE_OBJECTS.COUNT x.num)).emit (.answer x.num 0 [])
    else { s with hif := { s.hif with doe := s.hif.doe ++ [{ port := x, kind := kind, len := k.toNat }] },
                  ves := { s.ves with queue := s.ves.queue ++ [.doe x] } } := by
  obtain ⟨hport, hboot, hempty⟩ := h
  exact if_neg (by simp [hport, hboot, hempty])

end

theorem windowsAndMailboxes : Claims.WindowsAndMailboxes := by
  intro s x fn off write len data ue kind k part dpa n runs live ur busy
  simp only [runs, exec_bar2Access, exec_doeObject, exec_doeAbort, Host.Outcome.next.injEq]
  refine ⟨doBar2Access_of_not rfl, fun hlive hwin => doBar2Access_of_closed rfl hlive hwin,
    fun hlive hfn hpart => doBar2Access_of_unmapped rfl hlive hfn hpart, fun hlive hfn hpart hwin => ?_,
    fun hlive hfn hwin => ?_, rfl, fun hok => ?_, fun h => if_pos (by simpa [busy] using h), fun hport hboot hempty => ?_, rfl⟩
  · rw [doBar2Access_of_vf rfl hlive hfn hpart hwin]
    refine ⟨fun hgrant hmem => if_pos (by simp [n, hgrant, hmem]), fun hgrant => (if_neg (by simp [n, hgrant])).trans ?_⟩
    simp only [n, hgrant, Bool.false_eq_true, if_false, State.answerCa]
  · refine ⟨fun hmem h => ?_, fun hmem hwrite hkind => ?_⟩
    · exact (doBar2Access_of_pf rfl hlive hfn hwin hmem).trans (if_neg (by rcases h with h | h <;> simp [h]))
    · exact (doBar2Access_of_pf rfl hlive hfn hwin hmem).trans (if_pos ⟨hwrite, hkind⟩)
  · simp only [State.serveHost, hok, Bool.false_eq_true, if_false]
  · rw [doDoeObject_of_open ⟨hport, hboot, hempty⟩]
    refine ⟨fun hlong => if_pos hlong, fun hfits hdisc => (if_neg (Nat.not_lt.2 hfits)).trans (if_pos hdisc),
      fun hfits hkind => (if_neg (Nat.not_lt.2 hfits)).trans (if_neg hkind)⟩

/-- Settles O47: a delivery, a held message, an access through BAR2 and an object for a mailbox are each decided by tests in a fixed
order, and every clause names the test that decides it. -/
theorem hostAccesses : Obligations.HostAccesses := ⟨msixAndConfig, windowsAndMailboxes⟩

end Sys2Proof.Machine
end

section
/-! Larty class 0x9, the doorbell and telemetry instructions (R378, R457, R459, Table 3-16), and the arrival at a barrier (R65, R401). -/

namespace Sys2Proof.Machine

open Sys2Proof

variable {s : State} {x : LCtx} {f : LFields}

/-! ### BELL (R378) -/

/-- The doorbell word that BELL writes: SOURCE and PART of its immediate (Table 18-6). -/
def LFields.bellWord (f : LFields) : Word := setBits (setBits 0 0 12 (f.im 0 12)) 16 6 (f.im 12 6)

theorem LFields.im_lt (f : LFields) (lo len : Nat) : f.im lo len < 2 ^ len := Nat.mod_lt _ (Nat.two_pow_pos len)

theorem getBits_zero (lo len : Nat) : getBits 0 lo len = 0 := by simp [getBits_eq]

theorem LFields.source_bellWord (f : LFields) : getBits f.bellWord 0 12 = f.im 0 12 := by
  rw [LFields.bellWord, getBits_setBits_other _ _ _ _ _ _ (by decide), getBits_setBits_self _ _ _ _ (by decide),
    Nat.mod_eq_of_lt (f.im_lt 0 12)]

theorem LFields.wordReserved_bellWord (f : LFields) : wordReserved f.bellWord = true := by
  have houtside (lo len : Nat) (hlow : 12 ≤ lo) (h : lo + len ≤ 16 ∨ 22 ≤ lo) : getBits f.bellWord lo len = 0 := by
    rw [LFields.bellWord, getBits_setBits_other _ _ _ _ _ _ (by omega), getBits_setBits_other _ _ _ _ _ _ (by omega),
      getBits_zero]
  rw [wordReserved, houtside 12 4 (by decide) (by decide), houtside 22 42 (by decide) (by decide)]
  rfl

theorem doBell_of_target {k : Nat} (hk : doorbellTarget (s.gReg x f.a.toNat).toNat = some k) (h : s.runs x 0x90 f) :
    doBell x f s = ((s.advance x).ring (some k) true (f.im 12 6) (f.im 0 12)).settleReports := by
  rw [doBell, State.issue_of_runs h (faultUnless_none.2 (by simp [hk])), hk, ← LFields.bellWord, State.ringAt,
    f.wordReserved_bellWord, f.source_bellWord, Option.getD_some]

theorem doBell_of_noTarget (hk : doorbellTarget (s.gReg x f.a.toNat).toNat = none) (h : s.issues x 0x90 f) :
    doBell x f s = s.instrFault x (encodeWord 0x90 f) .badLength := by
  rw [doBell, State.issue_of_fault h (faultUnless_some.2 (by simp [hk]))]

/-! ### Trace records (R459) -/

theorem LCtx.unit_lt (x : LCtx) : x.unit < 2 ^ 8 := by
  cases x <;> simp only [LCtx.unit] <;> omega

theorem LCtx.ctx_lt (x : LCtx) : x.ctx < 2 ^ 3 := by
  cases x <;> simp only [LCtx.ctx] <;> omega

section
variable {dev : Bool} {event unit ctx payload : Nat}

/-- The two words of a trace record (Table 23-3). -/
def State.traceRecord (s : State) (dev : Bool) (event unit ctx payload : Nat) : Word × Word :=
  (setBits (setBits (setBits (setBits (setBits 0 0 16 event) 16 1 (b01 dev)) 24 8 unit) 32 3 ctx) 48 16 s.mer,
    setBits (setBits 0 0 16 s.cycle) 16 48 payload)

theorem State.trace_of_disabled (h : bitOf (s.rd PHO_TRACE_EN.UNITS) unit = false) :
    s.trace dev event unit ctx payload = s := if_pos (by simp [h])

theorem State.trace_of_full (h : bitOf (s.rd PHO_TRACE_EN.UNITS) unit = true) (hfull : 2048 ≤ s.pho.trace.length) :
    s.trace dev event unit ctx payload = s.inc PHO_TRACE_DROPPED.COUNT :=
  (if_neg (by simp [h])).trans (if_pos hfull)

theorem State.trace_of_room (h : bitOf (s.rd PHO_TRACE_EN.UNITS) unit = true) (hroom : s.pho.trace.length < 2048) :
    s.trace dev event unit ctx payload =
      { s with pho := { s.pho with trace := s.pho.trace ++ [s.traceRecord dev event unit ctx payload] } } :=
  (if_neg (by simp [h])).trans (if_neg (Nat.not_le.2 hroom))

/-- What a record holds is what it was made of, where that fits its fields. -/
theorem State.fields_traceRecord {e : Word × Word} (he : s.traceRecord dev event unit ctx payload = e) (hevent : event < 2 ^ 16)
    (hunit : unit < 2 ^ 8) (hctx : ctx < 2 ^ 3) (hpayload : payload < 2 ^ 48) :
    getBits e.1 0 16 = event ∧ getBits e.1 16 1 = b01 dev ∧ getBits e.1 24 8 = unit ∧ getBits e.1 32 3 = ctx ∧
      getBits e.2 16 48 = payload := by
  subst he
  have hother (w : Word) (lo len v lo' len' : Nat) (h : lo' + len' ≤ lo) :
      getBits (setBits w lo len v) lo' len' = getBits w lo' len' := getBits_setBits_other _ _ _ _ _ _ (.inl h)
  have hself (w : Word) (lo len v : Nat) (h : lo + len ≤ 64) (hv : v < 2 ^ len) :
      getBits (setBits w lo len v) lo len = v := by
    rw [getBits_setBits_self _ _ _ _ h, Nat.mod_eq_of_lt hv]
  have hdev : b01 dev < 2 ^ 1 := by cases dev <;> decide
  refine ⟨?_, ?_, ?_, ?_, hself _ _ _ _ (by decide) hpayload⟩
  · rw [State.traceRecord, hother _ _ _ _ _ _ (by decide), hother _ _ _ _ _ _ (by decide), hother _ _ _ _ _ _ (by decide),
      hother _ _ _ _ _ _ (by decide), hself _ _ _ _ (by decide) hevent]
  · rw [State.traceRecord, hother _ _ _ _ _ _ (by decide), hother _ _ _ _ _ _ (by decide), hother _ _ _ _ _ _ (by decide),
      hself _ _ _ _ (by decide) hdev]
  · rw [State.traceRecord, hother _ _ _ _ _ _ (by decide), hother _ _ _ _ _ _ (by decide), hself _ _ _ _ (by decide) hunit]
  · rw [State.traceRecord, hother _ _ _ _ _ _ (by decide), hself _ _ _ _ (by decide) hctx]

end

theorem doTmark_of_runs (h : s.runs x 0x91 f) : doTmark x f s =
    (s.advance x).trace false (f.im 0 16) x.unit x.ctx (getBits (s.gReg x f.a.toNat) 0 48) := State.issue_of_runs h rfl

theorem doorbellAndTelemetry : Claims.DoorbellAndTelemetry := by
  intro x f s t a r
  simp only [exec_bell, exec_tmark, exec_tadd, Host.Outcome.next.injEq]
  refine ⟨fun k hk h => doBell_of_target hk h, doBell_of_noTarget, fun h hen => ?_, fun h hen hroom => ?_,
    fun h hen hfull => ?_, fun h => State.issue_of_runs h rfl⟩
  · rw [doTmark_of_runs h]
    exact State.trace_of_disabled hen
  · obtain ⟨hevent, hdev, hunit, hctx, hpayload⟩ := State.fields_traceRecord (s := t) (dev := false) rfl (f.im_lt 0 16) x.unit_lt
      x.ctx_lt (getBits_lt a 0 48)
    refine ⟨_, _, (doTmark_of_runs h).trans (State.trace_of_room hen hroom), rfl, hevent, hdev, hunit, hctx, hpayload⟩
  · rw [doTmark_of_runs h]
    exact State.trace_of_full hen hfull

/-! ### BARF (R65) -/

theorem barrierArrival : Claims.BarrierArrival := by
  intro x f s h due late input
  refine ⟨?_, ?_⟩
  · rw [exec_barf, doBarf, State.issue_of_runs h rfl]
  · by_cases hgate : f.im 10 1 = 1
    · simpa only [input, if_pos hgate] using Nat.min_le_left ..
    · simpa only [input, if_neg hgate] using Nat.zero_le _

/-- Settles O18: the four instructions issue without a fault of their own but for BELL's address; the word that BELL writes carries its
SOURCE and no reserved bit, and the fields of a trace record are apart. -/
theorem doorbellTelemetryBarrier : Obligations.DoorbellTelemetryBarrier := ⟨doorbellAndTelemetry, barrierArrival⟩

end Sys2Proof.Machine
end

section
/-! Partition roles (R391, R392, Table 19-3), and the system map: its load, switch, retirement and anchor copy sweep (R393 to R399). -/

namespace Sys2Proof.Machine

open Sys2Proof

variable {s : State} {a : Agent}

/-! ### Roles (R391, R392) -/

section
variable {p : Nat} {eff : State → State}

theorem State.roleCommand_of_may (h : s.mayWriteDevice a = true) : s.roleCommand a p eff = eff s := if_pos h

theorem State.roleCommand_of_refused (h : s.mayWriteDevice a = false) :
    s.roleCommand a p eff = (s.refuseWrite a .PRT p).roleStatus p .refusedPolicy := if_neg (by simp [h])

end

section
variable {p : Fin 64}

theorem doRoleSet_of_may {role : Fin 8} (h : s.mayWriteDevice a = true) : doRoleSet a p role s =
    if 4 < role.val then s.roleStatus p .badLength
    else if s.draining p ∨ s.role p = role.val then s.roleStatus p .refusedPolicy
    else ((((s.wr (PRT_ROLE.NEXT p) role).wr (PRT_ROLE.DRAINING p) 1).setDrainFrom p (s.mer + 1)).roleStatus p .ok).roleBell p :=
  State.roleCommand_of_may h

theorem doRoleCancel_of_may (h : s.mayWriteDevice a = true) : doRoleCancel a p s =
    if s.draining p then s.endDrain p .partialDone else s.roleStatus p .refusedPolicy :=
  State.roleCommand_of_may h

theorem doRoleDrainLimit_of_due (hland : s.inLanding = true) (hdrain : s.draining p = true)
    (hlimit : s.rd (PRT_ROLE_CFG.DRAIN_LIMIT p) ≠ 0)
    (hdue : Tab.get (fun _ => 0) s.prt.drainFrom p + s.rd (PRT_ROLE_CFG.DRAIN_LIMIT p) ≤ s.mer + 1) : doRoleDrainLimit p s =
      if s.drainUnmet p = 0 then s else (s.wr (PRT_DRAIN_WAIT.UNMET p) (s.drainUnmet p)).endDrain p .partialDone :=
  if_neg (by simp [hland, hdrain, hlimit, Nat.not_lt.2 hdue])

end

theorem roleChanges : Claims.RoleChanges := by
  intro s a p role ok drains refused limit due
  simp only [exec_roleSet, execRoleSet, exec_roleCancel, execRoleCancel, exec_roleDrainComplete, exec_roleDrainLimit,
    Host.Outcome.next.injEq]
  have hset (hok : ok) : s.whenReady .PRT p.val (doRoleSet a p role) = doRoleSet a p role s :=
    State.whenReady_of_ready hok.1
  have hcancel (hready : s.ready .PRT p.val = true) : s.whenReady .PRT p.val (doRoleCancel a p) = doRoleCancel a p s :=
    State.whenReady_of_ready hready
  refine ⟨fun hok hrole hidle hnew => ?_, fun hok hrole h => ?_, fun hok hrole => ?_, fun hok hdrain => ?_,
    fun hok hidle => ?_, fun hready hmay => ?_, fun hland hdrain hmet => if_neg ?_, fun h => if_pos ?_,
    fun hland hdrain hlimit hdue hunmet => ?_, fun h => if_pos ?_⟩
  · rw [hset hok, doRoleSet_of_may hok.2, if_neg (Nat.not_lt.2 hrole)]
    exact if_neg (not_or.2 ⟨Bool.eq_false_iff.1 hidle, hnew⟩)
  · rw [hset hok, doRoleSet_of_may hok.2, if_neg (Nat.not_lt.2 hrole)]
    exact if_pos h
  · rw [hset hok, doRoleSet_of_may hok.2]
    exact if_pos hrole
  · rw [hcancel hok.1, doRoleCancel_of_may hok.2]
    exact if_pos hdrain
  · rw [hcancel hok.1, doRoleCancel_of_may hok.2]
    exact if_neg (Bool.eq_false_iff.1 hidle)
  · rw [hcancel hready]
    exact State.roleCommand_of_refused hmay
  · have hdraining : s.draining p = true := hdrain
    simp [hland, hdraining, hmet]
  · simpa [State.draining, drains] using h
  · exact (doRoleDrainLimit_of_due hland hdrain hlimit hdue).trans (if_neg hunmet)
  · simpa [State.draining, drains] using h

/-! ### The system map (R393 to R399) -/

section
variable {i : Fin 64}

theorem doMapLoad_of_may (h : s.mayWriteDevice a = true) : doMapLoad a i s =
    if s.loading then s.countRefused .PRT i
    else State.wr { s with prt := { s.prt with loadFrom := s.rd (PRT_MAP_SRC.DPA 0) } } (PRT_MAP_STATUS.BUSY 0) 1 :=
  if_neg (by simp [h])

theorem doMapSweep_of_may (h : s.mayWriteDevice a = true) : doMapSweep a i s =
    if s.on (PRT_ANCH_COPY.BUSY 0) then s.countRefused .PRT i else s.startSweep :=
  if_neg (by simp [h])

end

/-- The copy that LOAD asked for. -/
abbrev State.mapCopy (s : State) : Tab Byte := s.mapImage s.prt.loadFrom

/-- The state in which the copy has ended with this status. -/
def State.mapCopied (s : State) (st : Status) : State :=
  ((s.noteAccess false (memReport Blk.PRT.code 0 0xFF none s.prt.loadFrom) s.prt.loadFrom mapBytes).wr
    (PRT_MAP_STATUS.BUSY 0) 0).mapResult st

/-- A copy that met no uncorrectable error is staged, or its failure counted, by its checks alone. -/
theorem doMapLoadDone_of_read {st : Status} (hload : s.loading = true)
    (hst : s.mapCheck s.mapCopy (s.accessStatus s.prt.loadFrom mapBytes) = st) : doMapLoadDone false s =
      if st ≠ .ok then (s.mapCopied st).inc (PRT_MAP_LOAD_FAILS.COUNT 0)
      else (State.wr { s.mapCopied st with prt := { (s.mapCopied st).prt with staged := s.mapCopy } }
        (PRT_MAP_STATUS.STAGED 0) 1).wr (PRT_MAP_STATUS.STAGED_EPOCH 0) (mapEpoch s.mapCopy) := by
  subst hst
  simp only [doMapLoadDone, hload, Bool.not_true, Bool.false_eq_true, false_and, if_false]
  rfl

theorem State.mapCheck_of_bad {t : Tab Byte} (h : mapOk t s.nodeId = false) : s.mapCheck t .ok = .badLength := by
  simp [State.mapCheck, h]

theorem State.mapCheck_of_epoch {t : Tab Byte} (h : mapOk t s.nodeId = true) (hcur : s.mapCurrent = true)
    (hepoch : mapEpoch t ≠ nextEpoch s.curEpoch) : s.mapCheck t .ok = .refusedPolicy := by
  simp [State.mapCheck, h, hcur, hepoch]

theorem doMapSwitch_of_not (h : ¬ (s.inLanding = true ∧ s.on (PRT_MAP_STATUS.STAGED 0) = true ∧
    mapSwitchAt s.prt.staged ≤ s.mer + 1 ∧ s.prevMap = false)) : doMapSwitch s = s := by
  refine if_pos ?_
  by_contra hdue
  simp only [not_or, Bool.not_eq_true', Bool.not_eq_false, Nat.not_lt, Bool.not_eq_true] at hdue
  exact h hdue

/-- The current map, where there is one, becomes the previous one. -/
def State.retainMap (s : State) : State :=
  if s.mapCurrent then
    let old : State := { s with prt := { s.prt with prev := s.prt.cur, prevUntil := s.mer + s.rd (PRT_MAP_CFG.DRAIN 0) } }
    (old.wr (PRT_MAP_STATUS.PREV_VALID 0) 1).wr (PRT_MAP_STATUS.PREV_EPOCH 0) old.curEpoch
  else s

/-- A staged map becomes the current one, and no map is staged. -/
def State.takeStaged (s : State) (t : Tab Byte) : State :=
  let u : State := { s with prt := { s.prt with cur := t, staged := [], everSwitched := true } }
  ((u.wr (PRT_MAP_STATUS.CUR_EPOCH 0) (mapEpoch t)).wr (PRT_MAP_STATUS.STAGED 0) 0).wr (PRT_MAP_STATUS.STAGED_EPOCH 0) 0

/-- A map taken after its meridian is counted. -/
def State.noteMapLate (s : State) (due : Nat) : State :=
  if due ≠ 0 ∧ due < s.mer + 1 then s.inc (PRT_MAP_LATE.COUNT 0) else s

/-- The switch is counted, contexts that the map takes out of the rack fail, and the map's doorbell rings. -/
def State.announceMap (s : State) : State :=
  let u := (s.inc (PRT_MAP_SWITCHES.COUNT 0)).dropUnracked
  u.bellIf (u.on (PRT_MAP_CFG.DB_EN 0)) (u.rd (PRT_MAP_CFG.DB_PART 0)) (u.rd (PRT_MAP_CFG.DB_SOURCE 0))

theorem doMapSwitch_of_due {t : Tab Byte} {u : State} (ht : s.prt.staged = t)
    (hu : (s.retainMap.takeStaged t).noteMapLate (mapSwitchAt t) = u) (hland : s.inLanding = true)
    (hstaged : s.on (PRT_MAP_STATUS.STAGED 0) = true) (hdue : mapSwitchAt t ≤ s.mer + 1) (hprev : s.prevMap = false) :
    doMapSwitch s = (if s.prt.everSwitched then u else u.mapTimebase t).announceMap := by
  have hflip : (if s.prt.everSwitched then u else u.mapTimebase t) = if !s.prt.everSwitched then u.mapTimebase t else u := by
    cases s.prt.everSwitched <;> rfl
  rw [hflip]
  subst ht hu
  exact if_neg (by simpa [hland, hstaged, hprev] using hdue)

theorem doMapRetire_of_not (h : ¬ (s.inLanding = true ∧ lenBudget s.merLen + 64 ≤ s.cycle ∧ s.prevMap = true ∧
    s.prt.prevUntil ≤ s.mer)) : doMapRetire s = s := by
  refine if_pos ?_
  by_contra hpast
  simp only [not_or, Bool.not_eq_true', Bool.not_eq_false, Nat.not_lt] at hpast
  exact h hpast

theorem doAnchCopySweepEnd_of_answered (hrun : s.on (PRT_ANCH_COPY.BUSY 0) = true) (h : ∀ r ∈ s.tp.reqs, r.owner ≠ .sweep) :
    doAnchCopySweepEnd s = (s.wr (PRT_ANCH_COPY.STATUS 0) (if s.prt.sweepFailed then 0x31 else 0)).wr (PRT_ANCH_COPY.BUSY 0) 0 := by
  have hall : s.tp.reqs.all (fun r => r.owner != .sweep) = true := by simpa using h
  rw [doAnchCopySweepEnd, if_pos ⟨hrun, hall⟩]
  cases s.prt.sweepFailed <;> rfl

theorem doAnchCopySweepEnd_of_not (h : s.on (PRT_ANCH_COPY.BUSY 0) = false ∨ ∃ r ∈ s.tp.reqs, r.owner = .sweep) :
    doAnchCopySweepEnd s = s := by
  refine if_neg ?_
  rintro ⟨hrun, hall⟩
  rcases h with hidle | ⟨r, hr, howner⟩
  · simp [hidle] at hrun
  · simpa [howner] using List.all_eq_true.1 hall r hr

theorem systemMaps : Claims.SystemMaps := by
  intro s a i ue ok src img access st quiet end_ loads sweeps t at_ due past none_
  simp only [exec_mapLoad, execMapLoad, exec_mapLoadDone, exec_mapSwitch, exec_mapRetire, exec_mapSweep, execMapSweep,
    exec_anchCopySweepEnd, Host.Outcome.next.injEq]
  have hload (hok : ok) : s.whenReady .PRT i.val (doMapLoad a i) = _ :=
    (State.whenReady_of_ready hok.1).trans (doMapLoad_of_may hok.2)
  have hsweep (hok : ok) : s.whenReady .PRT i.val (doMapSweep a i) = _ :=
    (State.whenReady_of_ready hok.1).trans (doMapSweep_of_may hok.2)
  refine ⟨fun hok hidle => (hload hok).trans (if_neg (Bool.eq_false_iff.1 hidle)), fun hok hruns => (hload hok).trans (if_pos hruns),
    fun hidle => if_pos (by simpa [State.loading] using hidle),
    fun hruns hbad => (doMapLoadDone_of_read hruns rfl).trans (if_pos hbad), fun hruns hok => ?_,
    fun hread hbad => ?_, fun hread hfit hcur hepoch => ?_, fun hdue => ?_, doMapSwitch_of_not,
    fun hpast => if_neg ?_, doMapRetire_of_not, fun hok hidle => (hsweep hok).trans (if_neg (Bool.eq_false_iff.1 hidle)),
    fun hok hruns => (hsweep hok).trans (if_pos hruns), doAnchCopySweepEnd_of_answered, doAnchCopySweepEnd_of_not⟩
  · exact (doMapLoadDone_of_read hruns rfl).trans (if_neg (not_not.2 hok))
  · simpa only [st, hread] using State.mapCheck_of_bad hbad
  · simpa only [st, hread] using State.mapCheck_of_epoch hfit hcur hepoch
  · obtain ⟨hland, hstaged, hat, hprev⟩ := hdue
    exact doMapSwitch_of_due rfl rfl hland hstaged hat hprev
  · obtain ⟨hland, hcycle, hprev, huntil⟩ := hpast
    simp [hland, Nat.not_lt.2 hcycle, hprev, Nat.not_lt.2 huntil]

/-- Settles O49: a command that the device may write is decided by what runs at the time; a load, a switch, a retirement and the end of a
sweep each have one condition, and change the state where it holds alone. -/
theorem rolesAndMaps : Obligations.RolesAndMaps := ⟨roleChanges, systemMaps⟩

end Sys2Proof.Machine
end

section
/-! SPDM requests and sessions (R406, R412), ownership and fabric roots (R413, R419). -/

namespace Sys2Proof.Machine

open Sys2Proof

variable {s : State} {x : SpdmPath}

/-! ### Requests outside a session (R412) -/

theorem State.spdmPlain_of_turn {code : Nat} {ws : List Word} (h : s.spdmTurn x 1 = true) :
    s.spdmPlain x code ws = s.spdmAnswer x code ws := if_pos h

theorem State.spdmPlain_of_wait {code : Nat} {ws : List Word} (h : s.spdmTurn x 1 = false) : s.spdmPlain x code ws = s :=
  if_neg (Bool.eq_false_iff.1 h)

theorem doGetCertificate_of_wait {slot : Fin 8} (h : s.spdmTurn x 1 = false) : doGetCertificate x slot s = s := by
  rw [doGetCertificate, State.spdmPlain_of_wait h, State.spdmPlain_of_wait h, ite_self]

theorem doChallenge_of_wait {slot : Fin 8} (h : s.spdmTurn x 1 = false) : doChallenge x slot s = s := by
  rw [doChallenge, State.spdmPlain_of_wait h, State.spdmPlain_of_wait h, ite_self]

theorem doKeyExchange_of_turn (h : s.spdmTurn x 1 = true) : doKeyExchange x s =
    if 4 ≤ s.ves.sessions.length then s.spdmAnswer x 0x7F [3]
    else (s.setSessions (s.ves.sessions ++ [{ path := x.num }])).spdmAnswer x 0x64 [] := if_neg (by simp [h])

theorem spdmRequests : Claims.SpdmRequests := by
  intro s x slot index signed turn all
  simp only [exec_getVersion, exec_getCapabilities, exec_negotiateAlgorithms, exec_getDigests, exec_getCertificate,
    exec_challenge, exec_getMeasurements, exec_keyExchange, Host.Outcome.next.injEq]
  refine ⟨fun h => ⟨State.spdmPlain_of_turn h, State.spdmPlain_of_turn h, State.spdmPlain_of_turn h, State.spdmPlain_of_turn h,
    fun hslot => ?_, fun hslot => ?_, State.spdmPlain_of_turn h, fun hroom => ?_, fun hfull => ?_⟩, fun h => ?_⟩
  · exact ⟨(if_pos hslot).trans (State.spdmPlain_of_turn h), (if_pos hslot).trans (State.spdmPlain_of_turn h)⟩
  · have hpast := Nat.not_lt.2 hslot
    exact ⟨(if_neg hpast).trans (State.spdmPlain_of_turn h), (if_neg hpast).trans (State.spdmPlain_of_turn h)⟩
  · exact (doKeyExchange_of_turn h).trans (if_neg (Nat.not_le.2 hroom))
  · exact (doKeyExchange_of_turn h).trans (if_pos hfull)
  · have hwait {code : Nat} {ws : List Word} : s.spdmPlain x code ws = s := State.spdmPlain_of_wait h
    exact ⟨hwait, hwait, hwait, hwait, doGetCertificate_of_wait h, doChallenge_of_wait h, hwait, if_pos (by simpa using h)⟩

/-! ### Requests inside a session (R412) -/

/-- A request comes in its path's turn, for an open session of that path. -/
abbrev State.inSession (s : State) (x : SpdmPath) (i : Nat) (e : Session) : Prop :=
  s.spdmTurn x 2 = true ∧ s.ves.sessions[i]? = some e ∧ e.path = x.num

section
variable {i : Nat} {e : Session} {eff : Session → State}

theorem State.spdmInside_of_session (h : s.inSession x i e) : s.spdmInside x i eff = eff e := by
  obtain ⟨hturn, he, hpath⟩ := h
  simp [State.spdmInside, hturn, he, hpath]

theorem State.spdmInside_of_none (hturn : s.spdmTurn x 2 = true) (hnone : s.ves.sessions[i]? = none) :
    s.spdmInside x i eff = s.spdmAnswer x 0x7F [1] := by
  simp [State.spdmInside, hturn, hnone, spdmError]

theorem State.spdmInside_of_wait (hturn : s.spdmTurn x 2 = false) : s.spdmInside x i eff = s := if_pos (by simp [hturn])

theorem State.spdmSession_of_finished (h : s.inSession x i e) (hfin : e.finished = true) : s.spdmSession x i eff = eff e :=
  (State.spdmInside_of_session h).trans (if_pos hfin)

theorem State.spdmSession_of_unfinished (h : s.inSession x i e) (hfin : e.finished = false) :
    s.spdmSession x i eff = s.spdmAnswer x 0x7F [1] :=
  (State.spdmInside_of_session h).trans (if_neg (Bool.eq_false_iff.1 hfin))

end

theorem doSpdmFinish_of_session {i : Fin 4} {e : Session} {good : Bool} {chain : Option OwnerRoot} (h : s.inSession x i.val e) :
    doSpdmFinish x i good chain s = if e.finished ∨ !good then s.spdmAnswer x 0x7F [1]
      else (s.setSessions (s.ves.sessions.set i { e with finished := true, chain := chain })).spdmAnswer x 0x65 [] :=
  State.spdmInside_of_session h

/-! ### Ownership and fabric roots (R413, R419) -/

section
variable {i : Nat} {e : Session} {own : Option OwnerRoot} {eff : State → State × Status}

/-- The session's requester showed a chain, in a handshake that has finished. -/
abbrev Session.authenticated (e : Session) : Prop := e.finished = true ∧ e.chain.isSome = true

theorem State.vendor_of_owner {root : Option OwnerRoot} (h : s.inSession x i e) (hauth : e.authenticated)
    (hroot : (if s.ves.owner.isSome then s.ves.owner else own) = root) (hchain : e.chain = root) :
    s.vendor x i own eff = (eff s).1.spdmAnswer x 0x7E [BitVec.ofNat 64 (eff s).2.code] := by
  obtain ⟨hturn, he, hpath⟩ := h
  obtain ⟨hfin, hsome⟩ := hauth
  simp only [State.vendor, hturn, he, hroot, Bool.not_true, Bool.false_eq_true, if_false]
  exact if_pos ⟨hpath, hfin, hsome, hchain⟩

theorem State.vendor_of_stranger {root : Option OwnerRoot} (h : s.inSession x i e)
    (hroot : (if s.ves.owner.isSome then s.ves.owner else own) = root) (hchain : e.chain ≠ root) :
    s.vendor x i own eff = s.spdmAnswer x 0x7F [1] := by
  obtain ⟨hturn, he, -⟩ := h
  simp only [State.vendor, hturn, he, hroot, Bool.not_true, Bool.false_eq_true, if_false]
  exact if_neg fun hall => hchain hall.2.2.2

theorem State.vendor_of_none (hturn : s.spdmTurn x 2 = true) (hnone : s.ves.sessions[i]? = none) :
    s.vendor x i own eff = s.spdmAnswer x 0x7F [1] := by
  simp [State.vendor, hturn, hnone, spdmError]

theorem State.vendor_of_wait (hturn : s.spdmTurn x 2 = false) : s.vendor x i own eff = s := if_pos (by simp [hturn])

end

section
variable {i : Fin 4} {e : Session} {root : OwnerRoot} {serial : BitVec 16} {at_ : BitVec 64} (h : s.inSession x i.val e)
  (hauth : e.authenticated)
include h hauth

theorem doTakeOwnership_of_unowned (hnone : s.ves.owner = none) (hchain : e.chain = some root) : doTakeOwnership x i root s =
    (State.wr { s with ves := { s.ves with owner := some root } } VES_STATE.OWNED 1).spdmAnswer x 0x7E [0] := by
  rw [doTakeOwnership, State.vendor_of_owner h hauth (if_neg (by simp [hnone])) hchain, if_neg (by simp [hnone])]
  rfl

theorem doTakeOwnership_of_owned (howned : s.ves.owner.isSome = true) (hchain : e.chain = s.ves.owner) :
    doTakeOwnership x i root s = s.spdmAnswer x 0x7E [0x11] := by
  rw [doTakeOwnership, State.vendor_of_owner h hauth (if_pos howned) hchain, if_pos howned]
  rfl

section
variable (howned : s.ves.owner.isSome = true) (hchain : e.chain = s.ves.owner)
include howned hchain

theorem doFabricRoot_of_old (hold : serial.toNat ≤ s.rd VES_STATE.FKR_CUR) :
    doFabricRoot x i serial at_ s = s.spdmAnswer x 0x7E [0x11] := by
  rw [doFabricRoot, State.vendor_of_owner h hauth (if_pos howned) hchain, if_pos hold]
  rfl

theorem doFabricRoot_of_newer {t : State} (hnew : s.rd VES_STATE.FKR_CUR < serial.toNat)
    (ht : { s with ves := { s.ves with roots := s.ves.roots ++ [(serial.toNat, at_.toNat)] } } = t) :
    doFabricRoot x i serial at_ s =
      (t.extend 9 (leBytes 2 serial.toNat ++ leBytes 8 at_.toNat)).spdmAnswer x 0x7E [0] := by
  subst ht
  rw [doFabricRoot, State.vendor_of_owner h hauth (if_pos howned) hchain, if_neg (Nat.not_le.2 hnew)]
  rfl

end
end

theorem doFabricRootActivate_of_none (h : s.ves.roots.find? (fun r => decide (r.2 ≤ s.mer)) = none) :
    doFabricRootActivate s = s := by
  simp only [doFabricRootActivate, h]

theorem doFabricRootActivate_of_due {r : Nat × Nat} {t : State} (h : s.ves.roots.find? (fun r => decide (r.2 ≤ s.mer)) = some r)
    (ht : { s with ves := { s.ves with roots := s.ves.roots.erase r } } = t) : doFabricRootActivate s =
      if r.1 ≤ t.rd VES_STATE.FKR_CUR then t
      else (t.wr VES_STATE.FKR_PREV (t.rd VES_STATE.FKR_CUR)).wr VES_STATE.FKR_CUR r.1 := by
  subst ht
  simp only [doFabricRootActivate, h]

theorem spdmSessions : Claims.SpdmSessions := by
  intro s x i good chain root serial at_ e r mine error owner cur
  simp only [exec_spdmFinish, exec_spdmHeartbeat, exec_keyUpdate, exec_endSession, exec_takeOwnership, exec_fabricRoot,
    exec_fabricRootActivate, Host.Outcome.next.injEq]
  refine ⟨fun hmine hfin => ?_, fun hmine h => ?_, fun hmine hfin => ?_, fun hmine hfin => ?_, fun hturn hnone => ?_,
    fun hturn => ?_, fun hmine howner hnone hchain => doTakeOwnership_of_unowned hmine howner hnone hchain,
    fun hmine howner howned hchain => ⟨doTakeOwnership_of_owned hmine howner howned hchain, fun hold => ?_, fun hnew => ?_⟩,
    fun hmine _ howned hchain => State.vendor_of_stranger hmine (if_pos howned) hchain, doFabricRootActivate_of_none,
    fun hdue => ?_⟩
  · exact (doSpdmFinish_of_session hmine).trans (if_neg (by simp [hfin]))
  · exact (doSpdmFinish_of_session hmine).trans (if_pos (by simpa using h))
  · exact ⟨State.spdmSession_of_finished hmine hfin, State.spdmSession_of_finished hmine hfin,
      State.spdmSession_of_finished hmine hfin⟩
  · exact ⟨State.spdmSession_of_unfinished hmine hfin, State.spdmSession_of_unfinished hmine hfin,
      State.spdmSession_of_unfinished hmine hfin⟩
  · exact ⟨State.spdmInside_of_none hturn hnone, State.vendor_of_none hturn hnone, State.vendor_of_none hturn hnone⟩
  · exact ⟨State.spdmInside_of_wait hturn, State.spdmInside_of_wait hturn, State.vendor_of_wait hturn⟩
  · exact doFabricRoot_of_old hmine howner howned hchain hold
  · exact doFabricRoot_of_newer hmine howner howned hchain hnew rfl
  · rw [doFabricRootActivate_of_due hdue rfl]
    exact ⟨fun hnew => if_neg (Nat.not_le.2 hnew), fun hold => if_pos hold⟩

/-- Settles O51: a request is answered in its path's turn alone; one inside a session is decided by the session of its path, and one of
the owner by the root that the session's chain ends at. -/
theorem spdmMessages : Obligations.SpdmMessages := ⟨spdmRequests, spdmSessions⟩

end Sys2Proof.Machine
end

section
/-! Reset commands and what each scope leaves (R434 to R439). -/

namespace Sys2Proof.Machine

open Sys2Proof

variable {s : State} {a : Agent} {x : LCtx}

/-! ### Who may ask (R437, R439) -/

theorem State.primaryPf_iff : s.primaryPf a = true ↔ a = .pf s.primary := by simp [State.primaryPf]

/-- WARM and COLD of the primary PF are accepted with CONFIRM alone. -/
theorem State.moduleResetOk_of_primary (h : a = .pf s.primary) (confirm : BitVec 16) :
    s.moduleResetOk a confirm = (confirm == 0x1620) := by
  simp [State.moduleResetOk, State.primaryPf_iff.2 h]

theorem State.moduleResetOk_of_other (h : a ≠ .pf s.primary) (confirm : BitVec 16) : s.moduleResetOk a confirm = false := by
  simp [State.moduleResetOk, State.primaryPf, h]

section
variable {preserve : Bool} {confirm : BitVec 16}

theorem doResetWarm_of_other (h : a ≠ .pf s.primary) : doResetWarm a preserve confirm s = s.resetRefused a false := by
  rw [doResetWarm, State.moduleResetOk_of_other h, Bool.eq_false_iff.2 (mt State.primaryPf_iff.1 h)]
  rfl

theorem doResetCold_of_other (h : a ≠ .pf s.primary) : doResetCold a confirm s = s.resetRefused a false := by
  rw [doResetCold, State.moduleResetOk_of_other h, Bool.eq_false_iff.2 (mt State.primaryPf_iff.1 h)]
  rfl

section
variable (h : a = .pf s.primary)
include h

theorem doResetWarm_of_unconfirmed (hconfirm : confirm ≠ 0x1620) : doResetWarm a preserve confirm s = s.resetRefused a true := by
  rw [doResetWarm, State.moduleResetOk_of_primary h, State.primaryPf_iff.2 h, if_pos (by simpa using hconfirm)]

theorem doResetCold_of_unconfirmed (hconfirm : confirm ≠ 0x1620) : doResetCold a confirm s = s.resetRefused a true := by
  rw [doResetCold, State.moduleResetOk_of_primary h, State.primaryPf_iff.2 h, if_pos (by simpa using hconfirm)]

theorem doResetWarm_of_confirmed : doResetWarm a preserve 0x1620 s =
    if s.atr.warm.isSome then s.resetRefused a true else s.beginWarm (requesterOf a) preserve := by
  rw [doResetWarm, State.moduleResetOk_of_primary h]
  rfl

theorem doResetCold_of_confirmed : doResetCold a 0x1620 s = s.beginCold (requesterOf a) := by
  rw [doResetCold, State.moduleResetOk_of_primary h]
  rfl

end
end

/-! ### Context resets (R435) -/

section
variable {unit : BitVec 8} {ctx : Fin 8}

theorem doResetContext_of_other (h : a ≠ .pf s.primary) : doResetContext a unit ctx s = s.resetRefused a false :=
  if_pos (by simp [State.primaryPf, h])

theorem doResetContext_of_noContext (h : a = .pf s.primary) (hx : ctxOf unit.toNat ctx = none) :
    doResetContext a unit ctx s = s.resetDecided .badLength := by
  simp only [doResetContext, State.primaryPf_iff.2 h, hx, Bool.not_true, Bool.false_eq_true, if_false]

theorem doResetContext_of_context (h : a = .pf s.primary) (hx : ctxOf unit.toNat ctx = some x) : doResetContext a unit ctx s =
    if !s.unitInService x.unit ∨ !(s.installedImage x.unit).present then s.resetRefused a true
    else if s.absorbed x then s.resetDecided .ok
    else if s.ctxResetting x then s.resetRefused a true
    else State.resetBegins { s with atr := { s.atr with ctxResets := s.atr.ctxResets ++ [(x.key, none)] } } 1 := by
  simp only [doResetContext, State.primaryPf_iff.2 h, hx, Bool.not_true, Bool.false_eq_true, if_false]

end

theorem doContextResetApply_of_none (h : s.atr.ctxResets.find? (fun r => r.1 == x.key) = none) :
    doContextResetApply x s = s := by
  simp only [doContextResetApply, h]

/-- The context restarts, where its unit has a program, and the reset is counted. -/
def State.resetCtxNow (s : State) (x : LCtx) (r : Nat × Option Nat) : State :=
  let t : State := { s with atr := { s.atr with ctxResets := s.atr.ctxResets.erase r } }
  (if (t.installedImage x.unit).present then t.restartCtx x else t).inc ATR_CTX_RESETS.COUNT

section
variable {r : Nat × Option Nat} (h : s.atr.ctxResets.find? (fun r => r.1 == x.key) = some r)
include h

theorem doContextResetApply_of_waits (hwait : x.critical = true ∧ (s.inLanding = false ∨ (s.slice x.unit).isOpen = true)) :
    doContextResetApply x s = s := by
  simp only [doContextResetApply, h]
  exact if_pos (by simpa using hwait)

section
variable (hgo : ¬ (x.critical = true ∧ (s.inLanding = false ∨ (s.slice x.unit).isOpen = true)))
include hgo

theorem doContextResetApply_of_own (hr : r.2 = none) : doContextResetApply x s = (s.resetCtxNow x r).resetEnds := by
  simp only [doContextResetApply, h, hr]
  exact if_neg (by simpa using hgo)

theorem doContextResetApply_of_partition {q : Nat} (hr : r.2 = some q) :
    doContextResetApply x s = ((s.resetCtxNow x r).clearPreempt x).endPartReset q := by
  simp only [doContextResetApply, h, hr]
  exact if_neg (by simpa using hgo)

end
end

/-! ### Partition resets (R436) -/

section
variable {p : Fin 64} {y : Port}

theorem doResetPartition_of_owner (h : s.primary = y ∨ s.portOf p = y) : doResetPartition (.pf y) p s =
    if s.atr.partResets.contains p.val ∨ s.atr.partRunning.contains p.val then s.resetRefused (.pf y) true
    else State.resetBegins { s with atr := { s.atr with partResets := s.atr.partResets ++ [p.val] } } 2 :=
  if_neg (by simpa [imp_iff_not_or] using h)

theorem doResetPartition_of_stranger (hprimary : s.primary ≠ y) (hport : s.portOf p ≠ y) :
    doResetPartition (.pf y) p s = s.resetRefused (.pf y) false := if_pos (by simp [hprimary, hport])

end

/-- Settles O53: a request is refused, decided or begun by who asks and by what runs; a reset that was asked for takes effect where its
condition holds, and leaves the state until then. -/
theorem resets : Obligations.Resets := by
  intro s a unit ctx x p preserve confirm y ok mine up asked partly runs
  simp only [exec_resetContext, execResetContext, exec_resetWarm, execResetWarm, exec_resetCold, execResetCold,
    exec_contextResetApply, exec_resetPartition, execResetPartition, exec_partitionResetApply, Host.Outcome.next.injEq]
  have hready (hok : ok) (eff : State → State) : s.whenReady .ATR 0 eff = eff s := State.whenReady_of_ready hok
  refine ⟨fun hok hother => ?_, fun hok hmine hx => ?_, fun hok hmine hx hup habs hfresh => ?_, fun hok hmine hx hup habs => ?_,
    fun hok hmine hx hdown => ?_, doContextResetApply_of_none, fun r hr => ⟨doContextResetApply_of_waits hr,
      doContextResetApply_of_own hr, fun q hgo => doContextResetApply_of_partition hr hgo⟩,
    fun hok ha hown hfree => ?_, fun hok ha hown hruns => ?_, fun hok ha hprimary hport => ?_, fun h => if_pos ?_,
    fun hland hasked => if_neg ?_, fun hok hmine hconfirm => ?_, fun hok hmine hidle => ?_, fun hok hmine hruns => ?_,
    fun hok hmine => ?_⟩
  · simp only [hready hok]
    exact ⟨doResetContext_of_other hother, doResetWarm_of_other hother, doResetCold_of_other hother⟩
  · exact (hready hok _).trans (doResetContext_of_noContext hmine hx)
  · refine ((hready hok _).trans (doResetContext_of_context hmine hx)).trans ?_
    rw [if_neg (by simp [hup.1, hup.2]), if_neg (by simp [habs]), if_neg (by simp [hfresh])]
    rfl
  · refine ((hready hok _).trans (doResetContext_of_context hmine hx)).trans ?_
    rw [if_neg (by simp [hup.1, hup.2]), if_pos habs]
  · refine ((hready hok _).trans (doResetContext_of_context hmine hx)).trans (if_pos ?_)
    simpa [up, imp_iff_not_or] using hdown
  · subst ha
    refine ((hready hok _).trans (doResetPartition_of_owner hown)).trans (if_neg ?_)
    simpa [runs] using hfree
  · subst ha
    refine ((hready hok _).trans (doResetPartition_of_owner hown)).trans (if_pos ?_)
    simpa [runs] using hruns
  · subst ha
    exact (hready hok _).trans (doResetPartition_of_stranger hprimary hport)
  · simpa using h
  · simp [hland, hasked]
  · simp only [hready hok]
    exact ⟨doResetWarm_of_unconfirmed hmine hconfirm, doResetCold_of_unconfirmed hmine hconfirm⟩
  · exact ((hready hok _).trans (doResetWarm_of_confirmed hmine)).trans (if_neg (by simp [hidle]))
  · exact ((hready hok _).trans (doResetWarm_of_confirmed hmine)).trans (if_pos hruns)
  · exact (hready hok _).trans (doResetCold_of_confirmed hmine)

end Sys2Proof.Machine
end

section
/-! The management endpoint: requests that change nothing (R464 to R467), requests that set it, and firmware update over PLDM (R410,
R414, R466). -/

namespace Sys2Proof.Machine

open Sys2Proof

variable {s : State} {x : Binding}

/-! ### Requests that change nothing (R464 to R467) -/

theorem doGetPldmCommands_of_some {type : BitVec 6} {l : List Word} (h : pldmCommands type.toNat = some l) :
    doGetPldmCommands x type s = s.ask x 0x10005 (0 :: l) := by
  simp only [doGetPldmCommands, h]

theorem doGetPldmCommands_of_none {type : BitVec 6} (h : pldmCommands type.toNat = none) :
    doGetPldmCommands x type s = s.ask x 0x10005 [0x83] := by
  simp only [doGetPldmCommands, h]

section
variable {id : BitVec 16} {n : Nat} (hn : id.toNat = n)
include hn

theorem doGetSensorReading_of_numeric (hlow : 1 ≤ n) (hhigh : n ≤ 14) :
    doGetSensorReading x id s = s.ask x 0x10211 [0, BitVec.ofNat 64 (s.sensor n)] := by
  subst hn
  rw [doGetSensorReading, if_pos (show numericSensor id.toNat = true from decide_eq_true ⟨hlow, hhigh⟩)]

theorem doGetSensorReading_of_other (h : n = 0 ∨ 14 < n) : doGetSensorReading x id s = s.ask x 0x10211 [0x80] := by
  subst hn
  have hnot : numericSensor id.toNat = false := decide_eq_false (by omega)
  simp [doGetSensorReading, hnot]

theorem doGetStateSensorReadings_of_state (hlow : 15 ≤ n) (hhigh : n ≤ 21) :
    doGetStateSensorReadings x id s = s.ask x 0x10221 [0, BitVec.ofNat 64 (s.sensor n)] := by
  subst hn
  rw [doGetStateSensorReadings, if_pos (show stateSensor id.toNat = true from decide_eq_true ⟨hlow, hhigh⟩)]

theorem doGetStateSensorReadings_of_other (h : n < 15 ∨ 21 < n) :
    doGetStateSensorReadings x id s = s.ask x 0x10221 [0x80] := by
  subst hn
  have hnot : stateSensor id.toNat = false := decide_eq_false (by omega)
  simp [doGetStateSensorReadings, hnot]

end

theorem managementRequests : Claims.ManagementRequests := by
  intro s x id type record answers n ver
  have hask {c : Instr} {t : State} {code : Nat} {ws : List Word} (hexec : exec c s = .next t) (ht : t = s.ask x code ws) :
      answers c code ws := hexec.trans (congrArg _ ht)
  refine ⟨hask (exec_getEndpointId x s) rfl, hask (exec_getEndpointUuid x s) rfl, hask (exec_getMctpVersionSupport x s) rfl,
    hask (exec_getMessageTypeSupport x s) rfl, hask (exec_getTid x s) rfl, hask (exec_getPldmVersion x s) rfl,
    hask (exec_getPldmTypes x s) rfl, fun l h => hask (exec_getPldmCommands x type s) (doGetPldmCommands_of_some h),
    fun h => hask (exec_getPldmCommands x type s) (doGetPldmCommands_of_none h),
    fun hlow hhigh => hask (exec_getSensorReading x id s) (doGetSensorReading_of_numeric rfl hlow hhigh),
    fun h => hask (exec_getSensorReading x id s) (doGetSensorReading_of_other rfl h),
    fun hlow hhigh => hask (exec_getStateSensorReadings x id s) (doGetStateSensorReadings_of_state rfl hlow hhigh),
    fun h => hask (exec_getStateSensorReadings x id s) (doGetStateSensorReadings_of_other rfl h),
    hask (exec_getPdr x record s) rfl, hask (exec_getPdrRepositoryInfo x s) rfl, hask (exec_queryDeviceIdentifiers x s) rfl,
    hask (exec_getFirmwareParameters x s) rfl, hask (exec_getStatus x s) rfl, hask (exec_faultLast x s) rfl, rfl, rfl, rfl⟩

/-! ### Requests that set the endpoint, and RESET (R464, R465, R467) -/

theorem doSetEndpointId_of_served {eid : BitVec 8} (h : s.served x = true) : doSetEndpointId x eid s =
    State.answer { s with mgmt := { s.mgmt with eids := Tab.put (fun _ => 0) s.mgmt.eids x.slot eid.toNat } } x 0x01
      [0, eid.setWidth 64] := if_neg (by simp [h])

theorem doSetEventReceiver_of_served {eid : BitVec 8} (h : s.served x = true) : doSetEventReceiver x eid s =
    State.answer ((List.range 21).foldl (fun t j => t.noteShown (j + 1))
      { s with mgmt := { s.mgmt with receiver := some (x, eid.toNat) } }) x 0x10204 [0] := if_neg (by simp [h])

section
variable {id : Fin 22}

theorem doPlatformEventMessage_of_change {k : Nat} (hserved : s.served x = true) (hreceiver : s.mgmt.receiver = some (x, k))
    (hid : id.val ≠ 0) (h : s.shows id ≠ Tab.get (fun _ => 0) s.mgmt.shown id) : doPlatformEventMessage id s =
      (s.noteShown id).answer x 0x1020A [BitVec.ofNat 64 k, BitVec.ofNat 64 id, BitVec.ofNat 64 (s.shows id)] := by
  have hstill : (s.noteShown id).served x = true := hserved
  simp only [doPlatformEventMessage, hreceiver]
  exact (if_neg (by simp [hid, h])).trans (if_pos hstill)

theorem doPlatformEventMessage_of_none
    (h : s.mgmt.receiver = none ∨ id.val = 0 ∨ s.shows id = Tab.get (fun _ => 0) s.mgmt.shown id) :
    doPlatformEventMessage id s = s := by
  cases hreceiver : s.mgmt.receiver with
  | none => simp only [doPlatformEventMessage, hreceiver]
  | some r =>
    simp only [doPlatformEventMessage, hreceiver]
    exact if_pos (h.resolve_left (by simp [hreceiver]))

end

section
variable {i : Fin 4} {cold preserve : Bool} {confirm : BitVec 16} (hserved : s.served x = true)
include hserved

theorem doVendorReset_of_stranger (h : s.ownerSession x i = false) :
    doVendorReset x i cold preserve confirm s = s.answer x 0x7E [0x11] :=
  (if_neg (by simp [hserved])).trans (if_pos (by simp [h]))

theorem doVendorReset_of_owner (h : s.ownerSession x i = true) : doVendorReset x i cold preserve confirm s =
    if confirm ≠ 0x1620 ∨ (!cold ∧ s.atr.warm.isSome) then (s.resetRefused .j7 true).answer x 0x7E [0x11]
    else if cold then (s.answer x 0x7E [0]).beginCold 3 else (s.answer x 0x7E [0]).beginWarm 3 preserve :=
  (if_neg (by simp [hserved])).trans (if_neg (by simp [h]))

end

theorem managementCommands : Claims.ManagementCommands := by
  intro s x eid id i preserve k hserved set_ recv shown no yes
  simp only [exec_setEndpointId, exec_setEventReceiver, exec_platformEventMessage, exec_vendorReset, Host.Outcome.next.injEq]
  refine ⟨doSetEndpointId_of_served hserved, Tab.get_put_self .., doSetEventReceiver_of_served hserved,
    fun hreceiver hid h => doPlatformEventMessage_of_change hserved hreceiver hid h, doPlatformEventMessage_of_none,
    fun h cold confirm => doVendorReset_of_stranger hserved h, fun h => ?_, fun h hidle => ?_, fun h cold confirm hconfirm => ?_⟩
  · exact (doVendorReset_of_owner hserved h).trans ((if_neg (by simp)).trans (if_pos rfl))
  · exact (doVendorReset_of_owner hserved h).trans ((if_neg (by simp [hidle])).trans (if_neg (by simp)))
  · exact (doVendorReset_of_owner hserved h).trans (if_pos (.inl hconfirm))

/-! ### Firmware update (R410, R414, R466) -/

section
variable {code : Nat} {phases : List UpdatePhase} {eff : PldmUpdate → State} (hserved : s.served x = true)
include hserved

/-- No command of an update has a phase while no update is open. -/
theorem State.inPhase_of_idle (h : s.ves.update.phase = .idle) : s.inPhase x code phases eff = s.answer x code [0x80] :=
  (if_neg (by simp [hserved])).trans (if_pos h)

theorem State.inPhase_of_mem {phase : UpdatePhase} (h : s.ves.update.phase = phase) (hopen : phase ≠ .idle)
    (hmem : phase ∈ phases) : s.inPhase x code phases eff = eff s.ves.update := by
  subst h
  exact (if_neg (by simp [hserved])).trans ((if_neg hopen).trans (if_pos (by simpa using hmem)))

end

/-- An update takes a component's image: the component is in its table, the image has a length it may have, and the agent can
send. -/
abbrev PldmUpdate.takes (u : PldmUpdate) (comp size : Nat) : Prop :=
  comp ∈ u.table ∧ size ≠ 0 ∧ size ≤ maxFirmware ∧ u.maxXfer ≠ 0

theorem PldmUpdate.not_takes_iff {u : PldmUpdate} {comp size : Nat} : ¬ u.takes comp size ↔
    (!u.table.contains comp) = true ∨ size = 0 ∨ maxFirmware < size ∨ u.maxXfer = 0 := by
  simp only [PldmUpdate.takes, not_and_or, not_not, Nat.not_le, Bool.not_eq_true', ← Bool.not_eq_true, List.contains_iff_mem]

section
variable {u : PldmUpdate} (hserved : s.served x = true) (hu : s.ves.update = u)
include hserved hu

theorem doRequestUpdate_of_served {maxXfer : BitVec 32} : doRequestUpdate x maxXfer s =
    if u.phase ≠ .idle ∨ s.fwCmdRuns then s.answer x 0x10510 [0x81]
    else (s.setUpdate { phase := .learn, maxXfer := maxXfer.toNat }).answer x 0x10510 [0] := by
  subst hu
  exact if_neg (by simp [hserved])

theorem doPassComponentTable_of_learn {comp : BitVec 16} {last : Bool} (hphase : u.phase = .learn)
    (hcomp : s.updatable comp.toNat = true) : doPassComponentTable x comp last s =
      (s.setUpdate { u with table := u.table ++ [comp.toNat], phase := if last then .ready else .learn }).answer x 0x10513 [0, 0] := by
  subst hu
  rw [doPassComponentTable, State.inPhase_of_mem hserved hphase (by decide) (by decide)]
  simp only [hcomp, hphase, if_true]
  rfl

theorem doUpdateComponent_of_ready {comp : BitVec 16} {size : BitVec 32} (hphase : u.phase = .ready) :
    doUpdateComponent x comp size s =
      if !u.table.contains comp.toNat ∨ size.toNat = 0 ∨ maxFirmware < size.toNat ∨ u.maxXfer = 0 then s.answer x 0x10514 [0, 1]
      else ((s.setUpdate { u with phase := .download, comp := comp.toNat, size := size.toNat, image := [] }).answer x 0x10514
        [0, 0]).pull x := by
  subst hu
  exact State.inPhase_of_mem hserved hphase (by decide) (by decide)

theorem doRequestFirmwareDataResp_of_piece {piece : Bytes} (hphase : u.phase = .download) (hmore : u.image.length < u.size)
    (hpiece : piece.length = u.piece) : doRequestFirmwareDataResp x piece s =
      if u.image.length + piece.length = u.size then
        (s.setUpdate { u with image := u.image ++ piece }).answer x 0x10516 [0]
      else (s.setUpdate { u with image := u.image ++ piece }).pull x := by
  subst hu
  exact if_neg (by simp [hserved, hphase, hpiece, Nat.not_le.2 hmore])

theorem doTransferComplete_of_download (hphase : u.phase = .download) (hall : u.size ≤ u.image.length) :
    doTransferComplete x s = s.setUpdate { u with phase := .transferred } := by
  subst hu
  exact if_neg (by simp [hserved, hphase, Nat.not_lt.2 hall])

section
variable {verdict : Fin 3} {d : Nat} (hphase : u.phase = .transferred)
  (hd : s.fwDetail (imageOf u.image) u.size u.comp verdict = d)
include hphase hd

theorem doVerifyComplete_of_fine (hfine : d = 1) : doVerifyComplete x verdict s =
    ((s.answer x 0x10517 [0]).inc VES_IMAGES_OK.COUNT).setUpdate { u with phase := .verified, detail := 1 } := by
  subst hu
  refine (if_neg (by simp [hserved, hphase])).trans ?_
  rw [hd, hfine]
  rfl

theorem doVerifyComplete_of_bad (hbad : d ≠ 1) : doVerifyComplete x verdict s =
    State.securityRecord (((s.answer x 0x10517 [BitVec.ofNat 64 d]).inc VES_VERIFY_FAIL.COUNT).setUpdate
      { u with phase := .ready, image := [], detail := d }) (.pf s.primary) .refusedPolicy 2 u.comp := by
  subst hu
  refine (if_neg (by simp [hserved, hphase])).trans ?_
  rw [hd]
  simp only [if_neg hbad]
  rfl

end

theorem doApplyComplete_of_verified {v : FwComp} (hphase : u.phase = .verified) (hv : s.comp u.comp = v) :
    doApplyComplete x true s = (((s.setComp u.comp { v.setBank (!v.running) (fwImage (imageOf u.image)) with staged := true }).showComp
      u.comp).setUpdate { u with phase := .ready, image := [], detail := 1, staged := u.staged ++ [u.comp] }).answer x 0x10518
        [0] := by
  subst hu hv
  exact if_neg (by simp [hserved, hphase])

theorem doActivateFirmware_of_ready (hphase : u.phase = .ready) (hnormal : s.inRecovery = false) {t : State}
    (ht : (s.setUpdate { u with phase := .activate }).answer x 0x1051A [0] = t) : doActivateFirmware x s =
      if u.staged.isEmpty then s.answer x 0x1051A [0x85]
      else State.runVes { t with ves := { t.ves with queue := t.ves.queue ++ u.staged.eraseDups.map (fun c => .pldm c) } } := by
  subst hu ht
  rw [doActivateFirmware, State.inPhase_of_mem hserved hphase (by decide) (by decide)]
  simp only [hnormal, Bool.false_eq_true, if_false]

theorem doActivateFirmware_of_nothing (hphase : u.phase = .ready) (hnone : u.staged = []) :
    doActivateFirmware x s = s.answer x 0x1051A [0x85] := by
  subst hu
  rw [doActivateFirmware, State.inPhase_of_mem hserved hphase (by decide) (by decide), if_pos (by simp [hnone])]

theorem doCancelUpdateComponent_of_running
    (hphase : u.phase = .download ∨ u.phase = .transferred ∨ u.phase = .verified) : doCancelUpdateComponent x s =
      (s.setUpdate { u with phase := .ready, image := [] }).answer x 0x1051C [0] := by
  subst hu
  have hopen : s.ves.update.phase ≠ .idle := by rintro h; simp [h] at hphase
  exact State.inPhase_of_mem hserved rfl hopen (by simpa using hphase)

theorem doCancelUpdate_of_open (hopen : u.phase ≠ .idle) (hrun : u.phase ≠ .activate) :
    doCancelUpdate x s = (s.setUpdate {}).answer x 0x1051D [0] := by
  subst hu
  refine State.inPhase_of_mem hserved rfl hopen ?_
  cases hphase : s.ves.update.phase <;> simp_all

end

theorem firmwareUpdates : Claims.FirmwareUpdates := by
  intro s x comp size maxXfer last piece verdict hserved u c v set_ answers fits go tab bad fine more d
  simp only [exec_requestUpdate, exec_passComponentTable, exec_updateComponent, exec_activateFirmware, exec_cancelUpdate,
    exec_cancelUpdateComponent, exec_requestFirmwareDataResp, exec_transferComplete, exec_verifyComplete, exec_applyComplete,
    Host.Outcome.next.injEq]
  refine ⟨fun hidle hfree => ?_, fun h => ?_, fun hphase hcomp => doPassComponentTable_of_learn hserved rfl hphase hcomp,
    fun hidle => ?_, fun hphase hfits => ?_, fun hphase hunfit => ?_,
    fun hphase hmore hpiece => doRequestFirmwareDataResp_of_piece hserved rfl hphase hmore hpiece,
    fun hpiece => if_pos (.inr (.inr (.inr hpiece))),
    fun hphase hall => doTransferComplete_of_download hserved rfl hphase hall, fun hphase => if_pos (.inr (.inl hphase)),
    fun hphase hfine => doVerifyComplete_of_fine hserved rfl hphase rfl hfine,
    fun hphase hbad => doVerifyComplete_of_bad hserved rfl hphase rfl hbad,
    fun hphase => doApplyComplete_of_verified hserved rfl hphase rfl, fun hphase good => if_pos (.inr hphase),
    fun hphase hnone => doActivateFirmware_of_nothing hserved rfl hphase hnone, fun hphase hsome hnormal => ?_,
    doCancelUpdateComponent_of_running hserved rfl, doCancelUpdate_of_open hserved rfl⟩
  · exact (doRequestUpdate_of_served hserved rfl).trans (if_neg (by simp [u, hidle, hfree]))
  · exact (doRequestUpdate_of_served hserved rfl).trans (if_pos h)
  · exact ⟨State.inPhase_of_idle hserved hidle, State.inPhase_of_idle hserved hidle, State.inPhase_of_idle hserved hidle,
      State.inPhase_of_idle hserved hidle, State.inPhase_of_idle hserved hidle⟩
  · exact (doUpdateComponent_of_ready hserved rfl hphase).trans (if_neg fun h => PldmUpdate.not_takes_iff.2 h hfits)
  · exact (doUpdateComponent_of_ready hserved rfl hphase).trans (if_pos (PldmUpdate.not_takes_iff.1 hunfit))
  · exact (doActivateFirmware_of_ready hserved rfl hphase hnormal rfl).trans (if_neg (by simpa using hsome))

/-- Settles O57: a request that changes nothing is one answer, given where the binding serves; a command of an update acts in its phases
alone, and each clause is the step that its phase allows. -/
theorem management : Obligations.Management := ⟨managementRequests, managementCommands, firmwareUpdates⟩

end Sys2Proof.Machine
end

section
/-! Health states and newel cores (R446 to R448, R452), and the self-tests of spares (R450, R451). -/

namespace Sys2Proof.Machine

open Sys2Proof

variable {s : State} {a : Agent}

/-! ### Health (R446 to R448) -/

section
variable {eff : State → State}

theorem State.healthCommand_of_primary (h : a = .pf s.primary) : s.healthCommand a eff = eff s := if_pos h

theorem State.healthCommand_of_other (h : a ≠ .pf s.primary) : s.healthCommand a eff = s.refuseWrite a .FLT 0 := if_neg h

end

theorem doHealthQuarantine_of_primary (h : a = .pf s.primary) :
    doHealthQuarantine a s = if s.health < 2 then s.setHealth 2 4 else s := State.healthCommand_of_primary h

theorem doHealthRelease_of_primary (h : a = .pf s.primary) : doHealthRelease a s =
    if s.health ≠ 2 then s
    else if s.rd FLT_LATE_SELF.ACC < s.rd FLT_LATE_CFG.LATE_SUSPECT ∧ s.rd FLT_ERR.ACC < s.rd FLT_ERR_CFG.ERR_SUSPECT then
      s.setHealth 0 4
    else s.setHealth 1 4 := State.healthCommand_of_primary h

/-! ### Newel cores (R452) -/

section
variable {core : Fin 8}

theorem State.newelDue_of_inService (h : s.on (NWL_C_STATE.IN_SERVICE core) = true) : s.newelDue core =
    if s.flt.nwlDue.contains core.val then s else { s with flt := { s.flt with nwlDue := s.flt.nwlDue ++ [core.val] } } := by
  simp [State.newelDue, h]

theorem doFltNwlSubst_of_primary (h : a = .pf s.primary) : doFltNwlSubst a core s =
    if !s.on (NWL_C_STATE.IN_SERVICE core) then s.countRefused .FLT 0 else s.newelDue core := if_neg (not_not.2 h)

theorem doNewelCoreUe_of_inService (h : s.on (NWL_C_STATE.IN_SERVICE core) = true) : doNewelCoreUe core s =
    ((s.newelDue core).noteUe).report (memReport 14 0 (0x20 + core.val) none 0) := if_neg (by simp [h])

end

theorem healthCommands : Claims.HealthCommands := by
  intro s a core ok not_ st calm to_ inServ due
  simp only [exec_healthQuarantine, execHealthQuarantine, exec_healthRelease, execHealthRelease, exec_healthClear,
    execHealthClear, exec_fltNwlSubst, execFltNwlSubst, exec_newelCoreUe, exec_newelSubstitute, Host.Outcome.next.injEq]
  have hready (h : s.ready .FLT 0 = true) (eff : State → State) : s.whenReady .FLT 0 eff = eff s := State.whenReady_of_ready h
  have hquarantine (hok : ok) : s.whenReady .FLT 0 (doHealthQuarantine a) = _ :=
    (hready hok.1 _).trans (doHealthQuarantine_of_primary hok.2)
  have hrelease (hok : ok) : s.whenReady .FLT 0 (doHealthRelease a) = _ :=
    (hready hok.1 _).trans (doHealthRelease_of_primary hok.2)
  have hsubst (hok : ok) : s.whenReady .FLT 0 (doFltNwlSubst a core) = _ :=
    (hready hok.1 _).trans (doFltNwlSubst_of_primary hok.2)
  refine ⟨fun hok hlow => (hquarantine hok).trans (if_pos hlow),
    fun hok hhigh => (hquarantine hok).trans (if_neg (Nat.not_lt.2 hhigh)),
    fun hok hst hcalm => ?_, fun hok hst hcalm => ?_, fun hok hst => (hrelease hok).trans (if_pos hst),
    fun hok => (hready hok.1 _).trans (State.healthCommand_of_primary hok.2), fun hnot => ?_, fun hok hin => ?_,
    fun hok hout => (hsubst hok).trans (if_pos (by simpa [inServ] using hout)), fun hin => ?_,
    fun hout => if_pos (by simpa [inServ] using hout), fun hland => if_neg (by simp [hland]), fun hland => if_pos (by simp [hland])⟩
  · exact ((hrelease hok).trans (if_neg (not_not.2 hst))).trans (if_pos hcalm)
  · exact ((hrelease hok).trans (if_neg (not_not.2 hst))).trans (if_neg hcalm)
  · obtain ⟨hflt, hother⟩ := hnot
    simp only [hready hflt]
    exact ⟨State.healthCommand_of_other hother, State.healthCommand_of_other hother, State.healthCommand_of_other hother,
      if_pos hother⟩
  · exact ((hsubst hok).trans (if_neg (by simpa [inServ] using hin))).trans (State.newelDue_of_inService hin)
  · rw [doNewelCoreUe_of_inService hin, State.newelDue_of_inService hin]

/-! ### Self-tests of spares (R450, R451) -/

section
variable {kind : Fin 9} {i : Nat}

theorem doSelftestPassStart_of_idle (h : s.spareIdle kind i = true) : doSelftestPassStart kind i s =
    (if kind = 1 then s.wr (GAL_BAYMAP.SPARE_STATE i) 3
      else if kind = 2 then s.wr (NBU_PCMAP.SPARE_STATE i) 1 else s).setPass kind true := if_neg (by simp [h])

/-- The pass of a kind is over, and its bit of LAST_PASS shows the outcome. -/
def State.endPass (s : State) (kind : Nat) (passed : Bool) : State :=
  (s.setPass kind false).wr FLT_SELFTEST.LAST_PASS (if passed then withBit (s.rd FLT_SELFTEST.LAST_PASS) (kind - 1)
    else withoutBit (s.rd FLT_SELFTEST.LAST_PASS) (kind - 1))

theorem doSelftestPassEnd_of_passed (h : s.testing kind i = true) : doSelftestPassEnd kind i true s =
    if kind = 1 then (s.endPass kind true).wr (GAL_BAYMAP.SPARE_STATE i) 0
    else if kind = 2 then (s.endPass kind true).wr (NBU_PCMAP.SPARE_STATE i) 0
    else s.endPass kind true := if_neg (by simp [h])

theorem doSelftestPassEnd_of_failed {t : State} (h : s.testing kind i = true)
    (ht : ((s.endPass kind false).failSpare kind i).inc FLT_SELFTEST_FAIL.COUNT = t) : doSelftestPassEnd kind i false s =
      State.report { t with flt := { t.flt with selftestFailed := t.flt.selftestFailed || t.health == 1 } }
        (spareReport kind 2 (spareOwner kind i).1 (spareOwner kind i).2 0xFF i 0xFFFF) := by
  subst ht
  exact if_neg (by simp [h])

end

theorem spareTests : Claims.SpareTests := by
  intro s kind i passed k m t u f o
  simp only [exec_selftestPassStart, exec_selftestPassEnd, Host.Outcome.next.injEq]
  have hkind {n : Fin 9} : k = n.val ↔ kind = n := Fin.ext_iff.symm
  refine ⟨fun hbusy => if_pos (by simpa [k] using hbusy), fun hidle h1 => ?_, fun hidle h2 => ?_, fun hidle h1 h2 => ?_,
    fun hidle => if_pos (by simpa [k] using hidle), fun htest h1 => ?_, fun htest h2 => ?_, fun htest h1 h2 => ?_,
    fun htest => doSelftestPassEnd_of_failed htest rfl⟩
  · obtain rfl := (hkind (n := 1)).1 h1
    rw [doSelftestPassStart_of_idle hidle, if_pos rfl]
    rfl
  · obtain rfl := (hkind (n := 2)).1 h2
    rw [doSelftestPassStart_of_idle hidle, if_neg (by decide), if_pos rfl]
    rfl
  · rw [doSelftestPassStart_of_idle hidle, if_neg (mt (hkind (n := 1)).2 h1), if_neg (mt (hkind (n := 2)).2 h2)]
  · obtain rfl := (hkind (n := 1)).1 h1
    rw [doSelftestPassEnd_of_passed htest, if_pos rfl]
    rfl
  · obtain rfl := (hkind (n := 2)).1 h2
    rw [doSelftestPassEnd_of_passed htest, if_neg (by decide), if_pos rfl]
    rfl
  · rw [doSelftestPassEnd_of_passed htest, if_neg (mt (hkind (n := 1)).2 h1), if_neg (mt (hkind (n := 2)).2 h2)]
    rfl

/-- Settles O55: a health command of the primary PF is decided by the state and the accumulators; a self-test starts on an idle spare and
ends on a tested one, and only the kinds of a bay and of a pseudo-channel have a state of their own to set. -/
theorem healthAndSpares : Obligations.HealthAndSpares := ⟨healthCommands, spareTests⟩

end Sys2Proof.Machine
end

section
/-! Request samples and the trace ring (R455, R458, R460), and the two debug paths (R420, R461 to R463, R478). -/

namespace Sys2Proof.Machine

open Sys2Proof

variable {s : State}

/-! ### Samples (R458) -/

/-- The landing has sampled, and this pass, if any, is in hand. -/
def State.noteSampled (s : State) (pass : Option Nat) : State :=
  { s with pho := { s.pho with sampledAt := s.mer + 1, samplePass := pass } }

/-- A landing samples once. -/
abbrev State.maySample (s : State) : Prop := s.inLanding = true ∧ s.pho.sampledAt ≠ s.mer + 1

/-- A pass starts at a multiple of PERIOD. -/
abbrev State.sampleDue (s : State) : Prop := 0 < s.rd PHO_SAMPLE_CFG.PERIOD ∧ s.mer % s.rd PHO_SAMPLE_CFG.PERIOD = 0

/-- The landing takes note of its sampling: a pass that is due starts, or is counted late where one is in hand. -/
def State.startSampling (s : State) : State :=
  if s.sampleDue then
    if s.pho.samplePass.isSome then (s.noteSampled s.pho.samplePass).inc PHO_SAMPLE_LATE.COUNT else s.noteSampled (some 0)
  else s.noteSampled s.pho.samplePass

/-- A pass in hand visits records from the one it reached. -/
def State.goOnSampling (s : State) : State :=
  match s.pho.samplePass with
  | none => s
  | some i => s.visit (recordCount - i) (s.rd PHO_SAMPLE_CFG.MAX) i

theorem State.goOnSampling_of_none (h : s.pho.samplePass = none) : s.goOnSampling = s := by
  simp only [State.goOnSampling, h]

theorem State.goOnSampling_of_some {i : Nat} (h : s.pho.samplePass = some i) :
    s.goOnSampling = s.visit (recordCount - i) (s.rd PHO_SAMPLE_CFG.MAX) i := by
  simp only [State.goOnSampling, h]

theorem doSamplePass_of_not (h : ¬ s.maySample) : doSamplePass s = s := by
  refine if_pos ?_
  by_contra hmay
  exact h (by simpa using hmay)

theorem doSamplePass_of_may (hmay : s.maySample) : doSamplePass s = s.startSampling.goOnSampling := by
  obtain ⟨hland, hfirst⟩ := hmay
  refine (if_neg (by simp [hland, hfirst])).trans ?_
  by_cases hdue : s.sampleDue
  · have hnot : (decide (0 < s.rd PHO_SAMPLE_CFG.PERIOD) && s.mer % s.rd PHO_SAMPLE_CFG.PERIOD == 0) = true := by simpa using hdue
    simp only [State.startSampling, if_pos hdue, hnot, Bool.not_true, Bool.false_eq_true, if_false]
    rfl
  · have hnot : (decide (0 < s.rd PHO_SAMPLE_CFG.PERIOD) && s.mer % s.rd PHO_SAMPLE_CFG.PERIOD == 0) = false := by simpa using hdue
    simp only [State.startSampling, if_neg hdue, hnot, Bool.not_false, if_true]
    rfl

section
variable {i : Nat}

theorem State.startSampling_of_due_idle (hdue : s.sampleDue) (hpass : s.pho.samplePass = none) :
    s.startSampling = s.noteSampled (some 0) := by
  simp [State.startSampling, hdue, hpass]

theorem State.startSampling_of_due_busy (hdue : s.sampleDue) (hpass : s.pho.samplePass = some i) :
    s.startSampling = (s.noteSampled (some i)).inc PHO_SAMPLE_LATE.COUNT := by
  simp [State.startSampling, hdue, hpass]

theorem State.startSampling_of_not_due (hdue : ¬ s.sampleDue) : s.startSampling = s.noteSampled s.pho.samplePass := if_neg hdue

end
/-! ### The trace ring (R460) -/

/-- A record moves to the ring at its TAIL. -/
def State.putTrace (s : State) (size : Nat) (r : Word × Word) (rest : List (Word × Word)) : State :=
  let a := s.rd PHO_TRACE_BASE.DPA + 16 * (s.rd PHO_TRACE_TAIL.INDEX % size)
  (State.devWriteWords { s with pho := { s.pho with trace := rest } } (phoReport a) a [r.1, r.2]).addMod PHO_TRACE_TAIL.INDEX 1

/-- The ring has room for a record. -/
abbrev State.traceRoom (s : State) : Bool :=
  roomIn (s.rd PHO_TRACE_SIZE.ENTRIES) (s.rd PHO_TRACE_TAIL.INDEX) (s.rd PHO_TRACE_HEAD.INDEX)

theorem doTraceDrain_of_none (h : s.pho.trace = []) : doTraceDrain s = s := by
  rw [doTraceDrain, h]
  rfl

section
variable {r : Word × Word} {rest : List (Word × Word)} (h : s.pho.trace = r :: rest)
include h

theorem doTraceDrain_of_record : doTraceDrain s =
    if s.rd PHO_TRACE_SIZE.ENTRIES = 0 ∨ (!s.traceRoom ∧ !s.on PHO_TRACE_CFG.MODE) then s
    else State.drainTrace rest.length ((if s.traceRoom then s else s.addMod PHO_TRACE_HEAD.INDEX 1).putTrace
      (s.rd PHO_TRACE_SIZE.ENTRIES) r rest) := by
  rw [doTraceDrain, h, List.length_cons, State.drainTrace]
  simp only [h]
  rfl

theorem doTraceDrain_of_held (hheld : s.rd PHO_TRACE_SIZE.ENTRIES = 0 ∨ (s.traceRoom = false ∧ s.on PHO_TRACE_CFG.MODE = false)) :
    doTraceDrain s = s := (doTraceDrain_of_record h).trans (if_pos (by simpa using hheld))

theorem doTraceDrain_of_room (hsize : s.rd PHO_TRACE_SIZE.ENTRIES ≠ 0) (hroom : s.traceRoom = true) : doTraceDrain s =
    State.drainTrace rest.length (s.putTrace (s.rd PHO_TRACE_SIZE.ENTRIES) r rest) := by
  rw [doTraceDrain_of_record h, if_neg (by simp [hsize, hroom]), if_pos hroom]

theorem doTraceDrain_of_wrap (hsize : s.rd PHO_TRACE_SIZE.ENTRIES ≠ 0) (hroom : s.traceRoom = false)
    (hwrap : s.on PHO_TRACE_CFG.MODE = true) : doTraceDrain s =
      State.drainTrace rest.length ((s.addMod PHO_TRACE_HEAD.INDEX 1).putTrace (s.rd PHO_TRACE_SIZE.ENTRIES) r rest) := by
  rw [doTraceDrain_of_record h, if_neg (by simp [hsize, hwrap]), if_neg (by simp [hroom])]

end

theorem samplesAndTraces : Claims.SamplesAndTraces := by
  intro s x i w0 w1 rest period due open_ t max_ size room at_ put
  simp only [exec_samplePass, exec_traceDrain, exec_phoClear, Host.Outcome.next.injEq]
  refine ⟨doSamplePass_of_not, fun hmay hdue hpass => ?_, fun hmay hdue hpass => ?_, fun hmay hdue hpass => ?_,
    fun hmay hdue hpass => ?_, doTraceDrain_of_none, fun h hheld => doTraceDrain_of_held h hheld,
    fun h hsize hroom => ?_, fun h hsize hroom hwrap => ?_, fun hprimary hready => ?_, fun hother => if_neg hother⟩
  · rw [doSamplePass_of_may hmay, State.startSampling_of_not_due hdue, hpass, State.goOnSampling_of_none rfl]
    rfl
  · rw [doSamplePass_of_may hmay, State.startSampling_of_due_idle hdue hpass, State.goOnSampling_of_some rfl, Nat.sub_zero]
    rfl
  · rw [doSamplePass_of_may hmay, State.startSampling_of_not_due hdue, hpass, State.goOnSampling_of_some rfl]
    rfl
  · rw [doSamplePass_of_may hmay, State.startSampling_of_due_busy hdue hpass, State.goOnSampling_of_some rfl]
    rfl
  · rw [doTraceDrain_of_room h hsize hroom, State.putTrace]
  · rw [doTraceDrain_of_wrap h hsize hroom hwrap, State.putTrace]
  · exact (if_pos hprimary).trans (State.whenReady_of_ready hready)

/-! ### The two debug paths (R420, R461) -/

theorem State.dbgWr_zero (f : FieldRef) (v : Nat) : s.dbgWr 0 f v = s.wr f v := rfl

theorem State.dbgRd_zero (f : FieldRef) : s.dbgRd 0 f = s.rd f := rfl

theorem State.dbgStatus_zero (st : Status) : s.dbgStatus 0 st = s.wr PHO_DBG_STATUS.STATUS st.code := State.dbgWr_zero _ _

theorem State.stopResult_zero (st : Status) : s.stopResult 0 st =
    (s.wr PHO_STOP_STATUS.STATUS st.code).wr PHO_STOP_STATUS.SEQ ((s.rd PHO_STOP_STATUS.SEQ + 1) % 2 ^ 32) := by
  rw [State.stopResult, State.dbgWr_zero, State.dbgWr_zero, State.dbgRd_zero]

section
variable {x : Port} {eff refused : Nat → State → State}

theorem State.onDebugPath_of_primary (hprimary : s.primary = x) (hready : s.ready .PHO 0 = true) :
    s.onDebugPath (.pf x) eff = eff 0 (s.notePath (.pf x) 0) := by
  have hpath : s.debugPath (.pf x) = some 0 := if_pos hprimary
  simp only [State.onDebugPath, hpath, State.whenReady_of_ready hready]

theorem State.onDebugCmd_of_primary (hprimary : s.primary = x) (hready : s.ready .PHO 0 = true) :
    s.onDebugCmd (.pf x) refused eff = eff 0 (s.notePath (.pf x) 0) := by
  have hpath : s.debugPath (.pf x) = some 0 := if_pos hprimary
  simp only [State.onDebugCmd, hpath, State.onDebugPath_of_primary hprimary hready]

/-- A PF that is not primary has no path, and its path's result register shows the refusal. -/
theorem State.onDebugCmd_of_other (hprimary : s.primary ≠ x) :
    s.onDebugCmd (.pf x) refused eff = refused 0 (s.refuseWrite (.pf x) .PHO 0) := by
  have hpath : s.debugPath (.pf x) = none := if_neg hprimary
  simp only [State.onDebugCmd, State.onDebugPath, hpath]

end

section
variable {x : Port} {t : State} (hprimary : s.primary = x) (hready : s.ready .PHO 0 = true) (ht : s.notePath (.pf x) 0 = t)
include hprimary hready ht

theorem State.dbgCommand_of_primary (write : Bool) : s.dbgCommand (.pf x) write =
    if t.rd PHO_DBG_STATUS.BUSY = 1 then t.countRefused .PHO 0
    else State.wr { t with pho := { t.pho with
      dbg := t.pho.dbg ++ [{ path := 0, write := write, addr := t.rd PHO_DBG_ADDR.DPA }] } } PHO_DBG_STATUS.BUSY 1 := by
  subst ht
  exact State.onDebugCmd_of_primary hprimary hready

theorem State.stopCommand_of_noContext {unit ctx : Nat} {eff : LCtx → State → State × Status} (h : ctxOf unit ctx = none) :
    s.stopCommand (.pf x) unit ctx eff = t.stopResult 0 .badLength := by
  subst ht
  rw [State.stopCommand, State.onDebugCmd_of_primary hprimary hready]
  simp only [h]

theorem State.stopCommand_of_context {unit ctx : Nat} {eff : LCtx → State → State × Status} {c : LCtx} {r : State × Status}
    (h : ctxOf unit ctx = some c) (hservice : t.unitInService unit = true) (hr : eff c t = r) :
    s.stopCommand (.pf x) unit ctx eff = r.1.stopResult 0 r.2 := by
  subst ht hr
  rw [State.stopCommand, State.onDebugCmd_of_primary hprimary hready]
  simp only [h, hservice, Bool.not_true, Bool.false_eq_true, if_false]

end

section
variable {x : Port} {unit : BitVec 8} {ctx : Fin 8}

theorem doDbgRead_of_other (hprimary : s.primary ≠ x) :
    doDbgRead (.pf x) s = (s.refuseWrite (.pf x) .PHO 0).dbgStatus 0 .refusedPolicy := by
  rw [doDbgRead, State.dbgCommand, State.onDebugCmd_of_other hprimary]

theorem doDbgStop_of_other (hprimary : s.primary ≠ x) :
    doDbgStop (.pf x) unit ctx s = (s.refuseWrite (.pf x) .PHO 0).stopResult 0 .refusedPolicy := by
  rw [doDbgStop, State.stopCommand, State.onDebugCmd_of_other hprimary]

end

/-! ### Accesses to memory (R461) -/

theorem doDbgAccessDone_of_none {path : Fin 2} {ue : Bool} (h : s.pho.dbg.find? (fun d => d.path == path.val) = none) :
    doDbgAccessDone path ue s = s := by
  simp only [doDbgAccessDone, h]

theorem doDbgAccessDone_of_access {path : Fin 2} {ue : Bool} {d : DbgAccess} {u : State}
    (h : s.pho.dbg.find? (fun d => d.path == path.val) = some d)
    (hgo : dpaKind d.addr ≠ .hbm ∨ s.pcHeld (dpaStack d.addr) (dpaPc d.addr) = false)
    (hu : ((s.dbgAccess d ue).1.dbgStatus d.path (s.dbgAccess d ue).2).dbgWr d.path PHO_DBG_STATUS.BUSY 0 = u) :
    doDbgAccessDone path ue s = { u with pho := { u.pho with dbg := u.pho.dbg.filter (fun e => e.path != d.path) } } := by
  subst hu
  simp only [doDbgAccessDone, h]
  exact if_neg (by simpa [imp_iff_not_or] using hgo)

theorem State.dbgAccess_of_read {d : DbgAccess} (hreach : debugReaches d.addr = true) (hok : s.accessStatus d.addr 8 = .ok)
    (hread : d.write = false) :
    s.dbgAccess d false = (s.dbgWr d.path PHO_DBG_DATA.DATA (s.word d.addr).toNat, .ok) := by
  simp [State.dbgAccess, hreach, hok, hread]

/-! ### Stopping contexts (R462) -/

section
variable {c : LCtx}

theorem State.stopCtx_of_going {st : CtxState} (hst : (s.ctx c).state = st) (h : st = .running ∨ st = .waiting) : s.stopCtx c =
    if (s.ctx c).waitsRemote then (s.modCtx c (fun k => { k with stopPending := true }), .ok) else (s.debugStop c, .ok) := by
  rcases h with rfl | rfl <;> simp only [State.stopCtx, hst]

theorem State.stopCtx_of_resting (h : (s.ctx c).state = .stopped ∨ (s.ctx c).state = .faulted) : s.stopCtx c = (s, .ok) := by
  rcases h with h | h <;> simp only [State.stopCtx, h]

theorem State.resumeCtx_of_debug (h : (s.ctx c).state = .debug) : s.resumeCtx c =
    (s.modCtx c (fun k => if c.critical then { k with state := .waiting, wait := .meridian, resumed := true }
      else { k with state := .running, wait := .none }), .ok) := by
  simp only [State.resumeCtx, h]

theorem State.resumeCtx_of_resting (h : (s.ctx c).state = .stopped ∨ (s.ctx c).state = .faulted) :
    s.resumeCtx c = (s, .refusedPolicy) := by
  rcases h with h | h <;> simp only [State.resumeCtx, h]

end

section
variable {x : Port} {unit : BitVec 8} {ctx : Fin 8} {c : LCtx} {good : Bool} {t : State}
  (hprimary : s.primary = x) (hready : s.ready .PHO 0 = true) (ht : s.notePath (.pf x) 0 = t)
  (hctx : ctxOf unit.toNat ctx.val = some c) (hservice : t.unitInService unit.toNat = true)
include hprimary hready ht hctx hservice

theorem doDbgStep_of_debug (h : (t.ctx c).state = .debug) :
    doDbgStep (.pf x) unit ctx good s = (t.stepCtx c good).stopResult 0 .ok := by
  refine State.stopCommand_of_context hprimary hready ht hctx hservice (r := (t.stepCtx c good, .ok)) ?_
  simp only [h]

theorem doDbgStep_of_resting (h : (t.ctx c).state = .stopped ∨ (t.ctx c).state = .faulted) :
    doDbgStep (.pf x) unit ctx good s = t.stopResult 0 .refusedPolicy := by
  refine State.stopCommand_of_context hprimary hready ht hctx hservice (r := (t, .refusedPolicy)) ?_
  rcases h with h | h <;> simp only [h]

end

/-! ### Registers of a context (R463) -/

section
variable {c : LCtx} (hsel : ctxOf (s.rd PHO_REG_SEL.UNIT) (s.rd PHO_REG_SEL.CTX) = some c)
include hsel

theorem State.regAccess_of_past {write : Option Word} (hpast : regFileSize (s.rd PHO_REG_SEL.FILE) ≤ s.rd PHO_REG_SEL.INDEX) :
    s.regAccess 0 write = (s.wr PHO_REG_DATA.DATA 0).wr PHO_DBG_STATUS.STATUS 0x22 := by
  have hsel' : ctxOf (s.dbgRd 0 PHO_REG_SEL.UNIT) (s.dbgRd 0 PHO_REG_SEL.CTX) = some c := hsel
  simp only [State.regAccess, hsel']
  exact if_pos hpast

section
variable (hindex : s.rd PHO_REG_SEL.INDEX < regFileSize (s.rd PHO_REG_SEL.FILE)) (hdebug : (s.ctx c).state = .debug)
include hindex hdebug

theorem State.regAccess_of_read : s.regAccess 0 none =
    (s.wr PHO_REG_DATA.DATA (s.ctxReg c (s.rd PHO_REG_SEL.FILE) (s.rd PHO_REG_SEL.INDEX) (s.rd PHO_REG_SEL.WORD)).toNat).wr
      PHO_DBG_STATUS.STATUS 0 := by
  have hsel' : ctxOf (s.dbgRd 0 PHO_REG_SEL.UNIT) (s.dbgRd 0 PHO_REG_SEL.CTX) = some c := hsel
  simp only [State.regAccess, hsel']
  exact (if_neg (Nat.not_le.2 hindex)).trans (if_neg (by simp [hdebug]))

theorem State.regAccess_of_write {v : Word} (hfile : s.rd PHO_REG_SEL.FILE ≠ 3) : s.regAccess 0 (some v) =
    ((s.setCtxReg c (s.rd PHO_REG_SEL.FILE) (s.rd PHO_REG_SEL.INDEX) (s.rd PHO_REG_SEL.WORD) v).wr PHO_REG_DATA.DATA v.toNat).wr
      PHO_DBG_STATUS.STATUS 0 := by
  have hsel' : ctxOf (s.dbgRd 0 PHO_REG_SEL.UNIT) (s.dbgRd 0 PHO_REG_SEL.CTX) = some c := hsel
  simp only [State.regAccess, hsel']
  exact ((if_neg (Nat.not_le.2 hindex)).trans (if_neg (by simp [hdebug]))).trans (if_neg fun h => hfile h.1)

end
end

/-! ### J7 (R478) -/

theorem State.j7Open_iff {off : Nat} {present : Bool} : s.j7Open off present = true ↔
    s.on VES_DEBUG.J7_EN = true ∧ present = true ∧ 0x60 ≤ off ∧ off ≤ 0x98 := by
  simp [State.j7Open, and_assoc]

theorem debugPaths : Claims.DebugPaths := by
  intro s x unit ctx c good path ue v w off present d a ok t st busy queue ends held rests sel file i word j7
  simp only [exec_dbgRead, exec_dbgWrite, exec_dbgStop, exec_dbgStep, exec_dbgResume, exec_dbgAccessDone,
    exec_stopPendingComplete, exec_phoRegDataAccess, exec_j7DebugRead, exec_j7DebugWrite, Host.Outcome.next.injEq]
  have hstop (hok : ok) (hheld : held) {r : State × Status} (hr : t.stopCtx c = r) :
      doDbgStop a unit ctx s = r.1.stopResult 0 r.2 :=
    State.stopCommand_of_context (eff := fun c t => t.stopCtx c) hok.1 hok.2 rfl hheld.1 hheld.2 hr
  have hresume (hok : ok) (hheld : held) {r : State × Status} (hr : t.resumeCtx c = r) :
      doDbgResume a unit ctx s = r.1.stopResult 0 r.2 :=
    State.stopCommand_of_context (eff := fun c t => t.resumeCtx c) hok.1 hok.2 rfl hheld.1 hheld.2 hr
  have hreg (hok : ok) (write : Option Word) : doPhoRegDataAccess a write s = t.regAccess 0 write :=
    State.onDebugPath_of_primary hok.1 hok.2
  refine ⟨fun hother => ⟨?_, ?_⟩, fun hok hidle => ?_,
    fun hok hbusy => ?_, doDbgAccessDone_of_none, fun h hgo => doDbgAccessDone_of_access h hgo rfl,
    State.dbgAccess_of_read, fun hok hnone => ?_,
    fun hok hheld hst hwait => ?_, fun hok hheld hst hwait => ?_, fun hok hheld hst => ?_, fun hok hheld hst => ?_,
    ⟨fun hpend hwait => if_pos (by simp [hpend, hwait]), fun h => if_neg (by rcases h with h | h <;> simp [h])⟩,
    fun hok hsel hindex hst => ⟨?_, fun hfile => ?_⟩, fun hok hsel hpast => ?_, fun hnot => ?_, fun hj7 hoff => ?_, fun hj7 => ?_⟩
  · rw [doDbgRead_of_other hother, State.dbgStatus_zero, Status.code]
  · rw [doDbgStop_of_other hother, State.stopResult_zero, Status.code]
  · exact ⟨(State.dbgCommand_of_primary hok.1 hok.2 rfl false).trans (if_neg hidle),
      (State.dbgCommand_of_primary hok.1 hok.2 rfl true).trans (if_neg hidle)⟩
  · exact ⟨(State.dbgCommand_of_primary hok.1 hok.2 rfl false).trans (if_pos hbusy),
      (State.dbgCommand_of_primary hok.1 hok.2 rfl true).trans (if_pos hbusy)⟩
  · exact (State.stopCommand_of_noContext hok.1 hok.2 rfl hnone).trans (State.stopResult_zero _)
  · exact hstop hok hheld ((State.stopCtx_of_going rfl hst).trans (if_neg (by simp [hwait])))
  · exact hstop hok hheld ((State.stopCtx_of_going rfl hst).trans (if_pos hwait))
  · exact ⟨doDbgStep_of_debug hok.1 hok.2 rfl hheld.1 hheld.2 hst, hresume hok hheld (State.resumeCtx_of_debug hst)⟩
  · exact ⟨doDbgStep_of_resting hok.1 hok.2 rfl hheld.1 hheld.2 hst, hresume hok hheld (State.resumeCtx_of_resting hst),
      hstop hok hheld (State.stopCtx_of_resting hst)⟩
  · exact (hreg hok none).trans (State.regAccess_of_read hsel hindex hst)
  · exact (hreg hok (some v)).trans (State.regAccess_of_write hsel hindex hst hfile)
  · exact (hreg hok none).trans (State.regAccess_of_past hsel hpast)
  · have hshut : s.j7Open off.toNat present = false := Bool.eq_false_iff.2 (mt State.j7Open_iff.1 hnot)
    exact ⟨if_pos (by simp [hshut]), if_pos (by simp [hshut])⟩
  · refine (if_neg (by simp [State.j7Open_iff.2 hj7])).trans ?_
    simp only [if_neg hoff]
    rfl
  · exact if_neg (by simp [State.j7Open_iff.2 hj7])

/-- Settles O56: a landing's sampling starts a pass and goes on with the one in hand; the trace ring takes one record at a time; a debug
command of the primary PF acts on the state that has noted its path. -/
theorem samplesAndDebug : Obligations.SamplesAndDebug := ⟨samplesAndTraces, debugPaths⟩

end Sys2Proof.Machine
end
